-- ==== Sys2Proof/Word.lean ====
section
/-! DEFINITION. The words of the machine. -/

namespace Sys2Proof

/-- A byte of host memory, of a frame or of a record. -/
abbrev Byte := BitVec 8

/-- A BAR0 register (R6). -/
abbrev Word := BitVec 32

end Sys2Proof
end

