-- ==== Sys2Proof/Machine/Tab.lean ====
section
/-! DEFINITION. Sparse tables: association lists over Nat keys, keys strictly rising, and byte lists in little-endian
order (R64). -/

namespace Sys2Proof.Machine

/-- A sparse table; an unlisted key has the value its reader names. -/
abbrev Tab (α : Type) := List (Nat × α)

namespace Tabs

variable {α : Type}

/-- The entry at a key. -/
def look : Tab α → Nat → Option α
  | [], _ => none
  | (a, v) :: t, k => if k = a then some v else if k < a then none else look t k

/-- The value at a key, `d` where the key is not listed. -/
def val (t : Tab α) (d : α) (k : Nat) : α := (look t k).getD d

/-- The table with `v` at key `k`. -/
def put : Tab α → Nat → α → Tab α
  | [], k, v => [(k, v)]
  | (a, w) :: t, k, v =>
    if k = a then (k, v) :: t else if k < a then (k, v) :: (a, w) :: t else (a, w) :: put t k v

/-- The table with nothing at key `k`. -/
def del : Tab α → Nat → Tab α
  | [], _ => []
  | (a, w) :: t, k => if k = a then t else if k < a then (a, w) :: t else (a, w) :: del t k

/-- Keys strictly rising, each above `lo` (exclusive where given). -/
def rising : Option Nat → Tab α → Bool
  | _, [] => true
  | none, (a, _) :: t => rising (some a) t
  | some b, (a, _) :: t => decide (b < a) && rising (some a) t

end Tabs

/-- `n` bytes of `v`, least significant first. -/
def le : Nat → Nat → List Byte
  | 0, _ => []
  | n + 1, v => BitVec.ofNat 8 v :: le n (v / 256)

/-- The number a little-endian byte list spells. -/
def unle : List Byte → Nat
  | [] => 0
  | b :: t => b.toNat + 256 * unle t

/-- The bytes `off` to `off + n - 1` of a list, as a number; bytes beyond the end are 0. -/
def leAt (l : List Byte) (off n : Nat) : Nat := unle ((l.drop off).take n)

/-- `n` bits of `v` from bit `lo`. -/
def bits (v lo n : Nat) : Nat := (v >>> lo) % 2 ^ n

/-- The two's complement value of an `n`-bit number. -/
def sgn (n v : Nat) : Int := if v % 2 ^ n < 2 ^ (n - 1) then (v % 2 ^ n : Nat) else ((v % 2 ^ n : Nat) : Int) - 2 ^ n

/-- The `n`-bit two's complement code of an integer. -/
def unsgn (n : Nat) (v : Int) : Nat := (v % (2 ^ n : Int)).toNat

/-- The list with element `i` changed by `f`. -/
def modAt {α : Type} (l : List α) (i : Nat) (f : α → α) : List α :=
  match l, i with
  | [], _ => []
  | a :: t, 0 => f a :: t
  | a :: t, i + 1 => a :: modAt t i f

/-- The list without its first element that `p` takes. -/
def dropFirst {α : Type} (p : α → Bool) : List α → List α
  | [] => []
  | a :: t => if p a then t else a :: dropFirst p t

/-- Nat to Bool to Nat. -/
def b2n (b : Bool) : Nat := if b then 1 else 0

end Sys2Proof.Machine
end

