-- ==== Sys2Proof/Machine/Data.lean ====
section
/-! DEFINITION. The typed state of the blocks, beside the registers. -/

namespace Sys2Proof.Machine

/-- A submission descriptor as fetched (R64): the ring pair it came from, its header fields and its body (bytes 16 to
63). `bufErr` says that the transfer of its buffer fails on the link (R81, cause 4); `era` counts the link losses before its
fetch, since what was delivered before one has no slot after it (R54). -/
structure Desc where
  ring : Nat
  op : Nat
  target : Nat
  flags : Nat
  tag : BitVec 16
  rsv6 : BitVec 16
  req : BitVec 32
  rsv12 : BitVec 32
  body : BitVec 384
  bufErr : Bool
  era : Nat := 0
deriving DecidableEq, Repr

namespace Descs

/-- `n` bytes of the descriptor from byte `off` (16 or above), as a number. -/
def fld (d : Desc) (off n : Nat) : Nat := bits d.body.toNat (8 * (off - 16)) (8 * n)
/-- FLAGS.FENCE. -/
def fence (d : Desc) : Bool := d.flags % 2 == 1
/-- FLAGS.BUF. -/
def buf (d : Desc) : Bool := d.flags / 2 % 2 == 1
/-- The host address of the buffer (R65). -/
def addr (d : Desc) : Nat := fld d 48 8
/-- The length of the buffer in bytes (R65). -/
def len (d : Desc) : Nat := fld d 56 4

end Descs

/-- A ring pair beside its registers (R60, R80, R83): indices, phase of the next completion, descriptors outstanding,
fetched and waiting for their block, and delivered but not complete. -/
structure Ring where
  tail : Nat := 0
  cqWrite : Nat := 0
  cqHead : Nat := 0
  phase : Bool := true
  outstanding : Nat := 0
  paused : List Desc := []
  delivered : List Desc := []
deriving DecidableEq, Repr

/-- An event ring beside its registers (R71, R73). -/
structure ERing where
  head : Nat := 0
  seq : Nat := 0
deriving DecidableEq, Repr

/-- An MSI-X vector (R79): entries not yet signalled, with the tick of the first of them. -/
structure Vec where
  count : Nat := 0
  first : Nat := 0
  masked : Bool := true
  pend : Bool := false
deriving DecidableEq, Repr

/-- The address space of an access: BAR0, the doorbells in BAR2, the MSI-X table and pending bits in BAR4 (R52), the
configuration space of the function (R51, R53). -/
inductive Space where
  | bar0 | bar2 | bar4 | config
deriving DecidableEq, Repr

/-- The advanced error reporting capability (R53): uncorrectable and correctable status with their masks, severity, the first
error's bit, the header log's four words. -/
structure AerSt where
  unc : Nat := 0
  uncMask : Nat := 0
  sev : Nat := 0x00462030
  cor : Nat := 0
  corMask : Nat := 0xE000
  first : Nat := 0
  header : Tab Nat := []
deriving DecidableEq, Repr

/-- What the host has written to the function's configuration space (R51 to R53): the command register but bus master
enable, which HIF_STATUS shows, the three base addresses, MSI-X enable and function mask, device control, error reporting. -/
structure CfgSt where
  command : Nat := 0
  bars : Tab Nat := []
  msixOn : Bool := false
  msixMask : Bool := false
  devCtl : Nat := 0x2000
  aer : AerSt := {}
deriving DecidableEq, Repr

/-- The host interface (02). -/
structure HifSt where
  rings : Tab Ring := []
  erings : Tab ERing := []
  vecs : Tab Vec := []
  /-- captured high words (R6), by master and offset -/
  wide : Tab Word := []
  /-- MSI-X table words written through BAR4, by offset -/
  msix : Tab Word := []
  cfg : CfgSt := {}
  /-- link losses so far, and the descriptors delivered before one of them and not complete, in ring order (R54) -/
  era : Nat := 0
  old : List Desc := []
  /-- bursts each ring pair has been served in the present round of the weighted round-robin (R63) -/
  served : Tab Nat := []
deriving DecidableEq, Repr

/-- Kinds of fault a block raises (R16, R28): an uncorrectable error with its cell, where there is one, and whether a spare
cell stands ready; a tick overrun; an error no restart repairs (R570); a cell out of use, without an error (R570). -/
inductive FaultKind where
  | uncorrectable (cell : Option Nat) (spare : Bool)
  | overrun
  | lost
  | degraded
deriving DecidableEq, Repr

/-- Interconnect and errors (01): the faults raised in this tick, the ticks of each block's overruns in the window of
R19. -/
structure IntcSt where
  faults : List (Nat × FaultKind) := []
  overruns : Tab (List Nat) := []
  /-- ticks since reset -/
  ticks : Nat := 0
  /-- blocks restarted at the end of the tick that is ending, whose work of that tick is abandoned (R17) -/
  restarted : List Nat := []
deriving DecidableEq, Repr

/-- A record waiting for the Shard log: its bytes 4 to 55 and ORIG_SEQ (R527). -/
structure ShardEv where
  bytes : List Byte
  orig : Nat
  /-- tick in which it was raised, and hardware block index (R526) -/
  tick : Nat
  src : Nat
deriving DecidableEq, Repr

/-- One master's reading window (R531). -/
structure ShardWin where
  cursor : Nat := 0
  status : Nat := 3
  adv : Bool := false
  window : List Byte := []
deriving DecidableEq, Repr

/-- A clear arm (R533). -/
structure ShardArm where
  challenge : Nat
  ticket : Nat
  deadline : Nat
deriving DecidableEq, Repr

/-- The Shard log (17): slots and the next SEQ are MRAM; the rest is lost at reset. -/
structure ShardSt where
  queue : List ShardEv := []
  lostPending : Nat := 0
  wins : Tab ShardWin := []
  arm : Option ShardArm := none
  /-- accepted CLEAR_CONFIRMs waiting for the tick boundary, each with its tick (R534) -/
  clear : List (Desc × Nat) := []
  /-- the start-up scan is made (R530) -/
  scanned : Bool := false
  /-- records written and not yet mirrored, with their SEQ in `orig` (R421) -/
  mate : List ShardEv := []
deriving DecidableEq, Repr

/-- A node record (R99). -/
structure NodeRec where
  kind : Nat
  zone : Nat
  tag : Nat
  groups : List Nat
deriving DecidableEq, Repr

/-- A segment record (R100). -/
structure SegRec where
  src : Nat
  dst : Nat
  len : Nat
  cap : Nat
  width : Nat
  zone : Nat
  groups : List Nat
deriving DecidableEq, Repr

/-- A binding record (R101). -/
structure BindRec where
  kind : Nat
  unit : Nat
  fixture : Nat
  res : Nat
deriving DecidableEq, Repr

/-- A site map: the records of an image and the image itself (R97, R114). -/
structure SiteMap where
  mapId : Nat
  rev : Nat
  groups : Nat
  nodes : List NodeRec
  segs : List SegRec
  binds : List BindRec
  image : List Byte
deriving DecidableEq, Repr

/-- A held RECOVER or RETIRE (R146): the descriptor that waits. -/
inductive Held where
  | recover (d : Desc)
  | retire (d : Desc)
  /-- an automatic release that RETIRES (R150): no descriptor -/
  | auto
deriving DecidableEq, Repr

/-- An authority record (R179), with the key it was signed under; `gone` is the agent's count as its snapshot settled. -/
structure AuthRec where
  flags : Nat
  ref : Nat
  seq : Nat
  asn : Nat
  keyId : Nat
  expiry : Nat
  limit : Nat
  cap : Nat
  path : List Nat
  zones : Nat
  mic : Nat
  gone : Nat := 0
deriving DecidableEq, Repr

/-- One entry of Kiln's agent table (R121): state, generation, fixture number, chain, held operation, tick at which it
became SILENT, resources released from the chain's front since ADMIT, the place in that count where each issued prefix ends
with its expiry (R128), the latest record, whether one has been built since the index last entered ADMITTED (R184), AUTH_SEQ
(R177). -/
structure Agent where
  state : Nat := 0
  gen : Nat := 0
  fixture : Nat := 0
  chain : List Nat := []
  held : Option Held := none
  silentAt : Int := 0
  gone : Nat := 0
  issued : List (Nat × Nat) := []
  lastRec : Option AuthRec := none
  recSince : Bool := false
  authSeq : Nat := 0
deriving DecidableEq, Repr

/-- A parked request (R139). -/
structure Parked where
  idx : Nat
  ticket : Nat
  path : List Nat
  tick : Int
  limit : Nat
  conflict : Nat
deriving DecidableEq, Repr

/-- Kiln's store as operations see it (R130) and as a snapshot settles it (R162). -/
structure KilnStore where
  agents : Tab Agent := []
  queues : Tab (List Nat) := []
  park : List Parked := []
  parkCtr : Nat := 0
deriving DecidableEq, Repr

/-- A SNAPSHOT to be written from the store at the end of its tick (R153). -/
structure SnapReq where
  d : Desc
  sec : Nat
  first : Nat
  number : Nat
deriving DecidableEq, Repr

/-- Kiln and the authority builder (03, 04, 05). -/
structure KilnSt where
  store : KilnStore := {}
  /-- the committed map -/
  map : Option SiteMap := none
  /-- the staging image as received, and the map it spelled once VALID -/
  stage : List Byte := []
  staged : Option SiteMap := none
  /-- the image being written to MRAM (R114) -/
  persist : Option (List Byte) := none
  /-- LOAD_MAPs that wait for the write to end (R114), oldest first -/
  loadWait : List Desc := []
  /-- the area the write reads from: 0 A, 1 B -/
  persistArea : Nat := 0
  /-- a COMMIT_MAP has been the last operation of this tick (R109) -/
  closed : Bool := false
  /-- a COMMIT_MAP accepted in this tick, exchanged at its end (R109) -/
  commit : Option Desc := none
  /-- operations admitted in this tick (R31) -/
  ops : Nat := 0
  /-- the input queue in the order of delivery, with entries that have started since; step 3 of this tick ended with the queue
  empty (R130) -/
  inq : List Desc := []
  stepEnd : Bool := false
  /-- entries of the park list already visited by the park service under way (R140); whether it began in an earlier tick, so
  that this tick's own follows it (R130) -/
  parkPos : Nat := 0
  parkAgain : Bool := false
  /-- progress reports passed by the Air region: reference and REAR (R309) -/
  reports : List (Nat × Nat) := []
  snaps : List SnapReq := []
  /-- the snapshot settled at the end of the last tick, with its map (R162) -/
  settled : KilnStore := {}
  settledMap : Option SiteMap := none
  /-- records of this slot not yet signed, and those signed in this tick and not yet released, each with whether it is a
  changed record (R169, R300) -/
  build : List (AuthRec × Bool) := []
  signed : List (AuthRec × Bool) := []
  /-- PT at the start of the slot, records built in it -/
  slotPt : Nat := 0
  slotBuilt : Nat := 0
  /-- whether R167 has held since the start of the last slot -/
  signing : Bool := false
  /-- the authority key (R173); 0 KEY_ID when none -/
  key : Option Nat := none
  /-- tick in which a rotation step's copy has completed, while it waits for the boundary (R117) -/
  copyDone : Option Nat := none
  nextLogical : Nat := 0
deriving DecidableEq, Repr

/-- A move (R507): its descriptor, flags and profile; `late` when the late rule lets it start late. -/
structure Move where
  d : Desc
  rel : Bool
  jerk : Bool
  blend : Bool
  sched : Bool
  target : Int
  vel : Nat
  acc : Nat
  dec : Nat
  jrk : Nat
  startPt : Nat
  late : Bool
deriving DecidableEq, Repr

/-- Phases of a homing run (R515). -/
inductive HomePhase where
  /-- searching in DIR -/
  | search
  /-- kind 0, reversed at the limit: until the switch has been active and released -/
  | back (seen : Bool)
  /-- coming to rest after `back`, then searching again -/
  | backRest
  /-- coming to rest after the event was found, then the latch move -/
  | found
  /-- the latch move, or the backoff of kind 2 -/
  | latch
  /-- coming to rest after the release -/
  | final
deriving DecidableEq, Repr

/-- A homing run. -/
structure HomeRun where
  d : Desc
  kind : Nat
  neg : Bool
  phase : HomePhase
  start : Int
  turned : Bool
deriving DecidableEq, Repr

/-- A stop in progress (R517, R518): the status its move completes with, whether the bridges go off at its end, whether
the axis is then PAUSED, whether EN then falls, the tick STOP_MS after it began, HFAIL_REASON of a failed homing run, and its
deceleration in microsteps/s². -/
structure AxisStop where
  status : Nat
  off : Bool
  pause : Bool
  dis : Bool
  due : Int
  hfail : Nat
  dec : Nat
deriving DecidableEq, Repr

/-- One switch input of an axis (R511, R512): whether its raw level is the active one, ticks of the transitions that count towards
chatter, tick of the last transition and position there. -/
structure SwitchIn where
  raw : Bool := false
  times : List Nat := []
  last : Option Nat := none
  edge : Int := 0
deriving DecidableEq, Repr

/-- The chopper of one coil (R504): the time it has been in drive, or what is left of its off-time, in units of 10 ns, and the DAC
code and sign its cycle began with. -/
structure Chop where
  off : Option Nat := none
  on : Nat := 0
  code : Nat := 0
  neg : Bool := false
deriving DecidableEq, Repr

/-- An axis beside its registers (16): queued moves, the move in progress with its end position, the kept remainder with
its end position, homing run, stop in progress, HALTs waiting for rest, switches, tick at which it came to rest, whether
it holds at IHOLD, whether the move in progress has begun its deceleration with no joint ahead, the change of its rate in the
last tick, and the part of a microstep its segments have come to beside its position, in 1/2000, signed (R502, R510). -/
structure Axis where
  queue : List Move := []
  run : Option (Move × Int) := none
  remain : Option (Move × Int) := none
  home : Option HomeRun := none
  stop : Option AxisStop := none
  halts : List Desc := []
  sw : Tab SwitchIn := []
  restAt : Option Int := none
  hold : Bool := false
  brake : Bool := false
  change : Int := 0
  frac : Int := 0
deriving DecidableEq, Repr

/-- A set of stops: site, zone bits, agent bits. -/
structure Stops where
  site : Bool
  zones : BitVec 64
  agents : BitVec 512
deriving DecidableEq, Repr

/-- A release arm (R205), with the scope of its RELEASE_ARM. -/
structure DamArm where
  scope : Nat
  what : Stops
  ticket : Nat
  tick : Int
deriving DecidableEq, Repr

/-- What Damper keeps of one stop input beside its registers (R202, R203), times in ms of unit time. -/
structure StopIn where
  highSince : Option Nat := none
  lastChange : Nat := 0
  lowSeen : Bool := false
deriving DecidableEq, Repr

/-- A source assertion that arrived between a confirm and its boundary (R205). -/
structure Reassert where
  src : Nat
  detail : Nat
  what : Stops
deriving DecidableEq, Repr

/-- Damper (06) beside its registers. -/
structure DamSt where
  agents : BitVec 512 := 0
  ins : Tab StopIn := []
  arm : Option DamArm := none
  /-- ended arm: ticket and case of R206 -/
  ended : Option (Nat × Nat) := none
  /-- accepted release, waiting for the boundary -/
  release : Option DamArm := none
  again : List Reassert := []
  ticket : Nat := 0
  /-- the slot in progress is a burst slot (R197) -/
  burst : Bool := false
  /-- latches sampled for this slot's content (R199) -/
  sample : Stops := ⟨true, 0, 0⟩
  /-- FIX_EN_N is released at this ms (R214) -/
  fixDue : Option Nat := none
  /-- drive of STOP_OUT (both networks) and FIX_EN_N: true = pulled low -/
  run : Bool := false
  fixRun : Bool := false
  /-- watchdog deadline in ms while it runs (R189) -/
  wdog : Option Nat := none
  /-- stops that sources of this unit have asserted in this tick (R216) -/
  own : Stops := ⟨false, 0, 0⟩
  /-- forward bit gathered in this tick (R217) -/
  forward : Bool := false
  /-- STOP completions waiting for the mate (R424): descriptor, LATCH SEQ, gained -/
  stops : List (Desc × Nat × Bool) := []
  /-- tick of the last self-test cycle (R208) -/
  testTick : Option Nat := none
deriving DecidableEq, Repr

/-- A capture entry (R392): channel, flags, seconds, nanoseconds, and its order of arrival. -/
structure CapEntry where
  chan : Nat
  flags : Nat
  sec : Nat
  ns : Nat
  order : Nat
deriving DecidableEq, Repr

/-- A capture channel's FIFO (R391). -/
structure CapFifo where
  entries : List CapEntry := []
  overflow : Bool := false
deriving DecidableEq, Repr

/-- A compare channel (R394): the armed COMPARE_SET with its target in ns since the epoch of ST80, whether the output is
active, whether its pulse is a periodic one, when the pulse ends, and the ms in which the last periodic pulse began. -/
structure CmpChan where
  armed : Option (Desc × Nat) := none
  active : Bool := false
  periodic : Bool := false
  endAt : Nat := 0
  pulseMs : Option Nat := none
deriving DecidableEq, Repr

/-- The time unit (12) beside its registers. -/
structure TimeSt where
  sec : Nat := 0
  ns : Nat := 0
  /-- fraction of a nanosecond, in 2^-32 ns (R377) -/
  frac : Nat := 0
  /-- tick in which the step was made (R27) -/
  stepTick : Option Nat := none
  /-- an ADDEND waiting for the tick boundary (R386, R390) -/
  addendNext : Option Int := none
  /-- the frequency terms of the last 100 measurements, oldest first (R387) -/
  freqHist : List Int := []
  /-- the frequency term from which the next steering starts (R389, R390) -/
  frozen : Option Int := none
  /-- an announced leap second (R398): whether a second is inserted, the TAI second that is the inserted one, or that follows the
  one left out -/
  leap : Option (Bool × Nat) := none
  /-- tick of the last once-per-second measurement -/
  measAt : Option Nat := none
  /-- measurements in sequence at which GNSS held its condition, or did not (R381, R596) -/
  gnssRun : Nat := 0
  gnssMiss : Nat := 0
  /-- measurements of MATE in sequence that qualify it, or do not (R428) -/
  mateRun : Nat := 0
  mateMiss : Nat := 0
  /-- PPS_IN: measurements in sequence at which its edges came 1 s ± 1 ms apart (R381, R596); whether the last two edges did;
  the last edge in ns since the epoch of ST80; the seconds named for it -/
  ppsRun : Nat := 0
  ppsGood : Bool := false
  lastPps : Option Nat := none
  extTod : Option (Desc × Nat) := none
  extSec : Option Nat := none
  /-- offsets last measured, source minus local clock, in ns: GNSS, EXTERNAL -/
  gnssOff : Option Int := none
  extOff : Option Int := none
  /-- measurements within 100 ns in sequence (R380); U0 of R387 -/
  within : Nat := 0
  u0 : Nat := 0
  /-- source in use (R385): 0 none, 1 GNSS, 2 EXTERNAL, 3 MATE; the last one used -/
  used : Nat := 0
  lastUsed : Nat := 0
  caps : Tab CapFifo := []
  capOrder : Nat := 0
  cmps : Tab CmpChan := []
  capReads : List Desc := []
  /-- PTP sequence ids (R397): Sync, Announce, Pdelay_Req of each port -/
  seqSync : Nat := 0
  seqAnn : Nat := 0
  seqPd : Tab Nat := []
  /-- outstanding Pdelay_Req per port: sequence id and transmit stamp in half ns; meanLinkDelay per port in quarter ns -/
  pdOut : Tab (Nat × Nat) := []
  links : Tab Nat := []
  /-- tick of the last Sync (0), Announce (1), Pdelay_Req of ETH_A (2) and of ETH_B (3) (R399) -/
  ptpAt : Tab Nat := []
deriving DecidableEq, Repr

end Sys2Proof.Machine
end

