-- ==== Sys2Proof/Machine/AirTypes.lean ====
section
/-! DEFINITION. The typed state of the Air region (07 to 09). -/

namespace Sys2Proof.Machine

/-- A credential entry (R259), by entry number in the table. -/
structure Cred where
  eui : Nat
  key : Nat
  /-- preferred lane, 0xFF for any -/
  home : Nat
  blocked : Bool
  ctr : Nat
deriving DecidableEq, Repr

/-- A task fragment as cut (R314): task, offset, length. -/
structure Frag where
  task : Nat
  off : Nat
  len : Nat
deriving DecidableEq, Repr

/-- A unicast frame sent and not acknowledged (R303): its IEs, DSN, slot and MCS of the first attempt, lane, retries
used, the EFFECTIVE_ASN of its LANE_MOVE IE, its fragment; `waits` is the slot whose ACK window is still to answer it. -/
structure Unicast where
  ies : List Byte
  dsn : Nat
  first : Nat
  mcs : Nat
  lane : Nat
  retries : Nat
  move : Option Nat
  frag : Option Frag
  waits : Option Nat
deriving DecidableEq, Repr

/-- A lane move (R282, R284): its descriptor (none after a repeat's completion), new and old place, EFFECTIVE_ASN,
whether acknowledged, whether past EFFECTIVE_ASN without an acknowledgement, whether the new lane's first UP slot has been
planned for it. -/
structure LaneMove where
  d : Desc
  lane : Nat
  seat : Nat
  asn : Nat
  acked : Bool := false
  open_ : Bool := false
  planned : Bool := false
deriving DecidableEq, Repr

/-- A membership (R257), or a pending join of a new index (R275), with its link state (R298, R303 to R309). -/
structure Member where
  eui : Nat
  key : Nat
  lane : Nat
  seat : Nat
  pending : Bool
  /-- tick of join completion -/
  joined : Int := 0
  missed : Nat := 0
  mcsMax : Nat
  mcs : Nat
  failRun : Nat := 0
  okRun : Nat := 0
  downDsn : Nat := 0
  nextDsn : Nat := 0
  upDsn : Option Nat := none
  txn : Option Nat := none
  sent : Option Unicast := none
  move : Option LaneMove := none
  /-- lane on which the robot was last heard -/
  heard : Nat
  /-- tasks with fragments to send, each with the bytes acknowledged -/
  tasks : List (Nat × Nat) := []
  /-- a given-up fragment at the front of the queue (R303) -/
  front : Option Frag := none
deriving DecidableEq, Repr

/-- A join response in a lane's queue (R274 to R278): the content sent, the new session key, times sent, tick of the first
send; `waits` is the slot whose ACK window is still to answer it. -/
structure JoinResp where
  eui : Nat
  jkey : Nat
  result : Nat
  idx : Nat
  fresh : Bool
  content : List Byte
  skey : Nat
  mcsMax : Nat
  sends : Nat := 0
  firstAt : Option Int := none
  waits : Option Nat := none
deriving DecidableEq, Repr

/-- The Air region's authority entry of an index (R300): the record, whether it is a changed record, sends owed and
whether one has been made; the PT of the tick whose snapshot it was built from (R423); the tick from whose start it is
there (R369). -/
structure AuthEnt where
  record : AuthRec
  changed : Bool
  owed : Nat
  sent : Bool
  snapPt : Nat
  tick : Int
deriving DecidableEq, Repr

/-- An RTCM IE a lane owes (R364): content, the tick from whose start it is there (R369), a number of its own. -/
structure RtcmIe where
  content : List Byte
  tick : Nat
  id : Nat
deriving DecidableEq, Repr

/-- An IE of an uplink data frame (R291, R308, R315): a progress report, a task status, one that is skipped, one whose LEN
runs past the end of the payload. -/
inductive UpIe where
  | progress (flags txn rear seq speed hostWord : Nat)
  | status (state id reason : Nat)
  | other
  | runsPast
deriving DecidableEq, Repr

/-- An accepted uplink frame that waits for its processing at the end of its tick (R302, R309): lane, sender, DSN, whether it
came under the new session key of a join not yet complete (R278), its IEs. -/
structure UpTaken where
  lane : Nat
  ref : Nat
  dsn : Nat
  newKey : Bool
  ies : List UpIe
deriving DecidableEq, Repr

/-- A join request received in the slot in progress (R274): lane, time correction, bytes, MIC. It is decided as the ACK window
begins. -/
structure JoinTaken where
  lane : Fin 8
  tc : Int
  bytes : List Byte
  mic : Option (Nat × List Byte)
deriving DecidableEq, Repr

/-- The external PA's pins (R249): PA_EN, LNA_EN, and PA_RAMP as a level code, 0 for 0 V. At rest as they stand here. -/
structure PaPins where
  en : Bool := false
  lna : Bool := true
  ramp : Nat := 0
deriving DecidableEq, Repr

/-- States of a ledger entry (R311). -/
inductive TaskState where
  | offered | accepted | started | done | failed | timedOut
deriving DecidableEq, Repr

/-- A task ledger entry (R310 to R313); timers as ticks at which they fall due. -/
structure Task where
  id : Nat
  ref : Nat
  state : TaskState
  reason : Nat
  pt : Nat
  late : Bool
  payload : List Byte
  d : Option Desc
  offerDue : Int
  doneS : Nat
  doneDue : Option Int
  /-- TIMED_OUT from OFFERED -/
  fromOffer : Bool
  /-- ticks of the last change and of leaving OFFERED -/
  since : Int
  leftOffer : Int
deriving DecidableEq, Repr

/-- The tables of the Air region (R421): memberships by index, the lanes' response queues, authority entries, task ledger
by entry, FREE and QUARANTINED times, the last agent served by a DOWN frame of each lane, the seat planned for each lane's
last UP slot. -/
structure AirTab where
  members : Tab Member := []
  resps : Tab (List JoinResp) := []
  auth : Tab AuthEnt := []
  ledger : Tab Task := []
  freeAt : Tab Int := []
  quarAt : Tab Int := []
  lastDown : Tab Nat := []
  lastUp : Tab Nat := []
deriving DecidableEq, Repr

/-- A CORR IE waiting (R369): content, EPOCH_PT, and the tick at whose start it entered the queue. -/
structure CorrIe where
  content : List Byte
  epoch : Nat
  tick : Nat
deriving DecidableEq, Repr

/-- A slot planned by a permit (R267): ASN, kind, owner's seat. -/
structure Plan where
  asn : Nat
  kind : Nat
  seat : Option Nat
deriving DecidableEq, Repr

/-- What a frame in flight commits once it has ended. -/
inductive FlightKind where
  | permit (plan : List Plan) (burst : Bool)
  | burst
  /-- the records of the AUTH IEs it carries, the EPOCH_PT of its CORR IE, numbers of its RTCM IEs -/
  | bcast (auth : List AuthRec) (corr : Option Nat) (rtcm : List Nat)
  | resp (eui : Nat) (content : List Byte)
  | uni (idx : Nat) (u : Unicast) (retry : Bool)
  /-- an ACK of the base; of a join request where `join` -/
  | ack (join : Bool)
deriving DecidableEq, Repr

/-- A frame or an ACK in flight. -/
structure Flight where
  lane : Fin 8
  chan : Nat
  mcs : Nat
  us : Nat
  bytes : List Byte
  what : FlightKind
deriving DecidableEq, Repr

/-- The instant of a flight's SHR in its slot, in µs (R232). -/
def Flight.start (f : Flight) : Nat :=
  match f.what with
  | .ack _ => 2900
  | _ => 200

/-- An ACK the base owes in this slot (R233): lane, key, TC, session or join form. -/
structure AckDue where
  lane : Fin 8
  key : Nat
  tc : Int
  session : Bool
deriving DecidableEq, Repr

/-- The Air region (07 to 09) beside its registers. -/
structure AirSt where
  tab : AirTab := {}
  /-- the beacon key -/
  bkey : Option Nat := none
  /-- ASN of the slot begun last, and how far it has come: 1 begun, 2 stop content sampled, 3 transmit window, 4 ACK
  window; whether the region was enabled and not draining as the slot began (R244) -/
  slot : Option Nat := none
  phase : Nat := 0
  on : Bool := false
  inFlight : List Flight := []
  /-- lanes that have sent in this slot -/
  sentOn : List Nat := []
  /-- frames that had ended as the gate closed, to be settled with the window -/
  ended : List Flight := []
  /-- PA_EN, LNA_EN and PA_RAMP -/
  pins : PaPins := {}
  /-- the slot began in the ACTIVE role (R242); the tables of a role lost without a swap are discarded at its end (R413) -/
  held : Bool := false
  wipe : Bool := false
  /-- accepted uplink frames of this tick; RSSI of both copies of the frame received last, by lane (R248) -/
  taken : List UpTaken := []
  /-- join requests received in this slot (R274) -/
  joins : List JoinTaken := []
  rssi : Tab (Option Int × Option Int) := []
  acks : List AckDue := []
  /-- every condition of R240 but the lane's and the gate's held when last looked at; a permit slot must come first -/
  cond : Bool := false
  permitFirst : Bool := false
  /-- slot at which a bank exchange was requested; none before the first step -/
  switchAt : Option Nat := none
  /-- ASN at which each lane was last served in a permit slot, and in another -/
  servedPermit : Tab Nat := []
  servedOther : Tab Nat := []
  /-- slots planned by the last permits of each lane -/
  plans : Tab (List Plan) := []
  /-- lanes with an accepted uplink in this slot; lanes whose miss in this slot has been counted -/
  heard : List Nat := []
  counted : List Nat := []
  /-- transmit times of a lane on a channel (32 × lane + channel): tick and µs (R247) -/
  txLog : Tab (List (Nat × Nat)) := []
  /-- CORR IE waiting; lanes it has been sent on -/
  corr : Option CorrIe := none
  corrSent : List Nat := []
  /-- RTCM IEs each lane has still to send, and the number of the next one -/
  rtcm : Tab (List RtcmIe) := []
  rtcmNext : Nat := 0
  /-- RTCM IEs in flight as their epoch's bytes were discarded (R364) -/
  rtcmOld : Tab (List RtcmIe) := []
  /-- CORR_VALID as sampled with the stop content (R359) -/
  valid : Bool := false
  /-- progress reports delivered in this tick: lane, reference, REAR (R309) -/
  reports : List (Nat × Nat × Nat) := []
deriving DecidableEq, Repr

end Sys2Proof.Machine
end

