-- ==== Sys2Proof/Machine/BlockTypes.lean ====
section
/-! DEFINITION. The typed state of Saggar, metering, GNSS, corrections, update, start-up and in-service test (10, 11, 14, 15,
18, 19), beside the registers. -/

namespace Sys2Proof.Machine

/-- A Saggar cell queue (R444 to R449): cells from the head, armed for LO (else HI), tick of the timer's last start,
whether the timeout has fired since. -/
structure SagQ where
  cells : List (BitVec 512) := []
  armedLo : Bool := false
  since : Nat := 0
  fired : Bool := false
deriving DecidableEq, Repr

/-- A word of a stream queue with its sideband (R457, R458). -/
structure StreamWord where
  data : List Byte
  valid : Nat
  close : Bool
deriving DecidableEq, Repr

/-- A stream queue (R457): words not taken yet, bytes of the word being filled. -/
structure StreamQ where
  words : List StreamWord := []
  part : List Byte := []
deriving DecidableEq, Repr

/-- Saggar (14): queues, pending DEQUEUEs in the order received with the tick at which each gives up, stream queues. -/
structure SagSt where
  queues : Tab SagQ := []
  pend : List (Desc × Nat) := []
  streams : Tab StreamQ := []
deriving DecidableEq, Repr

/-- What a metering slot carries of an element (R490): totals in µWh, intervals with 2^32 times their WRAP_CNT, fractions and
pending accumulator in 2^-32 µWh, residue in 2^-32 µWh·imp/kWh, pulses owed. -/
structure MetEnergy where
  imp : Nat := 0
  exp : Nat := 0
  intImp : Nat := 0
  intExp : Nat := 0
  fracImp : Nat := 0
  fracExp : Nat := 0
  acc : Int := 0
  residue : Nat := 0
  owed : Nat := 0
deriving DecidableEq, Repr

/-- A metering element beside its registers: its own carried state, the mirrored one of a standby (R493), the last line
crossing and the crossings in sequence (R476), peaks of the present and of the last four intervals in LSBs of the ×32 range (R478),
the calibrated currents of the last line period, newest first, the sample before, samples still to be blanked, samples since the
last rising crossing and between the last two (R479), energy of the present second (R485), begin of the pulse in progress and the tick from
which the output is free (R487), own assigned totals at the ends of the last ticks with their PT (R439), totals at the
start of the cross-check window (R493), the sign of the voltage when it last left the band of hysteresis (R476, true above it). -/
structure MetEl where
  e : MetEnergy := {}
  mir : Option MetEnergy := none
  lastZc : Option Nat := none
  zcRun : Nat := 0
  peak : Nat := 0
  peaks : List Nat := []
  past : List Int := []
  prev : Int := 0
  blank : Nat := 0
  since : Nat := 0
  period : Nat := 0
  second : Int := 0
  pulse : Option Nat := none
  freeAt : Nat := 0
  hist : List (Nat × Nat × Nat) := []
  xOwn : Nat := 0
  xMir : Nat := 0
  sign : Option Bool := none
deriving DecidableEq, Repr

/-- A metering slot in MRAM (R490): its header, the sixteen records, its CRC. -/
structure MetSlot where
  seq : Nat
  pt : Nat
  final : Bool
  els : List MetEnergy
  crc : Nat
deriving DecidableEq, Repr

/-- One sampling edge of the metering front end (R473): voltage inputs V0 to V7 and current inputs I0 to I15. -/
structure MetEdge where
  v : List (BitVec 24)
  i : List (BitVec 24)
deriving DecidableEq, Repr

/-- Every input has its sample. -/
def MetEdge.wf (e : MetEdge) : Bool := e.v.length == 8 && e.i.length == 16

/-- Metering (15): elements, accumulation stopped by the power-fail warning, restore done, ticks of the last save and of the last
MET_POWER update, begin of the cross-check window, edges of a tick that a restart of the DSP abandoned (R474), the records at the
boundary that began this tick (R497), the dock pins driven with their levels (R495). -/
structure MetSt where
  els : Tab MetEl := []
  stopped : Bool := false
  restored : Bool := false
  savedAt : Option Nat := none
  powerAt : Option Nat := none
  xchkAt : Nat := 0
  kept : List MetEdge := []
  bound : List (List Byte) := []
  docks : Tab (Nat × Bool) := []
deriving DecidableEq, Repr

/-- A dump of a channel (R328, R330, R331): magnitudes of its prompt, M0 and M1 tap outputs, and the C/N0 estimate over the
last second of prompt dumps with this one in it, in 0.25 dB-Hz. -/
structure DumpIn where
  chan : Fin 456
  p : Nat
  m0 : Nat
  m1 : Nat
  cn0 : BitVec 8
deriving DecidableEq, Repr

/-- A candidate for a channel (R327): signal, path, GLONASS frequency number, elevation in 0.001° where almanac or ephemeris
predicts it, what device firmware holds for the satellite: 0 nothing less than 30 days old, 1 almanac or ephemeris, 2 valid
ephemeris (R335). -/
structure GCand where
  sig : Nat
  svid : Nat
  path : Nat
  gloK : Int
  elev : Option Int
  alm : Nat
deriving DecidableEq, Repr

/-- A tracking channel beside its registers (R325, R343): GLONASS frequency number, slip since the previous entry, entry at
the previous epoch, ticks at which carrier lock began and was left, took over under R326, handed over by ACQ_SEARCH; its code
phase in 1/1024 chip and Doppler in mHz, the transmit time latched last (2^-32 ns) with its tick; the instant in ns before which its next dump cannot end, the tick
since which C/N0 has been below DROP_CN0; sums of |P| and of | |M1| - |M0| | over the dumps of the epoch interval. -/
structure GChan where
  gloK : Int := 0
  slip : Bool := false
  entry : Bool := false
  lockAt : Option Nat := none
  outAt : Option Nat := none
  took : Bool := false
  hand : Bool := false
  code : Nat := 0
  dopp : Int := 0
  txAt : Option (Int × Nat) := none
  dumpAt : Nat := 0
  lowAt : Option Nat := none
  sumP : Nat := 0
  sumD : Nat := 0
deriving DecidableEq, Repr

/-- An acquisition request (R334, R349); device firmware's own has no descriptor. -/
structure AcqReq where
  d : Option Desc
  sig : Nat
  svid : Nat
  path : Nat
  dwell : Nat
  codeCentre : Nat
  codeWin : Nat
  dopCentre : Int
  dopWin : Nat
  gloK : Int
  handover : Bool
deriving DecidableEq, Repr

/-- A search on an engine (R332, R333): the tick at which its present dwell began, dwells left, dwells used, the cell of a
detection waiting for its confirming dwell, largest metric so far with its code phase and Doppler (as 32-bit codes). -/
structure AcqRun where
  req : AcqReq
  start : Nat
  left : Nat
  used : Nat := 0
  confirm : Option Nat := none
  best : Nat × Nat × Nat := (0, 0, 0)
deriving DecidableEq, Repr

/-- A pin (R350). -/
structure GPin where
  sig : Nat
  svid : Nat
  mask : Nat
deriving DecidableEq, Repr

/-- What the consistency check keeps of a signal (R345). -/
structure DaSig where
  above : Nat := 0
  below : Nat := 0
  flagged : Bool := false
deriving DecidableEq, Repr

/-- An entry of an epoch record (R342); CP and DOPPLER as integers, PR in 2^-16 m. -/
structure EpochEnt where
  sig : Nat
  svid : Nat
  path : Nat
  flags : Nat
  chan : Nat
  cn0 : Nat
  mp : Nat
  pr : Nat
  gloK : Int
  cp : Int
  dop : Int
  lock : Nat
deriving DecidableEq, Repr

/-- An epoch record (R342). -/
structure EpochRec where
  rate : Nat
  sec : Nat
  ns : Nat
  status : Nat
  hflags : Nat
  pt : Nat
  ents : List EpochEnt
deriving DecidableEq, Repr

/-- GNSS (10) beside its registers: channels, engines, request queues, navigation queue and records dropped since the last
NAV_READ, outstanding reads, pins, consistency check, ticks at which antennas went SHORT, ticks in sequence in which an antenna drew less than 2 mA, the last epoch record with its
tick, dumps left for the next tick, candidates waiting for a channel, device firmware's requests that found their queue full,
tap settings in effect by channel (the words of GNSS_CH_CFG and GNSS_CH_MP at its last dump boundary, R330), failed channels whose signals move at the next tick boundary, with their states before,
channels lost without a spare, the channel in TEST with the tick its test ends, engines lost. -/
structure GnssSt where
  chans : Tab GChan := []
  engines : Tab AcqRun := []
  hostQ : List AcqReq := []
  fwQ : List AcqReq := []
  navQ : List (List Byte) := []
  navDropped : Nat := 0
  measReads : List Desc := []
  navReads : List Desc := []
  pins : List GPin := []
  da : Tab DaSig := []
  calm : Nat := 0
  shortAt : Tab Nat := []
  lowMa : Tab Nat := []
  last : Option (EpochRec × Nat) := none
  backlog : List DumpIn := []
  waiting : List GCand := []
  fwLate : List AcqReq := []
  taps : Tab (Nat × Nat) := []
  failing : List (Nat × Nat) := []
  lost : Nat := 0
  test : Option (Nat × Nat) := none
  engLost : List Nat := []
deriving DecidableEq, Repr

/-- The base position (R355): ECEF in mm, antenna height, POS_STATE. -/
structure BasePos where
  x : Int := 0
  y : Int := 0
  z : Int := 0
  height : Nat := 0
  state : Nat := 0
deriving DecidableEq, Repr

/-- A cell of an MSM epoch (R365): its signal, carrier phase and Doppler at that epoch, whether it has slipped or was lost
since. -/
structure MsmCell where
  sig : Nat
  svid : Nat
  gloK : Int
  cp : Int
  dop : Int
  bad : Bool
deriving DecidableEq, Repr

/-- An MSM epoch: its PT, the antenna that fed it. -/
structure MsmEpoch where
  pt : Nat
  ant : Nat
  iods : Nat
  cells : List MsmCell
deriving DecidableEq, Repr

/-- A running survey (R357): its descriptor, tick of its start, duration, epochs seen and usable, the usable fixes in µm, newest
first, and their sums. -/
structure SurveyRun where
  d : Desc
  start : Nat
  dur : Nat
  seen : Nat := 0
  used : Nat := 0
  fixes : List (Int × Int × Int) := []
  sx : Int := 0
  sy : Int := 0
  sz : Int := 0
  lastAt : Option Nat := none
deriving DecidableEq, Repr

/-- Corrections (11) beside the registers: MSM epochs counted, CHUNK, ticks of the epoch records last taken by MSM_BUILD and
COMPACT_IE_BUILD, tick of the last station messages, 1005 owed with the next MSM epoch, a position waiting for it, REF_ANT in
effect, the last built MSM epoch with the numbers of its RTCM IEs while it does not qualify, the reference epoch with the tick at which it
qualified, the next first cell, a compact IE built and not queued, whether the last epoch produced one, outstanding reads,
a read with the frames of its epoch (and their PT) held for station messages, the survey. -/
structure CorrSt where
  msmCount : Nat := 0
  chunk : Nat := 0
  msmAt : Option Nat := none
  ieAt : Option Nat := none
  stationAt : Option Nat := none
  force1005 : Bool := false
  newPos : Option BasePos := none
  refAnt : Nat := 0
  cand : Option (MsmEpoch × List Nat) := none
  ref : Option (MsmEpoch × Nat) := none
  nextCell : Nat := 0
  ie : Option CorrIe := none
  lastIe : Bool := false
  reads : List Desc := []
  held : Option (Desc × Nat × List (List Byte)) := none
  survey : Option SurveyRun := none
deriving DecidableEq, Repr

/-- The settings of a bank (R553): schema version, credential table, base position, station descriptors, pair key, TCXO
calibration. -/
structure Settings where
  schema : Nat := 0
  creds : Tab Cred := []
  base : BasePos := {}
  descs : List (List Byte) := []
  setup : Nat := 0
  pairKey : Option Nat := none
  tcxo : Option Int := none
deriving DecidableEq, Repr

/-- A flash bank (R540, R561): the container it holds, whether checked and whether not excluded, its counter, version, settings
and mirror ranges and the keys it revokes. -/
structure Bank where
  image : List Byte := []
  valid : Bool := false
  bootable : Bool := true
  arb : Nat := 0
  version : Nat := 0
  schemaLo : Nat := 0
  schemaHi : Nat := 0
  mirLo : Nat := 0
  mirHi : Nat := 0
  revoke : Nat := 0
deriving DecidableEq, Repr

/-- Trial settings of an activation (R548, R549): the bank it comes from. -/
structure TrialSet where
  seconds : Nat
  auto : Bool
  keep : Bool
  prev : Nat
deriving DecidableEq, Repr

/-- An accepted ACTIVATE (R548). -/
structure Activation where
  d : Desc
  set : TrialSet
  force : Bool
  startPt : Nat
  tick : Nat
deriving DecidableEq, Repr

/-- A reset the Update block makes at a tick: PWR cause 5, with the revert cause where it is a revert (R548, R551, R558);
`force` waits for the grant to leave or the tick. -/
structure PlannedReset where
  due : Nat
  revert : Option Nat
  force : Bool
deriving DecidableEq, Repr

/-- Update (18) beside its registers: the bytes received, a scheduled activation, the reset to come, the end of the trial
window with its settings, whether the settings were read. -/
structure UpdSt where
  recv : List Byte := []
  sched : Option Activation := none
  reset : Option PlannedReset := none
  trialEnd : Option Nat := none
  trial : Option TrialSet := none
  settingsRead : Bool := false
deriving DecidableEq, Repr

/-- The states of the test access port's controller (R5: IEEE 1149.1). -/
inductive TapState where
  | reset | idle | selDr | capDr | shDr | ex1Dr | pauDr | ex2Dr | upDr | selIr | capIr | shIr | ex1Ir | pauIr | ex2Ir | upIr
deriving DecidableEq, Repr

/-- A rising edge of TCK with the levels of TRST_N, TMS and TDI, and the levels of the boundary cells' pins. -/
structure TapEdge where
  trstN : Bool
  tms : Bool
  tdi : Bool
  pins : List Bool
deriving DecidableEq, Repr

/-- The test access port (R5): controller, the instruction in effect, none for the BYPASS of a reset, the shift registers, the last bit first out, the
boundary register's output stage, TDO. -/
structure JtagSt where
  tap : TapState := .reset
  inst : Option Nat := none
  ir : List Bool := []
  dr : List Bool := []
  hold : List Bool := []
  tdo : Bool := false
deriving DecidableEq, Repr

/-- Start-up (19): ticks at the begin of the boot and of the phase in progress; held in reset by low VIN; in power-fail
mode, and the ticks in sequence since then with VIN above the restart threshold; the bank booted is on trial, or this boot is a trial's; another bank has been tried; a revert to report (version,
cause); the means of VIN of the last ticks in mV, newest first (R580); the test access port. -/
structure BootSt where
  start : Nat := 0
  phaseStart : Nat := 0
  held : Bool := false
  powerFail : Bool := false
  above : Nat := 0
  trial : Bool := false
  tried : Bool := false
  reverted : Option (Nat × Nat) := none
  vin : List Nat := []
  jtag : JtagSt := {}
deriving DecidableEq, Repr

/-- In-service test (19): tick at which the cycle began, targets covered by each test, tick of each test's last piece by test
and target (test + 16 × target), MCS of the next loopback, consecutive failures of each lane, the shared SRAM's spare bank,
the bank in service for each logical bank and the next one to rotate, the tick at which a copy of it into the spare ran; the
next MRAM block to scrub; the safety core pairs (test numbers) that have passed their self-test library since the reset. -/
structure IstSt where
  start : Nat := 0
  targets : Tab (List Nat) := []
  lastAt : Tab Nat := []
  mcs : Nat := 0
  laneFail : Tab Nat := []
  sharedSpare : Option Nat := some 16
  sharedMap : List Nat := List.range 16
  sharedNext : Nat := 0
  sharedCopy : Option Nat := none
  scrub : Nat := 0
  pairs : List Nat := []
deriving DecidableEq, Repr

end Sys2Proof.Machine
end

