-- ==== Sys2Proof/Machine/PairTypes.lean ====
section
/-! DEFINITION. What survives a reset, the mate link, what the part puts out, mailboxes. -/

namespace Sys2Proof.Machine

/-- What survives a reset (R553, R563): MRAM, the flash banks, the fuses and the real-time clock. `set` is the settings area
of the bank that runs, `areas` those of the banks; `slots` the metering slots; `onTrial` says that the bank the boot
record names is not committed, with the trial settings of its activation; `shardNext` and `shardOldest` are the Shard log's next
SEQ and the oldest kept, which the scan of R530 finds anew. -/
structure NvSt where
  rtc : Option (Nat × Nat) := none
  mapImage : Option (List Byte) := none
  keyId : Option Nat := none
  bkId : Option Nat := none
  set : Settings := {}
  areas : Tab Settings := []
  shard : Tab (List Byte) := []
  shardNext : Nat := 0
  shardOldest : Nat := 0
  slots : Tab MetSlot := []
  metSeq : Nat := 0
  banks : Tab Bank := []
  bootBank : Nat := 0
  onTrial : Option TrialSet := none
  arb : Nat := 0
  revoked : Nat := 0
  mkey : Option Nat := none
  refNext : Nat := 0
  timeouts : Nat := 0
  reverts : Nat := 0
  revertCause : Nat := 0
deriving DecidableEq, Repr

/-- The mirrored state of a tick (R421): typed parts, and registers by offset. Descriptors in it are the active unit's, keys
are wrapped, ticks count from its own reset with `now` its tick. -/
structure Mirror where
  now : Nat
  store : KilnStore
  map : Option SiteMap
  stage : List Byte
  stageSt : Nat
  staged : Option SiteMap
  mapImage : Option (List Byte)
  key : Option Nat
  keyId : Nat
  latches : Stops
  sample : Stops
  arm : Option DamArm
  bursts : Nat
  air : AirTab
  served : Tab Nat × Tab Nat
  bkey : Option Nat
  bkId : Nat
  creds : Tab Cred
  switchAt : Option Nat
  base : BasePos
  descs : List (List Byte)
  setup : Nat
  met : List MetEnergy
  mot : Tab Axis
  axStatus : List Nat
  shard : List ShardEv
  txOk : Bool
  stepped : Bool
  timeState : Nat
  regs : List (Nat × Nat)
deriving DecidableEq, Repr

/-- The body of a mate frame (R417). Times are in ns since the epoch of ST80. -/
inductive MateBody where
  | hello (serial profile lo hi nonce : Nat) (mic : Option Nat)
  | tick (s : Mirror)
  /-- frames of the tick, digest, reception of the previous ACK, this frame's own SFD. DESIGN CHOICE: `items`, the CRC-32C of
  each item of R422, is no part of the frame: R422 has the standby show which items differ and gives it nothing to tell by (log
  entry 62) -/
  | tickEnd (count digest : Nat) (items : List Nat) (ackRx : Option Nat) (stamp : Nat)
  /-- latches after a gain -/
  | latch (s : Stops)
  /-- region 0 Kiln, 1 Air and ledger, 2 the rest; whether it is the transfer's last frame -/
  | bulk (region : Nat) (last : Bool) (s : Mirror)
  /-- last SEQ applied, its TICK_PT, reception of the TICK_END, health, this frame's own SFD -/
  | ack (seq pt rx health stamp : Nat)
  | retx (seq : Nat)
deriving DecidableEq, Repr

end Sys2Proof.Machine

namespace Sys2Proof.Config

open Sys2Proof.Machine

/-- What the bodies of TICK, BULK and LATCH frames hold as bytes: R417 and R421 name their content and give no section types and no
coding (log entry 62). -/
opaque tickBytes : Mirror → List Byte
opaque bulkBytes : Nat → Mirror → List Byte
opaque latchBytes : Stops → List Byte

end Sys2Proof.Config

namespace Sys2Proof.Machine

/-- A mate frame (R416). -/
structure MateFrame where
  version : Nat
  final : Bool
  forward : Bool
  warm : Bool
  seq : Nat
  pt : Nat
  body : MateBody
deriving DecidableEq, Repr

/-- A mate frame as it arrives: whether FCS and CRC hold, and the local stamp of its SFD. -/
structure MateRx where
  f : MateFrame
  crcOk : Bool
  sfd : Nat
deriving DecidableEq, Repr

/-- A pending swap (R431, R432): its descriptor if SWAP asked for it, tick since which it waits and for how long, whether the
notice of R432 has been posted. -/
structure SwapReq where
  d : Option Desc
  since : Nat
  wait : Nat
  noticed : Bool
deriving DecidableEq, Repr

/-- A swap that has begun (R433): its descriptor, ASN of slot H, SEQ of FINAL, tick at which RELINQUISH began. -/
structure SwapRun where
  d : Option Desc
  asn : Nat
  final : Option Nat
  relinq : Option Nat
deriving DecidableEq, Repr

/-- Redundancy (13) beside its registers. -/
structure RedSt where
  /-- next SEQ to send -/
  seqOut : Nat := 0
  /-- the last 512 frames sent, oldest first (R419) -/
  kept : List MateFrame := []
  /-- from H − 3 ms on, Kiln admits nothing and no report is delivered (R433) -/
  hold : Bool := false
  /-- the standby's last measured offset from the active unit's clock, in ns (R428) -/
  tt : Int := 0
  /-- the permit slot at which a planned swap that has begun takes place (R433) -/
  swapH : Option Nat := none
  /-- tick at which the ALIVE code last changed -/
  aliveAt : Nat := 0
  /-- tick at which the ROLE_PREF window ends (R408) -/
  prefEnd : Option Nat := none
  /-- next SEQ to apply, tick of the last valid frame, tick at which a gap was found -/
  seqIn : Nat := 0
  lastRx : Option Nat := none
  gapAt : Option Nat := none
  /-- the mate's accepted HELLO: serial, profile, lowest and highest version -/
  mate : Option (Nat × Nat × Nat × Nat) := none
  /-- own HELLO sent since the link came up, tick of the last one -/
  helloSent : Bool := false
  helloAt : Option Nat := none
  /-- the link has been declared lost (R420) -/
  lost : Bool := false
  /-- frames only an ACTIVE unit sends have been heard since the last HELLO (R408) -/
  mateActive : Bool := false
  /-- active: the last SEQ acknowledged, tick of the last ACK, its reception stamp, warm flag of the standby, SEQ of the
  last BULK frame of a transfer -/
  ackSeq : Option Nat := none
  ackAt : Nat := 0
  ackRx : Option Nat := none
  mateWarm : Bool := false
  /-- active: SEQ and TICK_PT of the TICK_END frames not acknowledged yet, TICK_PT of the last one that is (R423) -/
  ends : List (Nat × Nat) := []
  ackPt : Option Nat := none
  bulkSeq : Option Nat := none
  /-- standby: bulk regions received, a transfer asked for; stamps t1, t2, t3 of the last exchange (R428) -/
  bulk : Nat := 0
  want : Bool := false
  stamps : Option (Nat × Nat × Nat) := none
  /-- standby: TX_OK and clock step of the active unit as last mirrored, FINAL of the last TICK_END -/
  txOk : Bool := false
  mateStepped : Bool := false
  /-- time STATE of the active unit as last mirrored (R421) -/
  mateState : Nat := 0
  finalIn : Bool := false
  /-- standby: synchronised by a planned swap, MATE not yet qualified (R413) -/
  carried : Bool := false
  /-- standby: tick until which it stays warm-eligible after the link is lost (R427) -/
  warmEnd : Option Nat := none
  /-- standby: permit slots missed in sequence (R430), ASN of the last one watched -/
  permitMiss : Nat := 0
  watched : Option Nat := none
  swap : Option SwapReq := none
  run : Option SwapRun := none
  /-- tick from which the swap period runs; none while suspended -/
  periodFrom : Option Nat := none
deriving DecidableEq, Repr

/-- A PTP message the ordinary clock or a switch port sends (R397 to R400), times in half ns. -/
inductive PtpMsg where
  | sync (seq origin : Nat)
  /-- offsetScaledLogVariance, clockClass, clockAccuracy, timeSource, traceable, UTC offset, its validity, leap61, leap59,
  ptpTimescale -/
  | announce (seq prio1 prio2 variance cls acc src : Nat) (trace : Bool) (utc : Nat)
      (utcValid leap61 leap59 timescale : Bool)
  | delayResp (seq clk port rx : Nat)
  | pdelayReq (port seq : Nat)
  | pdelayResp (port seq clk reqPort : Nat)
deriving DecidableEq, Repr

/-- How a PTP message leaves (R397, R399): transport (0 Ethernet, 1 UDP/IPv4, 2 UDP/IPv6) with its EtherType, destination
address, source address (0 on Ethernet), UDP port (0 on Ethernet), whether the two-byte suffix follows, the clockIdentity and
portNumber of its sender, domainNumber. -/
structure PtpVia where
  transport : Nat
  etherType : Nat
  dst : Nat
  src : Nat
  port : Nat
  suffix : Bool
  clk : Nat
  portNumber : Nat
  domain : Nat
deriving DecidableEq, Repr

/-- What the part puts out (model field `out`). -/
inductive Emission where
  /-- a register read's response: master, BAR0 offset, value -/
  | read (master off : Nat) (value : Word)
  /-- the response to a read of the host in another address space: offset, value -/
  | hostRead (space : Space) (off : Nat) (value : Word)
  /-- an MSI-X message -/
  | msix (vector : Nat)
  /-- a frame or ACK on a lane: lane, centre frequency in kHz, conducted power in dBm, MCS, bytes (R228, R246) -/
  | air (lane khz dbm mcs : Nat) (bytes : List Byte)
  /-- a frame in flight cut off -/
  | airCut (lane : Nat)
  /-- PA_EN, LNA_EN and PA_RAMP change, PA_RAMP to a level code (R249, R250) -/
  | pa (en lna : Bool) (ramp : Nat)
  /-- a mate frame (R416), with its bytes on the link (R415) -/
  | mate (f : MateFrame) (bytes : List Byte)
  /-- a PTP message on a transport -/
  | ptp (via : PtpVia) (p : PtpMsg)
  /-- a PTP event message forwarded to a port: the frame with its FCS -/
  | ptpFwd (port : Nat) (frame : List Byte)
  /-- a dock output's pin: driven to a level, or high-impedance (R495) -/
  | dockPin (gpio : Nat) (level : Option Bool)
  /-- a compare output's level changes: 0 PPS_OUT, 1 PPS_OUT2, 2 + g GPIO g (R393, R394) -/
  | compareOut (pin : Nat) (high : Bool)
  /-- a stream queue's word passed to its consumer (R457) -/
  | stream (queue : Nat) (w : StreamWord)
deriving DecidableEq, Repr

/-- Mailboxes and lock registers (14): notices of each channel, oldest first, each of 64 bits; low words captured at
MB_POST_LO, by master, and high words captured at MB_POP_LO, by 16 × channel + master; epochs by master; lock owners, 0 when free. -/
structure MbSt where
  chans : Tab (List (BitVec 64)) := []
  lowWord : Tab Word := []
  highWord : Tab Word := []
  epochs : Tab Nat := []
  owners : Tab Nat := []
deriving DecidableEq, Repr

end Sys2Proof.Machine
end

