-- ==== Sys2Proof/Machine/Operand.lean ====
section
/-! DEFINITION. The operands of the commands. -/

namespace Sys2Proof.Machine

/-- A ring pair or an event ring (R58). -/
inductive RingId where
  | pair (r : Fin 64)
  | events (e : Fin 8)
deriving DecidableEq, Repr

/-- The blocks with an enable bit (R41). -/
inductive Blk where
  | kiln | damper | air | gnss | corr | time | metering | motion | saggar
deriving DecidableEq, Repr

/-- What comes in from outside with a tick: levels of the stop inputs, TJ in 0.25 °C (two's complement), VIN in mV, the
blocks whose restart fails (R16), the agents whose record the S1 pair recomputes differently (R170), the currents of the
antenna biases in mA (R323), the dumps completed in the tick before, oldest first (R328), the metering edges since the last command that brought some, the test port's
clock edges (R5), and of each axis the times in drive, in units of 10 ns, after which the sensed current of coil A and of coil B
reaches the setpoint, one per chopper cycle, that of the cycle in progress first (R504). -/
structure TickIn where
  stopA : BitVec 4
  stopB : BitVec 4
  tj : BitVec 12
  vin : BitVec 13
  restartFails : List Nat
  authBad : List Nat
  maA : BitVec 8
  maB : BitVec 8
  dumps : List DumpIn
  met : List MetEdge
  jtag : List TapEdge
  chop : List (List Nat × List Nat)
deriving DecidableEq, Repr

/-- A navigation unit as it is received (R337): its symbols, the first one first, from the data prompt of a signal with a pilot and
the prompt tap of the others (R324); of a part of a B-CNAV subframe the bits that device firmware has decoded, and whether their
LDPC and check pass. -/
structure NavRaw where
  syms : List Bool
  ldpc : Bool
deriving DecidableEq, Repr

/-- A navigation unit or part (R337): channel, part index and count of a B-CNAV part, D2 instead of D1, what was received, ticks
since the tick in which the last bit ended, and what the other antenna's channel received of the same unit. -/
structure NavUnit where
  chan : Fin 456
  part : BitVec 8
  d2 : Bool
  raw : NavRaw
  age : Nat
  other : Option (Fin 456 × NavRaw)
deriving DecidableEq, Repr

/-- What a channel latches at a measurement epoch (R341, R342): validity flags, a phase discontinuity since the last epoch,
transmit time on the scale of ST80 in 2^-32 ns, code phase in 1/1024 chip, carrier phase, Doppler, and where there is
ephemeris the unit vector from the base to the satellite in local east, north and up, times 2^30 (R345). -/
structure EpochIn where
  chan : Fin 456
  prValid : Bool
  cpValid : Bool
  half : Bool
  jump : Bool
  txTime : Int
  code : Nat
  cp : BitVec 64
  dop : BitVec 32
  dir : Option (Int × Int × Int)
deriving DecidableEq, Repr

/-- One port's copy of a robot's frame (R238, R248): quality with which its SHR was received, RSSI, the SHR start minus its
nominal instant in µs, whether the FCS is good. -/
structure RxCopy where
  quality : Nat
  rssi : Int
  tc : Int
  fcsOk : Bool
deriving DecidableEq, Repr

/-- A robot's frame as it arrives: lane, the copies of RF_A and RF_B (R248), the bytes from the frame control to the last one
before the MIC, those that level 6 encrypts in the clear, and the key and nonce under which the MIC was made; none for a
MIC made under no key (an ideal MIC, log entry 6). -/
structure AirRx where
  lane : Fin 8
  a : Option RxCopy
  b : Option RxCopy
  bytes : List Byte
  mic : Option (Nat × List Byte)
deriving DecidableEq, Repr

/-- A once-per-second measurement of device firmware (R386): the offset of its GNSS time solution (source minus local clock,
ns) with its satellites and flags, the frequency and slew terms it estimates in units of ADDEND, UTC data of navigation messages:
the offset, and a leap second they announce (whether one is inserted, the TAI second that is the inserted one or that follows the
one left out). -/
structure TimeMeas where
  gnss : Option Int
  sats : Nat
  integ : Bool
  freq : Int
  slew : Int
  utc : Option (BitVec 16 × Option (Bool × Nat))
deriving DecidableEq, Repr

/-- A power-on (R562, R563): whether a Shard record was being written as the power left, whether VBAT_RTC has been supplied
without a break, how long the power was away in ms. -/
structure PowerUp where
  torn : Bool
  vbat : Bool
  away : Nat
deriving DecidableEq, Repr

/-- What a device block does with its cell queue (R444, R445): cells it has dequeued since it last enqueued, the places among them
of cells with an uncorrectable error, the cells it enqueues. -/
structure DeviceCells where
  taken : Nat
  bad : List (Fin 1024)
  cells : List (BitVec 512)
deriving DecidableEq, Repr

/-- A dip of VIN (R491, R580): VIN in mV, whether the save's write to MRAM succeeds. -/
structure PowerDip where
  vin : BitVec 13
  saved : Bool
deriving DecidableEq, Repr

/-- A received Delay_Req or Pdelay_Req: port, sequence id, source identity and port, receipt time in half ns. -/
structure PtpReq where
  seq : BitVec 16
  clk : BitVec 64
  port : BitVec 16
  rx : Nat
deriving DecidableEq, Repr

/-- A PTP event message in the switch (R400): ingress and egress port (0 ETH_A, 1 ETH_B, 2 internal), stamps in half ns, the frame
from its destination address to the last byte before its FCS. -/
structure PtpFwd where
  inp : Fin 3
  outp : Fin 3
  rx : Nat
  tx : Nat
  frame : List Byte
deriving DecidableEq, Repr

/-- A received Pdelay_Resp (R400): sequence id, receipt time in half ns, the peer's turnaround in half ns. -/
structure PtpResp where
  seq : BitVec 16
  rx : Nat
  turn : Nat
deriving DecidableEq, Repr

end Sys2Proof.Machine
end

