-- ==== Sys2Proof/Syntax.lean ====
section
/-! DEFINITION. The commands of the FB512: one constructor for each row of spec/opcode_table.json, in its order. -/

namespace Sys2Proof

open Sys2Proof.Machine

/-- A command. -/
inductive Instr where
  /-- TICK (R25): The time unit starts a new 1 ms tick at each whole millisecond of the local clock and distributes the tick index and ASN to every block. -/
  | tick (inp : TickIn)
  /-- GUARD_POINT_OVERRUN (R28): At the guard point 10 µs before the next tick, a block that still has work for the tick raises a tick-overrun fault and sets OVERRUN. -/
  | guardPointOverrun (b : Fin 33)
  /-- CELL_FAULT_DETECTED (R16): A cell check finds an ECC or parity error, makes one local retry, and reports an uncorrectable error if the retry fails. -/
  | cellFaultDetected (b : Fin 34) (corrected : Bool) (spare : Bool) (cell : Nat)
  /-- INTC_INJECT (R47): A write to INTC_INJECT injects a test fault into a block only while the site stop is latched, and is otherwise counted as refused. -/
  | intcInject (v : BitVec 32)
  /-- REGISTER_WRITE (R8): A write to a register with no row of its own updates its RW, W1C, W1S or RWS fields according to their access codes. -/
  | registerWrite (m : Fin 16) (space : Space) (off : Nat) (v : BitVec 32)
  /-- READ_CLEAR_REGISTER_READ (R8): A read of an RC register returns its value and clears it. -/
  | readClearRegisterRead (m : Fin 16) (space : Space) (off : Nat)
  /-- WIDE_VALUE_LOW_WORD_READ (R6): A read of the low word of a 64-bit value captures the high word for the next read of the high word by the same master. -/
  | wideValueLowWordRead (m : Fin 16) (off : Nat)
  /-- BLOCK_ENABLE (R42): Writing 1 to a block's enable bit outside a drain lets the block accept operations. -/
  | blockEnable (b : Blk)
  /-- BLOCK_DISABLE (R41): Writing 0 to a block's enable bit starts a drain that finishes started work, flushes queued work and refuses new descriptors. -/
  | blockDisable (b : Blk)
  /-- DRAIN_COMPLETE (R42): When a drain ends the enable bit falls to 0, DRAINING clears and the set-up phase begins. -/
  | drainComplete (b : Blk)
  /-- RING_PAIR_ENABLE (R60): Writing ENABLE = 1 to a disabled ring pair brings it into service with all indices at 0 and phase 1. -/
  | ringPairEnable (r : Fin 64)
  /-- EVENT_RING_ENABLE (R61): Writing ENABLE = 1 to a disabled event ring brings it into service, subject to the same configuration checks. -/
  | eventRingEnable (e : Fin 8)
  /-- RING_DISABLE (R82): Writing ENABLE = 0 to a ring drains it, writes every completion into its reserved slot and returns it to DISABLED with indices at 0. -/
  | ringDisable (r : RingId)
  /-- SUBMISSION_DOORBELL (R75): A write to a submission doorbell moves the tail and adds descriptors, or halts the ring pair when the value breaks the ring size or outstanding limit. -/
  | submissionDoorbell (r : Fin 64) (v : BitVec 16)
  /-- COMPLETION_DOORBELL (R75): A write to a completion doorbell releases completion slots, or halts the ring pair when the head is out of range. -/
  | completionDoorbell (r : Fin 64) (v : BitVec 16)
  /-- EVENT_RING_DOORBELL (R75): A write to an event ring doorbell releases event entries, or halts the event ring when the head is out of range. -/
  | eventRingDoorbell (e : Fin 8) (v : BitVec 16)
  /-- DESCRIPTOR_FETCH (R63): The host interface fetches up to 8 descriptors from an enabled ring in weighted round-robin once completion slots are reserved, and delivers them in ring order. -/
  | descriptorFetch (r : Fin 64) (n : Fin 9) (err : Bool) (lat : Nat)
  /-- INTERRUPT_COALESCE_TIMEOUT (R79): A vector sends its message TIME µs after the first entry not yet signalled. -/
  | interruptCoalesceTimeout (v : Fin 64)
  /-- MSIX_VECTOR_UNMASK (R79): Unmasking a vector with its pending bit set sends one message. -/
  | msixVectorUnmask (v : Fin 64)
  /-- PCIE_LINK_DOWN (R54): On link down, hot reset or function-level reset, host-interface registers reset and all rings become DISABLED without further memory writes. -/
  | pcieLinkDown (after : Option (Fin 4 × Fin 5))
  /-- BUS_MASTER_DISABLE (R54): Clearing bus master enable or entering D3hot halts every running ring with CAUSE 5 and discards later completions. -/
  | busMasterDisable (d3 : Bool)
  /-- BUS_MASTER_ENABLE (R79): Setting bus master enable again in D0 sends one message for each vector with its pending bit set and unmasked. -/
  | busMasterEnable
  /-- NOP (R85): The host interface completes OK, echoing descriptor bytes 16 to 23. -/
  | nop (d : Desc)
  /-- GET_TIME (R85): The host interface completes with the ST80 time and time status at completion. -/
  | getTime (d : Desc)
  /-- LOAD_MAP (R105): Kiln takes one chunk of a Jasper map image into staging and runs the record pass on it. -/
  | loadMap (d : Desc)
  /-- COMMIT_MAP (R108): As the last operation of its tick, Kiln commits a VALID staged map with matching MAP_ID and MAP_REV if it is compatible with the store. -/
  | commitMap (d : Desc)
  /-- MAP_PERSIST_DONE (R114): The MRAM map write ends with the header written last, PERSIST_BUSY falls and a waiting LOAD_MAP may proceed. -/
  | mapPersistDone
  /-- KILN_ROTATION_STEP (R117): The spare Kiln bank is march-tested and the next logical bank is copied into it with writes mirrored to both banks. -/
  | kilnRotationStep (ok : Bool)
  /-- BANK_RENAME (R117): At the first tick boundary after a copy completes, the rename table maps the logical bank to the new physical bank and the old one becomes the spare. -/
  | bankRename
  /-- ADMIT (R131): Kiln admits a robot anchored at a free holding node, or a fixture agent for a fixture number. -/
  | admitAgent (d : Desc)
  /-- RESERVE_PATH (R132): Kiln checks a path and either appends it to the agent's chain, parks it, or denies it. -/
  | reservePath (d : Desc)
  /-- RELEASE_BEHIND (R143): Kiln releases the chain resources in front of REAR, or the whole releasable chain with ALL. -/
  | releaseBehind (d : Desc)
  /-- TRUNCATE (R144): Kiln removes the chain resources after NEW_END and withdraws any parked request unless a removed resource is in the reach. -/
  | truncate (d : Desc)
  /-- CANCEL (R145): Kiln removes the agent's parked request if one exists. -/
  | cancel (d : Desc)
  /-- RECOVER (R147): Kiln re-anchors a SILENT or stopped agent in its chain or at a holding node once its reach is empty. -/
  | recover (d : Desc)
  /-- RETIRE (R148): Kiln moves the agent to RETIRING and releases its chain and quarantines its index once its reach is empty. -/
  | retire (d : Desc)
  /-- QUERY_AGENT (R151): Kiln returns the agent's state, flags, chain length and chain ends. -/
  | queryAgent (d : Desc)
  /-- QUERY_RESOURCE (R152): Kiln returns a resource's attributes and one of its group queues. -/
  | queryResource (d : Desc)
  /-- SNAPSHOT (R153): Kiln copies a section of its store, as at the end of the tick, into a host buffer within 20 ms. -/
  | snapshot (d : Desc)
  /-- PARK_EVALUATION (R140): Park service evaluates a parked request in park order, granting it, keeping it or withdrawing it. -/
  | parkEvaluation
  /-- PARK_LIMIT_EXPIRY (R141): A request still parked at the end of park service in tick p + PARK_LIMIT is withdrawn with outcome 4. -/
  | parkLimitExpiry (a : Fin 512)
  /-- KILN_PROGRESS_REPORT (R142): Kiln applies a robot's progress report by removing every chain resource in front of REAR, or ignores and counts it. -/
  | kilnProgressReport
  /-- HELD_OPERATION_EFFECT (R146): A held RECOVER or RETIRE is rechecked and takes effect within one tick after the agent's reach becomes empty. -/
  | heldOperationEffect (a : Fin 512)
  /-- AUTO_RELEASE (R150): An agent SILENT for AUTOREL_S seconds with automatic release armed is retired by Kiln and an event is posted. -/
  | autoRelease (a : Fin 512)
  /-- QUARANTINE_END (R258): After QUAR_S seconds a quarantined index becomes FREE with its advanced generation. -/
  | quarantineEnd (a : Fin 512)
  /-- AUTHORITY_EXPIRY (R171): When PT reaches a record's EXPIRY_PT it leaves the reach and its Air entry is emptied. -/
  | authorityExpiry (a : Fin 512)
  /-- STOP_INPUT_ASSERT (R202): A used stop input asserts when either channel goes low and sets the latch of its scope. -/
  | stopInputAssert (n : Fin 4) (a : Bool) (b : Bool)
  /-- STOP_INPUT_CLEAR (R202): A stop input becomes clear once both channels have been high for 20 ms without a break. -/
  | stopInputClear (n : Fin 4)
  /-- DISCREPANCY_SET (R203): When the channels of a used input differ for 10 ms the discrepancy latch sets, source 4 asserts and an event is posted. -/
  | discrepancySet (n : Fin 4)
  /-- DISCREPANCY_CLEAR (R203): The discrepancy latch clears after both channels were low together and then high for 20 ms. -/
  | discrepancyClear (n : Fin 4)
  /-- WATCHDOG_EXPIRY (R189): The armed host watchdog fires when no WDOG_KICK completes within TIMEOUT_MS and asserts a site stop. -/
  | watchdogExpiry
  /-- SAFETY_SITE_REQUEST (R190): A write of SITE by its own safety core pair sets or withdraws a level site stop request. -/
  | safetySiteRequest (m : Fin 16) (s1 : Bool) (v : BitVec 32)
  /-- SAFETY_AGENT_STOP_REQUEST (R190): A write of AGENT_SET by its own safety core pair sets the agent latch of INDEX. -/
  | safetyAgentStopRequest (m : Fin 16) (s1 : Bool) (v : BitVec 32)
  /-- SAFETY_ZONE_STOP_REQUEST (R190): A write of ZONE_SET by its own safety core pair sets the zone latch of ZONE. -/
  | safetyZoneStopRequest (m : Fin 16) (s1 : Bool) (v : BitVec 32)
  /-- STOP (R220): Damper latches a site, zone or agent stop from host software in either role. -/
  | stop (d : Desc)
  /-- RELEASE_ARM (R205): Damper arms a release of latched stops whose covering level sources are clear and returns a ticket. -/
  | releaseArm (d : Desc)
  /-- RELEASE_CONFIRM (R205): Damper accepts a confirm with the arm's ticket between 500 and 10,000 ticks after the arm. -/
  | releaseConfirm (d : Desc)
  /-- RELEASE_ABANDON (R220): Damper cancels the current release arm. -/
  | releaseAbandon (d : Desc)
  /-- WDOG_KICK (R189): Damper restarts the host watchdog and returns the time that was left. -/
  | wdogKick (d : Desc)
  /-- LATCH_RELEASE (R205): At the tick boundary after an accepted confirm the named latches clear and outputs return to run if the unit holds grant. -/
  | latchRelease
  /-- ARM_LAPSE (R206): An arm without a confirm by 10,000 ticks lapses and an event is posted. -/
  | armLapse
  /-- FIX_EN_DELAY_EXPIRY (R214): DELAY_MS after the site latch sets, FIX_EN_N is released. -/
  | fixEnDelayExpiry
  /-- DAMPER_SELF_TEST (R208): Every 100 ms Damper pulses each stop input channel and internal entry in ten steps and checks the path with blanked outputs. -/
  | damperSelfTest (fail : Option (Fin 10 × Fin 3))
  /-- OUTPUT_PIN_MISMATCH (R211): A stop or fixture output whose ball level differs from its drive for more than 1 ms is a self-test failure. -/
  | outputPinMismatch (pin : Fin 3)
  /-- GRANT_REMOVED (R413): GRANT_N going high at the ACTIVE unit closes its gate, releases its outputs and makes it STANDBY. -/
  | grantRemoved
  /-- GRANT_ACQUIRED (R414): GRANT_N low for 10 µs makes a STANDBY or start-up unit ACTIVE, applies received mirror frames and drives ROLE high. -/
  | grantAcquired
  /-- SLOT_START (R232): At each slot start the ASN increments and each lane sets its channel from the hop permutation. -/
  | slotStart
  /-- STOP_CONTENT_SAMPLE (R199): 50 µs after slot start Damper samples the latches for the slot's permit or burst content. -/
  | stopContentSample
  /-- TRANSMIT_WINDOW (R232): At 200 µs each served lane sends its frame for the slot kind, or listens for robot frames. -/
  | transmitWindow
  /-- ACK_WINDOW (R233): At 2,900 µs the base acknowledges good robot frames with a time correction, or listens for robot ACKs. -/
  | ackWindow
  /-- SLOT_BANK_SWITCH_REQUEST (R236): Writing 1 to AIR_SF_CTRL.SWITCH requests an exchange of slot-kind banks. -/
  | slotBankSwitchRequest
  /-- SLOT_BANK_EXCHANGE (R236): At the due slotframe start the slot-kind banks exchange and SWITCH clears. -/
  | slotBankExchange
  /-- AIR_ENABLE (R230): An enable write to AIR_CTRL is refused with CFG_ERR when hop offsets collide or the PAN ID is unset. -/
  | airEnable
  /-- TX_LIMIT_TRIP (R247): A transmission reaching a dwell or duration limit is cut off, counted and reported by an event. -/
  | txLimitTrip (x : Fin 8)
  /-- LANE_CLOSE (R253): A lane whose modem failed closes at the first slotframe start at which no robot has it as home. -/
  | laneClose (x : Fin 8)
  /-- JOIN_REQUEST_RECEIVED (R274): The base acknowledges a valid join request with a higher JOIN_CTR and queues a response. -/
  | joinRequestReceived (rx : AirRx)
  /-- ROBOT_ACK_RECEIVED (R278): The base receives a robot's ACK of a unicast frame, join response or lane move in the ACK window. -/
  | robotAckReceived (rx : AirRx)
  /-- JOIN_TIMEOUT (R278): A join not completed within 2 s of the first send fails and a pending new index is quarantined. -/
  | joinTimeout (x : Fin 8) (eui : BitVec 64)
  /-- ADMISSION_TIMEOUT (R281): A JOINED robot not admitted within ADMIT_S seconds loses its membership. -/
  | admissionTimeout (a : Fin 512)
  /-- UPLINK_MISSED (R280): At the end of a scheduled uplink with no verified frame the miss is counted, and on the third the agent is reported SILENT or its membership ends. -/
  | uplinkMissed (x : Fin 8)
  /-- LANE_MOVE_EFFECTIVE (R284): At EFFECTIVE_ASN the old seat is freed if the move was acknowledged, otherwise the move stays unresolved with both seats held. -/
  | laneMoveEffective (a : Fin 512)
  /-- CRED_WRITE (R286): The Air region writes or replaces a credential table entry. -/
  | credWrite (d : Desc)
  /-- CRED_REMOVE (R286): The Air region removes a credential entry that holds no index. -/
  | credRemove (d : Desc)
  /-- CRED_QUERY (R286): The Air region returns a credential entry's settings, counter and held reference. -/
  | credQuery (d : Desc)
  /-- MOVE_LANE (R282): The Air region schedules a member's move to another open lane at EFFECTIVE_ASN. -/
  | moveLane (d : Desc)
  /-- EVICT (R286): The Air region ends the membership of a JOINED index. -/
  | evict (d : Desc)
  /-- QUERY_MEMBER (R286): The Air region returns a member's EUI-64, lane, seat and miss count. -/
  | queryMember (d : Desc)
  /-- UPLINK_DATA_FRAME (R302): The base accepts and acknowledges a robot's uplink data frame in its planned UP slot, or drops it. -/
  | uplinkDataFrame (rx : AirRx)
  /-- ACK_MISSING (R303): A unicast frame from the base without a valid ACK is owed a retry in a later DOWN slot. -/
  | ackMissing (x : Fin 8)
  /-- TASK_OFFER (R317): The Air region creates or renews a ledger entry for a task payload to one robot. -/
  | taskOffer (d : Desc)
  /-- TASK_QUERY (R317): The Air region returns a ledger entry's state, reason and agent. -/
  | taskQuery (d : Desc)
  /-- TASK_FORGET (R317): The Air region frees a final ledger entry. -/
  | taskForget (d : Desc)
  /-- TASK_OFFER_TIMEOUT (R312): An entry still OFFERED after OFFER_S seconds becomes TIMED_OUT and the offer completes with TASK_TIMEOUT. -/
  | taskOfferTimeout (e : Fin 4096)
  /-- TASK_DONE_TIMEOUT (R312): An accepted or started entry not done within DONE_S seconds becomes TIMED_OUT. -/
  | taskDoneTimeout (e : Fin 4096)
  /-- ANTENNA_OPEN (R323): A bias current below 2 mA for 100 ms sets the OPEN condition and posts an event. -/
  | antennaOpen (a : Fin 2) (ma : BitVec 8)
  /-- ANTENNA_SHORT (R323): A bias current above 80 mA switches the bias off within 50 µs, sets SHORT and posts an event. -/
  | antennaShort (a : Fin 2) (ma : BitVec 8)
  /-- ANTENNA_BIAS_RETRY (R323): Every second a shorted antenna's bias is retried. -/
  | antennaBiasRetry (a : Fin 2) (ma : BitVec 8)
  /-- CHANNEL_ASSIGN (R327): Device firmware assigns a waiting candidate signal to a free channel. -/
  | channelAssign (sig : Fin 16) (svid : BitVec 8) (path : Fin 6) (k : BitVec 8) (elev : Option Int) (alm : Fin 3)
  /-- CHANNEL_RELEASE (R327): An unpinned channel is released to IDLE when its satellite falls below the mask or it has been out of lock for 10 s. -/
  | channelRelease (c : Fin 456) (elev : Option Int)
  /-- CHANNEL_TAP_WRITE (R330): A write to a channel's tap registers takes effect at the channel's next dump boundary. -/
  | channelTapWrite (m : Fin 16) (c : Fin 456) (mp : Bool) (v : BitVec 32)
  /-- PULL_IN_LOCK (R329): A channel in PULL_IN reaches code and carrier lock and becomes TRACKING. -/
  | pullInLock (c : Fin 456) (cn0 : BitVec 8)
  /-- LOSS_OF_LOCK (R329): A channel whose C/N0 stays below DROP_CN0 for 1 s leaves lock and returns to PULL_IN with an acquisition request. -/
  | lossOfLock (c : Fin 456) (cn0 : BitVec 8) (alm : Fin 3)
  /-- ACQ_SEARCH_START (R334): A free acquisition engine takes the head of the host queue, or else the firmware queue. -/
  | acqSearchStart (e : Fin 16)
  /-- ACQ_DWELL_COMPLETE (R333): After each dwell the engine tests the best metric, confirms a detection, or ends the search as found or not found. -/
  | acqDwellComplete (e : Fin 16) (metric : BitVec 16) (cell : Fin 64) (dc : BitVec 10) (dd : BitVec 8)
  /-- NAV_UNIT_DECODED (R337): A decoded and checked navigation unit is delivered as records to the queue and to device firmware. -/
  | navUnitDecoded (u : NavUnit)
  /-- MEASUREMENT_EPOCH (R341): At each epoch every channel latches its NCO state and the sequencer builds the epoch record. -/
  | measurementEpoch (l : List EpochIn)
  /-- MEAS_READ (R348): The GNSS block writes the next epoch record into a host buffer. -/
  | measRead (d : Desc)
  /-- NAV_READ (R348): The GNSS block writes queued navigation records into a host buffer. -/
  | navRead (d : Desc)
  /-- ACQ_SEARCH (R349): The GNSS block queues one aided search for an acquisition engine. -/
  | acqSearch (d : Desc)
  /-- TRACK_PIN (R350): The GNSS block pins a signal on the paths of its mask regardless of elevation. -/
  | trackPin (d : Desc)
  /-- TRACK_UNPIN (R350): The GNSS block removes a signal's pin on every path. -/
  | trackUnpin (d : Desc)
  /-- SET_BASE_POS (R356): The encoder sets the base position, effective at the next MSM epoch with a station message. -/
  | setBasePos (d : Desc)
  /-- SURVEY (R357): The encoder withdraws the position and starts a survey of DURATION_S seconds. -/
  | survey (d : Desc)
  /-- SURVEY_FIX (R357): Once per second during a survey device firmware computes a single-point fix and counts usable epochs. -/
  | surveyFix (fix : Option (Int × Int × Int)) (sats : Nat)
  /-- SURVEY_END (R357): At the end of the duration the survey sets the mean position or fails. -/
  | surveyEnd
  /-- RTCM_READ (R372): The GNSS block writes the next MSM epoch's RTCM frames or the next compact IE into a host buffer. -/
  | rtcmRead (d : Desc)
  /-- SET_DESCRIPTORS (R371): The encoder sets the antenna and receiver descriptor strings. -/
  | setDescriptors (d : Desc)
  /-- MSM_BUILD (R363): In the tick after an MSM epoch's record the encoder builds its MSM7 messages into the RTCM stream. -/
  | msmBuild
  /-- STATION_MESSAGE_BUILD (R363): Every STATION_S seconds the encoder builds the station messages in the tick after a non-MSM epoch. -/
  | stationMessageBuild
  /-- COMPACT_IE_BUILD (R366): At each epoch the encoder builds one compact correction IE of carrier residuals against the reference epoch. -/
  | compactIeBuild
  /-- COMPACT_IE_ENQUEUE (R369): The compact IE enters the broadcast queue at the start of the next tick, displacing any older one. -/
  | compactIeEnqueue
  /-- COMPACT_IE_DEADLINE (R369): An IE not sent on a lane by EPOCH_PT + 17.5 ms leaves the queue and is counted as discarded. -/
  | compactIeDeadline
  /-- TIME_MEASUREMENT (R386): Once per second device firmware measures source offsets, tests qualification and loss, and sets ADDEND. -/
  | timeMeasurement (inp : TimeMeas)
  /-- TIME_ADDEND_WRITE (R390): In manual mode a write to TIME_ADDEND is limited and takes effect at the next tick boundary. -/
  | timeAddendWrite (m : Fin 16) (v : BitVec 32)
  /-- TIME_NOW_READ (R404): A read of TIME_NOW_NS captures the seconds for that master's next reads of TIME_NOW_S. -/
  | timeNowRead (m : Fin 16)
  /-- SET_FREE_TIME (R383): The time unit makes a host-forced free start to the given ST80 if no step has been made. -/
  | setFreeTime (d : Desc)
  /-- SET_EXT_TOD (R402): The time unit takes the TAI seconds of the next PPS_IN edge for the EXTERNAL source. -/
  | setExtTod (d : Desc)
  /-- COMPARE_SET (R394): The time unit arms a one-shot compare target in FULL or WRAP mode. -/
  | compareSet (d : Desc)
  /-- COMPARE_CANCEL (R402): The time unit withdraws an armed target and completes its COMPARE_SET with CANCELLED. -/
  | compareCancel (d : Desc)
  /-- CAPTURE_READ (R402): The time unit writes held capture entries of the masked channels into a host buffer. -/
  | captureRead (d : Desc)
  /-- CAPTURE_INPUT_EDGE (R391): An enabled capture channel time-stamps an input edge or frame SFD into its FIFO. -/
  | captureInputEdge (k : Fin 16) (ns : Fin 1000000) (half : Bool) (falling : Bool)
  /-- COMPARE_MATCH (R394): At a one-shot target the output goes active and the COMPARE_SET completes. -/
  | compareMatch (k : Fin 16)
  /-- COMPARE_PERIODIC_PULSE (R394): A periodic channel drives its output active at each multiple of its period. -/
  | comparePeriodicPulse (k : Fin 16)
  /-- COMPARE_PULSE_END (R394): After WIDTH_US a compare output returns to its inactive level. -/
  | comparePulseEnd (k : Fin 16)
  /-- PTP_SYNC_SEND (R397): At each sync interval the grandmaster sends a one-step Sync. -/
  | ptpSyncSend
  /-- PTP_ANNOUNCE_SEND (R398): At each announce interval the grandmaster sends an Announce with its current clock quality. -/
  | ptpAnnounceSend
  /-- DELAY_REQ_RECEIVED (R397): In E2E mode the grandmaster answers a Delay_Req with a Delay_Resp. -/
  | delayReqReceived (f : PtpReq)
  /-- PDELAY_REQ_SEND (R397): In P2P mode each port sends Pdelay_Req at its interval to measure link delay. -/
  | pdelayReqSend (p : Fin 2) (tx : Nat)
  /-- PDELAY_REQ_RECEIVED (R397): In P2P mode a port answers a Pdelay_Req with a one-step Pdelay_Resp. -/
  | pdelayReqReceived (p : Fin 2) (f : PtpReq)
  /-- FOREIGN_ANNOUNCE_RECEIVED (R397): An Announce from a foreign master is counted and posts an event without being obeyed. -/
  | foreignAnnounceReceived (p : Fin 2) (clk : BitVec 64)
  /-- PTP_EVENT_FORWARD (R400): The switch forwards a PTP event message, adding residence time and link delay to correctionField and keeping the frame valid. -/
  | ptpEventForward (f : PtpFwd)
  /-- HEALTH_WORD_TIMEOUT (R407): When firmware, S0 or S1 misses two consecutive health-word refreshes the unit enters the chip safe state. -/
  | healthWordTimeout (w : Fin 3)
  /-- RELINQUISH_HOLD_END (R407): 100 ms after a unit in the chip safe state began RELINQUISH it holds ALIVE low until reset. -/
  | relinquishHoldEnd
  /-- ROLE_PREF_WINDOW_END (R408): ROLE stops showing ROLE_PREF and shows the role once the unit is granted, sees the mate ACTIVE or 1 s passes. -/
  | rolePrefWindowEnd
  /-- MATE_HELLO_SEND (R417): Every 10 ms in DOWN or HELLO state a unit sends a HELLO frame. -/
  | mateHelloSend
  /-- MATE_HELLO_RECEIVED (R418): A unit verifies a HELLO, compares profiles and versions and either pairs or becomes INCOMPATIBLE. -/
  | mateHelloReceived (x : MateRx)
  /-- MATE_TICK_RECEIVED (R421): A standby applies a TICK frame's sections in SEQ order to its own state. -/
  | mateTickReceived (x : MateRx)
  /-- MATE_TICK_END_RECEIVED (R422): A standby checks the configuration digest and time stamps of a TICK_END and acknowledges it. -/
  | mateTickEndReceived (x : MateRx)
  /-- MATE_LATCH_RECEIVED (R417): A standby applies a LATCH frame's latch gains and acknowledges it. -/
  | mateLatchReceived (x : MateRx)
  /-- MATE_BULK_RECEIVED (R426): A standby writes a BULK frame's region data into its own state. -/
  | mateBulkReceived (x : MateRx)
  /-- MATE_ACK_RECEIVED (R423): The active unit records the standby's acknowledgement and releases authority records held for it. -/
  | mateAckReceived (x : MateRx)
  /-- STOP_COMPLETION_TIMEOUT (R424): 100 µs after a LATCH frame was sent the pending STOP completion is written. -/
  | stopCompletionTimeout
  /-- MATE_RETX_REQ_RECEIVED (R419): The active unit resends its kept frames from the requested SEQ. -/
  | mateRetxReqReceived (x : MateRx)
  /-- RETX_GAP_TIMEOUT (R419): A SEQ gap not filled within 2 ticks makes the standby leave SYNC for bulk resynchronisation. -/
  | retxGapTimeout
  /-- MATE_LINK_LOSS (R420): No valid mate frame for three ticks sets the mirror state DOWN, clears the mate source and restarts HELLO. -/
  | mateLinkLoss
  /-- MATE_ACK_LATE (R423): An ACK 2 ticks late makes the active unit's mirror state HOLDING. -/
  | mateAckLate
  /-- MATE_ACK_STALE (R423): No ACK for 25 ticks makes the mirror state STALE and releases held records. -/
  | mateAckStale
  /-- WARM_ELIGIBILITY_EXPIRY (R427): 20 ticks after its last valid frame a standby that lost the link ceases to be warm-eligible. -/
  | warmEligibilityExpiry
  /-- BULK_RESYNC_COMPLETE (R426): When the last BULK frame is applied the standby's copy is exact and it may become synchronised. -/
  | bulkResyncComplete
  /-- PERMIT_WATCH_SLOT (R430): A synchronised standby judges each permit slot and drives PERMIT_LOSS after three missed slots. -/
  | permitWatchSlot (l : List AirRx)
  /-- PERIODIC_SWAP_DUE (R431): PERIOD_H hours after synchronisation or the last swap a planned swap becomes pending. -/
  | periodicSwapDue
  /-- SWAP_QUIET_POINT (R432): A pending swap starts at the first tick boundary meeting every quiet-point condition and chooses slot H. -/
  | swapQuietPoint
  /-- SWAP_WAIT_NOTICE (R432): A periodic swap that finds no quiet point within 1 h posts an event and keeps waiting. -/
  | swapWaitNotice
  /-- SWAP_FINAL (R433): At H − 3 ms the active unit stops admitting operations and sends TICK frames and a FINAL TICK_END. -/
  | swapFinal
  /-- SWAP_ABANDON (R433): A swap whose FINAL is unacknowledged by H − 2 ms, or whose grant has not moved 20 ms after RELINQUISH, is abandoned. -/
  | swapAbandon
  /-- SWAP (R440): The Redundancy block requests a planned swap at the next quiet point. -/
  | swap (d : Desc)
  /-- RESYNC (R440): A standby starts or restarts bulk resynchronisation. -/
  | resync (d : Desc)
  /-- PAIR_SET (R440): The Redundancy block writes the pair key to MRAM while the mate link is off. -/
  | pairSet (d : Desc)
  /-- SWAP_PERIOD_WRITE (R443): A write to PERIOD_H takes effect at once and may make a periodic swap pending immediately. -/
  | swapPeriodWrite (v : BitVec 32)
  /-- ENQUEUE (R452): Saggar appends COUNT cells from a host buffer to a host queue atomically. -/
  | enqueue (d : Desc) (bad : List (Fin 1024))
  /-- DEQUEUE (R453): Saggar writes cells from a host queue into a buffer as soon as the queue holds a cell. -/
  | dequeue (d : Desc) (bad : List (Fin 1024))
  /-- DEQUEUE_WAIT_EXPIRY (R453): A DEQUEUE whose queue stays empty for WAIT_TICKS completes with EMPTY. -/
  | dequeueWaitExpiry (q : Fin 1024)
  /-- QUEUE_SET (R450): Saggar enables, disables, flushes or disables and flushes one queue. -/
  | queueSet (d : Desc)
  /-- DEVICE_ENQUEUE (R445): A device block enqueues cells to a device queue, or the refusal is counted in SAG_INT_REFUSED. -/
  | deviceEnqueue (q : Fin 512) (x : DeviceCells)
  /-- QUEUE_IDLE_TIMEOUT (R449): A queue non-empty for TIMEOUT ticks without a dequeue sets TMO_SEEN and posts an event. -/
  | queueIdleTimeout (q : Fin 1024)
  /-- STREAM_CLOSE (R458): A producer closes its stream, padding and marking the last word with CLOSE. -/
  | streamClose (q : Fin 32) (data : List (BitVec 8))
  /-- STREAM_IDLE_TIMEOUT (R458): After IDLE_CYC producer cycles without a write a partial word is padded and passed on. -/
  | streamIdleTimeout (q : Fin 32) (data : List (BitVec 8))
  /-- MAILBOX_POST_LOW (R461): A write to MB_POST_LO captures ADDR[31:0] in a register kept for that master. -/
  | mailboxPostLow (m : Fin 16) (v : BitVec 32)
  /-- MAILBOX_POST (R461): A write to MB_POST_HI posts a notice with the master's captured low word, or drops it on a full channel. -/
  | mailboxPost (m : Fin 16) (ch : Fin 64) (v : BitVec 32)
  /-- MAILBOX_POP (R462): A read of MB_POP_LO removes the head notice and captures its high word for that master. -/
  | mailboxPop (m : Fin 16) (ch : Fin 64)
  /-- MASTER_RESET (R463): A master's reset advances its epoch and discards the notices of channels it receives. -/
  | masterReset (m : Fin 16)
  /-- LOCK_ACQUIRE_READ (R465): A read of LOCK_k acquires a free lock or returns its owner. -/
  | lockAcquireRead (m : Fin 16) (k : Fin 64)
  /-- LOCK_RELEASE_WRITE (R466): A write of 0 by the owner releases the lock, and any other write is ignored and counted. -/
  | lockReleaseWrite (m : Fin 16) (k : Fin 64) (v : BitVec 32)
  /-- ZERO_CROSSING (R476): A voltage sign change beyond hysteresis is detected, and in AC a rising crossing assigns the line period's energy. -/
  | zeroCrossing (d : Fin 16) (rising : Bool) (l : List MetEdge)
  /-- LINE_LOST (R477): An AC element with no crossing for ZC_TMO returns to DC, sets LINE_LOST and posts an event. -/
  | lineLost (d : Fin 16)
  /-- PULSE_START (R487): An owed pulse starts at the first tick boundary at which the output is free. -/
  | pulseStart (d : Fin 16)
  /-- PULSE_END (R486): A pulse output returns inactive after WIDTH. -/
  | pulseEnd (d : Fin 16)
  /-- METER_SAVE (R490): Every 10 ticks the DSP writes every element's carried state to the next MRAM slot. -/
  | meterSave (ok : Bool)
  /-- POWER_FAIL_WARNING (R491): On the power-fail warning the unit stops metering, writes a FINAL save and enters power-fail mode. -/
  | powerFailWarning (dip : PowerDip)
  /-- METER_CROSS_CHECK (R493): Every 60 s a standby compares its own energy with the mirrored energy and flags a difference beyond LIM. -/
  | meterCrossCheck
  /-- METER_POWER_UPDATE (R485): At each whole second MET_POWER shows the mean power of the last second. -/
  | meterPowerUpdate
  /-- METER_READ (R497): The Metering block writes 16 element records taken at one tick boundary into a host buffer. -/
  | meterRead (d : Desc)
  /-- MOVE (R507): Motion appends a move to an axis's queue. -/
  | move (d : Desc)
  /-- HOME (R515): Motion runs a homing sequence of the given kind and direction. -/
  | home (d : Desc)
  /-- HALT (R517): Motion decelerates the axis at the move's DEC and pauses it. -/
  | halt (d : Desc)
  /-- RESUME (R519): Motion restarts the kept remainder from rest towards its original end. -/
  | resume (d : Desc)
  /-- FLUSH (R521): Motion discards the remainder and completes queued moves with FLUSHED. -/
  | flush (d : Desc)
  /-- MOVE_START (R513): A move reaching the head of the queue, or its START_PT, is checked and started or completed with a refusal. -/
  | moveStart (a : Fin 8)
  /-- MOVE_COMPLETE (R508): A move completes at its target or at a blended joint. -/
  | moveComplete (a : Fin 8)
  /-- OVERCURRENT (R505): A sensed current above IMAX + 32 at two consecutive blanking ends makes a category 0 stop and sets OVERCUR. -/
  | overcurrent (a : Fin 8)
  /-- HOMING_STALL (R515): A current above STALL_I at 16 consecutive blanking ends ends a hard-stop search and starts the backoff. -/
  | homingStall (a : Fin 8)
  /-- SWITCH_RAW_TRANSITION (R511): A raw switch transition is sampled and its position kept for debouncing. -/
  | switchRawTransition (a : Fin 8) (k : Fin 3)
  /-- SWITCH_DEBOUNCE_CHANGE (R511): A switch input that has held its new level for DEBOUNCE changes its debounced state. -/
  | switchDebounceChange (a : Fin 8) (k : Fin 3)
  /-- AXIS_AT_REST (R518): An axis reaching rest completes its stop, halt or homing and, in category 1, turns its bridges off. -/
  | axisAtRest (a : Fin 8)
  /-- STOP_MS_EXPIRY (R518): STOP_MS after a category 1 stop began the bridges go off even if the axis has not come to rest. -/
  | stopMsExpiry (a : Fin 8)
  /-- HOLD_CURRENT_SWITCH (R503): 100 ms after an axis comes to rest its current falls to IHOLD. -/
  | holdCurrentSwitch (a : Fin 8)
  /-- SINE_TABLE_WRITE (R503): A write to MOT_TBL is accepted only while the axis's EN is 0 and is otherwise refused and counted. -/
  | sineTableWrite (a : Fin 8) (w : Fin 64) (v : BitVec 32)
  /-- AXIS_ENABLE (R518): An axis enable write is refused with CFG_ERR when the stop or travel settings are inconsistent. -/
  | axisEnable (a : Fin 8)
  /-- AXIS_DISABLE (R517): Writing EN = 0 stops the axis at STOP_DEC, turns the bridges off and flushes its queue. -/
  | axisDisable (a : Fin 8)
  /-- SHARD_RECORD_WRITE (R529): A queued record is written to its MRAM slot with the CRC last. -/
  | shardRecordWrite
  /-- CURSOR_WRITE (R531): A write to SHARD_CURSOR loads that master's window with a copy of the named record and sets its status. -/
  | cursorWrite (m : Fin 16) (v : BitVec 32)
  /-- WINDOW_READ_ADVANCE (R532): With AUTO_ADV a read of SHARD_WINDOW_15 advances the cursor and reloads the window. -/
  | windowReadAdvance (m : Fin 16)
  /-- WIN_STATUS_READ_RELOAD (R532): A read of SHARD_WIN_STATUS with the cursor at NOT_YET reloads the window. -/
  | winStatusReadReload (m : Fin 16)
  /-- CLEAR_ARM (R533): The Shard log returns a challenge and ticket for a clear. -/
  | clearArm (d : Desc)
  /-- CLEAR_CONFIRM (R533): The Shard log accepts a clear whose response matches under the maintenance key within 10 s. -/
  | clearConfirm (d : Desc)
  /-- SHARD_CLEAR (R534): At the next tick boundary a CLEARED record is written and every other slot is erased. -/
  | shardClear
  /-- STAGE_WRITE (R544): The Update block takes one container chunk into the inactive bank. -/
  | stageWrite (d : Desc)
  /-- ACTIVATE (R548): The Update block names the staged bank in the boot record and resets into a trial boot. -/
  | activate (d : Desc)
  /-- SCHEDULED_ACTIVATION (R548): A scheduled ACTIVATE takes effect at START_PT under the late rule. -/
  | scheduledActivation
  /-- ACTIVATION_RESET (R548): 50 ms after activation, or when grant leaves a relinquishing unit, the unit resets with cause 5. -/
  | activationReset
  /-- COMMIT (R550): The Update block keeps the trial firmware, raises the anti-rollback counter and revokes keys. -/
  | commit (d : Desc)
  /-- REVERT (R551): The Update block marks the trial bank not valid and resets into the previous bank. -/
  | revert (d : Desc)
  /-- ABORT (R558): The Update block cancels a scheduled activation. -/
  | abort (d : Desc)
  /-- BOOTCFG_SET (R555): The Update block writes REF_SEL into the boot configuration word for the next reset. -/
  | bootcfgSet (d : Desc)
  /-- MKEY_SET (R556): The Update block sets or, with a valid proof, replaces the maintenance key. -/
  | mkeySet (d : Desc)
  /-- TRIAL_SUCCESS (R549): When every part has started within TRIAL_S the unit enters TRIAL_OK and commits if AUTO_COMMIT is set. -/
  | trialSuccess
  /-- TRIAL_TIMEOUT (R551): A trial window ending before TRIAL_OK reverts with cause 2. -/
  | trialTimeout
  /-- POWER_ON_RESET (R562): VIN rising through the power-on threshold resets the unit. -/
  | powerOnReset (up : PowerUp)
  /-- RESET_PIN (R562): RESET_N held low for its minimum width resets the unit. -/
  | resetPin (torn : Bool)
  /-- POWER_FAIL_RESTART (R562): VIN above the restart threshold for 10 ms after a power-fail resets the unit with cause 3. -/
  | powerFailRestart
  /-- UNIT_RESET_COMMAND (R562): A write of 0xC1A7_0001 to PWR_UNIT_RESET saves metering and resets the unit. -/
  | unitResetCommand (v : BitVec 32)
  /-- BOOT_TIMEOUT (R565): A phase 3 or 4 taking more than twice its duration resets the unit with cause 6. -/
  | bootTimeout
  /-- PMIC_PHASE_DONE (R565): Phase 1 ends with rails up, PLLs locked and straps sampled. -/
  | pmicPhaseDone (straps : BitVec 7)
  /-- BOOT_ROM_PHASE_DONE (R565): Phase 2 ends with the boot record read, the header checked and link training started. -/
  | bootRomPhaseDone (link : Option (Fin 4 × Fin 5)) (okA : Bool) (okB : Bool)
  /-- SAFETY_PAIRS_PHASE_DONE (R565): Phase 3 ends with the safety images loaded and both pairs refreshing the health word. -/
  | safetyPairsPhaseDone (ok : Bool)
  /-- APP_CORE_PHASE_DONE (R565): Phase 4 ends at READY with parts loaded, settings read, restores done and ALIVE driven UNSYNC. -/
  | appCorePhaseDone (ok : Bool) (keyOk : Bool) (bkOk : Bool)
  /-- SHARED_SRAM_ROTATION_STEP (R570): Every SHARED_S seconds one rotation step of the shared SRAM banks is made with a march test of the spare. -/
  | sharedSramRotationStep (ok : Bool)
  /-- GNSS_SPARE_TEST_START (R570): Every SPARE_S seconds one spare channel moves to TEST with a known code injected. -/
  | gnssSpareTestStart
  /-- GNSS_SPARE_TEST_END (R570): After 2 s the spare's taps are compared with the expected dumps and it returns to SPARE or FAILED. -/
  | gnssSpareTestEnd (ok : Bool)
  /-- LANE_LOOPBACK_TEST (R571): Every 10 s a lane takes an eligible slot for an internal loopback frame checked for FCS and RSSI. -/
  | laneLoopbackTest (x : Fin 8) (fcsOk : Bool) (rssi : BitVec 8)
  /-- METER_REFERENCE_TEST (R570): Every 10 s a monitor converter measures each metering reference for drift. -/
  | meterReferenceTest (drifts : List Int)
  /-- MRAM_SCRUB (R570): Each second 64 KB of MRAM is read and corrected words are rewritten. -/
  | mramScrub (fixed : Nat) (bad : Bool)
  /-- SAFETY_SELF_TEST_SEGMENT (R570): Each tick the S0 and S1 pairs run one segment of their self-test library. -/
  | safetySelfTestSegment (s1 : Bool) (last : Bool) (ok : Bool)
  /-- COVERAGE_OVERDUE (R572): A coverage cycle not complete after 24 h sets OVERDUE and posts TEST_FAIL with test 15. -/
  | coverageOverdue
  /-- SWAP_WAIT_EXPIRY (R440): A SWAP descriptor that finds no quiet point within WAIT_S seconds completes with NOT_QUIET. -/
  | swapWaitExpiry
  /-- PDELAY_RESP_RECEIVED (R400): In P2P mode a port receives the peer's Pdelay_Resp to its own Pdelay_Req and updates its meanLinkDelay in TIME_PTP_LINK_A or TIME_PTP_LINK_B. -/
  | pdelayRespReceived (p : Fin 2) (f : PtpResp)
  /-- ANTENNA_NORMAL (R323): An antenna bias current that returns to 2 mA to 80 mA clears the OPEN condition and posts one event of block 0x04. -/
  | antennaNormal (a : Fin 2) (ma : BitVec 8)
  /-- PPS_IN_EDGE_TIMEOUT (R381): 1.5 s after the last PPS_IN edge without a further edge, the EXTERNAL source is lost and, if it was in use, the time unit enters holdover. -/
  | ppsInEdgeTimeout
  /-- VIN_FALL_HOLD_IN_RESET (R580): VIN falling below the falling power-on threshold of 2.45 V holds the unit in reset, so that the reset that follows is a power-on. -/
  | vinFallHoldInReset
  /-- FUNCTION_RETURN_TO_D0 (R79): When the function returns from D3hot to D0 with bus master enable set, each vector that is unmasked and has its pending bit set sends one message. -/
  | functionReturnToD0
deriving DecidableEq, Repr

end Sys2Proof
end

