-- ==== Sys2Proof/Machine/Aes.lean ====
section
/-! DEFINITION. AES-128, CCM* and AES key wrap over byte lists (R5, R262, R263, R421). PRESUMED, from the standards the spec
names and does not repeat: the cipher of FIPS 197, CCM of RFC 3610 with M = 8 and L = 2, the key wrap of RFC 3394
(log entry 6). Byte 0 of a block or key is the low byte of its number. -/

namespace Sys2Proof.Machine

/-- The substitution table. -/
def aesSbox : List Nat :=
  [0x63, 0x7C, 0x77, 0x7B, 0xF2, 0x6B, 0x6F, 0xC5, 0x30, 0x01, 0x67, 0x2B, 0xFE, 0xD7, 0xAB, 0x76] ++
  [0xCA, 0x82, 0xC9, 0x7D, 0xFA, 0x59, 0x47, 0xF0, 0xAD, 0xD4, 0xA2, 0xAF, 0x9C, 0xA4, 0x72, 0xC0] ++
  [0xB7, 0xFD, 0x93, 0x26, 0x36, 0x3F, 0xF7, 0xCC, 0x34, 0xA5, 0xE5, 0xF1, 0x71, 0xD8, 0x31, 0x15] ++
  [0x04, 0xC7, 0x23, 0xC3, 0x18, 0x96, 0x05, 0x9A, 0x07, 0x12, 0x80, 0xE2, 0xEB, 0x27, 0xB2, 0x75] ++
  [0x09, 0x83, 0x2C, 0x1A, 0x1B, 0x6E, 0x5A, 0xA0, 0x52, 0x3B, 0xD6, 0xB3, 0x29, 0xE3, 0x2F, 0x84] ++
  [0x53, 0xD1, 0x00, 0xED, 0x20, 0xFC, 0xB1, 0x5B, 0x6A, 0xCB, 0xBE, 0x39, 0x4A, 0x4C, 0x58, 0xCF] ++
  [0xD0, 0xEF, 0xAA, 0xFB, 0x43, 0x4D, 0x33, 0x85, 0x45, 0xF9, 0x02, 0x7F, 0x50, 0x3C, 0x9F, 0xA8] ++
  [0x51, 0xA3, 0x40, 0x8F, 0x92, 0x9D, 0x38, 0xF5, 0xBC, 0xB6, 0xDA, 0x21, 0x10, 0xFF, 0xF3, 0xD2] ++
  [0xCD, 0x0C, 0x13, 0xEC, 0x5F, 0x97, 0x44, 0x17, 0xC4, 0xA7, 0x7E, 0x3D, 0x64, 0x5D, 0x19, 0x73] ++
  [0x60, 0x81, 0x4F, 0xDC, 0x22, 0x2A, 0x90, 0x88, 0x46, 0xEE, 0xB8, 0x14, 0xDE, 0x5E, 0x0B, 0xDB] ++
  [0xE0, 0x32, 0x3A, 0x0A, 0x49, 0x06, 0x24, 0x5C, 0xC2, 0xD3, 0xAC, 0x62, 0x91, 0x95, 0xE4, 0x79] ++
  [0xE7, 0xC8, 0x37, 0x6D, 0x8D, 0xD5, 0x4E, 0xA9, 0x6C, 0x56, 0xF4, 0xEA, 0x65, 0x7A, 0xAE, 0x08] ++
  [0xBA, 0x78, 0x25, 0x2E, 0x1C, 0xA6, 0xB4, 0xC6, 0xE8, 0xDD, 0x74, 0x1F, 0x4B, 0xBD, 0x8B, 0x8A] ++
  [0x70, 0x3E, 0xB5, 0x66, 0x48, 0x03, 0xF6, 0x0E, 0x61, 0x35, 0x57, 0xB9, 0x86, 0xC1, 0x1D, 0x9E] ++
  [0xE1, 0xF8, 0x98, 0x11, 0x69, 0xD9, 0x8E, 0x94, 0x9B, 0x1E, 0x87, 0xE9, 0xCE, 0x55, 0x28, 0xDF] ++
  [0x8C, 0xA1, 0x89, 0x0D, 0xBF, 0xE6, 0x42, 0x68, 0x41, 0x99, 0x2D, 0x0F, 0xB0, 0x54, 0xBB, 0x16]

/-- Substitution of a byte, and back. -/
def aesSub (v : Nat) : Nat := aesSbox.getD v 0
def aesUnsub (v : Nat) : Nat := aesSbox.findIdx (fun x => x == v)

/-- Twice an element of the field. -/
def aesTwice (v : Nat) : Nat := if v < 128 then 2 * v else (2 * v) ^^^ 0x11B

/-- A column mixed: `f` gives the product with each of the four coefficients. -/
def aesColumn (f : Nat → Nat → Nat) (l : List Nat) : List Nat :=
  (List.range 4).map (fun r => ((List.range 4).map (fun k => f k (l.getD ((r + k) % 4) 0))).foldl Nat.xor 0)

def aesMix (k v : Nat) : Nat := match k with
  | 0 => aesTwice v
  | 1 => aesTwice v ^^^ v
  | _ => v

def aesUnmix (k v : Nat) : Nat :=
  let two := aesTwice v
  let four := aesTwice two
  let eight := aesTwice four
  match k with
  | 0 => eight ^^^ four ^^^ two
  | 1 => eight ^^^ two ^^^ v
  | 2 => eight ^^^ four ^^^ v
  | _ => eight ^^^ v

/-- The four columns of a state. -/
def aesColumns (f : Nat → Nat → Nat) (s : List Nat) : List Nat :=
  (List.range 4).flatMap (fun c => aesColumn f ((s.drop (4 * c)).take 4))

/-- Row `r` of the state turned left by `r` places, or by `3 r`, which turns it back. -/
def aesRows (n : Nat) (s : List Nat) : List Nat := (List.range 16).map (fun k => s.getD ((k + 4 * n * (k % 4)) % 16) 0)

/-- Two lists of bytes added in the field. -/
def aesAdd (a b : List Nat) : List Nat := List.zipWith Nat.xor a b

/-- The next round key. -/
def aesNext (k : List Nat) (rcon : Nat) : List Nat :=
  let t := [aesSub (k.getD 13 0) ^^^ rcon, aesSub (k.getD 14 0), aesSub (k.getD 15 0), aesSub (k.getD 12 0)]
  let w0 := aesAdd (k.take 4) t
  let w1 := aesAdd ((k.drop 4).take 4) w0
  let w2 := aesAdd ((k.drop 8).take 4) w1
  w0 ++ w1 ++ w2 ++ aesAdd (k.drop 12) w2

/-- The round keys from one on, with the round constant of the next. -/
def aesKeys : Nat → List Nat → Nat → List (List Nat)
  | 0, k, _ => [k]
  | n + 1, k, rcon => k :: aesKeys n (aesNext k rcon) (aesTwice rcon)

/-- The rounds after the first key has been added; the last one mixes no columns. -/
def aesRounds : List (List Nat) → List Nat → List Nat
  | [], s => s
  | [k], s => aesAdd k (aesRows 1 (s.map aesSub))
  | k :: l, s => aesRounds l (aesAdd k (aesColumns aesMix (aesRows 1 (s.map aesSub))))

/-- The rounds backwards, from the last key's removal on. -/
def aesUnrounds : List (List Nat) → List Nat → List Nat
  | [], s => s
  | [k], s => aesAdd k ((aesRows 3 s).map aesUnsub)
  | k :: l, s => aesUnrounds l (aesColumns aesUnmix (aesAdd k ((aesRows 3 s).map aesUnsub)))

/-- The bytes of a number, low byte first, and the number of bytes. -/
def nats (n v : Nat) : List Nat := (le n v).map (fun b => b.toNat)
def unnats (l : List Nat) : Nat := unle (l.map (fun b => BitVec.ofNat 8 b))

/-- AES-128 of a block under a key. -/
def aes128 (key block : Nat) : Nat :=
  match aesKeys 10 (nats 16 key) 1 with
  | [] => 0
  | k :: l => unnats (aesRounds l (aesAdd k (nats 16 block)))

/-- The block whose AES-128 under a key is the given one. -/
def unaes128 (key block : Nat) : Nat :=
  match (aesKeys 10 (nats 16 key) 1).reverse with
  | [] => 0
  | k :: l => unnats (aesUnrounds l (aesAdd k (nats 16 block)))

/-! ### CCM* with 8-byte MIC and 13-byte nonce -/

/-- Blocks of 16 bytes, the last one filled with zeros. -/
def blocks : Nat → List Byte → List Nat
  | 0, _ => []
  | fuel + 1, l => if l.isEmpty then [] else unle (l.take 16) :: blocks fuel (l.drop 16)

/-- The two bytes of a number, high byte first. -/
def be2 (n : Nat) : List Byte := (le 2 n).reverse

/-- Block `i` of the key stream. -/
def ccmStream (key : Nat) (nonce : List Byte) (i : Nat) : Nat := aes128 key (unle (le 1 1 ++ nonce ++ be2 i))

/-- The encryption of a payload: as long as the payload. -/
def ccmEnc (key : Nat) (nonce payload : List Byte) : List Byte :=
  (List.range payload.length).map (fun j =>
    payload.getD j 0 ^^^ BitVec.ofNat 8 (ccmStream key nonce (j / 16 + 1) >>> (8 * (j % 16))))

/-- The MIC of bytes authenticated only and of bytes encrypted too, as a number of 64 bits. -/
def ccmMic (key : Nat) (nonce auth payload : List Byte) : Nat :=
  let first := unle (le 1 (if auth.isEmpty then 0x19 else 0x59) ++ nonce ++ be2 payload.length)
  let a := if auth.isEmpty then [] else be2 auth.length ++ auth
  let l := blocks a.length a ++ blocks payload.length payload
  (l.foldl (fun x b => aes128 key (x ^^^ b)) (aes128 key first) ^^^ ccmStream key nonce 0) % 2 ^ 64

/-! ### AES key wrap -/

/-- The initial value of RFC 3394. -/
def wrapInit : Nat := 0xA6A6A6A6A6A6A6A6

/-- A step count as 64 bits, high byte first. -/
def wrapCount (t : Nat) : Nat := unle (le 8 t).reverse

/-- The steps of a wrap from count `t` on: the value, and the two halves of the key. -/
def wrapSteps (kek : Nat) : Nat → Nat → Nat × Nat × Nat → Nat × Nat × Nat
  | 0, _, x => x
  | n + 1, t, (a, r1, r2) =>
    let b := aes128 kek (a + 2 ^ 64 * r1)
    wrapSteps kek n (t + 1) ((b % 2 ^ 64) ^^^ wrapCount t, r2, b / 2 ^ 64)

/-- The wrap of a 128-bit key under another one: 24 bytes as a number. -/
def keyWrap (kek key : Nat) : Nat :=
  let (a, r1, r2) := wrapSteps kek 12 1 (wrapInit, key % 2 ^ 64, key / 2 ^ 64 % 2 ^ 64)
  a + 2 ^ 64 * r1 + 2 ^ 128 * r2

/-- The steps of an unwrap, backwards from count `n`. -/
def unwrapSteps (kek : Nat) : Nat → Nat × Nat × Nat → Nat × Nat × Nat
  | 0, x => x
  | n + 1, (a, r1, r2) =>
    let b := unaes128 kek ((a ^^^ wrapCount (n + 1)) + 2 ^ 64 * r2)
    unwrapSteps kek n (b % 2 ^ 64, b / 2 ^ 64, r1)

/-- The key that a wrap carries, where it is one under this key. -/
def keyUnwrap (kek w : Nat) : Option Nat :=
  let (a, r1, r2) := unwrapSteps kek 12 (w % 2 ^ 64, w / 2 ^ 64 % 2 ^ 64, w / 2 ^ 128 % 2 ^ 64)
  if a = wrapInit then some (r1 + 2 ^ 64 * r2) else none

end Sys2Proof.Machine
end

