-- ==== Sys2Proof/Machine/RegMap.lean ====
section
/-! DEFINITION. The register map: one row for every register of the register tables of spec/ (offset in BAR0, bank
stride, reset value) and one for every field (bits, access code of R8, the limits its table states). The rows follow
the tables of the spec, in their order. A field whose access its table gives as special (a pop, a lock, ADDEND) is
`.own` here, and so is one whose write has a row of its own. -/

namespace Sys2Proof.Machine

/-- Access codes of registers and fields (R8). -/
inductive Acc where
  | ro | rw | wo | w1c | w1s | rc | rws
  /-- written or read by commands of their own rows -/
  | own
deriving DecidableEq, Repr

/-- What a written value is stored as, where the field's table limits it. -/
inductive Lim where
  /-- stored as written -/
  | any
  /-- a value outside `lo` to `hi` is stored as the nearer limit -/
  | nearer (lo hi : Nat)
  /-- the same for a two's complement field -/
  | signedNearer (lo hi : Int)
  /-- a value above `hi` is stored as `v` -/
  | over (hi v : Nat)
  /-- a value not in the list is stored as `v` -/
  | oneOf (ok : List Nat) (v : Nat)
  /-- rounded down to a multiple of `k`, then limited to `lo` to `hi` -/
  | steps (k lo hi : Nat)
deriving DecidableEq, Repr

/-- One field: the BAR0 offset of the register of index 0, the strides of the bank,
the reset value of the whole register, the field's bits, access and limits. -/
structure Field where
  name : String
  base : Nat
  step : Nat
  step2 : Nat
  reset : Nat
  lo : Nat
  width : Nat
  acc : Acc
  lim : Lim
deriving DecidableEq, Repr

/-- One register or bank of registers: `first` is its lowest index, `count` one above its highest. -/
structure Reg where
  name : String
  base : Nat
  step : Nat
  first : Nat
  count : Nat
  step2 : Nat
  count2 : Nat
  reset : Nat
  fields : List Field
deriving DecidableEq, Repr

/-! The registers of spec/01_architecture.md. -/
def INTC_STATUS_SAFE_STATE : Field := ⟨"INTC_STATUS_SAFE_STATE", 0x20000, 0x0, 0x0, 0x0, 0, 1, .ro, .any⟩
def INTC_STATUS_FENCED : Field := ⟨"INTC_STATUS_FENCED", 0x20000, 0x0, 0x0, 0x0, 2, 6, .ro, .any⟩
def INTC_STATUS_reg : Reg := ⟨"INTC_STATUS", 0x20000, 0x0, 0, 1, 0x0, 1, 0x0,
  [INTC_STATUS_SAFE_STATE, INTC_STATUS_FENCED]⟩
def INTC_CTRL_EVENT_EN : Field := ⟨"INTC_CTRL_EVENT_EN", 0x20004, 0x0, 0x0, 0x1, 0, 1, .rw, .any⟩
def INTC_CTRL_CORR_EVENT_EN : Field := ⟨"INTC_CTRL_CORR_EVENT_EN", 0x20004, 0x0, 0x0, 0x1, 1, 1, .rw, .any⟩
def INTC_CTRL_reg : Reg := ⟨"INTC_CTRL", 0x20004, 0x0, 0, 1, 0x0, 1, 0x1,
  [INTC_CTRL_EVENT_EN, INTC_CTRL_CORR_EVENT_EN]⟩
def INTC_SAFE_CAUSE_CAUSE : Field := ⟨"INTC_SAFE_CAUSE_CAUSE", 0x20008, 0x0, 0x0, 0x0, 0, 4, .ro, .any⟩
def INTC_SAFE_CAUSE_BLOCK : Field := ⟨"INTC_SAFE_CAUSE_BLOCK", 0x20008, 0x0, 0x0, 0x0, 8, 6, .ro, .any⟩
def INTC_SAFE_CAUSE_reg : Reg := ⟨"INTC_SAFE_CAUSE", 0x20008, 0x0, 0, 1, 0x0, 1, 0x0,
  [INTC_SAFE_CAUSE_CAUSE, INTC_SAFE_CAUSE_BLOCK]⟩
def INTC_RWS_VIOL_ALL : Field := ⟨"INTC_RWS_VIOL_ALL", 0x2000C, 0x0, 0x0, 0x0, 0, 32, .rc, .any⟩
def INTC_RWS_VIOL_reg : Reg := ⟨"INTC_RWS_VIOL", 0x2000C, 0x0, 0, 1, 0x0, 1, 0x0,
  [INTC_RWS_VIOL_ALL]⟩
def INTC_RWS_VIOL_ADDR_ALL : Field := ⟨"INTC_RWS_VIOL_ADDR_ALL", 0x20010, 0x0, 0x0, 0x0, 0, 32, .ro, .any⟩
def INTC_RWS_VIOL_ADDR_reg : Reg := ⟨"INTC_RWS_VIOL_ADDR", 0x20010, 0x0, 0, 1, 0x0, 1, 0x0,
  [INTC_RWS_VIOL_ADDR_ALL]⟩
def INTC_TICK_ALL : Field := ⟨"INTC_TICK_ALL", 0x20014, 0x0, 0x0, 0x0, 0, 32, .ro, .any⟩
def INTC_TICK_reg : Reg := ⟨"INTC_TICK", 0x20014, 0x0, 0, 1, 0x0, 1, 0x0,
  [INTC_TICK_ALL]⟩
def INTC_INJECT_ALL : Field := ⟨"INTC_INJECT_ALL", 0x20018, 0x0, 0x0, 0x0, 0, 32, .own, .any⟩
def INTC_INJECT_reg : Reg := ⟨"INTC_INJECT", 0x20018, 0x0, 0, 1, 0x0, 1, 0x0,
  [INTC_INJECT_ALL]⟩
def INTC_INJECT_REFUSED_ALL : Field := ⟨"INTC_INJECT_REFUSED_ALL", 0x2001C, 0x0, 0x0, 0x0, 0, 32, .rc, .any⟩
def INTC_INJECT_REFUSED_reg : Reg := ⟨"INTC_INJECT_REFUSED", 0x2001C, 0x0, 0, 1, 0x0, 1, 0x0,
  [INTC_INJECT_REFUSED_ALL]⟩
def INTC_BLK_FAULT_STATE : Field := ⟨"INTC_BLK_FAULT_STATE", 0x20100, 0x4, 0x0, 0x0, 0, 2, .ro, .any⟩
def INTC_BLK_FAULT_OVERRUN : Field := ⟨"INTC_BLK_FAULT_OVERRUN", 0x20100, 0x4, 0x0, 0x0, 2, 1, .w1c, .any⟩
def INTC_BLK_FAULT_CORR_SEEN : Field := ⟨"INTC_BLK_FAULT_CORR_SEEN", 0x20100, 0x4, 0x0, 0x0, 3, 1, .w1c, .any⟩
def INTC_BLK_FAULT_UNCORR_SEEN : Field := ⟨"INTC_BLK_FAULT_UNCORR_SEEN", 0x20100, 0x4, 0x0, 0x0, 4, 1, .w1c, .any⟩
def INTC_BLK_FAULT_SPARE_USED : Field := ⟨"INTC_BLK_FAULT_SPARE_USED", 0x20100, 0x4, 0x0, 0x0, 5, 1, .ro, .any⟩
def INTC_BLK_FAULT_OVERRUN_CNT : Field := ⟨"INTC_BLK_FAULT_OVERRUN_CNT", 0x20100, 0x4, 0x0, 0x0, 8, 8, .ro, .any⟩
def INTC_BLK_FAULT_CORR_CNT : Field := ⟨"INTC_BLK_FAULT_CORR_CNT", 0x20100, 0x4, 0x0, 0x0, 16, 8, .ro, .any⟩
def INTC_BLK_FAULT_RESTART_CNT : Field := ⟨"INTC_BLK_FAULT_RESTART_CNT", 0x20100, 0x4, 0x0, 0x0, 24, 4, .ro, .any⟩
def INTC_BLK_FAULT_reg : Reg := ⟨"INTC_BLK_FAULT", 0x20100, 0x4, 0, 33, 0x0, 1, 0x0,
  [INTC_BLK_FAULT_STATE, INTC_BLK_FAULT_OVERRUN, INTC_BLK_FAULT_CORR_SEEN, INTC_BLK_FAULT_UNCORR_SEEN, INTC_BLK_FAULT_SPARE_USED, INTC_BLK_FAULT_OVERRUN_CNT, INTC_BLK_FAULT_CORR_CNT, INTC_BLK_FAULT_RESTART_CNT]⟩
def INTC_BLK_LOAD_ALL : Field := ⟨"INTC_BLK_LOAD_ALL", 0x20200, 0x4, 0x0, 0x0, 0, 32, .rc, .any⟩
def INTC_BLK_LOAD_reg : Reg := ⟨"INTC_BLK_LOAD", 0x20200, 0x4, 0, 33, 0x0, 1, 0x0,
  [INTC_BLK_LOAD_ALL]⟩

/-! The registers of spec/02_host_interface.md. -/
def ID_PART_ALL : Field := ⟨"ID_PART_ALL", 0x0, 0x0, 0x0, 0xF0B0512, 0, 32, .ro, .any⟩
def ID_PART_reg : Reg := ⟨"ID_PART", 0x0, 0x0, 0, 1, 0x0, 1, 0xF0B0512,
  [ID_PART_ALL]⟩
def ID_REV_ALL : Field := ⟨"ID_REV_ALL", 0x4, 0x0, 0x0, 0xB, 0, 32, .ro, .any⟩
def ID_REV_reg : Reg := ⟨"ID_REV", 0x4, 0x0, 0, 1, 0x0, 1, 0xB,
  [ID_REV_ALL]⟩
def ID_PROFILE_ALL : Field := ⟨"ID_PROFILE_ALL", 0x8, 0x0, 0x0, 0x0, 0, 32, .ro, .any⟩
def ID_PROFILE_reg : Reg := ⟨"ID_PROFILE", 0x8, 0x0, 0, 1, 0x0, 1, 0x0,
  [ID_PROFILE_ALL]⟩
def ID_SERIAL_LO_ALL : Field := ⟨"ID_SERIAL_LO_ALL", 0x10, 0x0, 0x0, 0x0, 0, 32, .ro, .any⟩
def ID_SERIAL_LO_reg : Reg := ⟨"ID_SERIAL_LO", 0x10, 0x0, 0, 1, 0x0, 1, 0x0,
  [ID_SERIAL_LO_ALL]⟩
def ID_SERIAL_HI_ALL : Field := ⟨"ID_SERIAL_HI_ALL", 0x14, 0x0, 0x0, 0x0, 0, 32, .ro, .any⟩
def ID_SERIAL_HI_reg : Reg := ⟨"ID_SERIAL_HI", 0x14, 0x0, 0, 1, 0x0, 1, 0x0,
  [ID_SERIAL_HI_ALL]⟩
def ID_STRAPS_ALL : Field := ⟨"ID_STRAPS_ALL", 0x18, 0x0, 0x0, 0x0, 0, 32, .ro, .any⟩
def ID_STRAPS_reg : Reg := ⟨"ID_STRAPS", 0x18, 0x0, 0, 1, 0x0, 1, 0x0,
  [ID_STRAPS_ALL]⟩
def ID_FW_VERSION_ALL : Field := ⟨"ID_FW_VERSION_ALL", 0x1C, 0x0, 0x0, 0x0, 0, 32, .ro, .any⟩
def ID_FW_VERSION_reg : Reg := ⟨"ID_FW_VERSION", 0x1C, 0x0, 0, 1, 0x0, 1, 0x0,
  [ID_FW_VERSION_ALL]⟩
def HIF_STATUS_LINK_UP : Field := ⟨"HIF_STATUS_LINK_UP", 0x40000, 0x0, 0x0, 0x0, 0, 1, .ro, .any⟩
def HIF_STATUS_BME : Field := ⟨"HIF_STATUS_BME", 0x40000, 0x0, 0x0, 0x0, 1, 1, .ro, .any⟩
def HIF_STATUS_D_STATE : Field := ⟨"HIF_STATUS_D_STATE", 0x40000, 0x0, 0x0, 0x0, 2, 2, .ro, .any⟩
def HIF_STATUS_GEN : Field := ⟨"HIF_STATUS_GEN", 0x40000, 0x0, 0x0, 0x0, 4, 4, .ro, .any⟩
def HIF_STATUS_WIDTH : Field := ⟨"HIF_STATUS_WIDTH", 0x40000, 0x0, 0x0, 0x0, 8, 4, .ro, .any⟩
def HIF_STATUS_reg : Reg := ⟨"HIF_STATUS", 0x40000, 0x0, 0, 1, 0x0, 1, 0x0,
  [HIF_STATUS_LINK_UP, HIF_STATUS_BME, HIF_STATUS_D_STATE, HIF_STATUS_GEN, HIF_STATUS_WIDTH]⟩
def HIF_LOST_CPL_ALL : Field := ⟨"HIF_LOST_CPL_ALL", 0x40004, 0x0, 0x0, 0x0, 0, 32, .rc, .any⟩
def HIF_LOST_CPL_reg : Reg := ⟨"HIF_LOST_CPL", 0x40004, 0x0, 0, 1, 0x0, 1, 0x0,
  [HIF_LOST_CPL_ALL]⟩
def HIF_BAD_DB_ALL : Field := ⟨"HIF_BAD_DB_ALL", 0x40008, 0x0, 0x0, 0x0, 0, 32, .rc, .any⟩
def HIF_BAD_DB_reg : Reg := ⟨"HIF_BAD_DB", 0x40008, 0x0, 0, 1, 0x0, 1, 0x0,
  [HIF_BAD_DB_ALL]⟩
def HIF_FETCH_LAT_MAX_ALL : Field := ⟨"HIF_FETCH_LAT_MAX_ALL", 0x4000C, 0x0, 0x0, 0x0, 0, 32, .rc, .any⟩
def HIF_FETCH_LAT_MAX_reg : Reg := ⟨"HIF_FETCH_LAT_MAX", 0x4000C, 0x0, 0, 1, 0x0, 1, 0x0,
  [HIF_FETCH_LAT_MAX_ALL]⟩
def HIF_SQ_BASE_LO_ALL : Field := ⟨"HIF_SQ_BASE_LO_ALL", 0x41000, 0x40, 0x0, 0x0, 0, 32, .rws, .any⟩
def HIF_SQ_BASE_LO_reg : Reg := ⟨"HIF_SQ_BASE_LO", 0x41000, 0x40, 0, 64, 0x0, 1, 0x0,
  [HIF_SQ_BASE_LO_ALL]⟩
def HIF_SQ_BASE_HI_ALL : Field := ⟨"HIF_SQ_BASE_HI_ALL", 0x41004, 0x40, 0x0, 0x0, 0, 32, .rws, .any⟩
def HIF_SQ_BASE_HI_reg : Reg := ⟨"HIF_SQ_BASE_HI", 0x41004, 0x40, 0, 64, 0x0, 1, 0x0,
  [HIF_SQ_BASE_HI_ALL]⟩
def HIF_CQ_BASE_LO_ALL : Field := ⟨"HIF_CQ_BASE_LO_ALL", 0x41008, 0x40, 0x0, 0x0, 0, 32, .rws, .any⟩
def HIF_CQ_BASE_LO_reg : Reg := ⟨"HIF_CQ_BASE_LO", 0x41008, 0x40, 0, 64, 0x0, 1, 0x0,
  [HIF_CQ_BASE_LO_ALL]⟩
def HIF_CQ_BASE_HI_ALL : Field := ⟨"HIF_CQ_BASE_HI_ALL", 0x4100C, 0x40, 0x0, 0x0, 0, 32, .rws, .any⟩
def HIF_CQ_BASE_HI_reg : Reg := ⟨"HIF_CQ_BASE_HI", 0x4100C, 0x40, 0, 64, 0x0, 1, 0x0,
  [HIF_CQ_BASE_HI_ALL]⟩
def HIF_RP_CFG_SIZE_LOG2 : Field := ⟨"HIF_RP_CFG_SIZE_LOG2", 0x41010, 0x40, 0x0, 0x10004, 0, 5, .rws, .any⟩
def HIF_RP_CFG_VECTOR : Field := ⟨"HIF_RP_CFG_VECTOR", 0x41010, 0x40, 0x0, 0x10004, 8, 6, .rws, .any⟩
def HIF_RP_CFG_WEIGHT : Field := ⟨"HIF_RP_CFG_WEIGHT", 0x41010, 0x40, 0x0, 0x10004, 16, 4, .rws, .any⟩
def HIF_RP_CFG_reg : Reg := ⟨"HIF_RP_CFG", 0x41010, 0x40, 0, 64, 0x0, 1, 0x10004,
  [HIF_RP_CFG_SIZE_LOG2, HIF_RP_CFG_VECTOR, HIF_RP_CFG_WEIGHT]⟩
def HIF_RP_CTRL_ENABLE : Field := ⟨"HIF_RP_CTRL_ENABLE", 0x41014, 0x40, 0x0, 0x0, 0, 1, .own, .any⟩
def HIF_RP_CTRL_CFG_ERR : Field := ⟨"HIF_RP_CTRL_CFG_ERR", 0x41014, 0x40, 0x0, 0x0, 1, 1, .w1c, .any⟩
def HIF_RP_CTRL_reg : Reg := ⟨"HIF_RP_CTRL", 0x41014, 0x40, 0, 64, 0x0, 1, 0x0,
  [HIF_RP_CTRL_ENABLE, HIF_RP_CTRL_CFG_ERR]⟩
def HIF_RP_STATUS_STATE : Field := ⟨"HIF_RP_STATUS_STATE", 0x41018, 0x40, 0x0, 0x0, 0, 2, .ro, .any⟩
def HIF_RP_STATUS_CAUSE : Field := ⟨"HIF_RP_STATUS_CAUSE", 0x41018, 0x40, 0x0, 0x0, 4, 4, .ro, .any⟩
def HIF_RP_STATUS_SQ_HEAD : Field := ⟨"HIF_RP_STATUS_SQ_HEAD", 0x41018, 0x40, 0x0, 0x0, 16, 16, .ro, .any⟩
def HIF_RP_STATUS_reg : Reg := ⟨"HIF_RP_STATUS", 0x41018, 0x40, 0, 64, 0x0, 1, 0x0,
  [HIF_RP_STATUS_STATE, HIF_RP_STATUS_CAUSE, HIF_RP_STATUS_SQ_HEAD]⟩
def HIF_RP_INFLIGHT_ALL : Field := ⟨"HIF_RP_INFLIGHT_ALL", 0x4101C, 0x40, 0x0, 0x0, 0, 32, .ro, .any⟩
def HIF_RP_INFLIGHT_reg : Reg := ⟨"HIF_RP_INFLIGHT", 0x4101C, 0x40, 0, 64, 0x0, 1, 0x0,
  [HIF_RP_INFLIGHT_ALL]⟩
def HIF_ER_BASE_LO_ALL : Field := ⟨"HIF_ER_BASE_LO_ALL", 0x42000, 0x20, 0x0, 0x0, 0, 32, .rws, .any⟩
def HIF_ER_BASE_LO_reg : Reg := ⟨"HIF_ER_BASE_LO", 0x42000, 0x20, 0, 8, 0x0, 1, 0x0,
  [HIF_ER_BASE_LO_ALL]⟩
def HIF_ER_BASE_HI_ALL : Field := ⟨"HIF_ER_BASE_HI_ALL", 0x42004, 0x20, 0x0, 0x0, 0, 32, .rws, .any⟩
def HIF_ER_BASE_HI_reg : Reg := ⟨"HIF_ER_BASE_HI", 0x42004, 0x20, 0, 8, 0x0, 1, 0x0,
  [HIF_ER_BASE_HI_ALL]⟩
def HIF_ER_CFG_SIZE_LOG2 : Field := ⟨"HIF_ER_CFG_SIZE_LOG2", 0x42008, 0x20, 0x0, 0x4, 0, 5, .rws, .any⟩
def HIF_ER_CFG_VECTOR : Field := ⟨"HIF_ER_CFG_VECTOR", 0x42008, 0x20, 0x0, 0x4, 8, 6, .rws, .any⟩
def HIF_ER_CFG_reg : Reg := ⟨"HIF_ER_CFG", 0x42008, 0x20, 0, 8, 0x0, 1, 0x4,
  [HIF_ER_CFG_SIZE_LOG2, HIF_ER_CFG_VECTOR]⟩
def HIF_ER_CTRL_ENABLE : Field := ⟨"HIF_ER_CTRL_ENABLE", 0x4200C, 0x20, 0x0, 0x0, 0, 1, .own, .any⟩
def HIF_ER_CTRL_CFG_ERR : Field := ⟨"HIF_ER_CTRL_CFG_ERR", 0x4200C, 0x20, 0x0, 0x0, 1, 1, .w1c, .any⟩
def HIF_ER_CTRL_reg : Reg := ⟨"HIF_ER_CTRL", 0x4200C, 0x20, 0, 8, 0x0, 1, 0x0,
  [HIF_ER_CTRL_ENABLE, HIF_ER_CTRL_CFG_ERR]⟩
def HIF_ER_STATUS_STATE : Field := ⟨"HIF_ER_STATUS_STATE", 0x42010, 0x20, 0x0, 0x100, 0, 2, .ro, .any⟩
def HIF_ER_STATUS_CAUSE : Field := ⟨"HIF_ER_STATUS_CAUSE", 0x42010, 0x20, 0x0, 0x100, 4, 4, .ro, .any⟩
def HIF_ER_STATUS_PHASE : Field := ⟨"HIF_ER_STATUS_PHASE", 0x42010, 0x20, 0x0, 0x100, 8, 1, .ro, .any⟩
def HIF_ER_STATUS_WR_INDEX : Field := ⟨"HIF_ER_STATUS_WR_INDEX", 0x42010, 0x20, 0x0, 0x100, 16, 16, .ro, .any⟩
def HIF_ER_STATUS_reg : Reg := ⟨"HIF_ER_STATUS", 0x42010, 0x20, 0, 8, 0x0, 1, 0x100,
  [HIF_ER_STATUS_STATE, HIF_ER_STATUS_CAUSE, HIF_ER_STATUS_PHASE, HIF_ER_STATUS_WR_INDEX]⟩
def HIF_ER_DROP_ALL : Field := ⟨"HIF_ER_DROP_ALL", 0x42014, 0x20, 0x0, 0x0, 0, 32, .rc, .any⟩
def HIF_ER_DROP_reg : Reg := ⟨"HIF_ER_DROP", 0x42014, 0x20, 0, 8, 0x0, 1, 0x0,
  [HIF_ER_DROP_ALL]⟩
def HIF_VEC_COAL_COUNT : Field := ⟨"HIF_VEC_COAL_COUNT", 0x43000, 0x4, 0x0, 0x1, 0, 8, .rw, .any⟩
def HIF_VEC_COAL_TIME : Field := ⟨"HIF_VEC_COAL_TIME", 0x43000, 0x4, 0x0, 0x1, 8, 16, .rw, .any⟩
def HIF_VEC_COAL_reg : Reg := ⟨"HIF_VEC_COAL", 0x43000, 0x4, 0, 64, 0x0, 1, 0x1,
  [HIF_VEC_COAL_COUNT, HIF_VEC_COAL_TIME]⟩
def HIF_EVT_ROUTE_RING : Field := ⟨"HIF_EVT_ROUTE_RING", 0x43100, 0x4, 0x0, 0x80, 0, 3, .rw, .any⟩
def HIF_EVT_ROUTE_EN : Field := ⟨"HIF_EVT_ROUTE_EN", 0x43100, 0x4, 0x0, 0x80, 7, 1, .rw, .any⟩
def HIF_EVT_ROUTE_MIN_SEV : Field := ⟨"HIF_EVT_ROUTE_MIN_SEV", 0x43100, 0x4, 0x0, 0x80, 8, 3, .rw, .any⟩
def HIF_EVT_ROUTE_reg : Reg := ⟨"HIF_EVT_ROUTE", 0x43100, 0x4, 1, 14, 0x0, 1, 0x80,
  [HIF_EVT_ROUTE_RING, HIF_EVT_ROUTE_EN, HIF_EVT_ROUTE_MIN_SEV]⟩

/-! The registers of spec/03_site_map.md. -/
def KILN_MAP_STATUS_COMMITTED : Field := ⟨"KILN_MAP_STATUS_COMMITTED", 0x400200, 0x0, 0x0, 0x0, 0, 1, .ro, .any⟩
def KILN_MAP_STATUS_AREA : Field := ⟨"KILN_MAP_STATUS_AREA", 0x400200, 0x0, 0x0, 0x0, 1, 1, .ro, .any⟩
def KILN_MAP_STATUS_STAGE : Field := ⟨"KILN_MAP_STATUS_STAGE", 0x400200, 0x0, 0x0, 0x0, 2, 2, .ro, .any⟩
def KILN_MAP_STATUS_VALIDATING : Field := ⟨"KILN_MAP_STATUS_VALIDATING", 0x400200, 0x0, 0x0, 0x0, 4, 1, .ro, .any⟩
def KILN_MAP_STATUS_PERSIST_BUSY : Field := ⟨"KILN_MAP_STATUS_PERSIST_BUSY", 0x400200, 0x0, 0x0, 0x0, 5, 1, .ro, .any⟩
def KILN_MAP_STATUS_RESTORE : Field := ⟨"KILN_MAP_STATUS_RESTORE", 0x400200, 0x0, 0x0, 0x0, 8, 3, .ro, .any⟩
def KILN_MAP_STATUS_LAST_VCODE : Field := ⟨"KILN_MAP_STATUS_LAST_VCODE", 0x400200, 0x0, 0x0, 0x0, 16, 16, .ro, .any⟩
def KILN_MAP_STATUS_reg : Reg := ⟨"KILN_MAP_STATUS", 0x400200, 0x0, 0, 1, 0x0, 1, 0x0,
  [KILN_MAP_STATUS_COMMITTED, KILN_MAP_STATUS_AREA, KILN_MAP_STATUS_STAGE, KILN_MAP_STATUS_VALIDATING, KILN_MAP_STATUS_PERSIST_BUSY, KILN_MAP_STATUS_RESTORE, KILN_MAP_STATUS_LAST_VCODE]⟩
def KILN_MAP_ID_ALL : Field := ⟨"KILN_MAP_ID_ALL", 0x400204, 0x0, 0x0, 0x0, 0, 32, .ro, .any⟩
def KILN_MAP_ID_reg : Reg := ⟨"KILN_MAP_ID", 0x400204, 0x0, 0, 1, 0x0, 1, 0x0,
  [KILN_MAP_ID_ALL]⟩
def KILN_MAP_REV_ALL : Field := ⟨"KILN_MAP_REV_ALL", 0x400208, 0x0, 0x0, 0x0, 0, 32, .ro, .any⟩
def KILN_MAP_REV_reg : Reg := ⟨"KILN_MAP_REV", 0x400208, 0x0, 0, 1, 0x0, 1, 0x0,
  [KILN_MAP_REV_ALL]⟩
def KILN_MAP_NODES_ALL : Field := ⟨"KILN_MAP_NODES_ALL", 0x40020C, 0x0, 0x0, 0x0, 0, 32, .ro, .any⟩
def KILN_MAP_NODES_reg : Reg := ⟨"KILN_MAP_NODES", 0x40020C, 0x0, 0, 1, 0x0, 1, 0x0,
  [KILN_MAP_NODES_ALL]⟩
def KILN_MAP_SEGS_ALL : Field := ⟨"KILN_MAP_SEGS_ALL", 0x400210, 0x0, 0x0, 0x0, 0, 32, .ro, .any⟩
def KILN_MAP_SEGS_reg : Reg := ⟨"KILN_MAP_SEGS", 0x400210, 0x0, 0, 1, 0x0, 1, 0x0,
  [KILN_MAP_SEGS_ALL]⟩
def KILN_MAP_GROUPS_ALL : Field := ⟨"KILN_MAP_GROUPS_ALL", 0x400214, 0x0, 0x0, 0x0, 0, 32, .ro, .any⟩
def KILN_MAP_GROUPS_reg : Reg := ⟨"KILN_MAP_GROUPS", 0x400214, 0x0, 0, 1, 0x0, 1, 0x0,
  [KILN_MAP_GROUPS_ALL]⟩
def KILN_STAGE_BYTES_ALL : Field := ⟨"KILN_STAGE_BYTES_ALL", 0x400218, 0x0, 0x0, 0x0, 0, 32, .ro, .any⟩
def KILN_STAGE_BYTES_reg : Reg := ⟨"KILN_STAGE_BYTES", 0x400218, 0x0, 0, 1, 0x0, 1, 0x0,
  [KILN_STAGE_BYTES_ALL]⟩
def KILN_STAGE_VINDEX_ALL : Field := ⟨"KILN_STAGE_VINDEX_ALL", 0x40021C, 0x0, 0x0, 0x0, 0, 32, .ro, .any⟩
def KILN_STAGE_VINDEX_reg : Reg := ⟨"KILN_STAGE_VINDEX", 0x40021C, 0x0, 0, 1, 0x0, 1, 0x0,
  [KILN_STAGE_VINDEX_ALL]⟩
def KILN_MAP_COMMIT_PT_ALL : Field := ⟨"KILN_MAP_COMMIT_PT_ALL", 0x400220, 0x0, 0x0, 0x0, 0, 32, .ro, .any⟩
def KILN_MAP_COMMIT_PT_reg : Reg := ⟨"KILN_MAP_COMMIT_PT", 0x400220, 0x0, 0, 1, 0x0, 1, 0x0,
  [KILN_MAP_COMMIT_PT_ALL]⟩
def KILN_BANK_ROLE : Field := ⟨"KILN_BANK_ROLE", 0x400300, 0x4, 0x0, 0x0, 0, 2, .ro, .any⟩
def KILN_BANK_LOGICAL : Field := ⟨"KILN_BANK_LOGICAL", 0x400300, 0x4, 0x0, 0x0, 4, 4, .ro, .any⟩
def KILN_BANK_PASSES : Field := ⟨"KILN_BANK_PASSES", 0x400300, 0x4, 0x0, 0x0, 16, 16, .ro, .any⟩
def KILN_BANK_reg : Reg := ⟨"KILN_BANK", 0x400300, 0x4, 0, 17, 0x0, 1, 0x0,
  [KILN_BANK_ROLE, KILN_BANK_LOGICAL, KILN_BANK_PASSES]⟩
def KILN_ROT_STATUS_SPARE : Field := ⟨"KILN_ROT_STATUS_SPARE", 0x400344, 0x0, 0x0, 0x10, 0, 5, .ro, .any⟩
def KILN_ROT_STATUS_COPYING : Field := ⟨"KILN_ROT_STATUS_COPYING", 0x400344, 0x0, 0x0, 0x10, 5, 1, .ro, .any⟩
def KILN_ROT_STATUS_STEPS : Field := ⟨"KILN_ROT_STATUS_STEPS", 0x400344, 0x0, 0x0, 0x10, 16, 16, .ro, .any⟩
def KILN_ROT_STATUS_reg : Reg := ⟨"KILN_ROT_STATUS", 0x400344, 0x0, 0, 1, 0x0, 1, 0x10,
  [KILN_ROT_STATUS_SPARE, KILN_ROT_STATUS_COPYING, KILN_ROT_STATUS_STEPS]⟩

/-! The registers of spec/04_reservations.md. -/
def KILN_CTRL_ENABLE : Field := ⟨"KILN_CTRL_ENABLE", 0x400000, 0x0, 0x0, 0x0, 0, 1, .own, .any⟩
def KILN_CTRL_reg : Reg := ⟨"KILN_CTRL", 0x400000, 0x0, 0, 1, 0x0, 1, 0x0,
  [KILN_CTRL_ENABLE]⟩
def KILN_STATUS_DRAINING : Field := ⟨"KILN_STATUS_DRAINING", 0x400004, 0x0, 0x0, 0x0, 0, 1, .ro, .any⟩
def KILN_STATUS_FIXTURES : Field := ⟨"KILN_STATUS_FIXTURES", 0x400004, 0x0, 0x0, 0x0, 8, 5, .ro, .any⟩
def KILN_STATUS_AGENTS : Field := ⟨"KILN_STATUS_AGENTS", 0x400004, 0x0, 0x0, 0x0, 16, 10, .ro, .any⟩
def KILN_STATUS_reg : Reg := ⟨"KILN_STATUS", 0x400004, 0x0, 0, 1, 0x0, 1, 0x0,
  [KILN_STATUS_DRAINING, KILN_STATUS_FIXTURES, KILN_STATUS_AGENTS]⟩
def KILN_SILENT_CFG_AUTOREL_EN : Field := ⟨"KILN_SILENT_CFG_AUTOREL_EN", 0x400008, 0x0, 0x0, 0x3C0000, 0, 1, .rws, .any⟩
def KILN_SILENT_CFG_AUTOREL_S : Field := ⟨"KILN_SILENT_CFG_AUTOREL_S", 0x400008, 0x0, 0x0, 0x3C0000, 16, 12, .rws, (.nearer 10 3600)⟩
def KILN_SILENT_CFG_reg : Reg := ⟨"KILN_SILENT_CFG", 0x400008, 0x0, 0, 1, 0x0, 1, 0x3C0000,
  [KILN_SILENT_CFG_AUTOREL_EN, KILN_SILENT_CFG_AUTOREL_S]⟩
def KILN_PARK_STATUS_COUNT : Field := ⟨"KILN_PARK_STATUS_COUNT", 0x40000C, 0x0, 0x0, 0x0, 0, 7, .ro, .any⟩
def KILN_PARK_STATUS_OLDEST : Field := ⟨"KILN_PARK_STATUS_OLDEST", 0x40000C, 0x0, 0x0, 0x0, 16, 16, .ro, .any⟩
def KILN_PARK_STATUS_reg : Reg := ⟨"KILN_PARK_STATUS", 0x40000C, 0x0, 0, 1, 0x0, 1, 0x0,
  [KILN_PARK_STATUS_COUNT, KILN_PARK_STATUS_OLDEST]⟩
def KILN_OPS_ALL : Field := ⟨"KILN_OPS_ALL", 0x400010, 0x0, 0x0, 0x0, 0, 32, .rc, .any⟩
def KILN_OPS_reg : Reg := ⟨"KILN_OPS", 0x400010, 0x0, 0, 1, 0x0, 1, 0x0,
  [KILN_OPS_ALL]⟩
def KILN_GRANTS_ALL : Field := ⟨"KILN_GRANTS_ALL", 0x400014, 0x0, 0x0, 0x0, 0, 32, .rc, .any⟩
def KILN_GRANTS_reg : Reg := ⟨"KILN_GRANTS", 0x400014, 0x0, 0, 1, 0x0, 1, 0x0,
  [KILN_GRANTS_ALL]⟩
def KILN_PARK_WITHDRAWN_ALL : Field := ⟨"KILN_PARK_WITHDRAWN_ALL", 0x400018, 0x0, 0x0, 0x0, 0, 32, .rc, .any⟩
def KILN_PARK_WITHDRAWN_reg : Reg := ⟨"KILN_PARK_WITHDRAWN", 0x400018, 0x0, 0, 1, 0x0, 1, 0x0,
  [KILN_PARK_WITHDRAWN_ALL]⟩
def KILN_REPORT_IGNORED_ALL : Field := ⟨"KILN_REPORT_IGNORED_ALL", 0x40001C, 0x0, 0x0, 0x0, 0, 32, .rc, .any⟩
def KILN_REPORT_IGNORED_reg : Reg := ⟨"KILN_REPORT_IGNORED", 0x40001C, 0x0, 0, 1, 0x0, 1, 0x0,
  [KILN_REPORT_IGNORED_ALL]⟩
def KILN_LIMIT_PASSED_ALL : Field := ⟨"KILN_LIMIT_PASSED_ALL", 0x400020, 0x0, 0x0, 0x0, 0, 32, .rc, .any⟩
def KILN_LIMIT_PASSED_reg : Reg := ⟨"KILN_LIMIT_PASSED", 0x400020, 0x0, 0, 1, 0x0, 1, 0x0,
  [KILN_LIMIT_PASSED_ALL]⟩
def KILN_CYCLE_STEPS_MAX_ALL : Field := ⟨"KILN_CYCLE_STEPS_MAX_ALL", 0x400024, 0x0, 0x0, 0x0, 0, 32, .rc, .any⟩
def KILN_CYCLE_STEPS_MAX_reg : Reg := ⟨"KILN_CYCLE_STEPS_MAX", 0x400024, 0x0, 0, 1, 0x0, 1, 0x0,
  [KILN_CYCLE_STEPS_MAX_ALL]⟩
def KILN_OP_CYCLES_MAX_ALL : Field := ⟨"KILN_OP_CYCLES_MAX_ALL", 0x400028, 0x0, 0x0, 0x0, 0, 32, .rc, .any⟩
def KILN_OP_CYCLES_MAX_reg : Reg := ⟨"KILN_OP_CYCLES_MAX", 0x400028, 0x0, 0, 1, 0x0, 1, 0x0,
  [KILN_OP_CYCLES_MAX_ALL]⟩
def KILN_TICK_OPS_MAX_ALL : Field := ⟨"KILN_TICK_OPS_MAX_ALL", 0x40002C, 0x0, 0x0, 0x0, 0, 32, .rc, .any⟩
def KILN_TICK_OPS_MAX_reg : Reg := ⟨"KILN_TICK_OPS_MAX", 0x40002C, 0x0, 0, 1, 0x0, 1, 0x0,
  [KILN_TICK_OPS_MAX_ALL]⟩
def KILN_DENY_ALL : Field := ⟨"KILN_DENY_ALL", 0x400040, 0x4, 0x0, 0x0, 0, 32, .rc, .any⟩
def KILN_DENY_reg : Reg := ⟨"KILN_DENY", 0x400040, 0x4, 0, 10, 0x0, 1, 0x0,
  [KILN_DENY_ALL]⟩

/-! The registers of spec/05_movement_authority.md. -/
def KILN_AUTH_CFG_EXPIRY_MS : Field := ⟨"KILN_AUTH_CFG_EXPIRY_MS", 0x400400, 0x0, 0x0, 0xBB8, 0, 14, .rws, (.nearer 1500 10000)⟩
def KILN_AUTH_CFG_reg : Reg := ⟨"KILN_AUTH_CFG", 0x400400, 0x0, 0, 1, 0x0, 1, 0xBB8,
  [KILN_AUTH_CFG_EXPIRY_MS]⟩
def KILN_AUTH_SITE_CAP_CAP : Field := ⟨"KILN_AUTH_SITE_CAP_CAP", 0x400404, 0x0, 0x0, 0xFFFF, 0, 16, .rw, (.nearer 1 65535)⟩
def KILN_AUTH_SITE_CAP_reg : Reg := ⟨"KILN_AUTH_SITE_CAP", 0x400404, 0x0, 0, 1, 0x0, 1, 0xFFFF,
  [KILN_AUTH_SITE_CAP_CAP]⟩
def KILN_AUTH_STATUS_KEY_VALID : Field := ⟨"KILN_AUTH_STATUS_KEY_VALID", 0x400408, 0x0, 0x0, 0x0, 0, 1, .ro, .any⟩
def KILN_AUTH_STATUS_SIGNING : Field := ⟨"KILN_AUTH_STATUS_SIGNING", 0x400408, 0x0, 0x0, 0x0, 1, 1, .ro, .any⟩
def KILN_AUTH_STATUS_KEY_ID : Field := ⟨"KILN_AUTH_STATUS_KEY_ID", 0x400408, 0x0, 0x0, 0x0, 8, 8, .ro, .any⟩
def KILN_AUTH_STATUS_reg : Reg := ⟨"KILN_AUTH_STATUS", 0x400408, 0x0, 0, 1, 0x0, 1, 0x0,
  [KILN_AUTH_STATUS_KEY_VALID, KILN_AUTH_STATUS_SIGNING, KILN_AUTH_STATUS_KEY_ID]⟩
def KILN_AUTH_BUILT_ALL : Field := ⟨"KILN_AUTH_BUILT_ALL", 0x40040C, 0x0, 0x0, 0x0, 0, 32, .rc, .any⟩
def KILN_AUTH_BUILT_reg : Reg := ⟨"KILN_AUTH_BUILT", 0x40040C, 0x0, 0, 1, 0x0, 1, 0x0,
  [KILN_AUTH_BUILT_ALL]⟩
def KILN_AUTH_STANDSTILL_ALL : Field := ⟨"KILN_AUTH_STANDSTILL_ALL", 0x400410, 0x0, 0x0, 0x0, 0, 32, .rc, .any⟩
def KILN_AUTH_STANDSTILL_reg : Reg := ⟨"KILN_AUTH_STANDSTILL", 0x400410, 0x0, 0, 1, 0x0, 1, 0x0,
  [KILN_AUTH_STANDSTILL_ALL]⟩
def KILN_AUTH_SLOT_MAX_ALL : Field := ⟨"KILN_AUTH_SLOT_MAX_ALL", 0x400414, 0x0, 0x0, 0x0, 0, 32, .rc, .any⟩
def KILN_AUTH_SLOT_MAX_reg : Reg := ⟨"KILN_AUTH_SLOT_MAX", 0x400414, 0x0, 0, 1, 0x0, 1, 0x0,
  [KILN_AUTH_SLOT_MAX_ALL]⟩
def KILN_AUTH_CHK_FAIL_ALL : Field := ⟨"KILN_AUTH_CHK_FAIL_ALL", 0x400418, 0x0, 0x0, 0x0, 0, 32, .rc, .any⟩
def KILN_AUTH_CHK_FAIL_reg : Reg := ⟨"KILN_AUTH_CHK_FAIL", 0x400418, 0x0, 0, 1, 0x0, 1, 0x0,
  [KILN_AUTH_CHK_FAIL_ALL]⟩
def KILN_AUTH_SEL_INDEX : Field := ⟨"KILN_AUTH_SEL_INDEX", 0x400420, 0x0, 0x0, 0x0, 0, 9, .rw, .any⟩
def KILN_AUTH_SEL_reg : Reg := ⟨"KILN_AUTH_SEL", 0x400420, 0x0, 0, 1, 0x0, 1, 0x0,
  [KILN_AUTH_SEL_INDEX]⟩
def KILN_AUTH_VIEW_SEQ_AUTH_SEQ : Field := ⟨"KILN_AUTH_VIEW_SEQ_AUTH_SEQ", 0x400424, 0x0, 0x0, 0x0, 0, 16, .ro, .any⟩
def KILN_AUTH_VIEW_SEQ_COUNT : Field := ⟨"KILN_AUTH_VIEW_SEQ_COUNT", 0x400424, 0x0, 0x0, 0x0, 16, 5, .ro, .any⟩
def KILN_AUTH_VIEW_SEQ_FLAGS : Field := ⟨"KILN_AUTH_VIEW_SEQ_FLAGS", 0x400424, 0x0, 0x0, 0x0, 24, 3, .ro, .any⟩
def KILN_AUTH_VIEW_SEQ_VALID : Field := ⟨"KILN_AUTH_VIEW_SEQ_VALID", 0x400424, 0x0, 0x0, 0x0, 31, 1, .ro, .any⟩
def KILN_AUTH_VIEW_SEQ_reg : Reg := ⟨"KILN_AUTH_VIEW_SEQ", 0x400424, 0x0, 0, 1, 0x0, 1, 0x0,
  [KILN_AUTH_VIEW_SEQ_AUTH_SEQ, KILN_AUTH_VIEW_SEQ_COUNT, KILN_AUTH_VIEW_SEQ_FLAGS, KILN_AUTH_VIEW_SEQ_VALID]⟩
def KILN_AUTH_VIEW_ASN_ALL : Field := ⟨"KILN_AUTH_VIEW_ASN_ALL", 0x400428, 0x0, 0x0, 0x0, 0, 32, .ro, .any⟩
def KILN_AUTH_VIEW_ASN_reg : Reg := ⟨"KILN_AUTH_VIEW_ASN", 0x400428, 0x0, 0, 1, 0x0, 1, 0x0,
  [KILN_AUTH_VIEW_ASN_ALL]⟩
def KILN_AUTH_VIEW_EXP_ALL : Field := ⟨"KILN_AUTH_VIEW_EXP_ALL", 0x40042C, 0x0, 0x0, 0x0, 0, 32, .ro, .any⟩
def KILN_AUTH_VIEW_EXP_reg : Reg := ⟨"KILN_AUTH_VIEW_EXP", 0x40042C, 0x0, 0, 1, 0x0, 1, 0x0,
  [KILN_AUTH_VIEW_EXP_ALL]⟩
def KILN_AUTH_VIEW_LIMIT_ALL : Field := ⟨"KILN_AUTH_VIEW_LIMIT_ALL", 0x400430, 0x0, 0x0, 0x0, 0, 32, .ro, .any⟩
def KILN_AUTH_VIEW_LIMIT_reg : Reg := ⟨"KILN_AUTH_VIEW_LIMIT", 0x400430, 0x0, 0, 1, 0x0, 1, 0x0,
  [KILN_AUTH_VIEW_LIMIT_ALL]⟩
def KILN_AUTH_ZONE_CAP_CAP : Field := ⟨"KILN_AUTH_ZONE_CAP_CAP", 0x400500, 0x4, 0x0, 0x0, 0, 16, .rw, .any⟩
def KILN_AUTH_ZONE_CAP_reg : Reg := ⟨"KILN_AUTH_ZONE_CAP", 0x400500, 0x4, 0, 64, 0x0, 1, 0x0,
  [KILN_AUTH_ZONE_CAP_CAP]⟩
def KILN_FIX_ILK_AXIS : Field := ⟨"KILN_FIX_ILK_AXIS", 0x400600, 0x0, 0x0, 0x0, 0, 8, .ro, .any⟩
def KILN_FIX_ILK_DOCK : Field := ⟨"KILN_FIX_ILK_DOCK", 0x400600, 0x0, 0x0, 0x0, 8, 16, .ro, .any⟩
def KILN_FIX_ILK_reg : Reg := ⟨"KILN_FIX_ILK", 0x400600, 0x0, 0, 1, 0x0, 1, 0x0,
  [KILN_FIX_ILK_AXIS, KILN_FIX_ILK_DOCK]⟩
def KILN_FIX_ILK_DROPS_ALL : Field := ⟨"KILN_FIX_ILK_DROPS_ALL", 0x400604, 0x0, 0x0, 0x0, 0, 32, .rc, .any⟩
def KILN_FIX_ILK_DROPS_reg : Reg := ⟨"KILN_FIX_ILK_DROPS", 0x400604, 0x0, 0, 1, 0x0, 1, 0x0,
  [KILN_FIX_ILK_DROPS_ALL]⟩

/-! The registers of spec/06_damper.md. -/
def DAMP_CTRL_ENABLE : Field := ⟨"DAMP_CTRL_ENABLE", 0x480000, 0x0, 0x0, 0x0, 0, 1, .own, .any⟩
def DAMP_CTRL_reg : Reg := ⟨"DAMP_CTRL", 0x480000, 0x0, 0, 1, 0x0, 1, 0x0,
  [DAMP_CTRL_ENABLE]⟩
def DAMP_STATUS_SITE_LATCHED : Field := ⟨"DAMP_STATUS_SITE_LATCHED", 0x480004, 0x0, 0x0, 0x71, 0, 1, .ro, .any⟩
def DAMP_STATUS_ARMED : Field := ⟨"DAMP_STATUS_ARMED", 0x480004, 0x0, 0x0, 0x71, 1, 1, .ro, .any⟩
def DAMP_STATUS_ARM_SCOPE : Field := ⟨"DAMP_STATUS_ARM_SCOPE", 0x480004, 0x0, 0x0, 0x71, 2, 2, .ro, .any⟩
def DAMP_STATUS_OUT_A : Field := ⟨"DAMP_STATUS_OUT_A", 0x480004, 0x0, 0x0, 0x71, 4, 1, .ro, .any⟩
def DAMP_STATUS_OUT_B : Field := ⟨"DAMP_STATUS_OUT_B", 0x480004, 0x0, 0x0, 0x71, 5, 1, .ro, .any⟩
def DAMP_STATUS_FIX_EN_N : Field := ⟨"DAMP_STATUS_FIX_EN_N", 0x480004, 0x0, 0x0, 0x71, 6, 1, .ro, .any⟩
def DAMP_STATUS_GATE : Field := ⟨"DAMP_STATUS_GATE", 0x480004, 0x0, 0x0, 0x71, 7, 1, .ro, .any⟩
def DAMP_STATUS_BURSTS_LEFT : Field := ⟨"DAMP_STATUS_BURSTS_LEFT", 0x480004, 0x0, 0x0, 0x71, 8, 2, .ro, .any⟩
def DAMP_STATUS_DRAINING : Field := ⟨"DAMP_STATUS_DRAINING", 0x480004, 0x0, 0x0, 0x71, 10, 1, .ro, .any⟩
def DAMP_STATUS_TICKET : Field := ⟨"DAMP_STATUS_TICKET", 0x480004, 0x0, 0x0, 0x71, 16, 16, .ro, .any⟩
def DAMP_STATUS_reg : Reg := ⟨"DAMP_STATUS", 0x480004, 0x0, 0, 1, 0x0, 1, 0x71,
  [DAMP_STATUS_SITE_LATCHED, DAMP_STATUS_ARMED, DAMP_STATUS_ARM_SCOPE, DAMP_STATUS_OUT_A, DAMP_STATUS_OUT_B, DAMP_STATUS_FIX_EN_N, DAMP_STATUS_GATE, DAMP_STATUS_BURSTS_LEFT, DAMP_STATUS_DRAINING, DAMP_STATUS_TICKET]⟩
def DAMP_SRC_SRC : Field := ⟨"DAMP_SRC_SRC", 0x480008, 0x0, 0x0, 0x0, 0, 15, .ro, .any⟩
def DAMP_SRC_reg : Reg := ⟨"DAMP_SRC", 0x480008, 0x0, 0, 1, 0x0, 1, 0x0,
  [DAMP_SRC_SRC]⟩
def DAMP_SRC_SEEN_SEEN : Field := ⟨"DAMP_SRC_SEEN_SEEN", 0x48000C, 0x0, 0x0, 0x4000, 0, 15, .w1c, .any⟩
def DAMP_SRC_SEEN_reg : Reg := ⟨"DAMP_SRC_SEEN", 0x48000C, 0x0, 0, 1, 0x0, 1, 0x4000,
  [DAMP_SRC_SEEN_SEEN]⟩
def DAMP_CAUSE_SOURCE : Field := ⟨"DAMP_CAUSE_SOURCE", 0x480010, 0x0, 0x0, 0xE, 0, 4, .ro, .any⟩
def DAMP_CAUSE_DETAIL : Field := ⟨"DAMP_CAUSE_DETAIL", 0x480010, 0x0, 0x0, 0xE, 8, 6, .ro, .any⟩
def DAMP_CAUSE_reg : Reg := ⟨"DAMP_CAUSE", 0x480010, 0x0, 0, 1, 0x0, 1, 0xE,
  [DAMP_CAUSE_SOURCE, DAMP_CAUSE_DETAIL]⟩
def DAMP_CAUSE_PT_ALL : Field := ⟨"DAMP_CAUSE_PT_ALL", 0x480014, 0x0, 0x0, 0x0, 0, 32, .ro, .any⟩
def DAMP_CAUSE_PT_reg : Reg := ⟨"DAMP_CAUSE_PT", 0x480014, 0x0, 0, 1, 0x0, 1, 0x0,
  [DAMP_CAUSE_PT_ALL]⟩
def DAMP_IN_LEVEL_LEVEL_A : Field := ⟨"DAMP_IN_LEVEL_LEVEL_A", 0x480018, 0x0, 0x0, 0x0, 0, 4, .ro, .any⟩
def DAMP_IN_LEVEL_LEVEL_B : Field := ⟨"DAMP_IN_LEVEL_LEVEL_B", 0x480018, 0x0, 0x0, 0x0, 4, 4, .ro, .any⟩
def DAMP_IN_LEVEL_DISC : Field := ⟨"DAMP_IN_LEVEL_DISC", 0x480018, 0x0, 0x0, 0x0, 8, 4, .ro, .any⟩
def DAMP_IN_LEVEL_CLEAR : Field := ⟨"DAMP_IN_LEVEL_CLEAR", 0x480018, 0x0, 0x0, 0x0, 12, 4, .ro, .any⟩
def DAMP_IN_LEVEL_reg : Reg := ⟨"DAMP_IN_LEVEL", 0x480018, 0x0, 0, 1, 0x0, 1, 0x0,
  [DAMP_IN_LEVEL_LEVEL_A, DAMP_IN_LEVEL_LEVEL_B, DAMP_IN_LEVEL_DISC, DAMP_IN_LEVEL_CLEAR]⟩
def DAMP_IN_CFG_USE : Field := ⟨"DAMP_IN_CFG_USE", 0x480020, 0x10, 0x0, 0x1, 0, 1, .rws, .any⟩
def DAMP_IN_CFG_SCOPE : Field := ⟨"DAMP_IN_CFG_SCOPE", 0x480020, 0x10, 0x0, 0x1, 1, 1, .rws, .any⟩
def DAMP_IN_CFG_reg : Reg := ⟨"DAMP_IN_CFG", 0x480020, 0x10, 0, 4, 0x0, 1, 0x1,
  [DAMP_IN_CFG_USE, DAMP_IN_CFG_SCOPE]⟩
def DAMP_IN_ZONE_LO_ALL : Field := ⟨"DAMP_IN_ZONE_LO_ALL", 0x480024, 0x10, 0x0, 0x0, 0, 32, .rws, .any⟩
def DAMP_IN_ZONE_LO_reg : Reg := ⟨"DAMP_IN_ZONE_LO", 0x480024, 0x10, 0, 4, 0x0, 1, 0x0,
  [DAMP_IN_ZONE_LO_ALL]⟩
def DAMP_IN_ZONE_HI_ALL : Field := ⟨"DAMP_IN_ZONE_HI_ALL", 0x480028, 0x10, 0x0, 0x0, 0, 32, .rws, .any⟩
def DAMP_IN_ZONE_HI_reg : Reg := ⟨"DAMP_IN_ZONE_HI", 0x480028, 0x10, 0, 4, 0x0, 1, 0x0,
  [DAMP_IN_ZONE_HI_ALL]⟩
def DAMP_ZONE_LO_ALL : Field := ⟨"DAMP_ZONE_LO_ALL", 0x480060, 0x0, 0x0, 0x0, 0, 32, .ro, .any⟩
def DAMP_ZONE_LO_reg : Reg := ⟨"DAMP_ZONE_LO", 0x480060, 0x0, 0, 1, 0x0, 1, 0x0,
  [DAMP_ZONE_LO_ALL]⟩
def DAMP_ZONE_HI_ALL : Field := ⟨"DAMP_ZONE_HI_ALL", 0x480064, 0x0, 0x0, 0x0, 0, 32, .ro, .any⟩
def DAMP_ZONE_HI_reg : Reg := ⟨"DAMP_ZONE_HI", 0x480064, 0x0, 0, 1, 0x0, 1, 0x0,
  [DAMP_ZONE_HI_ALL]⟩
def DAMP_FIX_CFG_DELAY_MS : Field := ⟨"DAMP_FIX_CFG_DELAY_MS", 0x480068, 0x0, 0x0, 0x0, 0, 9, .rws, (.nearer 0 500)⟩
def DAMP_FIX_CFG_reg : Reg := ⟨"DAMP_FIX_CFG", 0x480068, 0x0, 0, 1, 0x0, 1, 0x0,
  [DAMP_FIX_CFG_DELAY_MS]⟩
def DAMP_WDOG_CFG_EN : Field := ⟨"DAMP_WDOG_CFG_EN", 0x48006C, 0x0, 0x0, 0xC8, 0, 1, .rws, .any⟩
def DAMP_WDOG_CFG_TIMEOUT_MS : Field := ⟨"DAMP_WDOG_CFG_TIMEOUT_MS", 0x48006C, 0x0, 0x0, 0xC8, 2, 14, .rws, (.nearer 10 10000)⟩
def DAMP_WDOG_CFG_reg : Reg := ⟨"DAMP_WDOG_CFG", 0x48006C, 0x0, 0, 1, 0x0, 1, 0xC8,
  [DAMP_WDOG_CFG_EN, DAMP_WDOG_CFG_TIMEOUT_MS]⟩
def DAMP_TEST_STATUS_FAILED : Field := ⟨"DAMP_TEST_STATUS_FAILED", 0x480070, 0x0, 0x0, 0x0, 0, 1, .ro, .any⟩
def DAMP_TEST_STATUS_WHERE : Field := ⟨"DAMP_TEST_STATUS_WHERE", 0x480070, 0x0, 0x0, 0x0, 1, 5, .ro, .any⟩
def DAMP_TEST_STATUS_KIND : Field := ⟨"DAMP_TEST_STATUS_KIND", 0x480070, 0x0, 0x0, 0x0, 6, 2, .ro, .any⟩
def DAMP_TEST_STATUS_reg : Reg := ⟨"DAMP_TEST_STATUS", 0x480070, 0x0, 0, 1, 0x0, 1, 0x0,
  [DAMP_TEST_STATUS_FAILED, DAMP_TEST_STATUS_WHERE, DAMP_TEST_STATUS_KIND]⟩
def DAMP_TEST_CYCLES_ALL : Field := ⟨"DAMP_TEST_CYCLES_ALL", 0x480074, 0x0, 0x0, 0x0, 0, 32, .rc, .any⟩
def DAMP_TEST_CYCLES_reg : Reg := ⟨"DAMP_TEST_CYCLES", 0x480074, 0x0, 0, 1, 0x0, 1, 0x0,
  [DAMP_TEST_CYCLES_ALL]⟩
def DAMP_LATCH_COUNT_ALL : Field := ⟨"DAMP_LATCH_COUNT_ALL", 0x480078, 0x0, 0x0, 0x0, 0, 32, .rc, .any⟩
def DAMP_LATCH_COUNT_reg : Reg := ⟨"DAMP_LATCH_COUNT", 0x480078, 0x0, 0, 1, 0x0, 1, 0x0,
  [DAMP_LATCH_COUNT_ALL]⟩
def DAMP_ARM_ENDED_ALL : Field := ⟨"DAMP_ARM_ENDED_ALL", 0x48007C, 0x0, 0x0, 0x0, 0, 32, .rc, .any⟩
def DAMP_ARM_ENDED_reg : Reg := ⟨"DAMP_ARM_ENDED", 0x48007C, 0x0, 0, 1, 0x0, 1, 0x0,
  [DAMP_ARM_ENDED_ALL]⟩
def DAMP_DISC_CNT_ALL : Field := ⟨"DAMP_DISC_CNT_ALL", 0x480080, 0x0, 0x0, 0x0, 0, 32, .rc, .any⟩
def DAMP_DISC_CNT_reg : Reg := ⟨"DAMP_DISC_CNT", 0x480080, 0x0, 0, 1, 0x0, 1, 0x0,
  [DAMP_DISC_CNT_ALL]⟩
def DAMP_REQ_REFUSED_ALL : Field := ⟨"DAMP_REQ_REFUSED_ALL", 0x480084, 0x0, 0x0, 0x0, 0, 32, .rc, .any⟩
def DAMP_REQ_REFUSED_reg : Reg := ⟨"DAMP_REQ_REFUSED", 0x480084, 0x0, 0, 1, 0x0, 1, 0x0,
  [DAMP_REQ_REFUSED_ALL]⟩
def DAMP_AGENT_ALL : Field := ⟨"DAMP_AGENT_ALL", 0x480100, 0x4, 0x0, 0x0, 0, 32, .ro, .any⟩
def DAMP_AGENT_reg : Reg := ⟨"DAMP_AGENT", 0x480100, 0x4, 0, 16, 0x0, 1, 0x0,
  [DAMP_AGENT_ALL]⟩
def DAMP_S0_REQ_SITE : Field := ⟨"DAMP_S0_REQ_SITE", 0x480200, 0x0, 0x0, 0x0, 0, 1, .own, .any⟩
def DAMP_S0_REQ_AGENT_SET : Field := ⟨"DAMP_S0_REQ_AGENT_SET", 0x480200, 0x0, 0x0, 0x0, 1, 1, .own, .any⟩
def DAMP_S0_REQ_ZONE_SET : Field := ⟨"DAMP_S0_REQ_ZONE_SET", 0x480200, 0x0, 0x0, 0x0, 2, 1, .own, .any⟩
def DAMP_S0_REQ_ZONE : Field := ⟨"DAMP_S0_REQ_ZONE", 0x480200, 0x0, 0x0, 0x0, 8, 6, .own, .any⟩
def DAMP_S0_REQ_INDEX : Field := ⟨"DAMP_S0_REQ_INDEX", 0x480200, 0x0, 0x0, 0x0, 16, 9, .own, .any⟩
def DAMP_S0_REQ_reg : Reg := ⟨"DAMP_S0_REQ", 0x480200, 0x0, 0, 1, 0x0, 1, 0x0,
  [DAMP_S0_REQ_SITE, DAMP_S0_REQ_AGENT_SET, DAMP_S0_REQ_ZONE_SET, DAMP_S0_REQ_ZONE, DAMP_S0_REQ_INDEX]⟩
def DAMP_S1_REQ_SITE : Field := ⟨"DAMP_S1_REQ_SITE", 0x480204, 0x0, 0x0, 0x0, 0, 1, .own, .any⟩
def DAMP_S1_REQ_AGENT_SET : Field := ⟨"DAMP_S1_REQ_AGENT_SET", 0x480204, 0x0, 0x0, 0x0, 1, 1, .own, .any⟩
def DAMP_S1_REQ_ZONE_SET : Field := ⟨"DAMP_S1_REQ_ZONE_SET", 0x480204, 0x0, 0x0, 0x0, 2, 1, .own, .any⟩
def DAMP_S1_REQ_ZONE : Field := ⟨"DAMP_S1_REQ_ZONE", 0x480204, 0x0, 0x0, 0x0, 8, 6, .own, .any⟩
def DAMP_S1_REQ_INDEX : Field := ⟨"DAMP_S1_REQ_INDEX", 0x480204, 0x0, 0x0, 0x0, 16, 9, .own, .any⟩
def DAMP_S1_REQ_reg : Reg := ⟨"DAMP_S1_REQ", 0x480204, 0x0, 0, 1, 0x0, 1, 0x0,
  [DAMP_S1_REQ_SITE, DAMP_S1_REQ_AGENT_SET, DAMP_S1_REQ_ZONE_SET, DAMP_S1_REQ_ZONE, DAMP_S1_REQ_INDEX]⟩

/-! The registers of spec/07_air_slots.md. -/
def AIR_CTRL_ENABLE : Field := ⟨"AIR_CTRL_ENABLE", 0x300000, 0x0, 0x0, 0x0, 0, 1, .own, .any⟩
def AIR_CTRL_CFG_ERR : Field := ⟨"AIR_CTRL_CFG_ERR", 0x300000, 0x0, 0x0, 0x0, 1, 1, .w1c, .any⟩
def AIR_CTRL_reg : Reg := ⟨"AIR_CTRL", 0x300000, 0x0, 0, 1, 0x0, 1, 0x0,
  [AIR_CTRL_ENABLE, AIR_CTRL_CFG_ERR]⟩
def AIR_STATUS_TX_OK : Field := ⟨"AIR_STATUS_TX_OK", 0x300004, 0x0, 0x0, 0xFF0000, 0, 1, .ro, .any⟩
def AIR_STATUS_STEPPED : Field := ⟨"AIR_STATUS_STEPPED", 0x300004, 0x0, 0x0, 0xFF0000, 1, 1, .ro, .any⟩
def AIR_STATUS_GRANTED : Field := ⟨"AIR_STATUS_GRANTED", 0x300004, 0x0, 0x0, 0xFF0000, 2, 1, .ro, .any⟩
def AIR_STATUS_ACTIVE : Field := ⟨"AIR_STATUS_ACTIVE", 0x300004, 0x0, 0x0, 0xFF0000, 3, 1, .ro, .any⟩
def AIR_STATUS_GATE : Field := ⟨"AIR_STATUS_GATE", 0x300004, 0x0, 0x0, 0xFF0000, 4, 1, .ro, .any⟩
def AIR_STATUS_DRAINING : Field := ⟨"AIR_STATUS_DRAINING", 0x300004, 0x0, 0x0, 0xFF0000, 5, 1, .ro, .any⟩
def AIR_STATUS_ASN_VALID : Field := ⟨"AIR_STATUS_ASN_VALID", 0x300004, 0x0, 0x0, 0xFF0000, 6, 1, .ro, .any⟩
def AIR_STATUS_MODEM_FAIL : Field := ⟨"AIR_STATUS_MODEM_FAIL", 0x300004, 0x0, 0x0, 0xFF0000, 8, 8, .ro, .any⟩
def AIR_STATUS_LANE_OPEN : Field := ⟨"AIR_STATUS_LANE_OPEN", 0x300004, 0x0, 0x0, 0xFF0000, 16, 8, .ro, .any⟩
def AIR_STATUS_reg : Reg := ⟨"AIR_STATUS", 0x300004, 0x0, 0, 1, 0x0, 1, 0xFF0000,
  [AIR_STATUS_TX_OK, AIR_STATUS_STEPPED, AIR_STATUS_GRANTED, AIR_STATUS_ACTIVE, AIR_STATUS_GATE, AIR_STATUS_DRAINING, AIR_STATUS_ASN_VALID, AIR_STATUS_MODEM_FAIL, AIR_STATUS_LANE_OPEN]⟩
def AIR_PROFILE_PROFILE : Field := ⟨"AIR_PROFILE_PROFILE", 0x300008, 0x0, 0x0, 0x0, 0, 4, .ro, .any⟩
def AIR_PROFILE_CHANNELS : Field := ⟨"AIR_PROFILE_CHANNELS", 0x300008, 0x0, 0x0, 0x0, 8, 5, .ro, .any⟩
def AIR_PROFILE_reg : Reg := ⟨"AIR_PROFILE", 0x300008, 0x0, 0, 1, 0x0, 1, 0x0,
  [AIR_PROFILE_PROFILE, AIR_PROFILE_CHANNELS]⟩
def AIR_ASN_LO_ALL : Field := ⟨"AIR_ASN_LO_ALL", 0x30000C, 0x0, 0x0, 0x0, 0, 32, .ro, .any⟩
def AIR_ASN_LO_reg : Reg := ⟨"AIR_ASN_LO", 0x30000C, 0x0, 0, 1, 0x0, 1, 0x0,
  [AIR_ASN_LO_ALL]⟩
def AIR_ASN_HI_ALL : Field := ⟨"AIR_ASN_HI_ALL", 0x300010, 0x0, 0x0, 0x0, 0, 32, .ro, .any⟩
def AIR_ASN_HI_reg : Reg := ⟨"AIR_ASN_HI", 0x300010, 0x0, 0, 1, 0x0, 1, 0x0,
  [AIR_ASN_HI_ALL]⟩
def AIR_SLOT_CFG_SF_LEN : Field := ⟨"AIR_SLOT_CFG_SF_LEN", 0x300014, 0x0, 0x0, 0xFA, 0, 12, .rws, (.steps 5 50 2500)⟩
def AIR_SLOT_CFG_reg : Reg := ⟨"AIR_SLOT_CFG", 0x300014, 0x0, 0, 1, 0x0, 1, 0xFA,
  [AIR_SLOT_CFG_SF_LEN]⟩
def AIR_SF_CTRL_BANK : Field := ⟨"AIR_SF_CTRL_BANK", 0x300018, 0x0, 0x0, 0x0, 0, 1, .ro, .any⟩
def AIR_SF_CTRL_SWITCH : Field := ⟨"AIR_SF_CTRL_SWITCH", 0x300018, 0x0, 0x0, 0x0, 1, 1, .own, .any⟩
def AIR_SF_CTRL_reg : Reg := ⟨"AIR_SF_CTRL", 0x300018, 0x0, 0, 1, 0x0, 1, 0x0,
  [AIR_SF_CTRL_BANK, AIR_SF_CTRL_SWITCH]⟩
def AIR_PA_CFG_LEVEL : Field := ⟨"AIR_PA_CFG_LEVEL", 0x300020, 0x0, 0x0, 0x0, 0, 8, .rws, .any⟩
def AIR_PA_CFG_EXT_PA : Field := ⟨"AIR_PA_CFG_EXT_PA", 0x300020, 0x0, 0x0, 0x0, 8, 1, .rws, .any⟩
def AIR_PA_CFG_reg : Reg := ⟨"AIR_PA_CFG", 0x300020, 0x0, 0, 1, 0x0, 1, 0x0,
  [AIR_PA_CFG_LEVEL, AIR_PA_CFG_EXT_PA]⟩
def AIR_LIMIT_TRIP_ALL : Field := ⟨"AIR_LIMIT_TRIP_ALL", 0x300024, 0x0, 0x0, 0x0, 0, 32, .rc, .any⟩
def AIR_LIMIT_TRIP_reg : Reg := ⟨"AIR_LIMIT_TRIP", 0x300024, 0x0, 0, 1, 0x0, 1, 0x0,
  [AIR_LIMIT_TRIP_ALL]⟩
def AIR_WINDOW_REFUSED_ALL : Field := ⟨"AIR_WINDOW_REFUSED_ALL", 0x300028, 0x0, 0x0, 0x0, 0, 32, .rc, .any⟩
def AIR_WINDOW_REFUSED_reg : Reg := ⟨"AIR_WINDOW_REFUSED", 0x300028, 0x0, 0, 1, 0x0, 1, 0x0,
  [AIR_WINDOW_REFUSED_ALL]⟩
def AIR_RX_WINDOW_MISS_ALL : Field := ⟨"AIR_RX_WINDOW_MISS_ALL", 0x30002C, 0x0, 0x0, 0x0, 0, 32, .rc, .any⟩
def AIR_RX_WINDOW_MISS_reg : Reg := ⟨"AIR_RX_WINDOW_MISS", 0x30002C, 0x0, 0, 1, 0x0, 1, 0x0,
  [AIR_RX_WINDOW_MISS_ALL]⟩
def AIR_GATE_CUTS_ALL : Field := ⟨"AIR_GATE_CUTS_ALL", 0x300030, 0x0, 0x0, 0x0, 0, 32, .rc, .any⟩
def AIR_GATE_CUTS_reg : Reg := ⟨"AIR_GATE_CUTS", 0x300030, 0x0, 0, 1, 0x0, 1, 0x0,
  [AIR_GATE_CUTS_ALL]⟩
def AIR_SF_REFUSED_ALL : Field := ⟨"AIR_SF_REFUSED_ALL", 0x300034, 0x0, 0x0, 0x0, 0, 32, .rc, .any⟩
def AIR_SF_REFUSED_reg : Reg := ⟨"AIR_SF_REFUSED", 0x300034, 0x0, 0, 1, 0x0, 1, 0x0,
  [AIR_SF_REFUSED_ALL]⟩
def AIR_LANE_CFG_OFFSET : Field := ⟨"AIR_LANE_CFG_OFFSET", 0x300100, 0x20, 0x0, 0x0, 0, 5, .rws, .any⟩
def AIR_LANE_CFG_reg : Reg := ⟨"AIR_LANE_CFG", 0x300100, 0x20, 0, 8, 0x0, 1, 0x0,
  [AIR_LANE_CFG_OFFSET]⟩
def AIR_LANE_PWR_PWR : Field := ⟨"AIR_LANE_PWR_PWR", 0x300104, 0x20, 0x0, 0xE, 0, 5, .rw, (.nearer 0 14)⟩
def AIR_LANE_PWR_reg : Reg := ⟨"AIR_LANE_PWR", 0x300104, 0x20, 0, 8, 0x0, 1, 0xE,
  [AIR_LANE_PWR_PWR]⟩
def AIR_LANE_STATUS_STATE : Field := ⟨"AIR_LANE_STATUS_STATE", 0x300108, 0x20, 0x0, 0x1, 0, 2, .ro, .any⟩
def AIR_LANE_STATUS_DARK : Field := ⟨"AIR_LANE_STATUS_DARK", 0x300108, 0x20, 0x0, 0x1, 2, 1, .ro, .any⟩
def AIR_LANE_STATUS_MODEM : Field := ⟨"AIR_LANE_STATUS_MODEM", 0x300108, 0x20, 0x0, 0x1, 4, 3, .ro, .any⟩
def AIR_LANE_STATUS_CHANNEL : Field := ⟨"AIR_LANE_STATUS_CHANNEL", 0x300108, 0x20, 0x0, 0x1, 8, 5, .ro, .any⟩
def AIR_LANE_STATUS_reg : Reg := ⟨"AIR_LANE_STATUS", 0x300108, 0x20, 0, 8, 0x0, 1, 0x1,
  [AIR_LANE_STATUS_STATE, AIR_LANE_STATUS_DARK, AIR_LANE_STATUS_MODEM, AIR_LANE_STATUS_CHANNEL]⟩
def AIR_LANE_TX_US_ALL : Field := ⟨"AIR_LANE_TX_US_ALL", 0x30010C, 0x20, 0x0, 0x0, 0, 32, .rc, .any⟩
def AIR_LANE_TX_US_reg : Reg := ⟨"AIR_LANE_TX_US", 0x30010C, 0x20, 0, 8, 0x0, 1, 0x0,
  [AIR_LANE_TX_US_ALL]⟩
def AIR_LANE_RX_OK_ALL : Field := ⟨"AIR_LANE_RX_OK_ALL", 0x300110, 0x20, 0x0, 0x0, 0, 32, .rc, .any⟩
def AIR_LANE_RX_OK_reg : Reg := ⟨"AIR_LANE_RX_OK", 0x300110, 0x20, 0, 8, 0x0, 1, 0x0,
  [AIR_LANE_RX_OK_ALL]⟩
def AIR_LANE_RX_FCS_ALL : Field := ⟨"AIR_LANE_RX_FCS_ALL", 0x300114, 0x20, 0x0, 0x0, 0, 32, .rc, .any⟩
def AIR_LANE_RX_FCS_reg : Reg := ⟨"AIR_LANE_RX_FCS", 0x300114, 0x20, 0, 8, 0x0, 1, 0x0,
  [AIR_LANE_RX_FCS_ALL]⟩
def AIR_LANE_DARK_ALL : Field := ⟨"AIR_LANE_DARK_ALL", 0x300118, 0x20, 0x0, 0x0, 0, 32, .rc, .any⟩
def AIR_LANE_DARK_reg : Reg := ⟨"AIR_LANE_DARK", 0x300118, 0x20, 0, 8, 0x0, 1, 0x0,
  [AIR_LANE_DARK_ALL]⟩
def AIR_SF_KIND_A_KINDS : Field := ⟨"AIR_SF_KIND_A_KINDS", 0x301000, 0x4, 0x0, 0x0, 0, 32, .rw, .any⟩
def AIR_SF_KIND_A_reg : Reg := ⟨"AIR_SF_KIND_A", 0x301000, 0x4, 0, 313, 0x0, 1, 0x0,
  [AIR_SF_KIND_A_KINDS]⟩
def AIR_SF_KIND_B_KINDS : Field := ⟨"AIR_SF_KIND_B_KINDS", 0x301800, 0x4, 0x0, 0x0, 0, 32, .rw, .any⟩
def AIR_SF_KIND_B_reg : Reg := ⟨"AIR_SF_KIND_B", 0x301800, 0x4, 0, 313, 0x0, 1, 0x0,
  [AIR_SF_KIND_B_KINDS]⟩

/-! The registers of spec/08_air_membership.md. -/
def AIR_JOIN_CTRL_JOIN_OPEN : Field := ⟨"AIR_JOIN_CTRL_JOIN_OPEN", 0x302000, 0x0, 0x0, 0x0, 0, 1, .rw, .any⟩
def AIR_JOIN_CTRL_reg : Reg := ⟨"AIR_JOIN_CTRL", 0x302000, 0x0, 0, 1, 0x0, 1, 0x0,
  [AIR_JOIN_CTRL_JOIN_OPEN]⟩
def AIR_PAN_ID_PAN_ID : Field := ⟨"AIR_PAN_ID_PAN_ID", 0x302004, 0x0, 0x0, 0xFFFF, 0, 16, .rws, .any⟩
def AIR_PAN_ID_reg : Reg := ⟨"AIR_PAN_ID", 0x302004, 0x0, 0, 1, 0x0, 1, 0xFFFF,
  [AIR_PAN_ID_PAN_ID]⟩
def AIR_QUAR_CFG_QUAR_S : Field := ⟨"AIR_QUAR_CFG_QUAR_S", 0x302008, 0x0, 0x0, 0x1E, 0, 10, .rws, (.nearer 10 600)⟩
def AIR_QUAR_CFG_reg : Reg := ⟨"AIR_QUAR_CFG", 0x302008, 0x0, 0, 1, 0x0, 1, 0x1E,
  [AIR_QUAR_CFG_QUAR_S]⟩
def AIR_JOIN_CFG_ADMIT_S : Field := ⟨"AIR_JOIN_CFG_ADMIT_S", 0x30200C, 0x0, 0x0, 0x78, 0, 12, .rws, (.nearer 10 3600)⟩
def AIR_JOIN_CFG_reg : Reg := ⟨"AIR_JOIN_CFG", 0x30200C, 0x0, 0, 1, 0x0, 1, 0x78,
  [AIR_JOIN_CFG_ADMIT_S]⟩
def AIR_KEY_STATUS_BK_VALID : Field := ⟨"AIR_KEY_STATUS_BK_VALID", 0x302010, 0x0, 0x0, 0x0, 0, 1, .ro, .any⟩
def AIR_KEY_STATUS_BK_ID : Field := ⟨"AIR_KEY_STATUS_BK_ID", 0x302010, 0x0, 0x0, 0x0, 8, 8, .ro, .any⟩
def AIR_KEY_STATUS_reg : Reg := ⟨"AIR_KEY_STATUS", 0x302010, 0x0, 0, 1, 0x0, 1, 0x0,
  [AIR_KEY_STATUS_BK_VALID, AIR_KEY_STATUS_BK_ID]⟩
def AIR_MEMBERS_MEMBERS : Field := ⟨"AIR_MEMBERS_MEMBERS", 0x302014, 0x0, 0x0, 0x0, 0, 10, .ro, .any⟩
def AIR_MEMBERS_PENDING : Field := ⟨"AIR_MEMBERS_PENDING", 0x302014, 0x0, 0x0, 0x0, 16, 8, .ro, .any⟩
def AIR_MEMBERS_reg : Reg := ⟨"AIR_MEMBERS", 0x302014, 0x0, 0, 1, 0x0, 1, 0x0,
  [AIR_MEMBERS_MEMBERS, AIR_MEMBERS_PENDING]⟩
def AIR_JOIN_ACKED_ALL : Field := ⟨"AIR_JOIN_ACKED_ALL", 0x302018, 0x0, 0x0, 0x0, 0, 32, .rc, .any⟩
def AIR_JOIN_ACKED_reg : Reg := ⟨"AIR_JOIN_ACKED", 0x302018, 0x0, 0, 1, 0x0, 1, 0x0,
  [AIR_JOIN_ACKED_ALL]⟩
def AIR_JOIN_REJECT_ALL : Field := ⟨"AIR_JOIN_REJECT_ALL", 0x30201C, 0x0, 0x0, 0x0, 0, 32, .rc, .any⟩
def AIR_JOIN_REJECT_reg : Reg := ⟨"AIR_JOIN_REJECT", 0x30201C, 0x0, 0, 1, 0x0, 1, 0x0,
  [AIR_JOIN_REJECT_ALL]⟩
def AIR_JOIN_DONE_ALL : Field := ⟨"AIR_JOIN_DONE_ALL", 0x302020, 0x0, 0x0, 0x0, 0, 32, .rc, .any⟩
def AIR_JOIN_DONE_reg : Reg := ⟨"AIR_JOIN_DONE", 0x302020, 0x0, 0, 1, 0x0, 1, 0x0,
  [AIR_JOIN_DONE_ALL]⟩
def AIR_JOIN_FAIL_ALL : Field := ⟨"AIR_JOIN_FAIL_ALL", 0x302024, 0x0, 0x0, 0x0, 0, 32, .rc, .any⟩
def AIR_JOIN_FAIL_reg : Reg := ⟨"AIR_JOIN_FAIL", 0x302024, 0x0, 0, 1, 0x0, 1, 0x0,
  [AIR_JOIN_FAIL_ALL]⟩
def AIR_STALE_GEN_ALL : Field := ⟨"AIR_STALE_GEN_ALL", 0x302028, 0x0, 0x0, 0x0, 0, 32, .rc, .any⟩
def AIR_STALE_GEN_reg : Reg := ⟨"AIR_STALE_GEN", 0x302028, 0x0, 0, 1, 0x0, 1, 0x0,
  [AIR_STALE_GEN_ALL]⟩
def AIR_SILENT_CNT_ALL : Field := ⟨"AIR_SILENT_CNT_ALL", 0x30202C, 0x0, 0x0, 0x0, 0, 32, .rc, .any⟩
def AIR_SILENT_CNT_reg : Reg := ⟨"AIR_SILENT_CNT", 0x30202C, 0x0, 0, 1, 0x0, 1, 0x0,
  [AIR_SILENT_CNT_ALL]⟩
def AIR_MISSED_UL_ALL : Field := ⟨"AIR_MISSED_UL_ALL", 0x302030, 0x0, 0x0, 0x0, 0, 32, .rc, .any⟩
def AIR_MISSED_UL_reg : Reg := ⟨"AIR_MISSED_UL", 0x302030, 0x0, 0, 1, 0x0, 1, 0x0,
  [AIR_MISSED_UL_ALL]⟩
def AIR_PERMITS_SENT_ALL : Field := ⟨"AIR_PERMITS_SENT_ALL", 0x302034, 0x0, 0x0, 0x0, 0, 32, .rc, .any⟩
def AIR_PERMITS_SENT_reg : Reg := ⟨"AIR_PERMITS_SENT", 0x302034, 0x0, 0, 1, 0x0, 1, 0x0,
  [AIR_PERMITS_SENT_ALL]⟩
def AIR_BURSTS_SENT_ALL : Field := ⟨"AIR_BURSTS_SENT_ALL", 0x302038, 0x0, 0x0, 0x0, 0, 32, .rc, .any⟩
def AIR_BURSTS_SENT_reg : Reg := ⟨"AIR_BURSTS_SENT", 0x302038, 0x0, 0, 1, 0x0, 1, 0x0,
  [AIR_BURSTS_SENT_ALL]⟩
def AIR_LANE_SEATS_OCCUPIED : Field := ⟨"AIR_LANE_SEATS_OCCUPIED", 0x302100, 0x4, 0x0, 0x0, 0, 8, .ro, .any⟩
def AIR_LANE_SEATS_LAST_UP : Field := ⟨"AIR_LANE_SEATS_LAST_UP", 0x302100, 0x4, 0x0, 0x0, 8, 7, .ro, .any⟩
def AIR_LANE_SEATS_MOVES : Field := ⟨"AIR_LANE_SEATS_MOVES", 0x302100, 0x4, 0x0, 0x0, 16, 1, .ro, .any⟩
def AIR_LANE_SEATS_reg : Reg := ⟨"AIR_LANE_SEATS", 0x302100, 0x4, 0, 8, 0x0, 1, 0x0,
  [AIR_LANE_SEATS_OCCUPIED, AIR_LANE_SEATS_LAST_UP, AIR_LANE_SEATS_MOVES]⟩

/-! The registers of spec/09_air_transactions.md. -/
def AIR_TX_CFG_DOWN_MCS_MAX : Field := ⟨"AIR_TX_CFG_DOWN_MCS_MAX", 0x303000, 0x0, 0x0, 0x42B, 0, 2, .rws, (.nearer 2 3)⟩
def AIR_TX_CFG_DOWN_MCS_MIN : Field := ⟨"AIR_TX_CFG_DOWN_MCS_MIN", 0x303000, 0x0, 0x0, 0x42B, 2, 2, .rws, (.nearer 2 3)⟩
def AIR_TX_CFG_AUTH_REPEAT : Field := ⟨"AIR_TX_CFG_AUTH_REPEAT", 0x303000, 0x0, 0x0, 0x42B, 4, 3, .rws, (.nearer 1 4)⟩
def AIR_TX_CFG_RETRY_MAX : Field := ⟨"AIR_TX_CFG_RETRY_MAX", 0x303000, 0x0, 0x0, 0x42B, 8, 3, .rws, (.nearer 0 4)⟩
def AIR_TX_CFG_reg : Reg := ⟨"AIR_TX_CFG", 0x303000, 0x0, 0, 1, 0x0, 1, 0x42B,
  [AIR_TX_CFG_DOWN_MCS_MAX, AIR_TX_CFG_DOWN_MCS_MIN, AIR_TX_CFG_AUTH_REPEAT, AIR_TX_CFG_RETRY_MAX]⟩
def AIR_TASK_CFG_OFFER_S : Field := ⟨"AIR_TASK_CFG_OFFER_S", 0x303004, 0x0, 0x0, 0x1E, 0, 10, .rws, (.nearer 1 600)⟩
def AIR_TASK_CFG_RPT_EVENTS : Field := ⟨"AIR_TASK_CFG_RPT_EVENTS", 0x303004, 0x0, 0x0, 0x1E, 16, 1, .rws, .any⟩
def AIR_TASK_CFG_reg : Reg := ⟨"AIR_TASK_CFG", 0x303004, 0x0, 0, 1, 0x0, 1, 0x1E,
  [AIR_TASK_CFG_OFFER_S, AIR_TASK_CFG_RPT_EVENTS]⟩
def AIR_TASK_STATUS_USED : Field := ⟨"AIR_TASK_STATUS_USED", 0x303008, 0x0, 0x0, 0x0, 0, 13, .ro, .any⟩
def AIR_TASK_STATUS_OPEN : Field := ⟨"AIR_TASK_STATUS_OPEN", 0x303008, 0x0, 0x0, 0x0, 16, 13, .ro, .any⟩
def AIR_TASK_STATUS_reg : Reg := ⟨"AIR_TASK_STATUS", 0x303008, 0x0, 0, 1, 0x0, 1, 0x0,
  [AIR_TASK_STATUS_USED, AIR_TASK_STATUS_OPEN]⟩
def AIR_LINK_SEL_INDEX : Field := ⟨"AIR_LINK_SEL_INDEX", 0x30300C, 0x0, 0x0, 0x0, 0, 9, .rw, .any⟩
def AIR_LINK_SEL_reg : Reg := ⟨"AIR_LINK_SEL", 0x30300C, 0x0, 0, 1, 0x0, 1, 0x0,
  [AIR_LINK_SEL_INDEX]⟩
def AIR_LINK_VIEW_MCS : Field := ⟨"AIR_LINK_VIEW_MCS", 0x303010, 0x0, 0x0, 0x0, 0, 2, .ro, .any⟩
def AIR_LINK_VIEW_RETRIES : Field := ⟨"AIR_LINK_VIEW_RETRIES", 0x303010, 0x0, 0x0, 0x0, 2, 3, .ro, .any⟩
def AIR_LINK_VIEW_PENDING : Field := ⟨"AIR_LINK_VIEW_PENDING", 0x303010, 0x0, 0x0, 0x0, 5, 1, .ro, .any⟩
def AIR_LINK_VIEW_DOWN_DSN : Field := ⟨"AIR_LINK_VIEW_DOWN_DSN", 0x303010, 0x0, 0x0, 0x0, 8, 8, .ro, .any⟩
def AIR_LINK_VIEW_UP_DSN : Field := ⟨"AIR_LINK_VIEW_UP_DSN", 0x303010, 0x0, 0x0, 0x0, 16, 8, .ro, .any⟩
def AIR_LINK_VIEW_OK_RUN : Field := ⟨"AIR_LINK_VIEW_OK_RUN", 0x303010, 0x0, 0x0, 0x0, 24, 5, .ro, .any⟩
def AIR_LINK_VIEW_reg : Reg := ⟨"AIR_LINK_VIEW", 0x303010, 0x0, 0, 1, 0x0, 1, 0x0,
  [AIR_LINK_VIEW_MCS, AIR_LINK_VIEW_RETRIES, AIR_LINK_VIEW_PENDING, AIR_LINK_VIEW_DOWN_DSN, AIR_LINK_VIEW_UP_DSN, AIR_LINK_VIEW_OK_RUN]⟩
def AIR_TX_FIRST_ALL : Field := ⟨"AIR_TX_FIRST_ALL", 0x303014, 0x0, 0x0, 0x0, 0, 32, .rc, .any⟩
def AIR_TX_FIRST_reg : Reg := ⟨"AIR_TX_FIRST", 0x303014, 0x0, 0, 1, 0x0, 1, 0x0,
  [AIR_TX_FIRST_ALL]⟩
def AIR_TX_RETRY_ALL : Field := ⟨"AIR_TX_RETRY_ALL", 0x303018, 0x0, 0x0, 0x0, 0, 32, .rc, .any⟩
def AIR_TX_RETRY_reg : Reg := ⟨"AIR_TX_RETRY", 0x303018, 0x0, 0, 1, 0x0, 1, 0x0,
  [AIR_TX_RETRY_ALL]⟩
def AIR_TX_GIVEUP_ALL : Field := ⟨"AIR_TX_GIVEUP_ALL", 0x30301C, 0x0, 0x0, 0x0, 0, 32, .rc, .any⟩
def AIR_TX_GIVEUP_reg : Reg := ⟨"AIR_TX_GIVEUP", 0x30301C, 0x0, 0, 1, 0x0, 1, 0x0,
  [AIR_TX_GIVEUP_ALL]⟩
def AIR_RX_DUP_ALL : Field := ⟨"AIR_RX_DUP_ALL", 0x303020, 0x0, 0x0, 0x0, 0, 32, .rc, .any⟩
def AIR_RX_DUP_reg : Reg := ⟨"AIR_RX_DUP", 0x303020, 0x0, 0, 1, 0x0, 1, 0x0,
  [AIR_RX_DUP_ALL]⟩
def AIR_RX_DROPPED_ALL : Field := ⟨"AIR_RX_DROPPED_ALL", 0x303024, 0x0, 0x0, 0x0, 0, 32, .rc, .any⟩
def AIR_RX_DROPPED_reg : Reg := ⟨"AIR_RX_DROPPED", 0x303024, 0x0, 0, 1, 0x0, 1, 0x0,
  [AIR_RX_DROPPED_ALL]⟩
def AIR_IE_UNKNOWN_ALL : Field := ⟨"AIR_IE_UNKNOWN_ALL", 0x303028, 0x0, 0x0, 0x0, 0, 32, .rc, .any⟩
def AIR_IE_UNKNOWN_reg : Reg := ⟨"AIR_IE_UNKNOWN", 0x303028, 0x0, 0, 1, 0x0, 1, 0x0,
  [AIR_IE_UNKNOWN_ALL]⟩
def AIR_AUTH_SENT_ALL : Field := ⟨"AIR_AUTH_SENT_ALL", 0x30302C, 0x0, 0x0, 0x0, 0, 32, .rc, .any⟩
def AIR_AUTH_SENT_reg : Reg := ⟨"AIR_AUTH_SENT", 0x30302C, 0x0, 0, 1, 0x0, 1, 0x0,
  [AIR_AUTH_SENT_ALL]⟩
def AIR_AUTH_SUPERSEDED_ALL : Field := ⟨"AIR_AUTH_SUPERSEDED_ALL", 0x303030, 0x0, 0x0, 0x0, 0, 32, .rc, .any⟩
def AIR_AUTH_SUPERSEDED_reg : Reg := ⟨"AIR_AUTH_SUPERSEDED", 0x303030, 0x0, 0, 1, 0x0, 1, 0x0,
  [AIR_AUTH_SUPERSEDED_ALL]⟩
def AIR_RPT_DELIVERED_ALL : Field := ⟨"AIR_RPT_DELIVERED_ALL", 0x303034, 0x0, 0x0, 0x0, 0, 32, .rc, .any⟩
def AIR_RPT_DELIVERED_reg : Reg := ⟨"AIR_RPT_DELIVERED", 0x303034, 0x0, 0, 1, 0x0, 1, 0x0,
  [AIR_RPT_DELIVERED_ALL]⟩
def AIR_TASK_LATE_ALL : Field := ⟨"AIR_TASK_LATE_ALL", 0x303038, 0x0, 0x0, 0x0, 0, 32, .rc, .any⟩
def AIR_TASK_LATE_reg : Reg := ⟨"AIR_TASK_LATE", 0x303038, 0x0, 0, 1, 0x0, 1, 0x0,
  [AIR_TASK_LATE_ALL]⟩
def AIR_TASK_UNKNOWN_ALL : Field := ⟨"AIR_TASK_UNKNOWN_ALL", 0x30303C, 0x0, 0x0, 0x0, 0, 32, .rc, .any⟩
def AIR_TASK_UNKNOWN_reg : Reg := ⟨"AIR_TASK_UNKNOWN", 0x30303C, 0x0, 0, 1, 0x0, 1, 0x0,
  [AIR_TASK_UNKNOWN_ALL]⟩
def AIR_STATUS_IGNORED_ALL : Field := ⟨"AIR_STATUS_IGNORED_ALL", 0x303040, 0x0, 0x0, 0x0, 0, 32, .rc, .any⟩
def AIR_STATUS_IGNORED_reg : Reg := ⟨"AIR_STATUS_IGNORED", 0x303040, 0x0, 0, 1, 0x0, 1, 0x0,
  [AIR_STATUS_IGNORED_ALL]⟩

/-! The registers of spec/10_gnss_baseband.md. -/
def GNSS_CTRL_ENABLE : Field := ⟨"GNSS_CTRL_ENABLE", 0x200000, 0x0, 0x0, 0x2, 0, 1, .own, .any⟩
def GNSS_CTRL_AUTO : Field := ⟨"GNSS_CTRL_AUTO", 0x200000, 0x0, 0x0, 0x2, 1, 1, .rw, .any⟩
def GNSS_CTRL_reg : Reg := ⟨"GNSS_CTRL", 0x200000, 0x0, 0, 1, 0x0, 1, 0x2,
  [GNSS_CTRL_ENABLE, GNSS_CTRL_AUTO]⟩
def GNSS_STATUS_DRAINING : Field := ⟨"GNSS_STATUS_DRAINING", 0x200004, 0x0, 0x0, 0x80, 0, 1, .ro, .any⟩
def GNSS_STATUS_SPARES : Field := ⟨"GNSS_STATUS_SPARES", 0x200004, 0x0, 0x0, 0x80, 4, 8, .ro, .any⟩
def GNSS_STATUS_ACTIVE : Field := ⟨"GNSS_STATUS_ACTIVE", 0x200004, 0x0, 0x0, 0x80, 16, 9, .ro, .any⟩
def GNSS_STATUS_reg : Reg := ⟨"GNSS_STATUS", 0x200004, 0x0, 0, 1, 0x0, 1, 0x80,
  [GNSS_STATUS_DRAINING, GNSS_STATUS_SPARES, GNSS_STATUS_ACTIVE]⟩
def GNSS_EPOCH_CFG_RATE_HZ : Field := ⟨"GNSS_EPOCH_CFG_RATE_HZ", 0x200008, 0x0, 0x0, 0x14, 0, 5, .rws, (.oneOf [1, 5, 10, 20] 20)⟩
def GNSS_EPOCH_CFG_reg : Reg := ⟨"GNSS_EPOCH_CFG", 0x200008, 0x0, 0, 1, 0x0, 1, 0x14,
  [GNSS_EPOCH_CFG_RATE_HZ]⟩
def GNSS_SIG_EN_EN : Field := ⟨"GNSS_SIG_EN_EN", 0x20000C, 0x0, 0x0, 0x7FFF, 0, 15, .rw, .any⟩
def GNSS_SIG_EN_reg : Reg := ⟨"GNSS_SIG_EN", 0x20000C, 0x0, 0, 1, 0x0, 1, 0x7FFF,
  [GNSS_SIG_EN_EN]⟩
def GNSS_ELEV_CFG_MASK_DEG : Field := ⟨"GNSS_ELEV_CFG_MASK_DEG", 0x200010, 0x0, 0x0, 0x5, 0, 6, .rw, (.nearer 0 60)⟩
def GNSS_ELEV_CFG_reg : Reg := ⟨"GNSS_ELEV_CFG", 0x200010, 0x0, 0, 1, 0x0, 1, 0x5,
  [GNSS_ELEV_CFG_MASK_DEG]⟩
def GNSS_ACQ_CFG_THRESH : Field := ⟨"GNSS_ACQ_CFG_THRESH", 0x200014, 0x0, 0x0, 0x178, 0, 8, .rws, .any⟩
def GNSS_ACQ_CFG_DWELL_MS : Field := ⟨"GNSS_ACQ_CFG_DWELL_MS", 0x200014, 0x0, 0x0, 0x178, 8, 4, .rws, (.nearer 1 10)⟩
def GNSS_ACQ_CFG_reg : Reg := ⟨"GNSS_ACQ_CFG", 0x200014, 0x0, 0, 1, 0x0, 1, 0x178,
  [GNSS_ACQ_CFG_THRESH, GNSS_ACQ_CFG_DWELL_MS]⟩
def GNSS_TRK_CFG_PLL_BW : Field := ⟨"GNSS_TRK_CFG_PLL_BW", 0x200018, 0x0, 0x0, 0x64050F, 0, 6, .rws, (.nearer 2 40)⟩
def GNSS_TRK_CFG_DLL_BW : Field := ⟨"GNSS_TRK_CFG_DLL_BW", 0x200018, 0x0, 0x0, 0x64050F, 8, 6, .rws, (.nearer 1 50)⟩
def GNSS_TRK_CFG_DROP_CN0 : Field := ⟨"GNSS_TRK_CFG_DROP_CN0", 0x200018, 0x0, 0x0, 0x64050F, 16, 8, .rws, .any⟩
def GNSS_TRK_CFG_reg : Reg := ⟨"GNSS_TRK_CFG", 0x200018, 0x0, 0, 1, 0x0, 1, 0x64050F,
  [GNSS_TRK_CFG_PLL_BW, GNSS_TRK_CFG_DLL_BW, GNSS_TRK_CFG_DROP_CN0]⟩
def GNSS_ANT_CFG_A_BIAS_EN : Field := ⟨"GNSS_ANT_CFG_A_BIAS_EN", 0x200020, 0x0, 0x0, 0x0, 0, 1, .rw, .any⟩
def GNSS_ANT_CFG_B_BIAS_EN : Field := ⟨"GNSS_ANT_CFG_B_BIAS_EN", 0x200020, 0x0, 0x0, 0x0, 8, 1, .rw, .any⟩
def GNSS_ANT_CFG_A_BIAS_5V : Field := ⟨"GNSS_ANT_CFG_A_BIAS_5V", 0x200020, 0x0, 0x0, 0x0, 1, 1, .rw, .any⟩
def GNSS_ANT_CFG_B_BIAS_5V : Field := ⟨"GNSS_ANT_CFG_B_BIAS_5V", 0x200020, 0x0, 0x0, 0x0, 9, 1, .rw, .any⟩
def GNSS_ANT_CFG_reg : Reg := ⟨"GNSS_ANT_CFG", 0x200020, 0x0, 0, 1, 0x0, 1, 0x0,
  [GNSS_ANT_CFG_A_BIAS_EN, GNSS_ANT_CFG_B_BIAS_EN, GNSS_ANT_CFG_A_BIAS_5V, GNSS_ANT_CFG_B_BIAS_5V]⟩
def GNSS_ANT_STATUS_A_MA : Field := ⟨"GNSS_ANT_STATUS_A_MA", 0x200024, 0x0, 0x0, 0x0, 0, 8, .ro, .any⟩
def GNSS_ANT_STATUS_B_MA : Field := ⟨"GNSS_ANT_STATUS_B_MA", 0x200024, 0x0, 0x0, 0x0, 16, 8, .ro, .any⟩
def GNSS_ANT_STATUS_A_OPEN : Field := ⟨"GNSS_ANT_STATUS_A_OPEN", 0x200024, 0x0, 0x0, 0x0, 8, 1, .ro, .any⟩
def GNSS_ANT_STATUS_B_OPEN : Field := ⟨"GNSS_ANT_STATUS_B_OPEN", 0x200024, 0x0, 0x0, 0x0, 24, 1, .ro, .any⟩
def GNSS_ANT_STATUS_A_SHORT : Field := ⟨"GNSS_ANT_STATUS_A_SHORT", 0x200024, 0x0, 0x0, 0x0, 9, 1, .ro, .any⟩
def GNSS_ANT_STATUS_B_SHORT : Field := ⟨"GNSS_ANT_STATUS_B_SHORT", 0x200024, 0x0, 0x0, 0x0, 25, 1, .ro, .any⟩
def GNSS_ANT_STATUS_reg : Reg := ⟨"GNSS_ANT_STATUS", 0x200024, 0x0, 0, 1, 0x0, 1, 0x0,
  [GNSS_ANT_STATUS_A_MA, GNSS_ANT_STATUS_B_MA, GNSS_ANT_STATUS_A_OPEN, GNSS_ANT_STATUS_B_OPEN, GNSS_ANT_STATUS_A_SHORT, GNSS_ANT_STATUS_B_SHORT]⟩
def GNSS_BASELINE_E_ALL : Field := ⟨"GNSS_BASELINE_E_ALL", 0x200030, 0x0, 0x0, 0x0, 0, 32, .rw, .any⟩
def GNSS_BASELINE_E_reg : Reg := ⟨"GNSS_BASELINE_E", 0x200030, 0x0, 0, 1, 0x0, 1, 0x0,
  [GNSS_BASELINE_E_ALL]⟩
def GNSS_BASELINE_N_ALL : Field := ⟨"GNSS_BASELINE_N_ALL", 0x200034, 0x0, 0x0, 0x0, 0, 32, .rw, .any⟩
def GNSS_BASELINE_N_reg : Reg := ⟨"GNSS_BASELINE_N", 0x200034, 0x0, 0, 1, 0x0, 1, 0x0,
  [GNSS_BASELINE_N_ALL]⟩
def GNSS_BASELINE_U_ALL : Field := ⟨"GNSS_BASELINE_U_ALL", 0x200038, 0x0, 0x0, 0x0, 0, 32, .rw, .any⟩
def GNSS_BASELINE_U_reg : Reg := ⟨"GNSS_BASELINE_U", 0x200038, 0x0, 0, 1, 0x0, 1, 0x0,
  [GNSS_BASELINE_U_ALL]⟩
def GNSS_DA_CFG_EN : Field := ⟨"GNSS_DA_CFG_EN", 0x20003C, 0x0, 0x0, 0x31E00, 0, 1, .rw, .any⟩
def GNSS_DA_CFG_CODE_THR : Field := ⟨"GNSS_DA_CFG_CODE_THR", 0x20003C, 0x0, 0x0, 0x31E00, 8, 8, .rw, .any⟩
def GNSS_DA_CFG_EPOCHS : Field := ⟨"GNSS_DA_CFG_EPOCHS", 0x20003C, 0x0, 0x0, 0x31E00, 16, 4, .rw, (.nearer 1 15)⟩
def GNSS_DA_CFG_reg : Reg := ⟨"GNSS_DA_CFG", 0x20003C, 0x0, 0, 1, 0x0, 1, 0x31E00,
  [GNSS_DA_CFG_EN, GNSS_DA_CFG_CODE_THR, GNSS_DA_CFG_EPOCHS]⟩
def GNSS_DA_STATUS_CHECKED : Field := ⟨"GNSS_DA_STATUS_CHECKED", 0x200040, 0x0, 0x0, 0x0, 0, 9, .ro, .any⟩
def GNSS_DA_STATUS_FLAGGED : Field := ⟨"GNSS_DA_STATUS_FLAGGED", 0x200040, 0x0, 0x0, 0x0, 16, 9, .ro, .any⟩
def GNSS_DA_STATUS_BASELINE_OK : Field := ⟨"GNSS_DA_STATUS_BASELINE_OK", 0x200040, 0x0, 0x0, 0x0, 30, 1, .ro, .any⟩
def GNSS_DA_STATUS_SPOOF : Field := ⟨"GNSS_DA_STATUS_SPOOF", 0x200040, 0x0, 0x0, 0x0, 31, 1, .ro, .any⟩
def GNSS_DA_STATUS_reg : Reg := ⟨"GNSS_DA_STATUS", 0x200040, 0x0, 0, 1, 0x0, 1, 0x0,
  [GNSS_DA_STATUS_CHECKED, GNSS_DA_STATUS_FLAGGED, GNSS_DA_STATUS_BASELINE_OK, GNSS_DA_STATUS_SPOOF]⟩
def GNSS_MEAS_MISSED_ALL : Field := ⟨"GNSS_MEAS_MISSED_ALL", 0x200050, 0x0, 0x0, 0x0, 0, 32, .rc, .any⟩
def GNSS_MEAS_MISSED_reg : Reg := ⟨"GNSS_MEAS_MISSED", 0x200050, 0x0, 0, 1, 0x0, 1, 0x0,
  [GNSS_MEAS_MISSED_ALL]⟩
def GNSS_NAV_DROPPED_ALL : Field := ⟨"GNSS_NAV_DROPPED_ALL", 0x200054, 0x0, 0x0, 0x0, 0, 32, .rc, .any⟩
def GNSS_NAV_DROPPED_reg : Reg := ⟨"GNSS_NAV_DROPPED", 0x200054, 0x0, 0, 1, 0x0, 1, 0x0,
  [GNSS_NAV_DROPPED_ALL]⟩
def GNSS_NAV_FAILED_ALL : Field := ⟨"GNSS_NAV_FAILED_ALL", 0x200058, 0x0, 0x0, 0x0, 0, 32, .rc, .any⟩
def GNSS_NAV_FAILED_reg : Reg := ⟨"GNSS_NAV_FAILED", 0x200058, 0x0, 0, 1, 0x0, 1, 0x0,
  [GNSS_NAV_FAILED_ALL]⟩
def GNSS_SLIPS_ALL : Field := ⟨"GNSS_SLIPS_ALL", 0x20005C, 0x0, 0x0, 0x0, 0, 32, .rc, .any⟩
def GNSS_SLIPS_reg : Reg := ⟨"GNSS_SLIPS", 0x20005C, 0x0, 0, 1, 0x0, 1, 0x0,
  [GNSS_SLIPS_ALL]⟩
def GNSS_ACQ_FOUND_ALL : Field := ⟨"GNSS_ACQ_FOUND_ALL", 0x200060, 0x0, 0x0, 0x0, 0, 32, .rc, .any⟩
def GNSS_ACQ_FOUND_reg : Reg := ⟨"GNSS_ACQ_FOUND", 0x200060, 0x0, 0, 1, 0x0, 1, 0x0,
  [GNSS_ACQ_FOUND_ALL]⟩
def GNSS_ACQ_NOT_FOUND_ALL : Field := ⟨"GNSS_ACQ_NOT_FOUND_ALL", 0x200064, 0x0, 0x0, 0x0, 0, 32, .rc, .any⟩
def GNSS_ACQ_NOT_FOUND_reg : Reg := ⟨"GNSS_ACQ_NOT_FOUND", 0x200064, 0x0, 0, 1, 0x0, 1, 0x0,
  [GNSS_ACQ_NOT_FOUND_ALL]⟩
def GNSS_DUMP_MAX_ALL : Field := ⟨"GNSS_DUMP_MAX_ALL", 0x200068, 0x0, 0x0, 0x0, 0, 32, .rc, .any⟩
def GNSS_DUMP_MAX_reg : Reg := ⟨"GNSS_DUMP_MAX", 0x200068, 0x0, 0, 1, 0x0, 1, 0x0,
  [GNSS_DUMP_MAX_ALL]⟩
def GNSS_DA_FLAGS_ALL : Field := ⟨"GNSS_DA_FLAGS_ALL", 0x20006C, 0x0, 0x0, 0x0, 0, 32, .rc, .any⟩
def GNSS_DA_FLAGS_reg : Reg := ⟨"GNSS_DA_FLAGS", 0x20006C, 0x0, 0, 1, 0x0, 1, 0x0,
  [GNSS_DA_FLAGS_ALL]⟩
def GNSS_CH_CFG_SPACING : Field := ⟨"GNSS_CH_CFG_SPACING", 0x201000, 0x10, 0x0, 0x4010, 0, 7, .own, (.nearer 4 64)⟩
def GNSS_CH_CFG_VSPACING : Field := ⟨"GNSS_CH_CFG_VSPACING", 0x201000, 0x10, 0x0, 0x4010, 8, 8, .own, .any⟩
def GNSS_CH_CFG_reg : Reg := ⟨"GNSS_CH_CFG", 0x201000, 0x10, 0, 456, 0x0, 1, 0x4010,
  [GNSS_CH_CFG_SPACING, GNSS_CH_CFG_VSPACING]⟩
def GNSS_CH_MP_M0 : Field := ⟨"GNSS_CH_MP_M0", 0x201004, 0x10, 0x0, 0x2801D8, 0, 9, .own, (.signedNearer (-128) 128)⟩
def GNSS_CH_MP_M1 : Field := ⟨"GNSS_CH_MP_M1", 0x201004, 0x10, 0x0, 0x2801D8, 16, 9, .own, (.signedNearer (-128) 128)⟩
def GNSS_CH_MP_reg : Reg := ⟨"GNSS_CH_MP", 0x201004, 0x10, 0, 456, 0x0, 1, 0x2801D8,
  [GNSS_CH_MP_M0, GNSS_CH_MP_M1]⟩
def GNSS_CH_STATUS_STATE : Field := ⟨"GNSS_CH_STATUS_STATE", 0x201008, 0x10, 0x0, 0x0, 0, 3, .ro, .any⟩
def GNSS_CH_STATUS_PATH : Field := ⟨"GNSS_CH_STATUS_PATH", 0x201008, 0x10, 0x0, 0x0, 4, 3, .ro, .any⟩
def GNSS_CH_STATUS_SIG : Field := ⟨"GNSS_CH_STATUS_SIG", 0x201008, 0x10, 0x0, 0x0, 8, 4, .ro, .any⟩
def GNSS_CH_STATUS_SVID : Field := ⟨"GNSS_CH_STATUS_SVID", 0x201008, 0x10, 0x0, 0x0, 16, 8, .ro, .any⟩
def GNSS_CH_STATUS_CN0 : Field := ⟨"GNSS_CH_STATUS_CN0", 0x201008, 0x10, 0x0, 0x0, 24, 8, .ro, .any⟩
def GNSS_CH_STATUS_reg : Reg := ⟨"GNSS_CH_STATUS", 0x201008, 0x10, 0, 456, 0x0, 1, 0x0,
  [GNSS_CH_STATUS_STATE, GNSS_CH_STATUS_PATH, GNSS_CH_STATUS_SIG, GNSS_CH_STATUS_SVID, GNSS_CH_STATUS_CN0]⟩
def GNSS_CH_INFO_MP_INDEX : Field := ⟨"GNSS_CH_INFO_MP_INDEX", 0x20100C, 0x10, 0x0, 0x0, 0, 8, .ro, .any⟩
def GNSS_CH_INFO_SLIPS : Field := ⟨"GNSS_CH_INFO_SLIPS", 0x20100C, 0x10, 0x0, 0x0, 8, 8, .ro, .any⟩
def GNSS_CH_INFO_LOCK_S : Field := ⟨"GNSS_CH_INFO_LOCK_S", 0x20100C, 0x10, 0x0, 0x0, 16, 16, .ro, .any⟩
def GNSS_CH_INFO_reg : Reg := ⟨"GNSS_CH_INFO", 0x20100C, 0x10, 0, 456, 0x0, 1, 0x0,
  [GNSS_CH_INFO_MP_INDEX, GNSS_CH_INFO_SLIPS, GNSS_CH_INFO_LOCK_S]⟩

/-! The registers of spec/11_corrections.md. -/
def CORR_CTRL_ENABLE : Field := ⟨"CORR_CTRL_ENABLE", 0x204000, 0x0, 0x0, 0x0, 0, 1, .own, .any⟩
def CORR_CTRL_REF_ANT : Field := ⟨"CORR_CTRL_REF_ANT", 0x204000, 0x0, 0x0, 0x0, 1, 1, .rw, .any⟩
def CORR_CTRL_reg : Reg := ⟨"CORR_CTRL", 0x204000, 0x0, 0, 1, 0x0, 1, 0x0,
  [CORR_CTRL_ENABLE, CORR_CTRL_REF_ANT]⟩
def CORR_STATUS_VALID : Field := ⟨"CORR_STATUS_VALID", 0x204004, 0x0, 0x0, 0x0, 0, 1, .ro, .any⟩
def CORR_STATUS_POS_STATE : Field := ⟨"CORR_STATUS_POS_STATE", 0x204004, 0x0, 0x0, 0x0, 1, 2, .ro, .any⟩
def CORR_STATUS_SPOOF_HOLD : Field := ⟨"CORR_STATUS_SPOOF_HOLD", 0x204004, 0x0, 0x0, 0x0, 3, 1, .ro, .any⟩
def CORR_STATUS_DRAINING : Field := ⟨"CORR_STATUS_DRAINING", 0x204004, 0x0, 0x0, 0x0, 4, 1, .ro, .any⟩
def CORR_STATUS_REF_IODS : Field := ⟨"CORR_STATUS_REF_IODS", 0x204004, 0x0, 0x0, 0x0, 8, 3, .ro, .any⟩
def CORR_STATUS_TOTAL_CELLS : Field := ⟨"CORR_STATUS_TOTAL_CELLS", 0x204004, 0x0, 0x0, 0x0, 16, 9, .ro, .any⟩
def CORR_STATUS_reg : Reg := ⟨"CORR_STATUS", 0x204004, 0x0, 0, 1, 0x0, 1, 0x0,
  [CORR_STATUS_VALID, CORR_STATUS_POS_STATE, CORR_STATUS_SPOOF_HOLD, CORR_STATUS_DRAINING, CORR_STATUS_REF_IODS, CORR_STATUS_TOTAL_CELLS]⟩
def CORR_RTCM_CFG_MSM_HZ : Field := ⟨"CORR_RTCM_CFG_MSM_HZ", 0x204008, 0x0, 0x0, 0xA01, 0, 3, .rws, .any⟩
def CORR_RTCM_CFG_STATION_S : Field := ⟨"CORR_RTCM_CFG_STATION_S", 0x204008, 0x0, 0x0, 0xA01, 8, 8, .rws, (.nearer 1 60)⟩
def CORR_RTCM_CFG_reg : Reg := ⟨"CORR_RTCM_CFG", 0x204008, 0x0, 0, 1, 0x0, 1, 0xA01,
  [CORR_RTCM_CFG_MSM_HZ, CORR_RTCM_CFG_STATION_S]⟩
def CORR_STATION_ID : Field := ⟨"CORR_STATION_ID", 0x20400C, 0x0, 0x0, 0x0, 0, 12, .rws, .any⟩
def CORR_STATION_reg : Reg := ⟨"CORR_STATION", 0x20400C, 0x0, 0, 1, 0x0, 1, 0x0,
  [CORR_STATION_ID]⟩
def CORR_POS_X_LO_ALL : Field := ⟨"CORR_POS_X_LO_ALL", 0x204010, 0x0, 0x0, 0x0, 0, 32, .ro, .any⟩
def CORR_POS_X_LO_reg : Reg := ⟨"CORR_POS_X_LO", 0x204010, 0x0, 0, 1, 0x0, 1, 0x0,
  [CORR_POS_X_LO_ALL]⟩
def CORR_POS_X_HI_ALL : Field := ⟨"CORR_POS_X_HI_ALL", 0x204014, 0x0, 0x0, 0x0, 0, 32, .ro, .any⟩
def CORR_POS_X_HI_reg : Reg := ⟨"CORR_POS_X_HI", 0x204014, 0x0, 0, 1, 0x0, 1, 0x0,
  [CORR_POS_X_HI_ALL]⟩
def CORR_POS_Y_LO_ALL : Field := ⟨"CORR_POS_Y_LO_ALL", 0x204018, 0x0, 0x0, 0x0, 0, 32, .ro, .any⟩
def CORR_POS_Y_LO_reg : Reg := ⟨"CORR_POS_Y_LO", 0x204018, 0x0, 0, 1, 0x0, 1, 0x0,
  [CORR_POS_Y_LO_ALL]⟩
def CORR_POS_Y_HI_ALL : Field := ⟨"CORR_POS_Y_HI_ALL", 0x20401C, 0x0, 0x0, 0x0, 0, 32, .ro, .any⟩
def CORR_POS_Y_HI_reg : Reg := ⟨"CORR_POS_Y_HI", 0x20401C, 0x0, 0, 1, 0x0, 1, 0x0,
  [CORR_POS_Y_HI_ALL]⟩
def CORR_POS_Z_LO_ALL : Field := ⟨"CORR_POS_Z_LO_ALL", 0x204020, 0x0, 0x0, 0x0, 0, 32, .ro, .any⟩
def CORR_POS_Z_LO_reg : Reg := ⟨"CORR_POS_Z_LO", 0x204020, 0x0, 0, 1, 0x0, 1, 0x0,
  [CORR_POS_Z_LO_ALL]⟩
def CORR_POS_Z_HI_ALL : Field := ⟨"CORR_POS_Z_HI_ALL", 0x204024, 0x0, 0x0, 0x0, 0, 32, .ro, .any⟩
def CORR_POS_Z_HI_reg : Reg := ⟨"CORR_POS_Z_HI", 0x204024, 0x0, 0, 1, 0x0, 1, 0x0,
  [CORR_POS_Z_HI_ALL]⟩
def CORR_ANT_HEIGHT_HEIGHT : Field := ⟨"CORR_ANT_HEIGHT_HEIGHT", 0x204028, 0x0, 0x0, 0x0, 0, 16, .ro, .any⟩
def CORR_ANT_HEIGHT_reg : Reg := ⟨"CORR_ANT_HEIGHT", 0x204028, 0x0, 0, 1, 0x0, 1, 0x0,
  [CORR_ANT_HEIGHT_HEIGHT]⟩
def CORR_SURVEY_ELAPSED_S : Field := ⟨"CORR_SURVEY_ELAPSED_S", 0x204030, 0x0, 0x0, 0x0, 0, 17, .ro, .any⟩
def CORR_SURVEY_USED_PCT : Field := ⟨"CORR_SURVEY_USED_PCT", 0x204030, 0x0, 0x0, 0x0, 17, 15, .ro, .any⟩
def CORR_SURVEY_reg : Reg := ⟨"CORR_SURVEY", 0x204030, 0x0, 0, 1, 0x0, 1, 0x0,
  [CORR_SURVEY_ELAPSED_S, CORR_SURVEY_USED_PCT]⟩
def CORR_IE_SENT_ALL : Field := ⟨"CORR_IE_SENT_ALL", 0x204040, 0x0, 0x0, 0x0, 0, 32, .rc, .any⟩
def CORR_IE_SENT_reg : Reg := ⟨"CORR_IE_SENT", 0x204040, 0x0, 0, 1, 0x0, 1, 0x0,
  [CORR_IE_SENT_ALL]⟩
def CORR_IE_DISCARD_ALL : Field := ⟨"CORR_IE_DISCARD_ALL", 0x204044, 0x0, 0x0, 0x0, 0, 32, .rc, .any⟩
def CORR_IE_DISCARD_reg : Reg := ⟨"CORR_IE_DISCARD", 0x204044, 0x0, 0, 1, 0x0, 1, 0x0,
  [CORR_IE_DISCARD_ALL]⟩
def CORR_AGE_MAX_ALL : Field := ⟨"CORR_AGE_MAX_ALL", 0x204048, 0x0, 0x0, 0x0, 0, 32, .rc, .any⟩
def CORR_AGE_MAX_reg : Reg := ⟨"CORR_AGE_MAX", 0x204048, 0x0, 0, 1, 0x0, 1, 0x0,
  [CORR_AGE_MAX_ALL]⟩
def CORR_RTCM_DROPPED_ALL : Field := ⟨"CORR_RTCM_DROPPED_ALL", 0x20404C, 0x0, 0x0, 0x0, 0, 32, .rc, .any⟩
def CORR_RTCM_DROPPED_reg : Reg := ⟨"CORR_RTCM_DROPPED", 0x20404C, 0x0, 0, 1, 0x0, 1, 0x0,
  [CORR_RTCM_DROPPED_ALL]⟩
def CORR_RTCM_MISSED_ALL : Field := ⟨"CORR_RTCM_MISSED_ALL", 0x204050, 0x0, 0x0, 0x0, 0, 32, .rc, .any⟩
def CORR_RTCM_MISSED_reg : Reg := ⟨"CORR_RTCM_MISSED", 0x204050, 0x0, 0, 1, 0x0, 1, 0x0,
  [CORR_RTCM_MISSED_ALL]⟩
def CORR_SKIPPED_ALL : Field := ⟨"CORR_SKIPPED_ALL", 0x204054, 0x0, 0x0, 0x0, 0, 32, .rc, .any⟩
def CORR_SKIPPED_reg : Reg := ⟨"CORR_SKIPPED", 0x204054, 0x0, 0, 1, 0x0, 1, 0x0,
  [CORR_SKIPPED_ALL]⟩

/-! The registers of spec/12_time.md. -/
def TIME_CTRL_ENABLE : Field := ⟨"TIME_CTRL_ENABLE", 0x100000, 0x0, 0x0, 0x0, 0, 1, .own, .any⟩
def TIME_CTRL_MANUAL : Field := ⟨"TIME_CTRL_MANUAL", 0x100000, 0x0, 0x0, 0x0, 1, 1, .rw, .any⟩
def TIME_CTRL_reg : Reg := ⟨"TIME_CTRL", 0x100000, 0x0, 0, 1, 0x0, 1, 0x0,
  [TIME_CTRL_ENABLE, TIME_CTRL_MANUAL]⟩
def TIME_STATUS_STATUS : Field := ⟨"TIME_STATUS_STATUS", 0x100004, 0x0, 0x0, 0x0, 0, 8, .ro, .any⟩
def TIME_STATUS_STEP_LOCK : Field := ⟨"TIME_STATUS_STEP_LOCK", 0x100004, 0x0, 0x0, 0x0, 8, 1, .ro, .any⟩
def TIME_STATUS_DRAINING : Field := ⟨"TIME_STATUS_DRAINING", 0x100004, 0x0, 0x0, 0x0, 9, 1, .ro, .any⟩
def TIME_STATUS_reg : Reg := ⟨"TIME_STATUS", 0x100004, 0x0, 0, 1, 0x0, 1, 0x0,
  [TIME_STATUS_STATUS, TIME_STATUS_STEP_LOCK, TIME_STATUS_DRAINING]⟩
def TIME_NOW_NS_ALL : Field := ⟨"TIME_NOW_NS_ALL", 0x100008, 0x0, 0x0, 0x0, 0, 32, .ro, .any⟩
def TIME_NOW_NS_reg : Reg := ⟨"TIME_NOW_NS", 0x100008, 0x0, 0, 1, 0x0, 1, 0x0,
  [TIME_NOW_NS_ALL]⟩
def TIME_NOW_S_LO_ALL : Field := ⟨"TIME_NOW_S_LO_ALL", 0x10000C, 0x0, 0x0, 0x0, 0, 32, .ro, .any⟩
def TIME_NOW_S_LO_reg : Reg := ⟨"TIME_NOW_S_LO", 0x10000C, 0x0, 0, 1, 0x0, 1, 0x0,
  [TIME_NOW_S_LO_ALL]⟩
def TIME_NOW_S_HI_ALL : Field := ⟨"TIME_NOW_S_HI_ALL", 0x100010, 0x0, 0x0, 0x0, 0, 32, .ro, .any⟩
def TIME_NOW_S_HI_reg : Reg := ⟨"TIME_NOW_S_HI", 0x100010, 0x0, 0, 1, 0x0, 1, 0x0,
  [TIME_NOW_S_HI_ALL]⟩
def TIME_ADDEND_ADDEND : Field := ⟨"TIME_ADDEND_ADDEND", 0x100014, 0x0, 0x0, 0x0, 0, 32, .own, (.signedNearer (-1717986) 1717986)⟩
def TIME_ADDEND_reg : Reg := ⟨"TIME_ADDEND", 0x100014, 0x0, 0, 1, 0x0, 1, 0x0,
  [TIME_ADDEND_ADDEND]⟩
def TIME_SRC_CFG_GNSS_EN : Field := ⟨"TIME_SRC_CFG_GNSS_EN", 0x100018, 0x0, 0x0, 0xD, 0, 1, .rws, .any⟩
def TIME_SRC_CFG_EXT_EN : Field := ⟨"TIME_SRC_CFG_EXT_EN", 0x100018, 0x0, 0x0, 0xD, 1, 1, .rws, .any⟩
def TIME_SRC_CFG_MATE_EN : Field := ⟨"TIME_SRC_CFG_MATE_EN", 0x100018, 0x0, 0x0, 0xD, 2, 1, .rws, .any⟩
def TIME_SRC_CFG_FREE_EN : Field := ⟨"TIME_SRC_CFG_FREE_EN", 0x100018, 0x0, 0x0, 0xD, 3, 1, .rws, .any⟩
def TIME_SRC_CFG_REF_SEL : Field := ⟨"TIME_SRC_CFG_REF_SEL", 0x100018, 0x0, 0x0, 0xD, 8, 1, .ro, .any⟩
def TIME_SRC_CFG_reg : Reg := ⟨"TIME_SRC_CFG", 0x100018, 0x0, 0, 1, 0x0, 1, 0xD,
  [TIME_SRC_CFG_GNSS_EN, TIME_SRC_CFG_EXT_EN, TIME_SRC_CFG_MATE_EN, TIME_SRC_CFG_FREE_EN, TIME_SRC_CFG_REF_SEL]⟩
def TIME_SLEW_CFG_RATE_PPM : Field := ⟨"TIME_SLEW_CFG_RATE_PPM", 0x10001C, 0x0, 0x0, 0xA000A, 0, 7, .rw, (.nearer 1 100)⟩
def TIME_SLEW_CFG_RECOVER_MAX_MS : Field := ⟨"TIME_SLEW_CFG_RECOVER_MAX_MS", 0x10001C, 0x0, 0x0, 0xA000A, 16, 10, .rw, (.nearer 1 1000)⟩
def TIME_SLEW_CFG_reg : Reg := ⟨"TIME_SLEW_CFG", 0x10001C, 0x0, 0, 1, 0x0, 1, 0xA000A,
  [TIME_SLEW_CFG_RATE_PPM, TIME_SLEW_CFG_RECOVER_MAX_MS]⟩
def TIME_HOLD_CFG_LIMIT_US : Field := ⟨"TIME_HOLD_CFG_LIMIT_US", 0x100020, 0x0, 0x0, 0xA, 0, 16, .rw, (.nearer 1 65535)⟩
def TIME_HOLD_CFG_reg : Reg := ⟨"TIME_HOLD_CFG", 0x100020, 0x0, 0, 1, 0x0, 1, 0xA,
  [TIME_HOLD_CFG_LIMIT_US]⟩
def TIME_HOLD_Y_HOLD_Y : Field := ⟨"TIME_HOLD_Y_HOLD_Y", 0x100024, 0x0, 0x0, 0x640, 0, 16, .rw, .any⟩
def TIME_HOLD_Y_reg : Reg := ⟨"TIME_HOLD_Y", 0x100024, 0x0, 0, 1, 0x0, 1, 0x640,
  [TIME_HOLD_Y_HOLD_Y]⟩
def TIME_HOLD_D_HOLD_D : Field := ⟨"TIME_HOLD_D_HOLD_D", 0x100028, 0x0, 0x0, 0xDAC, 0, 16, .rw, .any⟩
def TIME_HOLD_D_reg : Reg := ⟨"TIME_HOLD_D", 0x100028, 0x0, 0, 1, 0x0, 1, 0xDAC,
  [TIME_HOLD_D_HOLD_D]⟩
def TIME_UNCERT_ALL : Field := ⟨"TIME_UNCERT_ALL", 0x10002C, 0x0, 0x0, 0xFFFFFFFF, 0, 32, .ro, .any⟩
def TIME_UNCERT_reg : Reg := ⟨"TIME_UNCERT", 0x10002C, 0x0, 0, 1, 0x0, 1, 0xFFFFFFFF,
  [TIME_UNCERT_ALL]⟩
def TIME_OFFSET_ALL : Field := ⟨"TIME_OFFSET_ALL", 0x100030, 0x0, 0x0, 0x0, 0, 32, .ro, .any⟩
def TIME_OFFSET_reg : Reg := ⟨"TIME_OFFSET", 0x100030, 0x0, 0, 1, 0x0, 1, 0x0,
  [TIME_OFFSET_ALL]⟩
def TIME_HOLD_S_ALL : Field := ⟨"TIME_HOLD_S_ALL", 0x100034, 0x0, 0x0, 0x0, 0, 32, .ro, .any⟩
def TIME_HOLD_S_reg : Reg := ⟨"TIME_HOLD_S", 0x100034, 0x0, 0, 1, 0x0, 1, 0x0,
  [TIME_HOLD_S_ALL]⟩
def TIME_UTC_OFFSET : Field := ⟨"TIME_UTC_OFFSET", 0x100038, 0x0, 0x0, 0x0, 0, 16, .ro, .any⟩
def TIME_UTC_UTC_VALID : Field := ⟨"TIME_UTC_UTC_VALID", 0x100038, 0x0, 0x0, 0x0, 16, 1, .ro, .any⟩
def TIME_UTC_LEAP61 : Field := ⟨"TIME_UTC_LEAP61", 0x100038, 0x0, 0x0, 0x0, 17, 1, .ro, .any⟩
def TIME_UTC_LEAP59 : Field := ⟨"TIME_UTC_LEAP59", 0x100038, 0x0, 0x0, 0x0, 18, 1, .ro, .any⟩
def TIME_UTC_reg : Reg := ⟨"TIME_UTC", 0x100038, 0x0, 0, 1, 0x0, 1, 0x0,
  [TIME_UTC_OFFSET, TIME_UTC_UTC_VALID, TIME_UTC_LEAP61, TIME_UTC_LEAP59]⟩
def TIME_STEP_PT_ALL : Field := ⟨"TIME_STEP_PT_ALL", 0x10003C, 0x0, 0x0, 0x0, 0, 32, .ro, .any⟩
def TIME_STEP_PT_reg : Reg := ⟨"TIME_STEP_PT", 0x10003C, 0x0, 0, 1, 0x0, 1, 0x0,
  [TIME_STEP_PT_ALL]⟩
def TIME_SRC_STATUS_QUALIFIED : Field := ⟨"TIME_SRC_STATUS_QUALIFIED", 0x100040, 0x0, 0x0, 0x0, 0, 4, .ro, .any⟩
def TIME_SRC_STATUS_SOURCE : Field := ⟨"TIME_SRC_STATUS_SOURCE", 0x100040, 0x0, 0x0, 0x0, 8, 3, .ro, .any⟩
def TIME_SRC_STATUS_FAR : Field := ⟨"TIME_SRC_STATUS_FAR", 0x100040, 0x0, 0x0, 0x0, 16, 1, .ro, .any⟩
def TIME_SRC_STATUS_reg : Reg := ⟨"TIME_SRC_STATUS", 0x100040, 0x0, 0, 1, 0x0, 1, 0x0,
  [TIME_SRC_STATUS_QUALIFIED, TIME_SRC_STATUS_SOURCE, TIME_SRC_STATUS_FAR]⟩
def TIME_STEP_REFUSED_ALL : Field := ⟨"TIME_STEP_REFUSED_ALL", 0x100044, 0x0, 0x0, 0x0, 0, 32, .rc, .any⟩
def TIME_STEP_REFUSED_reg : Reg := ⟨"TIME_STEP_REFUSED", 0x100044, 0x0, 0, 1, 0x0, 1, 0x0,
  [TIME_STEP_REFUSED_ALL]⟩
def TIME_CAP_CFG_EN : Field := ⟨"TIME_CAP_CFG_EN", 0x100100, 0x8, 0x0, 0x0, 0, 1, .rw, .any⟩
def TIME_CAP_CFG_EDGE : Field := ⟨"TIME_CAP_CFG_EDGE", 0x100100, 0x8, 0x0, 0x0, 1, 2, .rw, .any⟩
def TIME_CAP_CFG_reg : Reg := ⟨"TIME_CAP_CFG", 0x100100, 0x8, 0, 16, 0x0, 1, 0x0,
  [TIME_CAP_CFG_EN, TIME_CAP_CFG_EDGE]⟩
def TIME_CAP_STATUS_LEVEL : Field := ⟨"TIME_CAP_STATUS_LEVEL", 0x100104, 0x8, 0x0, 0x0, 0, 5, .ro, .any⟩
def TIME_CAP_STATUS_DROPS : Field := ⟨"TIME_CAP_STATUS_DROPS", 0x100104, 0x8, 0x0, 0x0, 16, 16, .rc, .any⟩
def TIME_CAP_STATUS_reg : Reg := ⟨"TIME_CAP_STATUS", 0x100104, 0x8, 0, 16, 0x0, 1, 0x0,
  [TIME_CAP_STATUS_LEVEL, TIME_CAP_STATUS_DROPS]⟩
def TIME_CMP_CFG_MODE : Field := ⟨"TIME_CMP_CFG_MODE", 0x100200, 0x10, 0x0, 0x10000, 0, 1, .rw, .any⟩
def TIME_CMP_CFG_PERIODIC : Field := ⟨"TIME_CMP_CFG_PERIODIC", 0x100200, 0x10, 0x0, 0x10000, 1, 1, .rw, .any⟩
def TIME_CMP_CFG_OUT : Field := ⟨"TIME_CMP_CFG_OUT", 0x100200, 0x10, 0x0, 0x10000, 2, 6, .rw, (.over 32 0)⟩
def TIME_CMP_CFG_POL : Field := ⟨"TIME_CMP_CFG_POL", 0x100200, 0x10, 0x0, 0x10000, 8, 1, .rw, .any⟩
def TIME_CMP_CFG_LATE_WIN : Field := ⟨"TIME_CMP_CFG_LATE_WIN", 0x100200, 0x10, 0x0, 0x10000, 16, 8, .rw, .any⟩
def TIME_CMP_CFG_reg : Reg := ⟨"TIME_CMP_CFG", 0x100200, 0x10, 0, 16, 0x0, 1, 0x10000,
  [TIME_CMP_CFG_MODE, TIME_CMP_CFG_PERIODIC, TIME_CMP_CFG_OUT, TIME_CMP_CFG_POL, TIME_CMP_CFG_LATE_WIN]⟩
def TIME_CMP_PERIOD_PERIOD_MS : Field := ⟨"TIME_CMP_PERIOD_PERIOD_MS", 0x100204, 0x10, 0x0, 0x3E8, 0, 10, .rw, (.nearer 1 1000)⟩
def TIME_CMP_PERIOD_reg : Reg := ⟨"TIME_CMP_PERIOD", 0x100204, 0x10, 0, 16, 0x0, 1, 0x3E8,
  [TIME_CMP_PERIOD_PERIOD_MS]⟩
def TIME_CMP_WIDTH_WIDTH_US : Field := ⟨"TIME_CMP_WIDTH_WIDTH_US", 0x100208, 0x10, 0x0, 0x186A0, 0, 20, .rw, (.nearer 1 500000)⟩
def TIME_CMP_WIDTH_reg : Reg := ⟨"TIME_CMP_WIDTH", 0x100208, 0x10, 0, 16, 0x0, 1, 0x186A0,
  [TIME_CMP_WIDTH_WIDTH_US]⟩
def TIME_CMP_STATUS_ARMED : Field := ⟨"TIME_CMP_STATUS_ARMED", 0x10020C, 0x10, 0x0, 0x0, 0, 1, .ro, .any⟩
def TIME_CMP_STATUS_RUNNING : Field := ⟨"TIME_CMP_STATUS_RUNNING", 0x10020C, 0x10, 0x0, 0x0, 1, 1, .ro, .any⟩
def TIME_CMP_STATUS_reg : Reg := ⟨"TIME_CMP_STATUS", 0x10020C, 0x10, 0, 16, 0x0, 1, 0x0,
  [TIME_CMP_STATUS_ARMED, TIME_CMP_STATUS_RUNNING]⟩
def TIME_PTP_CFG_DOMAIN : Field := ⟨"TIME_PTP_CFG_DOMAIN", 0x100400, 0x0, 0x0, 0x80800200, 0, 8, .rws, (.nearer 0 127)⟩
def TIME_PTP_CFG_DELAY : Field := ⟨"TIME_PTP_CFG_DELAY", 0x100400, 0x0, 0x0, 0x80800200, 8, 1, .rws, .any⟩
def TIME_PTP_CFG_L2 : Field := ⟨"TIME_PTP_CFG_L2", 0x100400, 0x0, 0x0, 0x80800200, 9, 1, .rws, .any⟩
def TIME_PTP_CFG_IP4 : Field := ⟨"TIME_PTP_CFG_IP4", 0x100400, 0x0, 0x0, 0x80800200, 10, 1, .rws, .any⟩
def TIME_PTP_CFG_IP6 : Field := ⟨"TIME_PTP_CFG_IP6", 0x100400, 0x0, 0x0, 0x80800200, 11, 1, .rws, .any⟩
def TIME_PTP_CFG_PRIO1 : Field := ⟨"TIME_PTP_CFG_PRIO1", 0x100400, 0x0, 0x0, 0x80800200, 16, 8, .rws, .any⟩
def TIME_PTP_CFG_PRIO2 : Field := ⟨"TIME_PTP_CFG_PRIO2", 0x100400, 0x0, 0x0, 0x80800200, 24, 8, .rws, .any⟩
def TIME_PTP_CFG_reg : Reg := ⟨"TIME_PTP_CFG", 0x100400, 0x0, 0, 1, 0x0, 1, 0x80800200,
  [TIME_PTP_CFG_DOMAIN, TIME_PTP_CFG_DELAY, TIME_PTP_CFG_L2, TIME_PTP_CFG_IP4, TIME_PTP_CFG_IP6, TIME_PTP_CFG_PRIO1, TIME_PTP_CFG_PRIO2]⟩
def TIME_PTP_INTV_LOG_SYNC : Field := ⟨"TIME_PTP_INTV_LOG_SYNC", 0x100404, 0x0, 0x0, 0x10, 0, 4, .rws, (.signedNearer (-4) 1)⟩
def TIME_PTP_INTV_LOG_ANN : Field := ⟨"TIME_PTP_INTV_LOG_ANN", 0x100404, 0x0, 0x0, 0x10, 4, 4, .rws, (.signedNearer (0) 3)⟩
def TIME_PTP_INTV_LOG_PDELAY : Field := ⟨"TIME_PTP_INTV_LOG_PDELAY", 0x100404, 0x0, 0x0, 0x10, 8, 4, .rws, (.signedNearer (-4) 5)⟩
def TIME_PTP_INTV_reg : Reg := ⟨"TIME_PTP_INTV", 0x100404, 0x0, 0, 1, 0x0, 1, 0x10,
  [TIME_PTP_INTV_LOG_SYNC, TIME_PTP_INTV_LOG_ANN, TIME_PTP_INTV_LOG_PDELAY]⟩
def TIME_PTP_IP4_ALL : Field := ⟨"TIME_PTP_IP4_ALL", 0x100408, 0x0, 0x0, 0x0, 0, 32, .rws, .any⟩
def TIME_PTP_IP4_reg : Reg := ⟨"TIME_PTP_IP4", 0x100408, 0x0, 0, 1, 0x0, 1, 0x0,
  [TIME_PTP_IP4_ALL]⟩
def TIME_PTP_STATUS_CLASS : Field := ⟨"TIME_PTP_STATUS_CLASS", 0x10040C, 0x0, 0x0, 0x0, 0, 8, .ro, .any⟩
def TIME_PTP_STATUS_ACCURACY : Field := ⟨"TIME_PTP_STATUS_ACCURACY", 0x10040C, 0x0, 0x0, 0x0, 8, 8, .ro, .any⟩
def TIME_PTP_STATUS_SOURCE : Field := ⟨"TIME_PTP_STATUS_SOURCE", 0x10040C, 0x0, 0x0, 0x0, 16, 8, .ro, .any⟩
def TIME_PTP_STATUS_SENDING : Field := ⟨"TIME_PTP_STATUS_SENDING", 0x10040C, 0x0, 0x0, 0x0, 24, 1, .ro, .any⟩
def TIME_PTP_STATUS_reg : Reg := ⟨"TIME_PTP_STATUS", 0x10040C, 0x0, 0, 1, 0x0, 1, 0x0,
  [TIME_PTP_STATUS_CLASS, TIME_PTP_STATUS_ACCURACY, TIME_PTP_STATUS_SOURCE, TIME_PTP_STATUS_SENDING]⟩
def TIME_PTP_LINK_A_ALL : Field := ⟨"TIME_PTP_LINK_A_ALL", 0x100410, 0x0, 0x0, 0x0, 0, 32, .ro, .any⟩
def TIME_PTP_LINK_A_reg : Reg := ⟨"TIME_PTP_LINK_A", 0x100410, 0x0, 0, 1, 0x0, 1, 0x0,
  [TIME_PTP_LINK_A_ALL]⟩
def TIME_PTP_LINK_B_ALL : Field := ⟨"TIME_PTP_LINK_B_ALL", 0x100414, 0x0, 0x0, 0x0, 0, 32, .ro, .any⟩
def TIME_PTP_LINK_B_reg : Reg := ⟨"TIME_PTP_LINK_B", 0x100414, 0x0, 0, 1, 0x0, 1, 0x0,
  [TIME_PTP_LINK_B_ALL]⟩
def TIME_PTP_FOREIGN_ALL : Field := ⟨"TIME_PTP_FOREIGN_ALL", 0x100418, 0x0, 0x0, 0x0, 0, 32, .rc, .any⟩
def TIME_PTP_FOREIGN_reg : Reg := ⟨"TIME_PTP_FOREIGN", 0x100418, 0x0, 0, 1, 0x0, 1, 0x0,
  [TIME_PTP_FOREIGN_ALL]⟩
def TIME_TC_FRAMES_ALL : Field := ⟨"TIME_TC_FRAMES_ALL", 0x10041C, 0x0, 0x0, 0x0, 0, 32, .rc, .any⟩
def TIME_TC_FRAMES_reg : Reg := ⟨"TIME_TC_FRAMES", 0x10041C, 0x0, 0, 1, 0x0, 1, 0x0,
  [TIME_TC_FRAMES_ALL]⟩
def TIME_TC_UNCORR_ALL : Field := ⟨"TIME_TC_UNCORR_ALL", 0x100420, 0x0, 0x0, 0x0, 0, 32, .rc, .any⟩
def TIME_TC_UNCORR_reg : Reg := ⟨"TIME_TC_UNCORR", 0x100420, 0x0, 0, 1, 0x0, 1, 0x0,
  [TIME_TC_UNCORR_ALL]⟩
def TIME_PTP_CLKID_LO_ALL : Field := ⟨"TIME_PTP_CLKID_LO_ALL", 0x100424, 0x0, 0x0, 0x0, 0, 32, .ro, .any⟩
def TIME_PTP_CLKID_LO_reg : Reg := ⟨"TIME_PTP_CLKID_LO", 0x100424, 0x0, 0, 1, 0x0, 1, 0x0,
  [TIME_PTP_CLKID_LO_ALL]⟩
def TIME_PTP_CLKID_HI_ALL : Field := ⟨"TIME_PTP_CLKID_HI_ALL", 0x100428, 0x0, 0x0, 0x0, 0, 32, .ro, .any⟩
def TIME_PTP_CLKID_HI_reg : Reg := ⟨"TIME_PTP_CLKID_HI", 0x100428, 0x0, 0, 1, 0x0, 1, 0x0,
  [TIME_PTP_CLKID_HI_ALL]⟩

/-! The registers of spec/13_redundancy.md. -/
def REDUN_CTRL_MATE_EN : Field := ⟨"REDUN_CTRL_MATE_EN", 0x700000, 0x0, 0x0, 0x0, 0, 1, .rw, .any⟩
def REDUN_CTRL_reg : Reg := ⟨"REDUN_CTRL", 0x700000, 0x0, 0, 1, 0x0, 1, 0x0,
  [REDUN_CTRL_MATE_EN]⟩
def REDUN_STATUS_ROLE_STATE : Field := ⟨"REDUN_STATUS_ROLE_STATE", 0x700004, 0x0, 0x0, 0x0, 0, 3, .ro, .any⟩
def REDUN_STATUS_ALIVE_CODE : Field := ⟨"REDUN_STATUS_ALIVE_CODE", 0x700004, 0x0, 0x0, 0x0, 3, 3, .ro, .any⟩
def REDUN_STATUS_GRANTED : Field := ⟨"REDUN_STATUS_GRANTED", 0x700004, 0x0, 0x0, 0x0, 6, 1, .ro, .any⟩
def REDUN_STATUS_ROLE : Field := ⟨"REDUN_STATUS_ROLE", 0x700004, 0x0, 0x0, 0x0, 7, 1, .ro, .any⟩
def REDUN_STATUS_MATE_OK : Field := ⟨"REDUN_STATUS_MATE_OK", 0x700004, 0x0, 0x0, 0x0, 8, 1, .ro, .any⟩
def REDUN_STATUS_MIRROR : Field := ⟨"REDUN_STATUS_MIRROR", 0x700004, 0x0, 0x0, 0x0, 9, 3, .ro, .any⟩
def REDUN_STATUS_WARM : Field := ⟨"REDUN_STATUS_WARM", 0x700004, 0x0, 0x0, 0x0, 12, 1, .ro, .any⟩
def REDUN_STATUS_SWAP_PENDING : Field := ⟨"REDUN_STATUS_SWAP_PENDING", 0x700004, 0x0, 0x0, 0x0, 13, 1, .ro, .any⟩
def REDUN_STATUS_SWAPPING : Field := ⟨"REDUN_STATUS_SWAPPING", 0x700004, 0x0, 0x0, 0x0, 14, 1, .ro, .any⟩
def REDUN_STATUS_ROLE_PREF : Field := ⟨"REDUN_STATUS_ROLE_PREF", 0x700004, 0x0, 0x0, 0x0, 15, 1, .ro, .any⟩
def REDUN_STATUS_BULK_PCT : Field := ⟨"REDUN_STATUS_BULK_PCT", 0x700004, 0x0, 0x0, 0x0, 16, 8, .ro, .any⟩
def REDUN_STATUS_reg : Reg := ⟨"REDUN_STATUS", 0x700004, 0x0, 0, 1, 0x0, 1, 0x0,
  [REDUN_STATUS_ROLE_STATE, REDUN_STATUS_ALIVE_CODE, REDUN_STATUS_GRANTED, REDUN_STATUS_ROLE, REDUN_STATUS_MATE_OK, REDUN_STATUS_MIRROR, REDUN_STATUS_WARM, REDUN_STATUS_SWAP_PENDING, REDUN_STATUS_SWAPPING, REDUN_STATUS_ROLE_PREF, REDUN_STATUS_BULK_PCT]⟩
def REDUN_SWAP_CFG_PERIOD_H : Field := ⟨"REDUN_SWAP_CFG_PERIOD_H", 0x700008, 0x0, 0x0, 0x18, 0, 8, .own, (.nearer 0 168)⟩
def REDUN_SWAP_CFG_reg : Reg := ⟨"REDUN_SWAP_CFG", 0x700008, 0x0, 0, 1, 0x0, 1, 0x18,
  [REDUN_SWAP_CFG_PERIOD_H]⟩
def REDUN_SWAP_STATUS_MIN_LEFT : Field := ⟨"REDUN_SWAP_STATUS_MIN_LEFT", 0x70000C, 0x0, 0x0, 0x0, 0, 16, .ro, .any⟩
def REDUN_SWAP_STATUS_SUSPENDED : Field := ⟨"REDUN_SWAP_STATUS_SUSPENDED", 0x70000C, 0x0, 0x0, 0x0, 16, 1, .ro, .any⟩
def REDUN_SWAP_STATUS_reg : Reg := ⟨"REDUN_SWAP_STATUS", 0x70000C, 0x0, 0, 1, 0x0, 1, 0x0,
  [REDUN_SWAP_STATUS_MIN_LEFT, REDUN_SWAP_STATUS_SUSPENDED]⟩
def REDUN_VER_OWN_MIN : Field := ⟨"REDUN_VER_OWN_MIN", 0x700010, 0x0, 0x0, 0x0, 0, 8, .ro, .any⟩
def REDUN_VER_OWN_MAX : Field := ⟨"REDUN_VER_OWN_MAX", 0x700010, 0x0, 0x0, 0x0, 8, 8, .ro, .any⟩
def REDUN_VER_IN_USE : Field := ⟨"REDUN_VER_IN_USE", 0x700010, 0x0, 0x0, 0x0, 16, 8, .ro, .any⟩
def REDUN_VER_reg : Reg := ⟨"REDUN_VER", 0x700010, 0x0, 0, 1, 0x0, 1, 0x0,
  [REDUN_VER_OWN_MIN, REDUN_VER_OWN_MAX, REDUN_VER_IN_USE]⟩
def REDUN_CFG_MISMATCH_ITEMS : Field := ⟨"REDUN_CFG_MISMATCH_ITEMS", 0x700014, 0x0, 0x0, 0x0, 0, 8, .ro, .any⟩
def REDUN_CFG_MISMATCH_reg : Reg := ⟨"REDUN_CFG_MISMATCH", 0x700014, 0x0, 0, 1, 0x0, 1, 0x0,
  [REDUN_CFG_MISMATCH_ITEMS]⟩
def REDUN_TT_OFFSET_ALL : Field := ⟨"REDUN_TT_OFFSET_ALL", 0x700018, 0x0, 0x0, 0x0, 0, 32, .ro, .any⟩
def REDUN_TT_OFFSET_reg : Reg := ⟨"REDUN_TT_OFFSET", 0x700018, 0x0, 0, 1, 0x0, 1, 0x0,
  [REDUN_TT_OFFSET_ALL]⟩
def REDUN_TT_RTT_ALL : Field := ⟨"REDUN_TT_RTT_ALL", 0x70001C, 0x0, 0x0, 0x0, 0, 32, .ro, .any⟩
def REDUN_TT_RTT_reg : Reg := ⟨"REDUN_TT_RTT", 0x70001C, 0x0, 0, 1, 0x0, 1, 0x0,
  [REDUN_TT_RTT_ALL]⟩
def REDUN_LAST_PT_ALL : Field := ⟨"REDUN_LAST_PT_ALL", 0x700020, 0x0, 0x0, 0x0, 0, 32, .ro, .any⟩
def REDUN_LAST_PT_reg : Reg := ⟨"REDUN_LAST_PT", 0x700020, 0x0, 0, 1, 0x0, 1, 0x0,
  [REDUN_LAST_PT_ALL]⟩
def REDUN_SWAPS_ALL : Field := ⟨"REDUN_SWAPS_ALL", 0x700040, 0x0, 0x0, 0x0, 0, 32, .rc, .any⟩
def REDUN_SWAPS_reg : Reg := ⟨"REDUN_SWAPS", 0x700040, 0x0, 0, 1, 0x0, 1, 0x0,
  [REDUN_SWAPS_ALL]⟩
def REDUN_TAKEOVERS_ALL : Field := ⟨"REDUN_TAKEOVERS_ALL", 0x700044, 0x0, 0x0, 0x0, 0, 32, .rc, .any⟩
def REDUN_TAKEOVERS_reg : Reg := ⟨"REDUN_TAKEOVERS", 0x700044, 0x0, 0, 1, 0x0, 1, 0x0,
  [REDUN_TAKEOVERS_ALL]⟩
def REDUN_CRC_ERR_ALL : Field := ⟨"REDUN_CRC_ERR_ALL", 0x700048, 0x0, 0x0, 0x0, 0, 32, .rc, .any⟩
def REDUN_CRC_ERR_reg : Reg := ⟨"REDUN_CRC_ERR", 0x700048, 0x0, 0, 1, 0x0, 1, 0x0,
  [REDUN_CRC_ERR_ALL]⟩
def REDUN_RETX_ALL : Field := ⟨"REDUN_RETX_ALL", 0x70004C, 0x0, 0x0, 0x0, 0, 32, .rc, .any⟩
def REDUN_RETX_reg : Reg := ⟨"REDUN_RETX", 0x70004C, 0x0, 0, 1, 0x0, 1, 0x0,
  [REDUN_RETX_ALL]⟩
def REDUN_LINK_LOSS_ALL : Field := ⟨"REDUN_LINK_LOSS_ALL", 0x700050, 0x0, 0x0, 0x0, 0, 32, .rc, .any⟩
def REDUN_LINK_LOSS_reg : Reg := ⟨"REDUN_LINK_LOSS", 0x700050, 0x0, 0, 1, 0x0, 1, 0x0,
  [REDUN_LINK_LOSS_ALL]⟩
def REDUN_RESYNCS_ALL : Field := ⟨"REDUN_RESYNCS_ALL", 0x700054, 0x0, 0x0, 0x0, 0, 32, .rc, .any⟩
def REDUN_RESYNCS_reg : Reg := ⟨"REDUN_RESYNCS", 0x700054, 0x0, 0, 1, 0x0, 1, 0x0,
  [REDUN_RESYNCS_ALL]⟩
def REDUN_PERMIT_MISS_ALL : Field := ⟨"REDUN_PERMIT_MISS_ALL", 0x700058, 0x0, 0x0, 0x0, 0, 32, .rc, .any⟩
def REDUN_PERMIT_MISS_reg : Reg := ⟨"REDUN_PERMIT_MISS", 0x700058, 0x0, 0, 1, 0x0, 1, 0x0,
  [REDUN_PERMIT_MISS_ALL]⟩
def REDUN_HELD_MAX_ALL : Field := ⟨"REDUN_HELD_MAX_ALL", 0x70005C, 0x0, 0x0, 0x0, 0, 32, .rc, .any⟩
def REDUN_HELD_MAX_reg : Reg := ⟨"REDUN_HELD_MAX", 0x70005C, 0x0, 0, 1, 0x0, 1, 0x0,
  [REDUN_HELD_MAX_ALL]⟩
def REDUN_HELLO_BAD_ALL : Field := ⟨"REDUN_HELLO_BAD_ALL", 0x700060, 0x0, 0x0, 0x0, 0, 32, .rc, .any⟩
def REDUN_HELLO_BAD_reg : Reg := ⟨"REDUN_HELLO_BAD", 0x700060, 0x0, 0, 1, 0x0, 1, 0x0,
  [REDUN_HELLO_BAD_ALL]⟩

/-! The registers of spec/14_queues_mailboxes.md. -/
def SAG_CTRL_ENABLE : Field := ⟨"SAG_CTRL_ENABLE", 0x500000, 0x0, 0x0, 0x0, 0, 1, .own, .any⟩
def SAG_CTRL_reg : Reg := ⟨"SAG_CTRL", 0x500000, 0x0, 0, 1, 0x0, 1, 0x0,
  [SAG_CTRL_ENABLE]⟩
def SAG_STATUS_DRAINING : Field := ⟨"SAG_STATUS_DRAINING", 0x500004, 0x0, 0x0, 0x0, 0, 1, .ro, .any⟩
def SAG_STATUS_PENDING : Field := ⟨"SAG_STATUS_PENDING", 0x500004, 0x0, 0x0, 0x0, 8, 7, .ro, .any⟩
def SAG_STATUS_reg : Reg := ⟨"SAG_STATUS", 0x500004, 0x0, 0, 1, 0x0, 1, 0x0,
  [SAG_STATUS_DRAINING, SAG_STATUS_PENDING]⟩
def SAG_POOL_CFG_HOST_MAX : Field := ⟨"SAG_POOL_CFG_HOST_MAX", 0x500008, 0x0, 0x0, 0x10000, 0, 18, .rws, (.nearer 0 131072)⟩
def SAG_POOL_CFG_reg : Reg := ⟨"SAG_POOL_CFG", 0x500008, 0x0, 0, 1, 0x0, 1, 0x10000,
  [SAG_POOL_CFG_HOST_MAX]⟩
def SAG_POOL_FREE_FREE : Field := ⟨"SAG_POOL_FREE_FREE", 0x50000C, 0x0, 0x0, 0x20000, 0, 18, .ro, .any⟩
def SAG_POOL_FREE_reg : Reg := ⟨"SAG_POOL_FREE", 0x50000C, 0x0, 0, 1, 0x0, 1, 0x20000,
  [SAG_POOL_FREE_FREE]⟩
def SAG_POOL_HOST_HOST_USED : Field := ⟨"SAG_POOL_HOST_HOST_USED", 0x500010, 0x0, 0x0, 0x0, 0, 18, .ro, .any⟩
def SAG_POOL_HOST_reg : Reg := ⟨"SAG_POOL_HOST", 0x500010, 0x0, 0, 1, 0x0, 1, 0x0,
  [SAG_POOL_HOST_HOST_USED]⟩
def SAG_POOL_RETIRED_RETIRED : Field := ⟨"SAG_POOL_RETIRED_RETIRED", 0x500014, 0x0, 0x0, 0x0, 0, 18, .ro, .any⟩
def SAG_POOL_RETIRED_reg : Reg := ⟨"SAG_POOL_RETIRED", 0x500014, 0x0, 0, 1, 0x0, 1, 0x0,
  [SAG_POOL_RETIRED_RETIRED]⟩
def SAG_INT_REFUSED_ALL : Field := ⟨"SAG_INT_REFUSED_ALL", 0x500018, 0x0, 0x0, 0x0, 0, 32, .rc, .any⟩
def SAG_INT_REFUSED_reg : Reg := ⟨"SAG_INT_REFUSED", 0x500018, 0x0, 0, 1, 0x0, 1, 0x0,
  [SAG_INT_REFUSED_ALL]⟩
def SAG_Q_WM_HI : Field := ⟨"SAG_Q_WM_HI", 0x501000, 0x10, 0x0, 0x0, 0, 16, .rw, .any⟩
def SAG_Q_WM_LO : Field := ⟨"SAG_Q_WM_LO", 0x501000, 0x10, 0x0, 0x0, 16, 16, .rw, .any⟩
def SAG_Q_WM_reg : Reg := ⟨"SAG_Q_WM", 0x501000, 0x10, 0, 1024, 0x0, 1, 0x0,
  [SAG_Q_WM_HI, SAG_Q_WM_LO]⟩
def SAG_Q_LIMIT_LIMIT : Field := ⟨"SAG_Q_LIMIT_LIMIT", 0x501004, 0x10, 0x0, 0x0, 0, 18, .rw, .any⟩
def SAG_Q_LIMIT_reg : Reg := ⟨"SAG_Q_LIMIT", 0x501004, 0x10, 0, 1024, 0x0, 1, 0x0,
  [SAG_Q_LIMIT_LIMIT]⟩
def SAG_Q_TMO_TIMEOUT : Field := ⟨"SAG_Q_TMO_TIMEOUT", 0x501008, 0x10, 0x0, 0x0, 0, 16, .rw, .any⟩
def SAG_Q_TMO_reg : Reg := ⟨"SAG_Q_TMO", 0x501008, 0x10, 0, 1024, 0x0, 1, 0x0,
  [SAG_Q_TMO_TIMEOUT]⟩
def SAG_Q_STATUS_LEVEL : Field := ⟨"SAG_Q_STATUS_LEVEL", 0x50100C, 0x10, 0x0, 0x0, 0, 18, .ro, .any⟩
def SAG_Q_STATUS_ENABLED : Field := ⟨"SAG_Q_STATUS_ENABLED", 0x50100C, 0x10, 0x0, 0x0, 18, 1, .ro, .any⟩
def SAG_Q_STATUS_ABOVE_HI : Field := ⟨"SAG_Q_STATUS_ABOVE_HI", 0x50100C, 0x10, 0x0, 0x0, 19, 1, .ro, .any⟩
def SAG_Q_STATUS_HI_SEEN : Field := ⟨"SAG_Q_STATUS_HI_SEEN", 0x50100C, 0x10, 0x0, 0x0, 20, 1, .w1c, .any⟩
def SAG_Q_STATUS_LO_SEEN : Field := ⟨"SAG_Q_STATUS_LO_SEEN", 0x50100C, 0x10, 0x0, 0x0, 21, 1, .w1c, .any⟩
def SAG_Q_STATUS_TMO_SEEN : Field := ⟨"SAG_Q_STATUS_TMO_SEEN", 0x50100C, 0x10, 0x0, 0x0, 22, 1, .w1c, .any⟩
def SAG_Q_STATUS_WM_OFF : Field := ⟨"SAG_Q_STATUS_WM_OFF", 0x50100C, 0x10, 0x0, 0x0, 23, 1, .ro, .any⟩
def SAG_Q_STATUS_CROSS_CNT : Field := ⟨"SAG_Q_STATUS_CROSS_CNT", 0x50100C, 0x10, 0x0, 0x0, 24, 8, .ro, .any⟩
def SAG_Q_STATUS_reg : Reg := ⟨"SAG_Q_STATUS", 0x50100C, 0x10, 0, 1024, 0x0, 1, 0x0,
  [SAG_Q_STATUS_LEVEL, SAG_Q_STATUS_ENABLED, SAG_Q_STATUS_ABOVE_HI, SAG_Q_STATUS_HI_SEEN, SAG_Q_STATUS_LO_SEEN, SAG_Q_STATUS_TMO_SEEN, SAG_Q_STATUS_WM_OFF, SAG_Q_STATUS_CROSS_CNT]⟩
def SAG_SQ_IDLE_IDLE_CYC : Field := ⟨"SAG_SQ_IDLE_IDLE_CYC", 0x508000, 0x10, 0x0, 0x400, 0, 16, .rw, .any⟩
def SAG_SQ_IDLE_reg : Reg := ⟨"SAG_SQ_IDLE", 0x508000, 0x10, 0, 32, 0x0, 1, 0x400,
  [SAG_SQ_IDLE_IDLE_CYC]⟩
def SAG_SQ_STATUS_LEVEL : Field := ⟨"SAG_SQ_STATUS_LEVEL", 0x508004, 0x10, 0x0, 0x200, 0, 5, .ro, .any⟩
def SAG_SQ_STATUS_FULL : Field := ⟨"SAG_SQ_STATUS_FULL", 0x508004, 0x10, 0x0, 0x200, 8, 1, .ro, .any⟩
def SAG_SQ_STATUS_EMPTY : Field := ⟨"SAG_SQ_STATUS_EMPTY", 0x508004, 0x10, 0x0, 0x200, 9, 1, .ro, .any⟩
def SAG_SQ_STATUS_reg : Reg := ⟨"SAG_SQ_STATUS", 0x508004, 0x10, 0, 32, 0x0, 1, 0x200,
  [SAG_SQ_STATUS_LEVEL, SAG_SQ_STATUS_FULL, SAG_SQ_STATUS_EMPTY]⟩
def SAG_SQ_WORDS_ALL : Field := ⟨"SAG_SQ_WORDS_ALL", 0x508008, 0x10, 0x0, 0x0, 0, 32, .rc, .any⟩
def SAG_SQ_WORDS_reg : Reg := ⟨"SAG_SQ_WORDS", 0x508008, 0x10, 0, 32, 0x0, 1, 0x0,
  [SAG_SQ_WORDS_ALL]⟩
def MB_POST_LO_ALL : Field := ⟨"MB_POST_LO_ALL", 0x580000, 0x10, 0x0, 0x0, 0, 32, .own, .any⟩
def MB_POST_LO_reg : Reg := ⟨"MB_POST_LO", 0x580000, 0x10, 0, 64, 0x0, 1, 0x0,
  [MB_POST_LO_ALL]⟩
def MB_POST_HI_ADDR_HI : Field := ⟨"MB_POST_HI_ADDR_HI", 0x580004, 0x10, 0x0, 0x0, 0, 16, .own, .any⟩
def MB_POST_HI_TAG : Field := ⟨"MB_POST_HI_TAG", 0x580004, 0x10, 0x0, 0x0, 16, 8, .own, .any⟩
def MB_POST_HI_reg : Reg := ⟨"MB_POST_HI", 0x580004, 0x10, 0, 64, 0x0, 1, 0x0,
  [MB_POST_HI_ADDR_HI, MB_POST_HI_TAG]⟩
def MB_POP_LO_ALL : Field := ⟨"MB_POP_LO_ALL", 0x580008, 0x10, 0x0, 0x0, 0, 32, .own, .any⟩
def MB_POP_LO_reg : Reg := ⟨"MB_POP_LO", 0x580008, 0x10, 0, 64, 0x0, 1, 0x0,
  [MB_POP_LO_ALL]⟩
def MB_POP_HI_ALL : Field := ⟨"MB_POP_HI_ALL", 0x58000C, 0x10, 0x0, 0x0, 0, 32, .own, .any⟩
def MB_POP_HI_reg : Reg := ⟨"MB_POP_HI", 0x58000C, 0x10, 0, 64, 0x0, 1, 0x0,
  [MB_POP_HI_ALL]⟩
def MB_CFG_RX_DOMAIN : Field := ⟨"MB_CFG_RX_DOMAIN", 0x581000, 0x10, 0x0, 0x1, 0, 4, .rw, (.nearer 1 15)⟩
def MB_CFG_reg : Reg := ⟨"MB_CFG", 0x581000, 0x10, 0, 64, 0x0, 1, 0x1,
  [MB_CFG_RX_DOMAIN]⟩
def MB_STATUS_LEVEL : Field := ⟨"MB_STATUS_LEVEL", 0x581004, 0x10, 0x0, 0x0, 0, 6, .ro, .any⟩
def MB_STATUS_reg : Reg := ⟨"MB_STATUS", 0x581004, 0x10, 0, 64, 0x0, 1, 0x0,
  [MB_STATUS_LEVEL]⟩
def MB_DROP_ALL : Field := ⟨"MB_DROP_ALL", 0x581008, 0x10, 0x0, 0x0, 0, 32, .rc, .any⟩
def MB_DROP_reg : Reg := ⟨"MB_DROP", 0x581008, 0x10, 0, 64, 0x0, 1, 0x0,
  [MB_DROP_ALL]⟩
def MB_LOST_ALL : Field := ⟨"MB_LOST_ALL", 0x58100C, 0x10, 0x0, 0x0, 0, 32, .rc, .any⟩
def MB_LOST_reg : Reg := ⟨"MB_LOST", 0x58100C, 0x10, 0, 64, 0x0, 1, 0x0,
  [MB_LOST_ALL]⟩
def MB_EPOCH_LO_EPOCHS : Field := ⟨"MB_EPOCH_LO_EPOCHS", 0x582000, 0x0, 0x0, 0x0, 0, 32, .ro, .any⟩
def MB_EPOCH_LO_reg : Reg := ⟨"MB_EPOCH_LO", 0x582000, 0x0, 0, 1, 0x0, 1, 0x0,
  [MB_EPOCH_LO_EPOCHS]⟩
def MB_EPOCH_HI_EPOCHS : Field := ⟨"MB_EPOCH_HI_EPOCHS", 0x582004, 0x0, 0x0, 0x0, 0, 32, .ro, .any⟩
def MB_EPOCH_HI_reg : Reg := ⟨"MB_EPOCH_HI", 0x582004, 0x0, 0, 1, 0x0, 1, 0x0,
  [MB_EPOCH_HI_EPOCHS]⟩
def LOCK_OWNER : Field := ⟨"LOCK_OWNER", 0x583000, 0x4, 0x0, 0x0, 0, 4, .own, .any⟩
def LOCK_reg : Reg := ⟨"LOCK", 0x583000, 0x4, 0, 64, 0x0, 1, 0x0,
  [LOCK_OWNER]⟩
def LOCK_OWNER_OWNER : Field := ⟨"LOCK_OWNER_OWNER", 0x583100, 0x4, 0x0, 0x0, 0, 4, .ro, .any⟩
def LOCK_OWNER_reg : Reg := ⟨"LOCK_OWNER", 0x583100, 0x4, 0, 64, 0x0, 1, 0x0,
  [LOCK_OWNER_OWNER]⟩
def LOCK_BAD_WR_ALL : Field := ⟨"LOCK_BAD_WR_ALL", 0x583200, 0x0, 0x0, 0x0, 0, 32, .rc, .any⟩
def LOCK_BAD_WR_reg : Reg := ⟨"LOCK_BAD_WR", 0x583200, 0x0, 0, 1, 0x0, 1, 0x0,
  [LOCK_BAD_WR_ALL]⟩
def LOCK_RESET_REL_ALL : Field := ⟨"LOCK_RESET_REL_ALL", 0x583204, 0x0, 0x0, 0x0, 0, 32, .rc, .any⟩
def LOCK_RESET_REL_reg : Reg := ⟨"LOCK_RESET_REL", 0x583204, 0x0, 0, 1, 0x0, 1, 0x0,
  [LOCK_RESET_REL_ALL]⟩

/-! The registers of spec/15_dock_metering.md. -/
def MET_CTRL_ENABLE : Field := ⟨"MET_CTRL_ENABLE", 0x600000, 0x0, 0x0, 0x0, 0, 1, .own, .any⟩
def MET_CTRL_reg : Reg := ⟨"MET_CTRL", 0x600000, 0x0, 0, 1, 0x0, 1, 0x0,
  [MET_CTRL_ENABLE]⟩
def MET_STATUS_DRAINING : Field := ⟨"MET_STATUS_DRAINING", 0x600004, 0x0, 0x0, 0x0, 0, 1, .ro, .any⟩
def MET_STATUS_SAVE_BUSY : Field := ⟨"MET_STATUS_SAVE_BUSY", 0x600004, 0x0, 0x0, 0x0, 1, 1, .ro, .any⟩
def MET_STATUS_RESTORE : Field := ⟨"MET_STATUS_RESTORE", 0x600004, 0x0, 0x0, 0x0, 2, 3, .ro, .any⟩
def MET_STATUS_DOCK_CONFLICT : Field := ⟨"MET_STATUS_DOCK_CONFLICT", 0x600004, 0x0, 0x0, 0x0, 16, 16, .ro, .any⟩
def MET_STATUS_reg : Reg := ⟨"MET_STATUS", 0x600004, 0x0, 0, 1, 0x0, 1, 0x0,
  [MET_STATUS_DRAINING, MET_STATUS_SAVE_BUSY, MET_STATUS_RESTORE, MET_STATUS_DOCK_CONFLICT]⟩
def MET_SAVE_SEQ_ALL : Field := ⟨"MET_SAVE_SEQ_ALL", 0x600008, 0x0, 0x0, 0x0, 0, 32, .ro, .any⟩
def MET_SAVE_SEQ_reg : Reg := ⟨"MET_SAVE_SEQ", 0x600008, 0x0, 0, 1, 0x0, 1, 0x0,
  [MET_SAVE_SEQ_ALL]⟩
def MET_SAVE_PT_ALL : Field := ⟨"MET_SAVE_PT_ALL", 0x60000C, 0x0, 0x0, 0x0, 0, 32, .ro, .any⟩
def MET_SAVE_PT_reg : Reg := ⟨"MET_SAVE_PT", 0x60000C, 0x0, 0, 1, 0x0, 1, 0x0,
  [MET_SAVE_PT_ALL]⟩
def MET_SAVE_FAIL_ALL : Field := ⟨"MET_SAVE_FAIL_ALL", 0x600010, 0x0, 0x0, 0x0, 0, 32, .rc, .any⟩
def MET_SAVE_FAIL_reg : Reg := ⟨"MET_SAVE_FAIL", 0x600010, 0x0, 0, 1, 0x0, 1, 0x0,
  [MET_SAVE_FAIL_ALL]⟩
def MET_XCHK_CFG_LIM : Field := ⟨"MET_XCHK_CFG_LIM", 0x600014, 0x0, 0x0, 0x32, 0, 16, .rws, (.nearer 1 65535)⟩
def MET_XCHK_CFG_reg : Reg := ⟨"MET_XCHK_CFG", 0x600014, 0x0, 0, 1, 0x0, 1, 0x32,
  [MET_XCHK_CFG_LIM]⟩
def MET_VCAL_GAIN : Field := ⟨"MET_VCAL_GAIN", 0x600100, 0x4, 0x0, 0x8000, 0, 16, .rws, .any⟩
def MET_VCAL_reg : Reg := ⟨"MET_VCAL", 0x600100, 0x4, 0, 8, 0x0, 1, 0x8000,
  [MET_VCAL_GAIN]⟩
def MET_EL_CFG_EN : Field := ⟨"MET_EL_CFG_EN", 0x601000, 0x80, 0x0, 0x10, 0, 1, .rws, .any⟩
def MET_EL_CFG_VSEL : Field := ⟨"MET_EL_CFG_VSEL", 0x601000, 0x80, 0x0, 0x10, 1, 3, .rws, .any⟩
def MET_EL_CFG_AUTO_GAIN : Field := ⟨"MET_EL_CFG_AUTO_GAIN", 0x601000, 0x80, 0x0, 0x10, 4, 1, .rws, .any⟩
def MET_EL_CFG_FIX_GAIN : Field := ⟨"MET_EL_CFG_FIX_GAIN", 0x601000, 0x80, 0x0, 0x10, 5, 2, .rws, (.nearer 0 2)⟩
def MET_EL_CFG_ABS : Field := ⟨"MET_EL_CFG_ABS", 0x601000, 0x80, 0x0, 0x10, 7, 1, .rws, .any⟩
def MET_EL_CFG_reg : Reg := ⟨"MET_EL_CFG", 0x601000, 0x80, 0, 16, 0x0, 1, 0x10,
  [MET_EL_CFG_EN, MET_EL_CFG_VSEL, MET_EL_CFG_AUTO_GAIN, MET_EL_CFG_FIX_GAIN, MET_EL_CFG_ABS]⟩
def MET_EL_ZC_ZC_TMO : Field := ⟨"MET_EL_ZC_ZC_TMO", 0x601004, 0x80, 0x0, 0x64, 0, 10, .rws, (.nearer 10 1000)⟩
def MET_EL_ZC_reg : Reg := ⟨"MET_EL_ZC", 0x601004, 0x80, 0, 16, 0x0, 1, 0x64,
  [MET_EL_ZC_ZC_TMO]⟩
def MET_PULSE_CFG_CONST : Field := ⟨"MET_PULSE_CFG_CONST", 0x601008, 0x80, 0x0, 0x1403E8, 0, 17, .rws, (.nearer 1 100000)⟩
def MET_PULSE_CFG_WIDTH : Field := ⟨"MET_PULSE_CFG_WIDTH", 0x601008, 0x80, 0x0, 0x1403E8, 17, 8, .rws, (.nearer 2 200)⟩
def MET_PULSE_CFG_SRC : Field := ⟨"MET_PULSE_CFG_SRC", 0x601008, 0x80, 0x0, 0x1403E8, 25, 2, .rws, (.over 2 0)⟩
def MET_PULSE_CFG_PEN : Field := ⟨"MET_PULSE_CFG_PEN", 0x601008, 0x80, 0x0, 0x1403E8, 27, 1, .rws, .any⟩
def MET_PULSE_CFG_reg : Reg := ⟨"MET_PULSE_CFG", 0x601008, 0x80, 0, 16, 0x0, 1, 0x1403E8,
  [MET_PULSE_CFG_CONST, MET_PULSE_CFG_WIDTH, MET_PULSE_CFG_SRC, MET_PULSE_CFG_PEN]⟩
def MET_ICAL1_GAIN : Field := ⟨"MET_ICAL1_GAIN", 0x60100C, 0x80, 0x0, 0x8000, 0, 16, .rws, .any⟩
def MET_ICAL1_PHASE : Field := ⟨"MET_ICAL1_PHASE", 0x60100C, 0x80, 0x0, 0x8000, 16, 16, .rws, .any⟩
def MET_ICAL1_reg : Reg := ⟨"MET_ICAL1", 0x60100C, 0x80, 0, 16, 0x0, 1, 0x8000,
  [MET_ICAL1_GAIN, MET_ICAL1_PHASE]⟩
def MET_ICAL8_GAIN : Field := ⟨"MET_ICAL8_GAIN", 0x601010, 0x80, 0x0, 0x8000, 0, 16, .rws, .any⟩
def MET_ICAL8_PHASE : Field := ⟨"MET_ICAL8_PHASE", 0x601010, 0x80, 0x0, 0x8000, 16, 16, .rws, .any⟩
def MET_ICAL8_reg : Reg := ⟨"MET_ICAL8", 0x601010, 0x80, 0, 16, 0x0, 1, 0x8000,
  [MET_ICAL8_GAIN, MET_ICAL8_PHASE]⟩
def MET_ICAL32_GAIN : Field := ⟨"MET_ICAL32_GAIN", 0x601014, 0x80, 0x0, 0x8000, 0, 16, .rws, .any⟩
def MET_ICAL32_PHASE : Field := ⟨"MET_ICAL32_PHASE", 0x601014, 0x80, 0x0, 0x8000, 16, 16, .rws, .any⟩
def MET_ICAL32_reg : Reg := ⟨"MET_ICAL32", 0x601014, 0x80, 0, 16, 0x0, 1, 0x8000,
  [MET_ICAL32_GAIN, MET_ICAL32_PHASE]⟩
def MET_IOFS_ALL : Field := ⟨"MET_IOFS_ALL", 0x601018, 0x80, 0x0, 0x0, 0, 32, .rws, .any⟩
def MET_IOFS_reg : Reg := ⟨"MET_IOFS", 0x601018, 0x80, 0, 16, 0x0, 1, 0x0,
  [MET_IOFS_ALL]⟩
def MET_EL_STATUS_STATE : Field := ⟨"MET_EL_STATUS_STATE", 0x60101C, 0x80, 0x0, 0x0, 0, 2, .ro, .any⟩
def MET_EL_STATUS_GAIN : Field := ⟨"MET_EL_STATUS_GAIN", 0x60101C, 0x80, 0x0, 0x0, 2, 2, .ro, .any⟩
def MET_EL_STATUS_LINE_LOST : Field := ⟨"MET_EL_STATUS_LINE_LOST", 0x60101C, 0x80, 0x0, 0x0, 4, 1, .w1c, .any⟩
def MET_EL_STATUS_OVERRANGE : Field := ⟨"MET_EL_STATUS_OVERRANGE", 0x60101C, 0x80, 0x0, 0x0, 5, 1, .w1c, .any⟩
def MET_EL_STATUS_XCHK_FAIL : Field := ⟨"MET_EL_STATUS_XCHK_FAIL", 0x60101C, 0x80, 0x0, 0x0, 6, 1, .w1c, .any⟩
def MET_EL_STATUS_DOCK_ILK : Field := ⟨"MET_EL_STATUS_DOCK_ILK", 0x60101C, 0x80, 0x0, 0x0, 7, 1, .ro, .any⟩
def MET_EL_STATUS_DOCK_OUT : Field := ⟨"MET_EL_STATUS_DOCK_OUT", 0x60101C, 0x80, 0x0, 0x0, 8, 1, .ro, .any⟩
def MET_EL_STATUS_reg : Reg := ⟨"MET_EL_STATUS", 0x60101C, 0x80, 0, 16, 0x0, 1, 0x0,
  [MET_EL_STATUS_STATE, MET_EL_STATUS_GAIN, MET_EL_STATUS_LINE_LOST, MET_EL_STATUS_OVERRANGE, MET_EL_STATUS_XCHK_FAIL, MET_EL_STATUS_DOCK_ILK, MET_EL_STATUS_DOCK_OUT]⟩
def MET_TOT_IMP_LO_ALL : Field := ⟨"MET_TOT_IMP_LO_ALL", 0x601020, 0x80, 0x0, 0x0, 0, 32, .ro, .any⟩
def MET_TOT_IMP_LO_reg : Reg := ⟨"MET_TOT_IMP_LO", 0x601020, 0x80, 0, 16, 0x0, 1, 0x0,
  [MET_TOT_IMP_LO_ALL]⟩
def MET_TOT_IMP_HI_ALL : Field := ⟨"MET_TOT_IMP_HI_ALL", 0x601024, 0x80, 0x0, 0x0, 0, 32, .ro, .any⟩
def MET_TOT_IMP_HI_reg : Reg := ⟨"MET_TOT_IMP_HI", 0x601024, 0x80, 0, 16, 0x0, 1, 0x0,
  [MET_TOT_IMP_HI_ALL]⟩
def MET_TOT_EXP_LO_ALL : Field := ⟨"MET_TOT_EXP_LO_ALL", 0x601028, 0x80, 0x0, 0x0, 0, 32, .ro, .any⟩
def MET_TOT_EXP_LO_reg : Reg := ⟨"MET_TOT_EXP_LO", 0x601028, 0x80, 0, 16, 0x0, 1, 0x0,
  [MET_TOT_EXP_LO_ALL]⟩
def MET_TOT_EXP_HI_ALL : Field := ⟨"MET_TOT_EXP_HI_ALL", 0x60102C, 0x80, 0x0, 0x0, 0, 32, .ro, .any⟩
def MET_TOT_EXP_HI_reg : Reg := ⟨"MET_TOT_EXP_HI", 0x60102C, 0x80, 0, 16, 0x0, 1, 0x0,
  [MET_TOT_EXP_HI_ALL]⟩
def MET_INT_IMP_LO_INTERVAL : Field := ⟨"MET_INT_IMP_LO_INTERVAL", 0x601030, 0x80, 0x0, 0x0, 0, 32, .ro, .any⟩
def MET_INT_IMP_LO_reg : Reg := ⟨"MET_INT_IMP_LO", 0x601030, 0x80, 0, 16, 0x0, 1, 0x0,
  [MET_INT_IMP_LO_INTERVAL]⟩
def MET_INT_IMP_HI_WRAP_CNT : Field := ⟨"MET_INT_IMP_HI_WRAP_CNT", 0x601034, 0x80, 0x0, 0x0, 0, 8, .ro, .any⟩
def MET_INT_IMP_HI_WRAPPED : Field := ⟨"MET_INT_IMP_HI_WRAPPED", 0x601034, 0x80, 0x0, 0x0, 8, 1, .w1c, .any⟩
def MET_INT_IMP_HI_reg : Reg := ⟨"MET_INT_IMP_HI", 0x601034, 0x80, 0, 16, 0x0, 1, 0x0,
  [MET_INT_IMP_HI_WRAP_CNT, MET_INT_IMP_HI_WRAPPED]⟩
def MET_INT_EXP_LO_INTERVAL : Field := ⟨"MET_INT_EXP_LO_INTERVAL", 0x601038, 0x80, 0x0, 0x0, 0, 32, .ro, .any⟩
def MET_INT_EXP_LO_reg : Reg := ⟨"MET_INT_EXP_LO", 0x601038, 0x80, 0, 16, 0x0, 1, 0x0,
  [MET_INT_EXP_LO_INTERVAL]⟩
def MET_INT_EXP_HI_WRAP_CNT : Field := ⟨"MET_INT_EXP_HI_WRAP_CNT", 0x60103C, 0x80, 0x0, 0x0, 0, 8, .ro, .any⟩
def MET_INT_EXP_HI_WRAPPED : Field := ⟨"MET_INT_EXP_HI_WRAPPED", 0x60103C, 0x80, 0x0, 0x0, 8, 1, .w1c, .any⟩
def MET_INT_EXP_HI_reg : Reg := ⟨"MET_INT_EXP_HI", 0x60103C, 0x80, 0, 16, 0x0, 1, 0x0,
  [MET_INT_EXP_HI_WRAP_CNT, MET_INT_EXP_HI_WRAPPED]⟩
def MET_POWER_ALL : Field := ⟨"MET_POWER_ALL", 0x601040, 0x80, 0x0, 0x0, 0, 32, .ro, .any⟩
def MET_POWER_reg : Reg := ⟨"MET_POWER", 0x601040, 0x80, 0, 16, 0x0, 1, 0x0,
  [MET_POWER_ALL]⟩
def MET_PULSE_OWED_ALL : Field := ⟨"MET_PULSE_OWED_ALL", 0x601044, 0x80, 0x0, 0x0, 0, 32, .ro, .any⟩
def MET_PULSE_OWED_reg : Reg := ⟨"MET_PULSE_OWED", 0x601044, 0x80, 0, 16, 0x0, 1, 0x0,
  [MET_PULSE_OWED_ALL]⟩
def MET_CLIP_ALL : Field := ⟨"MET_CLIP_ALL", 0x601048, 0x80, 0x0, 0x0, 0, 32, .rc, .any⟩
def MET_CLIP_reg : Reg := ⟨"MET_CLIP", 0x601048, 0x80, 0, 16, 0x0, 1, 0x0,
  [MET_CLIP_ALL]⟩
def MET_XCHK_ALL : Field := ⟨"MET_XCHK_ALL", 0x60104C, 0x80, 0x0, 0x0, 0, 32, .ro, .any⟩
def MET_XCHK_reg : Reg := ⟨"MET_XCHK", 0x60104C, 0x80, 0, 16, 0x0, 1, 0x0,
  [MET_XCHK_ALL]⟩
def MET_DOCK_CFG_GPIO : Field := ⟨"MET_DOCK_CFG_GPIO", 0x601050, 0x80, 0x0, 0x0, 0, 6, .rws, (.over 32 0)⟩
def MET_DOCK_CFG_POL : Field := ⟨"MET_DOCK_CFG_POL", 0x601050, 0x80, 0x0, 0x0, 8, 1, .rws, .any⟩
def MET_DOCK_CFG_reg : Reg := ⟨"MET_DOCK_CFG", 0x601050, 0x80, 0, 16, 0x0, 1, 0x0,
  [MET_DOCK_CFG_GPIO, MET_DOCK_CFG_POL]⟩

/-! The registers of spec/16_fixture_motion.md. -/
def MOT_CTRL_ENABLE : Field := ⟨"MOT_CTRL_ENABLE", 0x680000, 0x0, 0x0, 0x0, 0, 1, .own, .any⟩
def MOT_CTRL_reg : Reg := ⟨"MOT_CTRL", 0x680000, 0x0, 0, 1, 0x0, 1, 0x0,
  [MOT_CTRL_ENABLE]⟩
def MOT_STATUS_DRAINING : Field := ⟨"MOT_STATUS_DRAINING", 0x680004, 0x0, 0x0, 0x0, 0, 1, .ro, .any⟩
def MOT_STATUS_MOVING : Field := ⟨"MOT_STATUS_MOVING", 0x680004, 0x0, 0x0, 0x0, 8, 8, .ro, .any⟩
def MOT_STATUS_QSTOP : Field := ⟨"MOT_STATUS_QSTOP", 0x680004, 0x0, 0x0, 0x0, 16, 8, .ro, .any⟩
def MOT_STATUS_reg : Reg := ⟨"MOT_STATUS", 0x680004, 0x0, 0, 1, 0x0, 1, 0x0,
  [MOT_STATUS_DRAINING, MOT_STATUS_MOVING, MOT_STATUS_QSTOP]⟩
def MOT_TBL_REFUSED_ALL : Field := ⟨"MOT_TBL_REFUSED_ALL", 0x680008, 0x0, 0x0, 0x0, 0, 32, .rc, .any⟩
def MOT_TBL_REFUSED_reg : Reg := ⟨"MOT_TBL_REFUSED", 0x680008, 0x0, 0, 1, 0x0, 1, 0x0,
  [MOT_TBL_REFUSED_ALL]⟩
def MOT_AX_CTRL_EN : Field := ⟨"MOT_AX_CTRL_EN", 0x681000, 0x100, 0x0, 0x0, 0, 1, .own, .any⟩
def MOT_AX_CTRL_CFG_ERR : Field := ⟨"MOT_AX_CTRL_CFG_ERR", 0x681000, 0x100, 0x0, 0x0, 1, 1, .w1c, .any⟩
def MOT_AX_CTRL_reg : Reg := ⟨"MOT_AX_CTRL", 0x681000, 0x100, 0, 8, 0x0, 1, 0x0,
  [MOT_AX_CTRL_EN, MOT_AX_CTRL_CFG_ERR]⟩
def MOT_AX_CFG_STOP_CAT : Field := ⟨"MOT_AX_CFG_STOP_CAT", 0x681004, 0x100, 0x0, 0x10A03, 0, 1, .rws, .any⟩
def MOT_AX_CFG_ILK_REQ : Field := ⟨"MOT_AX_CFG_ILK_REQ", 0x681004, 0x100, 0x0, 0x10A03, 1, 1, .rws, .any⟩
def MOT_AX_CFG_UNHOMED_OK : Field := ⟨"MOT_AX_CFG_UNHOMED_OK", 0x681004, 0x100, 0x0, 0x10A03, 2, 1, .rws, .any⟩
def MOT_AX_CFG_DEBOUNCE : Field := ⟨"MOT_AX_CFG_DEBOUNCE", 0x681004, 0x100, 0x0, 0x10A03, 8, 8, .rws, (.nearer 1 100)⟩
def MOT_AX_CFG_LATE_WIN : Field := ⟨"MOT_AX_CFG_LATE_WIN", 0x681004, 0x100, 0x0, 0x10A03, 16, 8, .rws, .any⟩
def MOT_AX_CFG_SW_POL : Field := ⟨"MOT_AX_CFG_SW_POL", 0x681004, 0x100, 0x0, 0x10A03, 24, 3, .rws, .any⟩
def MOT_AX_CFG_reg : Reg := ⟨"MOT_AX_CFG", 0x681004, 0x100, 0, 8, 0x0, 1, 0x10A03,
  [MOT_AX_CFG_STOP_CAT, MOT_AX_CFG_ILK_REQ, MOT_AX_CFG_UNHOMED_OK, MOT_AX_CFG_DEBOUNCE, MOT_AX_CFG_LATE_WIN, MOT_AX_CFG_SW_POL]⟩
def MOT_AX_VMAX_VMAX : Field := ⟨"MOT_AX_VMAX_VMAX", 0x681008, 0x100, 0x0, 0xFA00, 0, 18, .rws, (.nearer 1 256000)⟩
def MOT_AX_VMAX_reg : Reg := ⟨"MOT_AX_VMAX", 0x681008, 0x100, 0, 8, 0x0, 1, 0xFA00,
  [MOT_AX_VMAX_VMAX]⟩
def MOT_AX_STOP_STOP_MS : Field := ⟨"MOT_AX_STOP_STOP_MS", 0x68100C, 0x100, 0x0, 0x3E8064, 0, 9, .rws, (.nearer 1 500)⟩
def MOT_AX_STOP_STOP_DEC : Field := ⟨"MOT_AX_STOP_STOP_DEC", 0x68100C, 0x100, 0x0, 0x3E8064, 12, 20, .rws, (.nearer 1 1048575)⟩
def MOT_AX_STOP_reg : Reg := ⟨"MOT_AX_STOP", 0x68100C, 0x100, 0, 8, 0x0, 1, 0x3E8064,
  [MOT_AX_STOP_STOP_MS, MOT_AX_STOP_STOP_DEC]⟩
def MOT_AX_TRAVEL_MIN_ALL : Field := ⟨"MOT_AX_TRAVEL_MIN_ALL", 0x681010, 0x100, 0x0, 0x80000000, 0, 32, .rws, .any⟩
def MOT_AX_TRAVEL_MIN_reg : Reg := ⟨"MOT_AX_TRAVEL_MIN", 0x681010, 0x100, 0, 8, 0x0, 1, 0x80000000,
  [MOT_AX_TRAVEL_MIN_ALL]⟩
def MOT_AX_TRAVEL_MAX_ALL : Field := ⟨"MOT_AX_TRAVEL_MAX_ALL", 0x681014, 0x100, 0x0, 0x7FFFFFFF, 0, 32, .rws, .any⟩
def MOT_AX_TRAVEL_MAX_reg : Reg := ⟨"MOT_AX_TRAVEL_MAX", 0x681014, 0x100, 0, 8, 0x0, 1, 0x7FFFFFFF,
  [MOT_AX_TRAVEL_MAX_ALL]⟩
def MOT_AX_CHOP_TOFF : Field := ⟨"MOT_AX_CHOP_TOFF", 0x681018, 0x100, 0x0, 0x4110, 0, 7, .rws, (.nearer 0 124)⟩
def MOT_AX_CHOP_TBLANK : Field := ⟨"MOT_AX_CHOP_TBLANK", 0x681018, 0x100, 0x0, 0x4110, 8, 3, .rws, .any⟩
def MOT_AX_CHOP_FAST : Field := ⟨"MOT_AX_CHOP_FAST", 0x681018, 0x100, 0x0, 0x4110, 12, 5, .rws, (.nearer 0 16)⟩
def MOT_AX_CHOP_reg : Reg := ⟨"MOT_AX_CHOP", 0x681018, 0x100, 0, 8, 0x0, 1, 0x4110,
  [MOT_AX_CHOP_TOFF, MOT_AX_CHOP_TBLANK, MOT_AX_CHOP_FAST]⟩
def MOT_AX_CUR_IRUN : Field := ⟨"MOT_AX_CUR_IRUN", 0x68101C, 0x100, 0x0, 0xA0C84080, 0, 8, .rw, .any⟩
def MOT_AX_CUR_IHOLD : Field := ⟨"MOT_AX_CUR_IHOLD", 0x68101C, 0x100, 0x0, 0xA0C84080, 8, 8, .rw, .any⟩
def MOT_AX_CUR_IMAX : Field := ⟨"MOT_AX_CUR_IMAX", 0x68101C, 0x100, 0x0, 0xA0C84080, 16, 8, .rws, .any⟩
def MOT_AX_CUR_STALL_I : Field := ⟨"MOT_AX_CUR_STALL_I", 0x68101C, 0x100, 0x0, 0xA0C84080, 24, 8, .rws, .any⟩
def MOT_AX_CUR_reg : Reg := ⟨"MOT_AX_CUR", 0x68101C, 0x100, 0, 8, 0x0, 1, 0xA0C84080,
  [MOT_AX_CUR_IRUN, MOT_AX_CUR_IHOLD, MOT_AX_CUR_IMAX, MOT_AX_CUR_STALL_I]⟩
def MOT_AX_HVEL_SEARCH_VEL : Field := ⟨"MOT_AX_HVEL_SEARCH_VEL", 0x681020, 0x100, 0x0, 0xFA07D0, 0, 16, .rws, .any⟩
def MOT_AX_HVEL_LATCH_VEL : Field := ⟨"MOT_AX_HVEL_LATCH_VEL", 0x681020, 0x100, 0x0, 0xFA07D0, 16, 16, .rws, .any⟩
def MOT_AX_HVEL_reg : Reg := ⟨"MOT_AX_HVEL", 0x681020, 0x100, 0, 8, 0x0, 1, 0xFA07D0,
  [MOT_AX_HVEL_SEARCH_VEL, MOT_AX_HVEL_LATCH_VEL]⟩
def MOT_AX_HCFG_HOME_ACC : Field := ⟨"MOT_AX_HCFG_HOME_ACC", 0x681024, 0x100, 0x0, 0x2600064, 0, 16, .rws, (.nearer 1 65535)⟩
def MOT_AX_HCFG_HOME_I : Field := ⟨"MOT_AX_HCFG_HOME_I", 0x681024, 0x100, 0x0, 0x2600064, 16, 8, .rws, .any⟩
def MOT_AX_HCFG_BACKOFF : Field := ⟨"MOT_AX_HCFG_BACKOFF", 0x681024, 0x100, 0x0, 0x2600064, 24, 8, .rws, .any⟩
def MOT_AX_HCFG_reg : Reg := ⟨"MOT_AX_HCFG", 0x681024, 0x100, 0, 8, 0x0, 1, 0x2600064,
  [MOT_AX_HCFG_HOME_ACC, MOT_AX_HCFG_HOME_I, MOT_AX_HCFG_BACKOFF]⟩
def MOT_AX_HOME_OFS_ALL : Field := ⟨"MOT_AX_HOME_OFS_ALL", 0x681028, 0x100, 0x0, 0x0, 0, 32, .rws, .any⟩
def MOT_AX_HOME_OFS_reg : Reg := ⟨"MOT_AX_HOME_OFS", 0x681028, 0x100, 0, 8, 0x0, 1, 0x0,
  [MOT_AX_HOME_OFS_ALL]⟩
def MOT_AX_HOME_MAX_ALL : Field := ⟨"MOT_AX_HOME_MAX_ALL", 0x68102C, 0x100, 0x0, 0x1000000, 0, 32, .rws, .any⟩
def MOT_AX_HOME_MAX_reg : Reg := ⟨"MOT_AX_HOME_MAX", 0x68102C, 0x100, 0, 8, 0x0, 1, 0x1000000,
  [MOT_AX_HOME_MAX_ALL]⟩
def MOT_AX_STATUS_STATE : Field := ⟨"MOT_AX_STATUS_STATE", 0x681030, 0x100, 0x0, 0x0, 0, 4, .ro, .any⟩
def MOT_AX_STATUS_HOMED : Field := ⟨"MOT_AX_STATUS_HOMED", 0x681030, 0x100, 0x0, 0x0, 4, 1, .ro, .any⟩
def MOT_AX_STATUS_UNCERTAIN : Field := ⟨"MOT_AX_STATUS_UNCERTAIN", 0x681030, 0x100, 0x0, 0x0, 5, 1, .ro, .any⟩
def MOT_AX_STATUS_BRIDGE : Field := ⟨"MOT_AX_STATUS_BRIDGE", 0x681030, 0x100, 0x0, 0x0, 6, 1, .ro, .any⟩
def MOT_AX_STATUS_ILK : Field := ⟨"MOT_AX_STATUS_ILK", 0x681030, 0x100, 0x0, 0x0, 7, 1, .ro, .any⟩
def MOT_AX_STATUS_SW : Field := ⟨"MOT_AX_STATUS_SW", 0x681030, 0x100, 0x0, 0x0, 8, 3, .ro, .any⟩
def MOT_AX_STATUS_CHATTER : Field := ⟨"MOT_AX_STATUS_CHATTER", 0x681030, 0x100, 0x0, 0x0, 11, 1, .w1c, .any⟩
def MOT_AX_STATUS_LIMIT_HIT : Field := ⟨"MOT_AX_STATUS_LIMIT_HIT", 0x681030, 0x100, 0x0, 0x0, 12, 1, .w1c, .any⟩
def MOT_AX_STATUS_OVERCUR : Field := ⟨"MOT_AX_STATUS_OVERCUR", 0x681030, 0x100, 0x0, 0x0, 13, 1, .w1c, .any⟩
def MOT_AX_STATUS_TRAVEL_HIT : Field := ⟨"MOT_AX_STATUS_TRAVEL_HIT", 0x681030, 0x100, 0x0, 0x0, 14, 1, .w1c, .any⟩
def MOT_AX_STATUS_HOME_FAIL : Field := ⟨"MOT_AX_STATUS_HOME_FAIL", 0x681030, 0x100, 0x0, 0x0, 15, 1, .w1c, .any⟩
def MOT_AX_STATUS_QUEUE : Field := ⟨"MOT_AX_STATUS_QUEUE", 0x681030, 0x100, 0x0, 0x0, 16, 5, .ro, .any⟩
def MOT_AX_STATUS_HFAIL_REASON : Field := ⟨"MOT_AX_STATUS_HFAIL_REASON", 0x681030, 0x100, 0x0, 0x0, 21, 3, .ro, .any⟩
def MOT_AX_STATUS_reg : Reg := ⟨"MOT_AX_STATUS", 0x681030, 0x100, 0, 8, 0x0, 1, 0x0,
  [MOT_AX_STATUS_STATE, MOT_AX_STATUS_HOMED, MOT_AX_STATUS_UNCERTAIN, MOT_AX_STATUS_BRIDGE, MOT_AX_STATUS_ILK, MOT_AX_STATUS_SW, MOT_AX_STATUS_CHATTER, MOT_AX_STATUS_LIMIT_HIT, MOT_AX_STATUS_OVERCUR, MOT_AX_STATUS_TRAVEL_HIT, MOT_AX_STATUS_HOME_FAIL, MOT_AX_STATUS_QUEUE, MOT_AX_STATUS_HFAIL_REASON]⟩
def MOT_AX_POS_ALL : Field := ⟨"MOT_AX_POS_ALL", 0x681034, 0x100, 0x0, 0x0, 0, 32, .ro, .any⟩
def MOT_AX_POS_reg : Reg := ⟨"MOT_AX_POS", 0x681034, 0x100, 0, 8, 0x0, 1, 0x0,
  [MOT_AX_POS_ALL]⟩
def MOT_AX_REMAIN_ALL : Field := ⟨"MOT_AX_REMAIN_ALL", 0x681038, 0x100, 0x0, 0x0, 0, 32, .ro, .any⟩
def MOT_AX_REMAIN_reg : Reg := ⟨"MOT_AX_REMAIN", 0x681038, 0x100, 0, 8, 0x0, 1, 0x0,
  [MOT_AX_REMAIN_ALL]⟩
def MOT_AX_VEL_ALL : Field := ⟨"MOT_AX_VEL_ALL", 0x68103C, 0x100, 0x0, 0x0, 0, 32, .ro, .any⟩
def MOT_AX_VEL_reg : Reg := ⟨"MOT_AX_VEL", 0x68103C, 0x100, 0, 8, 0x0, 1, 0x0,
  [MOT_AX_VEL_ALL]⟩
def MOT_AX_CHATTER_ALL : Field := ⟨"MOT_AX_CHATTER_ALL", 0x681040, 0x100, 0x0, 0x0, 0, 32, .rc, .any⟩
def MOT_AX_CHATTER_reg : Reg := ⟨"MOT_AX_CHATTER", 0x681040, 0x100, 0, 8, 0x0, 1, 0x0,
  [MOT_AX_CHATTER_ALL]⟩
def MOT_AX_OVERCUR_ALL : Field := ⟨"MOT_AX_OVERCUR_ALL", 0x681044, 0x100, 0x0, 0x0, 0, 32, .rc, .any⟩
def MOT_AX_OVERCUR_reg : Reg := ⟨"MOT_AX_OVERCUR", 0x681044, 0x100, 0, 8, 0x0, 1, 0x0,
  [MOT_AX_OVERCUR_ALL]⟩
def MOT_TBL_ENTRIES : Field := ⟨"MOT_TBL_ENTRIES", 0x688000, 0x100, 0x4, 0x0, 0, 32, .own, .any⟩
def MOT_TBL_reg : Reg := ⟨"MOT_TBL", 0x688000, 0x100, 0, 8, 0x4, 64, 0x0,
  [MOT_TBL_ENTRIES]⟩

/-! The registers of spec/17_shard_log.md. -/
def SHARD_CTRL_MIN_SEV : Field := ⟨"SHARD_CTRL_MIN_SEV", 0x780000, 0x0, 0x0, 0x1, 0, 3, .rw, (.nearer 0 4)⟩
def SHARD_CTRL_reg : Reg := ⟨"SHARD_CTRL", 0x780000, 0x0, 0, 1, 0x0, 1, 0x1,
  [SHARD_CTRL_MIN_SEV]⟩
def SHARD_NEWEST_ALL : Field := ⟨"SHARD_NEWEST_ALL", 0x780004, 0x0, 0x0, 0x0, 0, 32, .ro, .any⟩
def SHARD_NEWEST_reg : Reg := ⟨"SHARD_NEWEST", 0x780004, 0x0, 0, 1, 0x0, 1, 0x0,
  [SHARD_NEWEST_ALL]⟩
def SHARD_OLDEST_ALL : Field := ⟨"SHARD_OLDEST_ALL", 0x780008, 0x0, 0x0, 0x0, 0, 32, .ro, .any⟩
def SHARD_OLDEST_reg : Reg := ⟨"SHARD_OLDEST", 0x780008, 0x0, 0, 1, 0x0, 1, 0x0,
  [SHARD_OLDEST_ALL]⟩
def SHARD_LOST_ALL : Field := ⟨"SHARD_LOST_ALL", 0x78000C, 0x0, 0x0, 0x0, 0, 32, .rc, .any⟩
def SHARD_LOST_reg : Reg := ⟨"SHARD_LOST", 0x78000C, 0x0, 0, 1, 0x0, 1, 0x0,
  [SHARD_LOST_ALL]⟩
def SHARD_BAD_CRC_ALL : Field := ⟨"SHARD_BAD_CRC_ALL", 0x780010, 0x0, 0x0, 0x0, 0, 32, .rc, .any⟩
def SHARD_BAD_CRC_reg : Reg := ⟨"SHARD_BAD_CRC", 0x780010, 0x0, 0, 1, 0x0, 1, 0x0,
  [SHARD_BAD_CRC_ALL]⟩
def SHARD_STATUS_QUEUED : Field := ⟨"SHARD_STATUS_QUEUED", 0x780014, 0x0, 0x0, 0x0, 0, 9, .ro, .any⟩
def SHARD_STATUS_ARMED : Field := ⟨"SHARD_STATUS_ARMED", 0x780014, 0x0, 0x0, 0x0, 9, 1, .ro, .any⟩
def SHARD_STATUS_CLEARING : Field := ⟨"SHARD_STATUS_CLEARING", 0x780014, 0x0, 0x0, 0x0, 10, 1, .ro, .any⟩
def SHARD_STATUS_reg : Reg := ⟨"SHARD_STATUS", 0x780014, 0x0, 0, 1, 0x0, 1, 0x0,
  [SHARD_STATUS_QUEUED, SHARD_STATUS_ARMED, SHARD_STATUS_CLEARING]⟩
def SHARD_CURSOR_ALL : Field := ⟨"SHARD_CURSOR_ALL", 0x780100, 0x0, 0x0, 0x0, 0, 32, .own, .any⟩
def SHARD_CURSOR_reg : Reg := ⟨"SHARD_CURSOR", 0x780100, 0x0, 0, 1, 0x0, 1, 0x0,
  [SHARD_CURSOR_ALL]⟩
def SHARD_WIN_STATUS_STATUS : Field := ⟨"SHARD_WIN_STATUS_STATUS", 0x780104, 0x0, 0x0, 0x3, 0, 2, .ro, .any⟩
def SHARD_WIN_STATUS_reg : Reg := ⟨"SHARD_WIN_STATUS", 0x780104, 0x0, 0, 1, 0x0, 1, 0x3,
  [SHARD_WIN_STATUS_STATUS]⟩
def SHARD_WIN_CFG_AUTO_ADV : Field := ⟨"SHARD_WIN_CFG_AUTO_ADV", 0x780108, 0x0, 0x0, 0x0, 0, 1, .rw, .any⟩
def SHARD_WIN_CFG_reg : Reg := ⟨"SHARD_WIN_CFG", 0x780108, 0x0, 0, 1, 0x0, 1, 0x0,
  [SHARD_WIN_CFG_AUTO_ADV]⟩
def SHARD_WINDOW_ALL : Field := ⟨"SHARD_WINDOW_ALL", 0x780140, 0x4, 0x0, 0x0, 0, 32, .ro, .any⟩
def SHARD_WINDOW_reg : Reg := ⟨"SHARD_WINDOW", 0x780140, 0x4, 0, 16, 0x0, 1, 0x0,
  [SHARD_WINDOW_ALL]⟩

/-! The registers of spec/18_firmware_update.md. -/
def UPD_STATUS_RUN_BANK : Field := ⟨"UPD_STATUS_RUN_BANK", 0x7C0000, 0x0, 0x0, 0x0, 0, 1, .ro, .any⟩
def UPD_STATUS_STAGE : Field := ⟨"UPD_STATUS_STAGE", 0x7C0000, 0x0, 0x0, 0x0, 1, 2, .ro, .any⟩
def UPD_STATUS_TRIAL : Field := ⟨"UPD_STATUS_TRIAL", 0x7C0000, 0x0, 0x0, 0x0, 3, 2, .ro, .any⟩
def UPD_STATUS_SCHED : Field := ⟨"UPD_STATUS_SCHED", 0x7C0000, 0x0, 0x0, 0x0, 5, 1, .ro, .any⟩
def UPD_STATUS_MKEY_SET : Field := ⟨"UPD_STATUS_MKEY_SET", 0x7C0000, 0x0, 0x0, 0x0, 6, 1, .ro, .any⟩
def UPD_STATUS_RECOVERY : Field := ⟨"UPD_STATUS_RECOVERY", 0x7C0000, 0x0, 0x0, 0x0, 7, 1, .ro, .any⟩
def UPD_STATUS_REF_NEXT : Field := ⟨"UPD_STATUS_REF_NEXT", 0x7C0000, 0x0, 0x0, 0x0, 8, 1, .ro, .any⟩
def UPD_STATUS_LAST_UCODE : Field := ⟨"UPD_STATUS_LAST_UCODE", 0x7C0000, 0x0, 0x0, 0x0, 16, 16, .ro, .any⟩
def UPD_STATUS_reg : Reg := ⟨"UPD_STATUS", 0x7C0000, 0x0, 0, 1, 0x0, 1, 0x0,
  [UPD_STATUS_RUN_BANK, UPD_STATUS_STAGE, UPD_STATUS_TRIAL, UPD_STATUS_SCHED, UPD_STATUS_MKEY_SET, UPD_STATUS_RECOVERY, UPD_STATUS_REF_NEXT, UPD_STATUS_LAST_UCODE]⟩
def UPD_STAGE_BYTES_ALL : Field := ⟨"UPD_STAGE_BYTES_ALL", 0x7C0004, 0x0, 0x0, 0x0, 0, 32, .ro, .any⟩
def UPD_STAGE_BYTES_reg : Reg := ⟨"UPD_STAGE_BYTES", 0x7C0004, 0x0, 0, 1, 0x0, 1, 0x0,
  [UPD_STAGE_BYTES_ALL]⟩
def UPD_ARB_COUNTER : Field := ⟨"UPD_ARB_COUNTER", 0x7C0008, 0x0, 0x0, 0x0, 0, 8, .ro, .any⟩
def UPD_ARB_KEYS_REVOKED : Field := ⟨"UPD_ARB_KEYS_REVOKED", 0x7C0008, 0x0, 0x0, 0x0, 8, 4, .ro, .any⟩
def UPD_ARB_reg : Reg := ⟨"UPD_ARB", 0x7C0008, 0x0, 0, 1, 0x0, 1, 0x0,
  [UPD_ARB_COUNTER, UPD_ARB_KEYS_REVOKED]⟩
def UPD_TRIAL_LEFT_ALL : Field := ⟨"UPD_TRIAL_LEFT_ALL", 0x7C000C, 0x0, 0x0, 0x0, 0, 32, .ro, .any⟩
def UPD_TRIAL_LEFT_reg : Reg := ⟨"UPD_TRIAL_LEFT", 0x7C000C, 0x0, 0, 1, 0x0, 1, 0x0,
  [UPD_TRIAL_LEFT_ALL]⟩
def UPD_BANK_A_VALID : Field := ⟨"UPD_BANK_A_VALID", 0x7C0010, 0x0, 0x0, 0x0, 0, 1, .ro, .any⟩
def UPD_BANK_A_BOOTABLE : Field := ⟨"UPD_BANK_A_BOOTABLE", 0x7C0010, 0x0, 0x0, 0x0, 1, 1, .ro, .any⟩
def UPD_BANK_A_ARB : Field := ⟨"UPD_BANK_A_ARB", 0x7C0010, 0x0, 0x0, 0x0, 8, 8, .ro, .any⟩
def UPD_BANK_A_reg : Reg := ⟨"UPD_BANK_A", 0x7C0010, 0x0, 0, 1, 0x0, 1, 0x0,
  [UPD_BANK_A_VALID, UPD_BANK_A_BOOTABLE, UPD_BANK_A_ARB]⟩
def UPD_BANK_B_VALID : Field := ⟨"UPD_BANK_B_VALID", 0x7C0014, 0x0, 0x0, 0x0, 0, 1, .ro, .any⟩
def UPD_BANK_B_BOOTABLE : Field := ⟨"UPD_BANK_B_BOOTABLE", 0x7C0014, 0x0, 0x0, 0x0, 1, 1, .ro, .any⟩
def UPD_BANK_B_ARB : Field := ⟨"UPD_BANK_B_ARB", 0x7C0014, 0x0, 0x0, 0x0, 8, 8, .ro, .any⟩
def UPD_BANK_B_reg : Reg := ⟨"UPD_BANK_B", 0x7C0014, 0x0, 0, 1, 0x0, 1, 0x0,
  [UPD_BANK_B_VALID, UPD_BANK_B_BOOTABLE, UPD_BANK_B_ARB]⟩
def UPD_VER_A_ALL : Field := ⟨"UPD_VER_A_ALL", 0x7C0018, 0x0, 0x0, 0x0, 0, 32, .ro, .any⟩
def UPD_VER_A_reg : Reg := ⟨"UPD_VER_A", 0x7C0018, 0x0, 0, 1, 0x0, 1, 0x0,
  [UPD_VER_A_ALL]⟩
def UPD_VER_B_ALL : Field := ⟨"UPD_VER_B_ALL", 0x7C001C, 0x0, 0x0, 0x0, 0, 32, .ro, .any⟩
def UPD_VER_B_reg : Reg := ⟨"UPD_VER_B", 0x7C001C, 0x0, 0, 1, 0x0, 1, 0x0,
  [UPD_VER_B_ALL]⟩
def UPD_CFG_LATE_WIN : Field := ⟨"UPD_CFG_LATE_WIN", 0x7C0020, 0x0, 0x0, 0x1, 0, 8, .rw, .any⟩
def UPD_CFG_reg : Reg := ⟨"UPD_CFG", 0x7C0020, 0x0, 0, 1, 0x0, 1, 0x1,
  [UPD_CFG_LATE_WIN]⟩
def UPD_SCHED_PT_ALL : Field := ⟨"UPD_SCHED_PT_ALL", 0x7C0024, 0x0, 0x0, 0x0, 0, 32, .ro, .any⟩
def UPD_SCHED_PT_reg : Reg := ⟨"UPD_SCHED_PT", 0x7C0024, 0x0, 0, 1, 0x0, 1, 0x0,
  [UPD_SCHED_PT_ALL]⟩
def UPD_REVERT_CAUSE : Field := ⟨"UPD_REVERT_CAUSE", 0x7C0028, 0x0, 0x0, 0x0, 0, 4, .ro, .any⟩
def UPD_REVERT_REVERTS : Field := ⟨"UPD_REVERT_REVERTS", 0x7C0028, 0x0, 0x0, 0x0, 8, 8, .ro, .any⟩
def UPD_REVERT_reg : Reg := ⟨"UPD_REVERT", 0x7C0028, 0x0, 0, 1, 0x0, 1, 0x0,
  [UPD_REVERT_CAUSE, UPD_REVERT_REVERTS]⟩

/-! The registers of spec/19_startup_and_test.md. -/
def PWR_RESET_CAUSE_CAUSE : Field := ⟨"PWR_RESET_CAUSE_CAUSE", 0x10000, 0x0, 0x0, 0x0, 0, 4, .ro, .any⟩
def PWR_RESET_CAUSE_reg : Reg := ⟨"PWR_RESET_CAUSE", 0x10000, 0x0, 0, 1, 0x0, 1, 0x0,
  [PWR_RESET_CAUSE_CAUSE]⟩
def PWR_BOOT_STATUS_PHASE : Field := ⟨"PWR_BOOT_STATUS_PHASE", 0x10004, 0x0, 0x0, 0x0, 0, 3, .ro, .any⟩
def PWR_BOOT_STATUS_TIMEOUTS : Field := ⟨"PWR_BOOT_STATUS_TIMEOUTS", 0x10004, 0x0, 0x0, 0x0, 8, 2, .ro, .any⟩
def PWR_BOOT_STATUS_reg : Reg := ⟨"PWR_BOOT_STATUS", 0x10004, 0x0, 0, 1, 0x0, 1, 0x0,
  [PWR_BOOT_STATUS_PHASE, PWR_BOOT_STATUS_TIMEOUTS]⟩
def PWR_UNIT_RESET_ALL : Field := ⟨"PWR_UNIT_RESET_ALL", 0x10008, 0x0, 0x0, 0x0, 0, 32, .own, .any⟩
def PWR_UNIT_RESET_reg : Reg := ⟨"PWR_UNIT_RESET", 0x10008, 0x0, 0, 1, 0x0, 1, 0x0,
  [PWR_UNIT_RESET_ALL]⟩
def PWR_PHASE_MS_ALL : Field := ⟨"PWR_PHASE_MS_ALL", 0x1000C, 0x4, 0x0, 0x0, 0, 32, .ro, .any⟩
def PWR_PHASE_MS_reg : Reg := ⟨"PWR_PHASE_MS", 0x1000C, 0x4, 1, 5, 0x0, 1, 0x0,
  [PWR_PHASE_MS_ALL]⟩
def IST_CTRL_EN_1_4 : Field := ⟨"IST_CTRL_EN_1_4", 0x7E0000, 0x0, 0x0, 0x1FF, 0, 4, .rw, .any⟩
def IST_CTRL_EN_5 : Field := ⟨"IST_CTRL_EN_5", 0x7E0000, 0x0, 0x0, 0x1FF, 4, 1, .ro, .any⟩
def IST_CTRL_EN_6_7 : Field := ⟨"IST_CTRL_EN_6_7", 0x7E0000, 0x0, 0x0, 0x1FF, 5, 2, .rw, .any⟩
def IST_CTRL_EN_8_9 : Field := ⟨"IST_CTRL_EN_8_9", 0x7E0000, 0x0, 0x0, 0x1FF, 7, 2, .ro, .any⟩
def IST_CTRL_reg : Reg := ⟨"IST_CTRL", 0x7E0000, 0x0, 0, 1, 0x0, 1, 0x1FF,
  [IST_CTRL_EN_1_4, IST_CTRL_EN_5, IST_CTRL_EN_6_7, IST_CTRL_EN_8_9]⟩
def IST_STATUS_COVERED : Field := ⟨"IST_STATUS_COVERED", 0x7E0004, 0x0, 0x0, 0x0, 0, 9, .ro, .any⟩
def IST_STATUS_OVERDUE : Field := ⟨"IST_STATUS_OVERDUE", 0x7E0004, 0x0, 0x0, 0x0, 16, 1, .ro, .any⟩
def IST_STATUS_reg : Reg := ⟨"IST_STATUS", 0x7E0004, 0x0, 0, 1, 0x0, 1, 0x0,
  [IST_STATUS_COVERED, IST_STATUS_OVERDUE]⟩
def IST_PERIOD_SRAM_KILN_S : Field := ⟨"IST_PERIOD_SRAM_KILN_S", 0x7E0008, 0x0, 0x0, 0x3C003C, 0, 12, .rw, (.nearer 10 3600)⟩
def IST_PERIOD_SRAM_SHARED_S : Field := ⟨"IST_PERIOD_SRAM_SHARED_S", 0x7E0008, 0x0, 0x0, 0x3C003C, 16, 12, .rw, (.nearer 10 3600)⟩
def IST_PERIOD_SRAM_reg : Reg := ⟨"IST_PERIOD_SRAM", 0x7E0008, 0x0, 0, 1, 0x0, 1, 0x3C003C,
  [IST_PERIOD_SRAM_KILN_S, IST_PERIOD_SRAM_SHARED_S]⟩
def IST_PERIOD_GNSS_SPARE_S : Field := ⟨"IST_PERIOD_GNSS_SPARE_S", 0x7E000C, 0x0, 0x0, 0x3C, 0, 12, .rw, (.nearer 10 3600)⟩
def IST_PERIOD_GNSS_reg : Reg := ⟨"IST_PERIOD_GNSS", 0x7E000C, 0x0, 0, 1, 0x0, 1, 0x3C,
  [IST_PERIOD_GNSS_SPARE_S]⟩
def IST_CYCLE_S_ALL : Field := ⟨"IST_CYCLE_S_ALL", 0x7E0010, 0x0, 0x0, 0x0, 0, 32, .ro, .any⟩
def IST_CYCLE_S_reg : Reg := ⟨"IST_CYCLE_S", 0x7E0010, 0x0, 0, 1, 0x0, 1, 0x0,
  [IST_CYCLE_S_ALL]⟩
def IST_CYCLE_AGE_S_ALL : Field := ⟨"IST_CYCLE_AGE_S_ALL", 0x7E0014, 0x0, 0x0, 0x0, 0, 32, .ro, .any⟩
def IST_CYCLE_AGE_S_reg : Reg := ⟨"IST_CYCLE_AGE_S", 0x7E0014, 0x0, 0, 1, 0x0, 1, 0x0,
  [IST_CYCLE_AGE_S_ALL]⟩
def IST_SCRUB_FIXED_ALL : Field := ⟨"IST_SCRUB_FIXED_ALL", 0x7E0018, 0x0, 0x0, 0x0, 0, 32, .rc, .any⟩
def IST_SCRUB_FIXED_reg : Reg := ⟨"IST_SCRUB_FIXED", 0x7E0018, 0x0, 0, 1, 0x0, 1, 0x0,
  [IST_SCRUB_FIXED_ALL]⟩
def IST_PASS_ALL : Field := ⟨"IST_PASS_ALL", 0x7E0100, 0x8, 0x0, 0x0, 0, 32, .rc, .any⟩
def IST_PASS_reg : Reg := ⟨"IST_PASS", 0x7E0100, 0x8, 1, 10, 0x0, 1, 0x0,
  [IST_PASS_ALL]⟩
def IST_FAIL_COUNT : Field := ⟨"IST_FAIL_COUNT", 0x7E0104, 0x8, 0x0, 0x0, 0, 16, .rc, .any⟩
def IST_FAIL_LAST_TARGET : Field := ⟨"IST_FAIL_LAST_TARGET", 0x7E0104, 0x8, 0x0, 0x0, 16, 16, .rc, .any⟩
def IST_FAIL_reg : Reg := ⟨"IST_FAIL", 0x7E0104, 0x8, 1, 10, 0x0, 1, 0x0,
  [IST_FAIL_COUNT, IST_FAIL_LAST_TARGET]⟩

/-! The registers of spec/20_electrical_package.md. -/
def PWR_TEMP_TJ : Field := ⟨"PWR_TEMP_TJ", 0x10020, 0x0, 0x0, 0x0, 0, 12, .ro, .any⟩
def PWR_TEMP_HOT : Field := ⟨"PWR_TEMP_HOT", 0x10020, 0x0, 0x0, 0x0, 16, 1, .w1c, .any⟩
def PWR_TEMP_reg : Reg := ⟨"PWR_TEMP", 0x10020, 0x0, 0, 1, 0x0, 1, 0x0,
  [PWR_TEMP_TJ, PWR_TEMP_HOT]⟩
def PWR_VIN_VIN_MV : Field := ⟨"PWR_VIN_VIN_MV", 0x10024, 0x0, 0x0, 0x0, 0, 13, .ro, .any⟩
def PWR_VIN_VW_MV : Field := ⟨"PWR_VIN_VW_MV", 0x10024, 0x0, 0x0, 0x0, 16, 13, .ro, .any⟩
def PWR_VIN_reg : Reg := ⟨"PWR_VIN", 0x10024, 0x0, 0, 1, 0x0, 1, 0x0,
  [PWR_VIN_VIN_MV, PWR_VIN_VW_MV]⟩

/-- Every register of spec/01_architecture.md. -/
def regs_01 : List Reg :=
  [INTC_STATUS_reg, INTC_CTRL_reg, INTC_SAFE_CAUSE_reg, INTC_RWS_VIOL_reg, INTC_RWS_VIOL_ADDR_reg, INTC_TICK_reg, INTC_INJECT_reg, INTC_INJECT_REFUSED_reg, INTC_BLK_FAULT_reg, INTC_BLK_LOAD_reg]

/-- Every register of spec/02_host_interface.md. -/
def regs_02 : List Reg :=
  [ID_PART_reg, ID_REV_reg, ID_PROFILE_reg, ID_SERIAL_LO_reg, ID_SERIAL_HI_reg, ID_STRAPS_reg, ID_FW_VERSION_reg, HIF_STATUS_reg, HIF_LOST_CPL_reg, HIF_BAD_DB_reg, HIF_FETCH_LAT_MAX_reg, HIF_SQ_BASE_LO_reg, HIF_SQ_BASE_HI_reg, HIF_CQ_BASE_LO_reg, HIF_CQ_BASE_HI_reg, HIF_RP_CFG_reg, HIF_RP_CTRL_reg, HIF_RP_STATUS_reg, HIF_RP_INFLIGHT_reg, HIF_ER_BASE_LO_reg, HIF_ER_BASE_HI_reg, HIF_ER_CFG_reg, HIF_ER_CTRL_reg, HIF_ER_STATUS_reg, HIF_ER_DROP_reg, HIF_VEC_COAL_reg, HIF_EVT_ROUTE_reg]

/-- Every register of spec/03_site_map.md. -/
def regs_03 : List Reg :=
  [KILN_MAP_STATUS_reg, KILN_MAP_ID_reg, KILN_MAP_REV_reg, KILN_MAP_NODES_reg, KILN_MAP_SEGS_reg, KILN_MAP_GROUPS_reg, KILN_STAGE_BYTES_reg, KILN_STAGE_VINDEX_reg, KILN_MAP_COMMIT_PT_reg, KILN_BANK_reg, KILN_ROT_STATUS_reg]

/-- Every register of spec/04_reservations.md. -/
def regs_04 : List Reg :=
  [KILN_CTRL_reg, KILN_STATUS_reg, KILN_SILENT_CFG_reg, KILN_PARK_STATUS_reg, KILN_OPS_reg, KILN_GRANTS_reg, KILN_PARK_WITHDRAWN_reg, KILN_REPORT_IGNORED_reg, KILN_LIMIT_PASSED_reg, KILN_CYCLE_STEPS_MAX_reg, KILN_OP_CYCLES_MAX_reg, KILN_TICK_OPS_MAX_reg, KILN_DENY_reg]

/-- Every register of spec/05_movement_authority.md. -/
def regs_05 : List Reg :=
  [KILN_AUTH_CFG_reg, KILN_AUTH_SITE_CAP_reg, KILN_AUTH_STATUS_reg, KILN_AUTH_BUILT_reg, KILN_AUTH_STANDSTILL_reg, KILN_AUTH_SLOT_MAX_reg, KILN_AUTH_CHK_FAIL_reg, KILN_AUTH_SEL_reg, KILN_AUTH_VIEW_SEQ_reg, KILN_AUTH_VIEW_ASN_reg, KILN_AUTH_VIEW_EXP_reg, KILN_AUTH_VIEW_LIMIT_reg, KILN_AUTH_ZONE_CAP_reg, KILN_FIX_ILK_reg, KILN_FIX_ILK_DROPS_reg]

/-- Every register of spec/06_damper.md. -/
def regs_06 : List Reg :=
  [DAMP_CTRL_reg, DAMP_STATUS_reg, DAMP_SRC_reg, DAMP_SRC_SEEN_reg, DAMP_CAUSE_reg, DAMP_CAUSE_PT_reg, DAMP_IN_LEVEL_reg, DAMP_IN_CFG_reg, DAMP_IN_ZONE_LO_reg, DAMP_IN_ZONE_HI_reg, DAMP_ZONE_LO_reg, DAMP_ZONE_HI_reg, DAMP_FIX_CFG_reg, DAMP_WDOG_CFG_reg, DAMP_TEST_STATUS_reg, DAMP_TEST_CYCLES_reg, DAMP_LATCH_COUNT_reg, DAMP_ARM_ENDED_reg, DAMP_DISC_CNT_reg, DAMP_REQ_REFUSED_reg, DAMP_AGENT_reg, DAMP_S0_REQ_reg, DAMP_S1_REQ_reg]

/-- Every register of spec/07_air_slots.md. -/
def regs_07 : List Reg :=
  [AIR_CTRL_reg, AIR_STATUS_reg, AIR_PROFILE_reg, AIR_ASN_LO_reg, AIR_ASN_HI_reg, AIR_SLOT_CFG_reg, AIR_SF_CTRL_reg, AIR_PA_CFG_reg, AIR_LIMIT_TRIP_reg, AIR_WINDOW_REFUSED_reg, AIR_RX_WINDOW_MISS_reg, AIR_GATE_CUTS_reg, AIR_SF_REFUSED_reg, AIR_LANE_CFG_reg, AIR_LANE_PWR_reg, AIR_LANE_STATUS_reg, AIR_LANE_TX_US_reg, AIR_LANE_RX_OK_reg, AIR_LANE_RX_FCS_reg, AIR_LANE_DARK_reg, AIR_SF_KIND_A_reg, AIR_SF_KIND_B_reg]

/-- Every register of spec/08_air_membership.md. -/
def regs_08 : List Reg :=
  [AIR_JOIN_CTRL_reg, AIR_PAN_ID_reg, AIR_QUAR_CFG_reg, AIR_JOIN_CFG_reg, AIR_KEY_STATUS_reg, AIR_MEMBERS_reg, AIR_JOIN_ACKED_reg, AIR_JOIN_REJECT_reg, AIR_JOIN_DONE_reg, AIR_JOIN_FAIL_reg, AIR_STALE_GEN_reg, AIR_SILENT_CNT_reg, AIR_MISSED_UL_reg, AIR_PERMITS_SENT_reg, AIR_BURSTS_SENT_reg, AIR_LANE_SEATS_reg]

/-- Every register of spec/09_air_transactions.md. -/
def regs_09 : List Reg :=
  [AIR_TX_CFG_reg, AIR_TASK_CFG_reg, AIR_TASK_STATUS_reg, AIR_LINK_SEL_reg, AIR_LINK_VIEW_reg, AIR_TX_FIRST_reg, AIR_TX_RETRY_reg, AIR_TX_GIVEUP_reg, AIR_RX_DUP_reg, AIR_RX_DROPPED_reg, AIR_IE_UNKNOWN_reg, AIR_AUTH_SENT_reg, AIR_AUTH_SUPERSEDED_reg, AIR_RPT_DELIVERED_reg, AIR_TASK_LATE_reg, AIR_TASK_UNKNOWN_reg, AIR_STATUS_IGNORED_reg]

/-- Every register of spec/10_gnss_baseband.md. -/
def regs_10 : List Reg :=
  [GNSS_CTRL_reg, GNSS_STATUS_reg, GNSS_EPOCH_CFG_reg, GNSS_SIG_EN_reg, GNSS_ELEV_CFG_reg, GNSS_ACQ_CFG_reg, GNSS_TRK_CFG_reg, GNSS_ANT_CFG_reg, GNSS_ANT_STATUS_reg, GNSS_BASELINE_E_reg, GNSS_BASELINE_N_reg, GNSS_BASELINE_U_reg, GNSS_DA_CFG_reg, GNSS_DA_STATUS_reg, GNSS_MEAS_MISSED_reg, GNSS_NAV_DROPPED_reg, GNSS_NAV_FAILED_reg, GNSS_SLIPS_reg, GNSS_ACQ_FOUND_reg, GNSS_ACQ_NOT_FOUND_reg, GNSS_DUMP_MAX_reg, GNSS_DA_FLAGS_reg, GNSS_CH_CFG_reg, GNSS_CH_MP_reg, GNSS_CH_STATUS_reg, GNSS_CH_INFO_reg]

/-- Every register of spec/11_corrections.md. -/
def regs_11 : List Reg :=
  [CORR_CTRL_reg, CORR_STATUS_reg, CORR_RTCM_CFG_reg, CORR_STATION_reg, CORR_POS_X_LO_reg, CORR_POS_X_HI_reg, CORR_POS_Y_LO_reg, CORR_POS_Y_HI_reg, CORR_POS_Z_LO_reg, CORR_POS_Z_HI_reg, CORR_ANT_HEIGHT_reg, CORR_SURVEY_reg, CORR_IE_SENT_reg, CORR_IE_DISCARD_reg, CORR_AGE_MAX_reg, CORR_RTCM_DROPPED_reg, CORR_RTCM_MISSED_reg, CORR_SKIPPED_reg]

/-- Every register of spec/12_time.md. -/
def regs_12 : List Reg :=
  [TIME_CTRL_reg, TIME_STATUS_reg, TIME_NOW_NS_reg, TIME_NOW_S_LO_reg, TIME_NOW_S_HI_reg, TIME_ADDEND_reg, TIME_SRC_CFG_reg, TIME_SLEW_CFG_reg, TIME_HOLD_CFG_reg, TIME_HOLD_Y_reg, TIME_HOLD_D_reg, TIME_UNCERT_reg, TIME_OFFSET_reg, TIME_HOLD_S_reg, TIME_UTC_reg, TIME_STEP_PT_reg, TIME_SRC_STATUS_reg, TIME_STEP_REFUSED_reg, TIME_CAP_CFG_reg, TIME_CAP_STATUS_reg, TIME_CMP_CFG_reg, TIME_CMP_PERIOD_reg, TIME_CMP_WIDTH_reg, TIME_CMP_STATUS_reg, TIME_PTP_CFG_reg, TIME_PTP_INTV_reg, TIME_PTP_IP4_reg, TIME_PTP_STATUS_reg, TIME_PTP_LINK_A_reg, TIME_PTP_LINK_B_reg, TIME_PTP_FOREIGN_reg, TIME_TC_FRAMES_reg, TIME_TC_UNCORR_reg, TIME_PTP_CLKID_LO_reg, TIME_PTP_CLKID_HI_reg]

/-- Every register of spec/13_redundancy.md. -/
def regs_13 : List Reg :=
  [REDUN_CTRL_reg, REDUN_STATUS_reg, REDUN_SWAP_CFG_reg, REDUN_SWAP_STATUS_reg, REDUN_VER_reg, REDUN_CFG_MISMATCH_reg, REDUN_TT_OFFSET_reg, REDUN_TT_RTT_reg, REDUN_LAST_PT_reg, REDUN_SWAPS_reg, REDUN_TAKEOVERS_reg, REDUN_CRC_ERR_reg, REDUN_RETX_reg, REDUN_LINK_LOSS_reg, REDUN_RESYNCS_reg, REDUN_PERMIT_MISS_reg, REDUN_HELD_MAX_reg, REDUN_HELLO_BAD_reg]

/-- Every register of spec/14_queues_mailboxes.md. -/
def regs_14 : List Reg :=
  [SAG_CTRL_reg, SAG_STATUS_reg, SAG_POOL_CFG_reg, SAG_POOL_FREE_reg, SAG_POOL_HOST_reg, SAG_POOL_RETIRED_reg, SAG_INT_REFUSED_reg, SAG_Q_WM_reg, SAG_Q_LIMIT_reg, SAG_Q_TMO_reg, SAG_Q_STATUS_reg, SAG_SQ_IDLE_reg, SAG_SQ_STATUS_reg, SAG_SQ_WORDS_reg, MB_POST_LO_reg, MB_POST_HI_reg, MB_POP_LO_reg, MB_POP_HI_reg, MB_CFG_reg, MB_STATUS_reg, MB_DROP_reg, MB_LOST_reg, MB_EPOCH_LO_reg, MB_EPOCH_HI_reg, LOCK_reg, LOCK_OWNER_reg, LOCK_BAD_WR_reg, LOCK_RESET_REL_reg]

/-- Every register of spec/15_dock_metering.md. -/
def regs_15 : List Reg :=
  [MET_CTRL_reg, MET_STATUS_reg, MET_SAVE_SEQ_reg, MET_SAVE_PT_reg, MET_SAVE_FAIL_reg, MET_XCHK_CFG_reg, MET_VCAL_reg, MET_EL_CFG_reg, MET_EL_ZC_reg, MET_PULSE_CFG_reg, MET_ICAL1_reg, MET_ICAL8_reg, MET_ICAL32_reg, MET_IOFS_reg, MET_EL_STATUS_reg, MET_TOT_IMP_LO_reg, MET_TOT_IMP_HI_reg, MET_TOT_EXP_LO_reg, MET_TOT_EXP_HI_reg, MET_INT_IMP_LO_reg, MET_INT_IMP_HI_reg, MET_INT_EXP_LO_reg, MET_INT_EXP_HI_reg, MET_POWER_reg, MET_PULSE_OWED_reg, MET_CLIP_reg, MET_XCHK_reg, MET_DOCK_CFG_reg]

/-- Every register of spec/16_fixture_motion.md. -/
def regs_16 : List Reg :=
  [MOT_CTRL_reg, MOT_STATUS_reg, MOT_TBL_REFUSED_reg, MOT_AX_CTRL_reg, MOT_AX_CFG_reg, MOT_AX_VMAX_reg, MOT_AX_STOP_reg, MOT_AX_TRAVEL_MIN_reg, MOT_AX_TRAVEL_MAX_reg, MOT_AX_CHOP_reg, MOT_AX_CUR_reg, MOT_AX_HVEL_reg, MOT_AX_HCFG_reg, MOT_AX_HOME_OFS_reg, MOT_AX_HOME_MAX_reg, MOT_AX_STATUS_reg, MOT_AX_POS_reg, MOT_AX_REMAIN_reg, MOT_AX_VEL_reg, MOT_AX_CHATTER_reg, MOT_AX_OVERCUR_reg, MOT_TBL_reg]

/-- Every register of spec/17_shard_log.md. -/
def regs_17 : List Reg :=
  [SHARD_CTRL_reg, SHARD_NEWEST_reg, SHARD_OLDEST_reg, SHARD_LOST_reg, SHARD_BAD_CRC_reg, SHARD_STATUS_reg, SHARD_CURSOR_reg, SHARD_WIN_STATUS_reg, SHARD_WIN_CFG_reg, SHARD_WINDOW_reg]

/-- Every register of spec/18_firmware_update.md. -/
def regs_18 : List Reg :=
  [UPD_STATUS_reg, UPD_STAGE_BYTES_reg, UPD_ARB_reg, UPD_TRIAL_LEFT_reg, UPD_BANK_A_reg, UPD_BANK_B_reg, UPD_VER_A_reg, UPD_VER_B_reg, UPD_CFG_reg, UPD_SCHED_PT_reg, UPD_REVERT_reg]

/-- Every register of spec/19_startup_and_test.md. -/
def regs_19 : List Reg :=
  [PWR_RESET_CAUSE_reg, PWR_BOOT_STATUS_reg, PWR_UNIT_RESET_reg, PWR_PHASE_MS_reg, IST_CTRL_reg, IST_STATUS_reg, IST_PERIOD_SRAM_reg, IST_PERIOD_GNSS_reg, IST_CYCLE_S_reg, IST_CYCLE_AGE_S_reg, IST_SCRUB_FIXED_reg, IST_PASS_reg, IST_FAIL_reg]

/-- Every register of spec/20_electrical_package.md. -/
def regs_20 : List Reg :=
  [PWR_TEMP_reg, PWR_VIN_reg]

/-- The register map of BAR0 (R55 and the register tables it covers), in the order of the files. -/
def regMap : List Reg :=
  regs_01 ++ regs_02 ++ regs_03 ++ regs_04 ++ regs_05 ++ regs_06 ++ regs_07 ++ regs_08 ++ regs_09 ++ regs_10 ++ regs_11 ++ regs_12 ++ regs_13 ++ regs_14 ++ regs_15 ++ regs_16 ++ regs_17 ++ regs_18 ++ regs_19 ++ regs_20

end Sys2Proof.Machine
end

