-- ==== Sys2Proof/Config.lean ====
section
/-! DEFINITION. What an implementation fixes and what the spec leaves open: constants without a body, so that no proof can
lean on a value of them (log entries 2, 4 and 6). -/

namespace Sys2Proof.Config

open Sys2Proof.Machine

/-- A value the spec leaves open, the `n`-th one drawn (nonces, challenges, drawn keys, unstated results). -/
opaque freeValue : Nat → Nat
/-- Whether the unit carries the AM radio profile; else it is AU (R2, R4). -/
opaque isAM : Bool
/-- The unit serial (R57). -/
opaque serial : BitVec 64
/-- The unit's EUI-64 (R256). -/
opaque eui : BitVec 64
/-- The lane modems' FCS over a frame's bytes (R290). -/
opaque fcs : List Byte → Nat
/-- VERSION, settings schema and mirror protocol version of the container a unit is made with (log entry 48). -/
opaque factoryVersion : Nat
opaque factorySchema : Nat
opaque factoryMirror : Nat
/-- The revocation mask a boot configuration part carries (R541); the spec does not give its place. -/
opaque revocationMask : List Byte → Nat
/-- The RTCM signal ID of a SIG (R362). -/
opaque msmSignal : Nat → Nat
/-- A carrier phase difference of a SIG with GLONASS number, in 2^-16 cycle times 10^-6, as whole mm to the nearest
(R368). -/
opaque phaseMm : Nat → Int → Int → Int
/-- The base position an antenna reference point in ECEF and a baseline in local east, north, up add to, in mm (R358). -/
opaque addBaseline : Int × Int × Int → Int × Int × Int → Int × Int × Int
/-- SHA-256 of a byte list (R5). -/
opaque sha256 : List Byte → Nat
/-- ECDSA P-256 verification of a signature over a hash under a public key (R5). -/
opaque ecdsaOk : Nat → Nat → Nat → Bool
/-- The public keys in the fuses, by key index (R541). -/
opaque pubKey : Nat → Nat
/-- The air time in microseconds of a frame of `n` octets at an MCS (R237). -/
opaque airUs : Nat → Nat → Nat
/-- The body of an RTCM message (R361 to R363): for a message number, IODS and what the encoder puts into it. -/
opaque rtcmBytes : Nat → Nat → List Byte → List Byte

/-- The cause byte of a MEMBERSHIP_END event for each item of R281, counted from 0; the spec numbers none of them. -/
opaque membershipCause : Nat → Nat
/-- The STATE byte of a ledger entry that is OFFERED (0) or TIMED_OUT (1); the spec gives numbers to the other states only
(R315). -/
opaque taskStateCode : Nat → Nat

/-- The FABRIC cycles of Kiln's `n`-th operation in a tick, by the tick's number (R160); the spec bounds them only. -/
opaque opCycles : Nat → Nat → Nat

/-- A current sample delayed by a fraction of a sample period, from PHASE, the sample before and itself (R488). -/
opaque fracDelay : Int → Int → Int → Int

/-- The 48 bytes of an element's record in a metering slot, whose layout R490 does not give (log entry 50). -/
opaque metRecord : List Nat → BitVec 384
/-- 2^-64 µWh in the product of one voltage LSB and one current LSB of the ×32 range over a sample period (R480); the spec
gives no scale of the inputs. -/
opaque metUnit : Int

/-- The test port (R5: IEEE 1149.1; the spec gives no codes): width of the instruction register, codes of SAMPLE, PRELOAD and
EXTEST. -/
opaque jtagIrLen : Nat
opaque jtagSample : Nat
opaque jtagPreload : Nat
opaque jtagExtest : Nat

/-- The GLONASS code-phase biases of factory calibration, as message 1230 lists them (R361). -/
opaque gloBias : Nat → Int
/-- The horizontal and vertical standard deviations in mm of a survey's fixes in µm (R371). -/
opaque surveyDev : List (Int × Int × Int) → Nat × Nat

/-- The uncertainty in ns of the real-time clock's time (R335); the spec gives no figure. -/
opaque rtcUncert : Nat

/-- 64 KB blocks of MRAM that one scrub pass reads (R570); the spec does not give MRAM's size. -/
opaque mramBlocks : Nat

/-- The condition byte of an ANTENNA event for NORMAL (0), OPEN (1) and SHORT (2); the spec numbers none (R323, R536). -/
opaque antennaCode : Nat → Nat

/-- The limit byte of a LIMIT_TRIP event: 0 for the longest transmission, 1 for the time on one channel; the spec numbers
neither (R247, R536). -/
opaque limitCode : Nat → Nat

end Sys2Proof.Config
end

