-- ==== Sys2Proof/Machine/SineTable.lean ====
section
/-! DEFINITION. The sine table of the axes after reset (R503): S[r] = round(255 × sin((r + 0.5) × π / 512)). -/

namespace Sys2Proof.Machine

def sineRow0 : List Nat :=
  [1, 2, 4, 5, 7, 9, 10, 12, 13, 15, 16, 18, 20, 21, 23, 24, 26, 27, 29, 30, 32, 34, 35, 37, 38, 40, 41, 43, 44, 46, 47, 49,
   51, 52, 54, 55, 57, 58, 60, 61, 63, 64, 66, 67, 69, 70, 72, 73, 75, 76, 78, 79, 81, 82, 84, 85, 87, 88, 90, 91, 93, 94, 95, 97]
def sineRow1 : List Nat :=
  [98, 100, 101, 103, 104, 105, 107, 108, 110, 111, 113, 114, 115, 117, 118, 120, 121, 122, 124, 125, 126, 128, 129, 130, 132, 133, 134, 136, 137, 138, 140, 141,
   142, 144, 145, 146, 147, 149, 150, 151, 153, 154, 155, 156, 158, 159, 160, 161, 162, 164, 165, 166, 167, 168, 170, 171, 172, 173, 174, 175, 176, 178, 179, 180]
def sineRow2 : List Nat :=
  [181, 182, 183, 184, 185, 186, 187, 188, 189, 191, 192, 193, 194, 195, 196, 197, 198, 199, 200, 201, 202, 202, 203, 204, 205, 206, 207, 208, 209, 210, 211, 212,
   212, 213, 214, 215, 216, 217, 218, 218, 219, 220, 221, 221, 222, 223, 224, 225, 225, 226, 227, 227, 228, 229, 230, 230, 231, 232, 232, 233, 233, 234, 235, 235]
def sineRow3 : List Nat :=
  [236, 236, 237, 238, 238, 239, 239, 240, 240, 241, 241, 242, 242, 243, 243, 244, 244, 245, 245, 246, 246, 246, 247, 247, 248, 248, 248, 249, 249, 249, 250, 250,
   250, 251, 251, 251, 251, 252, 252, 252, 252, 253, 253, 253, 253, 253, 254, 254, 254, 254, 254, 254, 254, 254, 255, 255, 255, 255, 255, 255, 255, 255, 255, 255]

/-- S after reset. -/
def sineTable : List Nat := sineRow0 ++ sineRow1 ++ sineRow2 ++ sineRow3

/-- The words of MOT_TBL of axis `a`: entry 4w + j in byte j of word w. -/
def sineWords (a : Nat) : Nat → List Nat → Tab Word
  | w, x0 :: x1 :: x2 :: x3 :: l =>
    (0x688000 + 0x100 * a + 4 * w, BitVec.ofNat 32 (x0 + 2 ^ 8 * x1 + 2 ^ 16 * x2 + 2 ^ 24 * x3)) :: sineWords a (w + 1) l
  | _, _ => []

end Sys2Proof.Machine
end

