-- ==== Sys2Proof/Machine/State.lean ====
section
/-! DEFINITION. The state of the FB512: plain data. `Mach` is the part without its mailboxes and locks and without the
queue of waiting commands; `State` is all of it. -/

namespace Sys2Proof.Machine

/-- Why a run stops with a fault. -/
inductive Fault where
  /-- raised by a register command whose offset lies outside its BAR (R52) or is not a multiple of 4 (R6): no access of the
  spec has such an offset; safe -/
  | badAddress
deriving DecidableEq, Repr

/-- Why a command is refused. -/
inductive Refusal where
  /-- raised by an arm of `exec` whose command has no meaning yet; safe -/
  | notModelled (mnemonic : String)
deriving DecidableEq, Repr

/-- The part, beside its mailboxes and locks. `regs` holds every BAR0 register that has been written since reset, by
offset; any other reads as its reset value. -/
structure Mach where
  regs : Tab Word
  hostMem : Tab Byte
  hif : HifSt
  intc : IntcSt
  shard : ShardSt
  kiln : KilnSt
  dam : DamSt
  time : TimeSt
  mot : Tab Axis
  chop : Tab (Chop × Chop)
  air : AirSt
  red : RedSt
  sag : SagSt
  met : MetSt
  gnss : GnssSt
  corr : CorrSt
  upd : UpdSt
  boot : BootSt
  ist : IstSt
  nv : NvSt
  out : List Emission
  freeCtr : Nat
deriving DecidableEq, Repr

/-- The state of the model: the waiting commands, the mailboxes and locks, and the rest of the part. -/
structure State where
  pending : List Instr
  mb : MbSt
  m : Mach
deriving DecidableEq, Repr

/-- The registers whose reset value depends on the index or on the unit (log entry 4): hop offsets (R254), lane status, GNSS spares (R325), the
periodic compare channels (R404), the rename table (R119), the identity registers (R57, R397), the sine tables (R503). -/
def resetRegs : Tab Word :=
  [(0x8, BitVec.ofNat 32 (0x10 + (if Config.isAM then 1 else 2))),
   (0x10, Config.serial.setWidth 32), (0x14, (Config.serial >>> 32).setWidth 32),
   (0x10000, 0x1#32), (0x10004, 0x1#32),
   (0x100200, 0x10002#32), (0x100210, 0x10002#32),
   (0x100424, Config.eui.setWidth 32), (0x100428, (Config.eui >>> 32).setWidth 32)] ++
  (List.range 8).map (fun c => (0x202C08 + 0x10 * c, 0x3#32)) ++
  [(0x300008, if Config.isAM then 0x1501#32 else 0xA02#32)] ++
  (List.range 8).flatMap (fun n =>
    [(0x300100 + 0x20 * n, BitVec.ofNat 32 (if Config.isAM then 2 * n else n)),
     (0x300108 + 0x20 * n, BitVec.ofNat 32 (1 + 0x10 * n))]) ++
  (List.range 16).map (fun n => (0x400300 + 4 * n, BitVec.ofNat 32 (0x10 * n))) ++
  [(0x400340, 0x1#32)] ++ (List.range 8).flatMap (fun a => sineWords a 0 sineTable)

/-- MRAM, flash and fuses of a unit as manufactured: nothing in MRAM; flash bank A holds a container that passes its checks and
has no anti-rollback history (log entry 48). -/
def resetNv : NvSt where
  banks := [(0, { valid := true, version := Config.factoryVersion, schemaLo := Config.factorySchema,
                  schemaHi := Config.factorySchema, mirLo := Config.factoryMirror, mirHi := Config.factoryMirror })]
  set := { schema := Config.factorySchema }

/-- The part right after its first power-on: every register at its reset value, nothing in MRAM (R562, R563). -/
def resetMach : Mach where
  regs := resetRegs
  hostMem := []
  hif := {}
  intc := {}
  shard := {}
  kiln := {}
  dam := {}
  time := {}
  mot := []
  chop := []
  air := {}
  red := {}
  sag := {}
  met := {}
  gnss := {}
  corr := {}
  upd := {}
  boot := {}
  ist := {}
  nv := resetNv
  out := []
  freeCtr := 0

/-- The model right after reset. -/
def State.reset : State where
  pending := []
  mb := {}
  m := resetMach

end Sys2Proof.Machine
end

