-- ==== Sys2Proof/Machine/Ops.lean ====
section
/-! DEFINITION. The shared operations: registers, host memory, time, events, the Shard log's queue, interrupts,
completions and ring halts. -/

namespace Sys2Proof.Machine

open Sys2Proof

/-- What a command answers. -/
abbrev Res := Host.Outcome State Fault Refusal

/-- A command whose effect is `f` on the part and nothing on the queue, mailboxes and locks. -/
def State.on (s : State) (f : Mach → Mach) : Res := .next { s with m := f s.m }

/-- The first condition of a list that holds names the answer. -/
def firstOf : List (Bool × Nat) → Option Nat
  | [] => none
  | (c, v) :: t => if c then some v else firstOf t

/-- `f` applied when `c` holds. -/
def Mach.when (m : Mach) (c : Bool) (f : Mach → Mach) : Mach := if c then f m else m

/-- `f` folded over a list, on the part. -/
def Mach.each {α : Type} (m : Mach) (l : List α) (f : Mach → α → Mach) : Mach := l.foldl f m

/-! ### Registers (R6 to R8) -/

/-- The BAR0 offset of a field's register for index `i` (and `j`). -/
def Field.off (f : Field) (i j : Nat) : Nat := f.base + f.step * i + f.step2 * j

/-- The whole register a field lies in. -/
def Mach.word (m : Mach) (f : Field) (i : Nat := 0) (j : Nat := 0) : Nat :=
  (Tabs.val m.regs (BitVec.ofNat 32 f.reset) (f.off i j)).toNat

/-- A field's value. -/
def Mach.r (m : Mach) (f : Field) (i : Nat := 0) (j : Nat := 0) : Nat := bits (m.word f i j) f.lo f.width

/-- A one-bit field. -/
def Mach.b (m : Mach) (f : Field) (i : Nat := 0) (j : Nat := 0) : Bool := m.r f i j != 0

/-- A field's two's complement value. -/
def Mach.ri (m : Mach) (f : Field) (i : Nat := 0) (j : Nat := 0) : Int := sgn f.width (m.r f i j)

/-- A word with `width` bits from bit `lo` replaced. -/
def putBits (old lo width v : Nat) : Nat := old - (bits old lo width <<< lo) + ((v % 2 ^ width) <<< lo)

/-- The part with a field set. -/
def Mach.w (m : Mach) (f : Field) (v : Nat) (i : Nat := 0) (j : Nat := 0) : Mach :=
  { m with regs := Tabs.put m.regs (f.off i j) (BitVec.ofNat 32 (putBits (m.word f i j) f.lo f.width v)) }

/-- The part with the whole register a field lies in set. -/
def Mach.wWord (m : Mach) (f : Field) (v : Nat) (i : Nat := 0) (j : Nat := 0) : Mach :=
  { m with regs := Tabs.put m.regs (f.off i j) (BitVec.ofNat 32 v) }

/-- The part with a one-bit field set. -/
def Mach.wb (m : Mach) (f : Field) (v : Bool) (i : Nat := 0) (j : Nat := 0) : Mach := m.w f (b2n v) i j

/-- The part with a field set to an integer's two's complement code. -/
def Mach.wi (m : Mach) (f : Field) (v : Int) (i : Nat := 0) (j : Nat := 0) : Mach := m.w f (unsgn f.width v) i j

/-- A counter field advanced by `n`, saturating at its largest value. -/
def Mach.incBy (m : Mach) (f : Field) (n : Nat) (i : Nat := 0) (j : Nat := 0) : Mach :=
  m.w f (min (m.r f i j + n) (2 ^ f.width - 1)) i j

/-- A counter field advanced by one, saturating. -/
def Mach.inc (m : Mach) (f : Field) (i : Nat := 0) : Mach := m.incBy f 1 i

/-- A field that keeps the largest value seen. -/
def Mach.maxTo (m : Mach) (f : Field) (v : Nat) (i : Nat := 0) : Mach := m.w f (max (m.r f i) (min v (2 ^ f.width - 1))) i

/-! ### Free values -/

/-- The next free value and the part with its counter advanced. -/
def Mach.draw (m : Mach) : Nat × Mach := (Config.freeValue m.freeCtr, { m with freeCtr := m.freeCtr + 1 })

/-- Something put out. -/
def Mach.emit (m : Mach) (e : Emission) : Mach := { m with out := m.out ++ [e] }

/-! ### Host memory -/

/-- `n` bytes of host memory from an address; a byte nothing has written reads as 0 (log entry 3). -/
def Mach.hostRd (m : Mach) (a : Nat) : Nat → List Byte
  | 0 => []
  | n + 1 => Tabs.val m.hostMem 0 a :: m.hostRd (a + 1) n

/-- One byte written, in canonical form: 0 leaves no entry. -/
def hostPut (t : Tab Byte) (a : Nat) (v : Byte) : Tab Byte := if v = 0 then Tabs.del t a else Tabs.put t a v

/-- Bytes written from an address on. -/
def hostPuts (t : Tab Byte) (a : Nat) : List Byte → Tab Byte
  | [] => t
  | v :: l => hostPuts (hostPut t a v) (a + 1) l

/-- Bytes written to host memory. -/
def Mach.hostWr (m : Mach) (a : Nat) (l : List Byte) : Mach := { m with hostMem := hostPuts m.hostMem a l }

/-! ### Time (R10, R11) -/

/-- The second of the origin of PT and ASN (R11). -/
def originSec : Nat := 1577836800

/-- Nanoseconds since the epoch of ST80. -/
def Mach.totalNs (m : Mach) : Nat := m.time.sec * 1000000000 + m.time.ns

/-- The ST32 time (R10). -/
def Mach.st32 (m : Mach) : Nat := m.totalNs % 2 ^ 32

/-- Milliseconds since the origin; negative before it. -/
def Mach.msInt (m : Mach) : Int := ((m.time.sec : Int) - originSec) * 1000 + (m.time.ns / 1000000 : Nat)

/-- PT (R11). -/
def Mach.pt (m : Mach) : Nat := (m.msInt % (2 ^ 32 : Int)).toNat

/-- ASN (R11). -/
def Mach.asn (m : Mach) : Nat := (m.msInt / 4 % (2 ^ 40 : Int)).toNat

/-- Signed 32-bit difference `a - b` (R13). -/
def diff32 (a b : Nat) : Int := sgn 32 (unsgn 32 ((a : Int) - b))

/-- Ticks since reset: what timers of whole milliseconds count. -/
def Mach.now (m : Mach) : Nat := m.intc.ticks

/-- The clock has made its step (R382). -/
def Mach.stepped (m : Mach) : Bool := m.b TIME_STATUS_STEP_LOCK

/-- The time status byte (R380). -/
def Mach.timeStatus (m : Mach) : Nat := m.r TIME_STATUS_STATUS

/-! ### Roles -/

/-- ROLE_STATE is ACTIVE. -/
def Mach.isActive (m : Mach) : Bool := m.r REDUN_STATUS_ROLE_STATE == 1
/-- ROLE_STATE is STANDBY. -/
def Mach.isStandby (m : Mach) : Bool := m.r REDUN_STATUS_ROLE_STATE == 2
/-- The chip safe state (R21). -/
def Mach.isSafe (m : Mach) : Bool := m.b INTC_STATUS_SAFE_STATE
/-- Recovery mode (R552). -/
def Mach.recovery (m : Mach) : Bool := m.b UPD_STATUS_RECOVERY
/-- Boot has reached READY (R565). -/
def Mach.ready (m : Mach) : Bool := m.r PWR_BOOT_STATUS_PHASE == 5

/-- A register access of this master reaches its block: master 0 is a number never issued (R35), and the host reaches most windows
only from READY on (R566). -/
def Mach.hears (m : Mach) (master : Nat) : Bool := master != 0 && (master != 1 || m.ready)

/-- The host's read of another window before READY returns 0 (R566). -/
def Mach.deafRead (m : Mach) (master off : Nat) : Mach := m.when (master == 1) (fun m => m.emit (.read 1 off 0))

/-! ### Interrupts (R78, R79) -/

/-- The function can send memory writes: link up, bus master enabled, D0. -/
def Mach.canWrite (m : Mach) : Bool := m.b HIF_STATUS_LINK_UP && m.b HIF_STATUS_BME && m.r HIF_STATUS_D_STATE == 0

def Mach.vec (m : Mach) (v : Nat) : Vec := Tabs.val m.hif.vecs {} v
def Mach.setVec (m : Mach) (v : Nat) (x : Vec) : Mach := { m with hif := { m.hif with vecs := Tabs.put m.hif.vecs v x } }

/-- The MSI-X capability holds a vector's message back: not enabled, the function or the vector masked (R53, R79). -/
def Mach.vecHeld (m : Mach) (v : Nat) : Bool := !m.hif.cfg.msixOn || m.hif.cfg.msixMask || (m.vec v).masked

/-- A message of a vector falls due: sent, or its pending bit set while it is masked or the function cannot write. -/
def Mach.fireVec (m : Mach) (v : Nat) : Mach :=
  let x := m.vec v
  if m.vecHeld v || !m.canWrite then m.setVec v { x with count := 0, pend := true }
  else (m.setVec v { x with count := 0 }).emit (.msix v)

/-- One entry has been written on a ring of a vector. -/
def Mach.notify (m : Mach) (v : Nat) : Mach :=
  let x := m.vec v
  let m := m.setVec v { x with count := x.count + 1, first := if x.count = 0 then m.now else x.first }
  if x.count + 1 ≥ m.r HIF_VEC_COAL_COUNT v then m.fireVec v else m

/-- The pending message of a vector is sent if nothing holds it back. -/
def Mach.sendPending (m : Mach) (v : Nat) : Mach :=
  let x := m.vec v
  if x.pend && !m.vecHeld v && m.canWrite then (m.setVec v { x with pend := false }).emit (.msix v) else m

/-! ### The Shard log's queue (R525 to R528) -/

/-- Civil date of a day count since 1970-01-01: year, month, day. -/
def civil (z0 : Nat) : Nat × Nat × Nat :=
  let z := z0 + 719468
  let era := z / 146097
  let doe := z - era * 146097
  let yoe := (doe - doe / 1460 + doe / 36524 - doe / 146096) / 365
  let y := yoe + era * 400
  let doy := doe - (365 * yoe + yoe / 4 - yoe / 100)
  let mp := (5 * doy + 2) / 153
  let d := doy - (153 * mp + 2) / 5 + 1
  let mo := if mp < 10 then mp + 3 else mp - 9
  (if mo ≤ 2 then y + 1 else y, mo, d)

/-- QUALITY of a record from the time STATE (R528). -/
def shardQuality (state : Nat) : Nat := match state with
  | 0 => 0
  | 1 => 1
  | 2 => 2
  | 5 => 2
  | _ => 3

/-- Bytes 4 to 55 of a record raised now (R527, R528): an inserted leap second is the second 60 of the day it ends, and LEAP is 1
on all of that day. -/
def Mach.shardBytes (m : Mach) (code sev src : Nat) (args : List Byte) : List Byte :=
  let st := m.timeStatus % 8
  let q := shardQuality st
  let utcOk := m.b TIME_UTC_UTC_VALID
  let secs := if utcOk then m.time.sec - m.r TIME_UTC_OFFSET else m.time.sec
  let extra := utcOk && m.time.leap == some (true, m.time.sec)
  let secs := secs - b2n extra
  let (y, mo, d) := civil (secs / 86400)
  let sod := secs % 86400
  let leap := utcOk && m.time.leap.any (fun e => (e.2 - 1 - m.r TIME_UTC_OFFSET) / 86400 == secs / 86400)
  let cal := if q = 0 then le 8 0 ++ le 0 0 else
    le 2 y ++ le 1 mo ++ le 1 d ++ le 1 (sod / 3600) ++ le 1 (sod / 60 % 60) ++ le 1 (sod % 60 + b2n extra)
  let cal := cal.take 7
  cal ++ le 1 (q + 4 * b2n utcOk + 8 * b2n leap) ++
    le 2 (if q = 0 then 0 else m.time.ns / 1000000) ++ le 1 src ++ le 1 sev ++ le 2 code ++ le 2 0 ++
    le 4 (min m.now (2 ^ 32 - 1)) ++ (args ++ List.replicate 32 0).take 32

/-- A record in its place: those of one tick stand in ascending block index, in the order raised within one (R526). -/
def shardInsert (e : ShardEv) : List ShardEv → List ShardEv
  | [] => [e]
  | x :: l => if x.tick = e.tick ∧ e.src < x.src then e :: x :: l else x :: shardInsert e l

/-- A record enters the write queue, or is lost when 256 wait or the block is lost (R526). -/
def Mach.shardPush (m : Mach) (e : ShardEv) : Mach :=
  if m.shard.queue.length ≥ 256 || m.r INTC_BLK_FAULT_STATE 30 == 3 then
    { m with shard := { m.shard with lostPending := m.shard.lostPending + 1 } }.inc SHARD_LOST_ALL
  else
    let q := shardInsert e m.shard.queue
    { m with shard := { m.shard with queue := q } }.w SHARD_STATUS_QUEUED q.length

/-! ### Events (R71 to R73, R525) -/

def Mach.ering (m : Mach) (e : Nat) : ERing := Tabs.val m.hif.erings {} e
def Mach.setERing (m : Mach) (e : Nat) (x : ERing) : Mach :=
  { m with hif := { m.hif with erings := Tabs.put m.hif.erings e x } }

/-- The base address of an event ring. -/
def Mach.erBase (m : Mach) (e : Nat) : Nat := m.r HIF_ER_BASE_LO_ALL e + 2 ^ 32 * m.r HIF_ER_BASE_HI_ALL e

/-- An event routed to event ring `e`: written, or dropped and counted; either way it takes a SEQ (R71, R73). DESIGN CHOICE:
R73 is silent on a ring enabled while the function cannot write; its event is dropped and counted (log entry 61). -/
def Mach.toRing (m : Mach) (e code sev src : Nat) (args : List Byte) : Mach :=
  let x := m.ering e
  let n := m.r HIF_ER_CFG_SIZE_LOG2 e
  let wr := m.r HIF_ER_STATUS_WR_INDEX e
  let full := (wr + 2 ^ n - x.head) % 2 ^ n ≥ 2 ^ n - 1
  let m := m.setERing e { x with seq := (x.seq + 1) % 2 ^ 32 }
  if m.r HIF_ER_STATUS_STATE e != 1 || full || !m.canWrite then m.inc HIF_ER_DROP_ALL e
  else
    let ph := m.r HIF_ER_STATUS_PHASE e
    let entry := le 2 code ++ le 1 sev ++ le 1 ph ++ le 4 x.seq ++ le 6 m.time.sec ++ le 4 m.time.ns ++ le 1 src ++
      le 1 (b2n m.stepped) ++ (args ++ List.replicate 12 0).take 12
    let m := m.hostWr (m.erBase e + 32 * wr) entry
    let wr' := (wr + 1) % 2 ^ n
    let m := m.w HIF_ER_STATUS_WR_INDEX wr' e
    let m := m.w HIF_ER_STATUS_PHASE (if wr' = 0 then 1 - ph else ph) e
    m.notify (m.r HIF_ER_CFG_VECTOR e)

/-- An event offered to the event ring of its block's route (R72). -/
def Mach.offer (m : Mach) (code sev src : Nat) (args : List Byte) : Mach :=
  let blk := code / 256
  if m.b HIF_EVT_ROUTE_EN blk && sev ≥ m.r HIF_EVT_ROUTE_MIN_SEV blk then
    m.toRing (m.r HIF_EVT_ROUTE_RING blk) code sev src args
  else m

/-- An event of a block: recorded in the Shard log and offered to the event ring of its route. -/
def Mach.event (m : Mach) (code sev src : Nat) (args : List Byte) : Mach :=
  (m.when (sev ≥ m.r SHARD_CTRL_MIN_SEV || code / 256 == 9)
    (fun m => m.shardPush ⟨m.shardBytes code sev src args, 0, m.now, src⟩)).offer code sev src args

/-! ### Rings and completions (R60 to R83) -/

def Mach.ring (m : Mach) (r : Nat) : Ring := Tabs.val m.hif.rings {} r
def Mach.setRing (m : Mach) (r : Nat) (x : Ring) : Mach :=
  { m with hif := { m.hif with rings := Tabs.put m.hif.rings r x } }

/-- Descriptors fetched and not complete. -/
def Ring.inflight (x : Ring) : Nat := x.paused.length + x.delivered.length

/-- HIF_RP_INFLIGHT follows the ring. -/
def Mach.showRing (m : Mach) (r : Nat) : Mach := m.w HIF_RP_INFLIGHT_ALL (m.ring r).inflight r

/-- A ring pair back to DISABLED, all indices 0 and the next phase 1 (R82). -/
def Mach.ringOff (m : Mach) (r : Nat) : Mach :=
  ((((m.setRing r {}).w HIF_RP_STATUS_STATE 0 r).w HIF_RP_STATUS_CAUSE 0 r).w HIF_RP_STATUS_SQ_HEAD 0 r).w
    HIF_RP_CTRL_ENABLE 0 r |>.showRing r

/-- A draining ring whose last descriptor has completed becomes DISABLED (R82). -/
def Mach.settleRing (m : Mach) (r : Nat) : Mach :=
  if m.r HIF_RP_STATUS_STATE r == 3 && (m.ring r).inflight == 0 then m.ringOff r else m

/-- A ring pair halts with a cause and one event (R81); only a RUNNING ring halts. -/
def Mach.haltRing (m : Mach) (r cause : Nat) : Mach :=
  if m.r HIF_RP_STATUS_STATE r == 1 then
    ((m.w HIF_RP_STATUS_STATE 2 r).w HIF_RP_STATUS_CAUSE cause r).event 0x0C01 3 22 (le 1 r ++ le 1 cause)
  else m

/-- An event ring halts (R81). -/
def Mach.haltERing (m : Mach) (e cause : Nat) : Mach :=
  if m.r HIF_ER_STATUS_STATE e == 1 then
    ((m.w HIF_ER_STATUS_STATE 2 e).w HIF_ER_STATUS_CAUSE cause e).event 0x0C01 3 22 (le 1 (128 + e) ++ le 1 cause)
  else m

/-- The base address of a completion ring. -/
def Mach.cqBase (m : Mach) (r : Nat) : Nat := m.r HIF_CQ_BASE_LO_ALL r + 2 ^ 32 * m.r HIF_CQ_BASE_HI_ALL r
/-- The base address of a submission ring. -/
def Mach.sqBase (m : Mach) (r : Nat) : Nat := m.r HIF_SQ_BASE_LO_ALL r + 2 ^ 32 * m.r HIF_SQ_BASE_HI_ALL r

/-- Bytes 4 to 31 of a completion entry (R68). -/
def Mach.cplTail (m : Mach) (d : Desc) (res : List Byte) : List Byte :=
  le 2 (m.r HIF_RP_STATUS_SQ_HEAD d.ring) ++ le 2 d.op ++ le 4 d.req.toNat ++ le 4 m.st32 ++
    (res ++ List.replicate 16 0).take 16

/-- A completion entry written in its slot: bytes 4 to 31, then bytes 0 to 3 (R68, R69), and its vector told. -/
def Mach.putCpl (m : Mach) (d : Desc) (st : Nat) (res : List Byte) : Mach :=
  let r := d.ring
  let n := m.r HIF_RP_CFG_SIZE_LOG2 r
  let x := m.ring r
  let a := m.cqBase r + 32 * x.cqWrite
  let m := m.hostWr (a + 4) (m.cplTail d res)
  let m := m.hostWr a (le 2 d.tag.toNat ++ le 1 st ++ le 1 (b2n x.phase))
  let wr := (x.cqWrite + 1) % 2 ^ n
  let m := m.setRing r { x with cqWrite := wr, phase := if wr = 0 then !x.phase else x.phase }
  m.notify (m.r HIF_RP_CFG_VECTOR r)

/-- The ring number of a descriptor that the other unit of the pair took: it has no ring here. -/
def foreignRing : Nat := 64

/-- A completion that its ring no longer counts is written, or discarded and counted where the host cannot be written or
the link has been lost since its fetch (R54); a draining ring settles. -/
def Mach.finish (m : Mach) (d : Desc) (st : Nat) (res : List Byte := []) : Mach :=
  let m := if m.canWrite && m.r HIF_RP_STATUS_STATE d.ring != 0 && d.era == m.hif.era then m.putCpl d st res
    else m.inc HIF_LOST_CPL_ALL
  (m.showRing d.ring).settleRing d.ring

/-- A descriptor that has been delivered is no longer outstanding at its block. -/
def Mach.undeliver (m : Mach) (d : Desc) : Mach :=
  let x := m.ring d.ring
  let m := { m with hif := { m.hif with old := dropFirst (fun e => e == d) m.hif.old } }
  m.setRing d.ring { x with delivered := dropFirst (fun e => e == d) x.delivered }

/-- A descriptor completes (R41, R68). One that the other unit took completes there. -/
def Mach.complete (m : Mach) (d : Desc) (st : Nat) (res : List Byte := []) : Mach :=
  if d.ring ≥ foreignRing then m else (m.undeliver d).finish d st res

/-- Completion status codes (R87). -/
def stOK : Nat := 0
def stLATE : Nat := 1
def stEXPIRED : Nat := 2
def stFLUSHED : Nat := 3
def stNOT_ENABLED : Nat := 4
def stBUSY : Nat := 5
def stBAD_DESCRIPTOR : Nat := 6
def stRANGE : Nat := 7
def stAUTH_FAIL : Nat := 8
def stSTALE_GENERATION : Nat := 9
def stNOT_ACTIVE_ROLE : Nat := 10
def stNO_TIME : Nat := 11
def stSTOPPED : Nat := 12
def stUNSUPPORTED : Nat := 13
def stQUEUE_FULL : Nat := 14

/-- The descriptors delivered from the ring of a descriptor, in ring order and not complete: of the ring as it is now, or of the
ring before the link loss that came after its fetch (R54). -/
def Mach.deliveredOf (m : Mach) (d : Desc) : List Desc :=
  if d.era == m.hif.era then (m.ring d.ring).delivered
  else m.hif.old.filter (fun e => e.ring == d.ring && e.era == d.era)

/-- Every descriptor delivered to a block and not complete. -/
def Mach.allDelivered (m : Mach) : List Desc := m.hif.old ++ m.hif.rings.flatMap (fun e => e.2.delivered)

/-- A FENCE descriptor waits while an earlier descriptor of its ring is not complete (R67). -/
def Mach.fenced (m : Mach) (d : Desc) : Bool :=
  Descs.fence d && (match m.deliveredOf d with
    | [] => false
    | e :: _ => e != d)

/-- The block has started a descriptor and keeps it until it completes. -/
def Mach.holds (m : Mach) (d : Desc) : Bool :=
  match d.target with
  | 1 => m.kiln.commit == some d || m.kiln.snaps.any (fun r => r.d == d) || m.kiln.store.agents.any (fun e =>
      match e.2.held with
      | some (.recover x) => x == d
      | some (.retire x) => x == d
      | _ => false)
  | 2 => m.dam.stops.any (fun e => e.1 == d)
  | 3 => m.air.tab.members.any (fun e => e.2.move.any (fun v => v.d == d)) || m.air.tab.ledger.any (fun e => e.2.d == some d)
  | 4 => m.gnss.hostQ.any (fun q => q.d == some d) || m.gnss.engines.any (fun e => e.2.req.d == some d) ||
      m.gnss.measReads.contains d || m.gnss.navReads.contains d || m.corr.reads.contains d || m.corr.held.any (fun h => h.1 == d) || m.corr.survey.any (fun v => v.d == d)
  | 5 => m.time.extTod.any (fun e => e.1 == d) || m.time.cmps.any (fun e => e.2.armed.any (fun a => a.1 == d)) ||
      m.time.capReads.contains d
  | 7 => m.mot.any (fun e => e.2.queue.any (fun v => v.d == d) || e.2.run.any (fun v => v.1.d == d) ||
      e.2.remain.any (fun v => v.1.d == d) || e.2.home.any (fun v => v.d == d) || e.2.halts.contains d)
  | 8 => m.red.swap.any (fun v => v.d == some d) || m.red.run.any (fun v => v.d == some d)
  | 9 => m.shard.clear.any (fun e => e.1 == d)
  | 10 => m.upd.sched.any (fun v => v.d == d)
  | 11 => m.sag.pend.any (fun e => e.1 == d)
  | _ => false

/-- A descriptor waits behind one of its ring for the same block that has not started (R67). -/
def Mach.behind (m : Mach) (d : Desc) : Bool :=
  let l := m.deliveredOf d
  l.contains d && (l.takeWhile (fun e => e != d)).any (fun e => e.target == d.target && !m.holds e)

/-- Kiln's input queue (R130): descriptors delivered and not started, in the order of delivery. One that FENCE holds back, or a
LOAD_MAP that waits for the write of R114, does not hold up those behind it (DEDUCED, log entry 61). -/
def Mach.kilnQueue (m : Mach) : List Desc :=
  m.kiln.inq.filter (fun e => (m.deliveredOf e).contains e && !m.holds e && !m.fenced e && !m.kiln.loadWait.contains e)

/-- A Kiln descriptor waits behind another one in Kiln's input queue (R130). -/
def Mach.queuedBehind (m : Mach) (d : Desc) : Bool :=
  d.target == 1 && m.kilnQueue.contains d && m.kilnQueue.head? != some d

/-- A descriptor does not start yet. -/
def Mach.waits (m : Mach) (d : Desc) : Bool := m.fenced d || m.behind d || m.queuedBehind d

/-- The transfer of a descriptor's buffer fails (R81): the link reports an error, or the function cannot reach host memory
(R54). -/
def Mach.bufFails (m : Mach) (d : Desc) : Bool := Descs.buf d && (d.bufErr || !m.canWrite)

/-- An error on the link is recorded in the error reporting capability (R53): unsupported request, completer abort or poisoned
data (R81). DESIGN CHOICE: which of the three it was and the header of the packet are free (log entry 62). -/
def Mach.linkError (m : Mach) : Mach :=
  let (v, m) := m.draw
  let (h, m) := m.draw
  let b := ([12, 15, 20] : List Nat).getD (v % 3) 12
  let a := m.hif.cfg.aer
  let a := if a.unc == 0 && !a.uncMask.testBit b then
    { a with first := b, header := (List.range 4).map (fun k => (k, bits h (32 * k) 32)) } else a
  { m with hif := { m.hif with cfg := { m.hif.cfg with aer := { a with unc := a.unc ||| 2 ^ b } } } }

/-- A descriptor of an opcode reaches its block: nothing yet while it waits; a failing buffer transfer halts its
ring with cause 4 and completes it with BAD_DESCRIPTOR (R81) and the RESULT its block states for a refusal, and the block's
state stays as it is (log entry 61); else the block executes it. -/
def Mach.desc (m : Mach) (op : Nat) (d : Desc) (f : Desc → Mach → Mach) (res : Desc → List Byte := fun _ => []) : Mach :=
  let e := { d with op := op, bufErr := false }
  if m.waits e then m
  else if m.bufFails d then ((m.when d.bufErr Mach.linkError).haltRing e.ring 4).complete e stBAD_DESCRIPTOR (res e)
  else f e m

/-- The bytes of a descriptor's buffer. -/
def Mach.bufRd (m : Mach) (d : Desc) : List Byte := if Descs.buf d then m.hostRd (Descs.addr d) (Descs.len d) else []

/-- Bytes written to a descriptor's buffer at an offset; nothing is written while the function cannot write (R54). -/
def Mach.bufWr (m : Mach) (d : Desc) (off : Nat) (l : List Byte) : Mach :=
  if m.canWrite then m.hostWr (Descs.addr d + off) l else m

/-! ### Late actions (R44, R45) -/

/-- What the late rule decides: executed at its time, late, or expired. Lateness and window in ns. -/
inductive Due where
  | onTime | late | expired
deriving DecidableEq, Repr

def dueOf (lateness window : Int) : Due :=
  if lateness ≤ 0 then .onTime else if lateness ≤ window then .late else .expired

/-! ### CRC-32C (R5) -/

/-- Eight steps of the reflected CRC. -/
def crcBits : Nat → Nat → Nat
  | 0, c => c
  | n + 1, c => crcBits n (if c % 2 = 1 then (c / 2) ^^^ 0x82F63B78 else c / 2)

/-- The CRC register after a list of bytes. -/
def crcStep : Nat → List Byte → Nat
  | c, [] => c
  | c, b :: l => crcStep (crcBits 8 (c ^^^ b.toNat)) l

/-- CRC-32C: reflected polynomial 0x1EDC6F41, initial value and final XOR 0xFFFFFFFF. -/
def crc32c (l : List Byte) : Nat := crcStep 0xFFFFFFFF l ^^^ 0xFFFFFFFF

/-- CRC-24Q over bits, first bit first: polynomial 0x1864CFB, initial value 0 (PRESUMED: RTCM 10403.3 defines it, log
entry 64). Zero over bits followed by their own CRC. -/
def crc24q (l : List Bool) : Nat :=
  l.foldl (fun c b => ((2 * c) % 2 ^ 24) ^^^ (if c.testBit 23 != b then 0x864CFB else 0)) 0

/-- The bits of bytes, most significant first. -/
def bitsOf (l : List Byte) : List Bool := l.flatMap (fun b => (List.range 8).map (fun k => b.getMsbD k))

end Sys2Proof.Machine
end

