-- ==== Sys2Proof/Machine/MateWire.lean ====
section
/-! DEFINITION. The mate frames as bytes (R415 to R417). -/

namespace Sys2Proof.Machine

open Sys2Proof

/-- KIND (R416). -/
def MateBody.kind : MateBody → Nat
  | .hello .. => 1
  | .tick _ => 2
  | .tickEnd .. => 3
  | .latch _ => 4
  | .bulk .. => 5
  | .ack .. => 6
  | .retx _ => 7

/-- ST80 of a time in ns (R10). -/
def st80 (t : Nat) : List Byte := le 6 (t / 1000000000) ++ le 4 (t % 1000000000)

/-- The body of a HELLO before its MIC. -/
def helloBody (serial profile lo hi nonce : Nat) : List Byte :=
  le 8 serial ++ le 4 profile ++ le 1 lo ++ le 1 hi ++ le 4 nonce

/-- The nonce of a HELLO's MIC, and the MIC under a pair key (R417). -/
def helloNonce (serial nonce : Nat) : List Byte := le 8 serial ++ le 4 nonce ++ le 1 3
def helloMic (serial profile lo hi nonce key : Nat) : Nat :=
  ccmMic key (helloNonce serial nonce) (helloBody serial profile lo hi nonce) []

/-- BODY (R417). A HELLO of a unit without a pair key has no MIC: zeros. -/
def MateBody.bytes : MateBody → List Byte
  | .hello serial profile lo hi nonce mic => helloBody serial profile lo hi nonce ++ le 8 (mic.getD 0)
  | .tick s => Config.tickBytes s
  | .tickEnd count digest _ rx _ => le 2 count ++ le 4 digest ++ st80 (rx.getD 0)
  | .latch s => Config.latchBytes s
  | .bulk region _ s => le 1 region ++ le 4 0 ++ Config.bulkBytes region s
  | .ack seq pt rx health _ => le 4 seq ++ le 4 pt ++ st80 rx ++ le 1 health
  | .retx seq => le 4 seq

/-- The stamp that follows the body of TICK_END and ACK. -/
def MateBody.stamp : MateBody → List Byte
  | .tickEnd _ _ _ _ t => st80 t
  | .ack _ _ _ _ t => st80 t
  | _ => []

/-- The 16-byte header (R416). -/
def MateFrame.header (f : MateFrame) : List Byte :=
  le 1 f.version ++ le 1 f.body.kind ++ le 2 (b2n f.final + 2 * b2n f.forward + 4 * b2n f.warm) ++ le 4 f.seq ++ le 4 f.pt ++
    le 2 f.body.bytes.length ++ le 2 0

/-- The payload: header, body, stamp, CRC-32C over header and body. DESIGN CHOICE: a payload below 46 bytes is filled with
zeros before its last four bytes (log entry 62). -/
def MateFrame.payload (f : MateFrame) : List Byte :=
  let l := f.header ++ f.body.bytes
  let all := l ++ f.body.stamp
  all ++ List.replicate (42 - all.length) 0 ++ le 4 (crc32c l)

/-- The frame on the link (R415): addresses of zeros, EtherType 0x88B5, the payload. -/
def MateFrame.ethernet (f : MateFrame) : List Byte := le 12 0 ++ (le 2 0x88B5).reverse ++ f.payload

/-- A mate frame put out. -/
def Mach.mateOut (m : Mach) (f : MateFrame) : Mach := m.emit (.mate f f.ethernet)

end Sys2Proof.Machine
end

