-- ==== Sys2Proof/Machine/Fault.lean ====
section
/-! DEFINITION. Fault states of the hardware blocks and the record of the in-service test, as other blocks use them (01, 19). -/

namespace Sys2Proof.Machine

open Sys2Proof

/-! ### Block states (R49, R50, R536) -/

/-- The block ID a hardware block's events carry (R50). -/
def blockIdOf (b : Nat) : Nat :=
  if b ≤ 3 then 0x04 else if b ≤ 14 then 0x03 else if b ≤ 16 then 0x01 else if b ≤ 18 then 0x02 else if b ≤ 20 then 0x06
  else if b == 21 then 0x07 else if b == 22 then 0x0C else if b == 23 || b == 29 then 0x05 else if b == 24 then 0x08
  else if b ≤ 28 then 0x0B else if b == 30 then 0x09 else if b == 31 then 0x0A else 0x0D

/-- BLOCK_FAULT, while EVENT_EN is 1; for a corrected error (cause 3) CORR_EVENT_EN too. -/
def Mach.blkEvent (m : Mach) (b old new cause : Nat) : Mach :=
  m.when (m.b INTC_CTRL_EVENT_EN && (cause != 3 || m.b INTC_CTRL_CORR_EVENT_EN)) (fun m =>
    m.event (256 * blockIdOf b) (if cause == 3 then 0 else if new == 3 then 3 else 2) b
      (le 1 b ++ le 1 old ++ le 1 new ++ le 1 cause))

/-- The index that stands for the interconnect among the faults of a tick; events give it as 0xFF (R50). -/
def interconnect : Nat := 33

/-- BLOCK_FAULT about the interconnect, which has no STATE: it reads as 0 (R50, R536). -/
def Mach.interEvent (m : Mach) (cause : Nat) : Mach :=
  m.when (m.b INTC_CTRL_EVENT_EN && (cause != 3 || m.b INTC_CTRL_CORR_EVENT_EN)) (fun m =>
    m.event 0x0B00 (if cause == 3 then 0 else 2) 0xFF (le 1 0xFF ++ le 1 0 ++ le 1 0 ++ le 1 cause))

/-- STATE of a block, with its event. -/
def Mach.blkState (m : Mach) (b new cause : Nat) : Mach :=
  let old := m.r INTC_BLK_FAULT_STATE b
  if old == new then m else (m.w INTC_BLK_FAULT_STATE new b).blkEvent b old new cause

/-- The block has restarted at the end of the tick that is ending (R17). -/
def Mach.restartedNow (m : Mach) (b : Nat) : Bool := m.intc.restarted.contains b

/-- A fault raised in this tick, evaluated at its end (R20). -/
def Mach.raise (m : Mach) (b : Nat) (k : FaultKind) : Mach :=
  { m with intc := { m.intc with faults := m.intc.faults ++ [(b, k)] } }

/-- An uncorrectable error of a block (R16, R49): seen, and evaluated at the end of the tick. -/
def Mach.uncorrectable (m : Mach) (b : Nat) (cell : Option Nat) (spare : Bool) : Mach :=
  (m.w INTC_BLK_FAULT_UNCORR_SEEN 1 b).raise b (.uncorrectable cell spare)

/-! ### In-service test (R569 to R576) -/

/-- Test `t` is enabled (R574). -/
def Mach.istEnabled (m : Mach) (t : Nat) : Bool :=
  if t ≤ 4 then (m.r IST_CTRL_EN_1_4).testBit (t - 1)
  else if t == 6 || t == 7 then (m.r IST_CTRL_EN_6_7).testBit (t - 6) else true

/-- The controller runs test `t`: READY, its block not lost, the test enabled. -/
def Mach.istRuns (m : Mach) (t : Nat) : Bool :=
  m.ready && !m.recovery && m.r INTC_BLK_FAULT_STATE 32 != 3 && m.istEnabled t

/-- The targets a test has covered in this cycle. -/
def Mach.istDone (m : Mach) (t : Nat) : List Nat := Tabs.val m.ist.targets [] t

/-- A test has covered every one of its targets (R570): Kiln banks not RETIRED, the 17 banks of shared SRAM, the channels in
reserve, lanes, MRAM blocks; the other tests have one. -/
def Mach.istCovered (m : Mach) (t : Nat) : Bool :=
  let l := m.istDone t
  match t with
  | 1 => ((List.range 17).filter (fun n => m.r KILN_BANK_ROLE n != 3)).all l.contains
  | 2 => (List.range 17).all l.contains
  | 3 => !l.isEmpty &&
    ((List.range 456).filter (fun c => m.r GNSS_CH_STATUS_STATE c == 3 || m.r GNSS_CH_STATUS_STATE c == 4)).all l.contains
  | 4 => (List.range 8).all l.contains
  | 7 => Config.mramBlocks ≤ l.length
  | _ => !l.isEmpty

/-- A cycle in which every test is covered is complete and a new one begins (R572); a disabled test leaves it incomplete (R574). -/
def Mach.istCycle (m : Mach) : Mach :=
  if ([1, 2, 3, 4, 5, 6, 7, 8, 9] : List Nat).all (fun t => m.istEnabled t && (m.r IST_STATUS_COVERED).testBit (t - 1)) then
    let s := (m.now - m.ist.start) / 1000
    let m := { m with ist := { m.ist with start := m.now, targets := [] } }
    ((m.w IST_STATUS_COVERED 0).w IST_STATUS_OVERDUE 0 |>.w IST_CYCLE_S_ALL s).event 0x0D02 0 32 (le 4 s)
  else m

/-- A test has covered a target. -/
def Mach.istCover (m : Mach) (t target : Nat) : Mach :=
  let l := m.istDone t
  let m := { m with ist := { m.ist with targets := Tabs.put m.ist.targets t (if l.contains target then l else l ++ [target]) } }
  let old := m.r IST_STATUS_COVERED
  (m.w IST_STATUS_COVERED (if m.istCovered t then old ||| (1 <<< (t - 1)) else old)).istCycle

/-- A pass of a test. -/
def Mach.istPass (m : Mach) (t target : Nat) : Mach := (m.inc IST_PASS_ALL t).istCover t target

/-- A failure of a test: counted, TEST_FAIL posted. -/
def Mach.istFail (m : Mach) (t target detail : Nat) : Mach :=
  let m := (m.inc IST_FAIL_COUNT t).w IST_FAIL_LAST_TARGET target t
  (m.event 0x0D01 3 32 (le 1 t ++ le 2 target ++ le 4 detail)).istCover t target

/-- The pace of a test allows another piece on a target: `ms` since the last one. -/
def Mach.istDue (m : Mach) (t target ms : Nat) : Bool :=
  match Tabs.look m.ist.lastAt (t + 16 * target) with
  | some s => s + ms ≤ m.now
  | none => true

/-- A piece of a test is made now. -/
def Mach.istMark (m : Mach) (t target : Nat) : Mach :=
  { m with ist := { m.ist with lastAt := Tabs.put m.ist.lastAt (t + 16 * target) m.now } }

end Sys2Proof.Machine
end

