-- ==== Sys2Proof/Machine/Store.lean ====
section
/-! DEFINITION. Lookups in the site map and in Kiln's store (R90 to R96, R120 to R128), and block enables (R41, R42). -/

namespace Sys2Proof.Machine

open Sys2Proof

/-- A resource identifier as node or segment index (R91); `none` where it names no resource. -/
def resNode (res : Nat) : Option Nat := if res / 2 ^ 30 = 0 ∧ res % 2 ^ 30 / 2 ^ 17 = 0 then some (res % 2 ^ 17) else none
def resSeg (res : Nat) : Option Nat := if res / 2 ^ 30 = 1 ∧ res % 2 ^ 30 / 2 ^ 17 = 0 then some (res % 2 ^ 17) else none
def segId (i : Nat) : Nat := 2 ^ 30 + i

/-- The node or segment record a resource identifier names. -/
def SiteMap.node (mp : SiteMap) (res : Nat) : Option NodeRec := (resNode res).bind (fun i => mp.nodes[i]?)
def SiteMap.seg (mp : SiteMap) (res : Nat) : Option SegRec := (resSeg res).bind (fun i => mp.segs[i]?)

/-- The identifier names a resource of the map. -/
def SiteMap.has (mp : SiteMap) (res : Nat) : Bool := (mp.node res).isSome || (mp.seg res).isSome

/-- A holding node or a dock node (R90). -/
def SiteMap.holding (mp : SiteMap) (res : Nat) : Bool :=
  match mp.node res with
  | some n => n.kind == 1 || n.kind == 2
  | none => false

/-- The groups and the zone of a resource. -/
def SiteMap.groupsOf (mp : SiteMap) (res : Nat) : List Nat :=
  match mp.node res, mp.seg res with
  | some n, _ => n.groups
  | none, some g => g.groups
  | none, none => []
def SiteMap.zoneOf (mp : SiteMap) (res : Nat) : Nat :=
  match mp.node res, mp.seg res with
  | some n, _ => n.zone
  | none, some g => g.zone
  | none, none => 0

/-- The binding of an axis (kind 1) or a dock (kind 2) (R96). -/
def SiteMap.bindOf (mp : SiteMap) (kind unit : Nat) : Option BindRec :=
  mp.binds.find? (fun b => b.kind == kind && b.unit == unit)

/-- A reference for an index and a generation (R120). -/
def mkRef (idx gen : Nat) : Nat := idx % 512 + 512 + 4096 * (gen % 16)
def refIdx (ref : Nat) : Nat := ref % 512
def refGen (ref : Nat) : Nat := ref / 4096 % 16
/-- Bit 9 is 1 and bits 11 to 10 are 0. -/
def refOk (ref : Nat) : Bool := ref / 512 % 8 == 1

def KilnStore.agent (k : KilnStore) (i : Nat) : Agent := Tabs.val k.agents {} i
def KilnStore.queue (k : KilnStore) (g : Nat) : List Nat := Tabs.val k.queues [] g
def KilnStore.ref (k : KilnStore) (i : Nat) : Nat := mkRef i (k.agent i).gen

/-- An agent heads a resource: first in the queue of each of its groups (R126). -/
def KilnStore.heads (k : KilnStore) (mp : SiteMap) (i res : Nat) : Bool :=
  (mp.groupsOf res).all (fun g => (k.queue g).head? == some i)

/-- The index of the admitted agent of a fixture number (R123). -/
def KilnStore.fixture (k : KilnStore) (n : Nat) : Option Nat :=
  (k.agents.find? (fun e => e.2.state == 6 && e.2.fixture == n)).map (fun e => e.1)

def Mach.agent (m : Mach) (i : Nat) : Agent := m.kiln.store.agent i
def Mach.setAgent (m : Mach) (i : Nat) (a : Agent) : Mach :=
  { m with kiln := { m.kiln with store := { m.kiln.store with agents := Tabs.put m.kiln.store.agents i a } } }
def Mach.refOf (m : Mach) (i : Nat) : Nat := m.kiln.store.ref i

/-- The site latch, the zone latches and the agent latches (R187). -/
def Mach.siteLatched (m : Mach) : Bool := m.b DAMP_STATUS_SITE_LATCHED
def Mach.zoneLatches (m : Mach) : Nat := m.r DAMP_ZONE_LO_ALL + 2 ^ 32 * m.r DAMP_ZONE_HI_ALL
def Mach.agentLatched (m : Mach) (i : Nat) : Bool := m.dam.agents.getLsbD i

/-- The enable and draining bits of a block (R42). -/
def blkEnable : Blk → Field
  | .kiln => KILN_CTRL_ENABLE
  | .damper => DAMP_CTRL_ENABLE
  | .air => AIR_CTRL_ENABLE
  | .gnss => GNSS_CTRL_ENABLE
  | .corr => CORR_CTRL_ENABLE
  | .time => TIME_CTRL_ENABLE
  | .metering => MET_CTRL_ENABLE
  | .motion => MOT_CTRL_ENABLE
  | .saggar => SAG_CTRL_ENABLE
def blkDraining : Blk → Field
  | .kiln => KILN_STATUS_DRAINING
  | .damper => DAMP_STATUS_DRAINING
  | .air => AIR_STATUS_DRAINING
  | .gnss => GNSS_STATUS_DRAINING
  | .corr => CORR_STATUS_DRAINING
  | .time => TIME_STATUS_DRAINING
  | .metering => MET_STATUS_DRAINING
  | .motion => MOT_STATUS_DRAINING
  | .saggar => SAG_STATUS_DRAINING

/-- A block takes descriptors: enabled and not draining (R41, R42). -/
def Mach.takes (m : Mach) (b : Blk) : Bool := m.b (blkEnable b) && !m.b (blkDraining b)

end Sys2Proof.Machine
end

