-- ==== Sys2Proof/Machine/Coil.lean ====
section
/-! DEFINITION. The coil outputs of an axis (R500 to R505): the setpoint at its position, the chopper of each coil, and the pins. -/

namespace Sys2Proof.Machine

open Sys2Proof

def Mach.axis (m : Mach) (a : Nat) : Axis := Tabs.val m.mot {} a

def Mach.pos (m : Mach) (a : Nat) : Int := m.ri MOT_AX_POS_ALL a
def Mach.vel (m : Mach) (a : Nat) : Int := m.ri MOT_AX_VEL_ALL a

def Mach.axState (m : Mach) (a : Nat) : Nat := m.r MOT_AX_STATUS_STATE a

/-- The current in force: HOME_I in hard-stop homing, IHOLD from 100 ms after coming to rest, IRUN otherwise. -/
def Mach.coilCurrent (m : Mach) (a : Nat) : Nat :=
  if (m.axis a).home.any (fun h => h.kind == 2) then m.r MOT_AX_HCFG_HOME_I a
  else if (m.axis a).hold || m.axState a == 7 then m.r MOT_AX_CUR_IHOLD a
  else m.r MOT_AX_CUR_IRUN a

/-- Entry r of an axis's sine table. -/
def Mach.sineAt (m : Mach) (a r : Nat) : Nat := bits (m.r MOT_TBL_ENTRIES a (r / 4)) (8 * (r % 4)) 8

/-- Magnitudes of the coils A and B at a position, and whether each is negative (R502, R503). -/
def Mach.coils (m : Mach) (a : Nat) (pos : Int) : (Nat × Bool) × (Nat × Bool) :=
  let e := (pos % 1024).toNat
  let q := e / 256
  let up := m.sineAt a (e % 256)
  let down := m.sineAt a (255 - e % 256)
  if q % 2 = 0 then ((down, q == 2), (up, q == 2)) else ((up, q == 1), (down, q == 3))

/-- The DAC code for a magnitude (R503, R505). -/
def Mach.dacCode (m : Mach) (a mag : Nat) : Nat := min ((mag * m.coilCurrent a + 127) / 255) (m.r MOT_AX_CUR_IMAX a)

/-- The DAC codes of the coils A and B with their signs at a position. -/
def Mach.setpoints (m : Mach) (a : Nat) (pos : Int) : (Nat × Bool) × (Nat × Bool) :=
  let c := m.coils a pos
  ((m.dacCode a c.1.1, c.1.2), (m.dacCode a c.2.1, c.2.2))

/-- The DAC codes with their signs at the axis's position; none while the bridges are off. -/
def Mach.coilCodes (m : Mach) (a : Nat) : Option ((Nat × Bool) × (Nat × Bool)) :=
  if m.b MOT_AX_STATUS_BRIDGE a then some (m.setpoints a (m.pos a)) else none

/-! ### The choppers (R504) -/

/-- TOFF, TBLANK and the fast decay in units of 10 ns. -/
def Mach.chopOff (m : Mach) (a : Nat) : Nat := 200 + 50 * m.r MOT_AX_CHOP_TOFF a
def Mach.chopBlank (m : Mach) (a : Nat) : Nat := 50 * (m.r MOT_AX_CHOP_TBLANK a + 1)
def Mach.chopFast (m : Mach) (a : Nat) : Nat := m.chopOff a * m.r MOT_AX_CHOP_FAST a / 16

/-- A chopper cycle begins, in drive, with a setpoint. -/
def chopBegin (sp : Nat × Bool) : Chop := { code := sp.1, neg := sp.2 }

/-- A chopper's cycles over `t` units of time, `us` the times in drive at which the sensed current reaches the setpoint; a drive
lasts for TBLANK at least, then the off-time follows, and the next cycle takes the setpoint of its start, `sp` of the time left.
After the last entry the current stays below the setpoint. -/
def chopRun (blank toff : Nat) (sp : Nat → Nat × Bool) : List Nat → Chop → Nat → Chop
  | [], c, t =>
    match c.off with
    | none => { c with on := c.on + t }
    | some r => if t < r then { c with off := some (r - t) } else { chopBegin (sp (t - r)) with on := t - r }
  | u :: us, c, t =>
    match c.off with
    | none =>
      let len := max blank u - c.on
      if t < len then { c with on := c.on + t }
      else if t - len < toff then { c with off := some (toff - (t - len)) }
      else chopRun blank toff sp us (chopBegin (sp (t - len - toff))) (t - len - toff)
    | some r =>
      if t < r then { c with off := some (r - t) }
      else
        let t := t - r
        let c := chopBegin (sp t)
        let len := max blank u
        if t < len then { c with on := t }
        else if t - len < toff then { c with off := some (toff - (t - len)) }
        else chopRun blank toff sp us (chopBegin (sp (t - len - toff))) (t - len - toff)

def Mach.chops (m : Mach) (a : Nat) : Chop × Chop := Tabs.val m.chop ({}, {}) a

/-- Both choppers of an axis start, as its bridges are energised. -/
def Mach.chopStart (m : Mach) (a : Nat) : Mach :=
  let s := m.setpoints a (m.pos a)
  { m with chop := Tabs.put m.chop a (chopBegin s.1, chopBegin s.2) }

/-- Bridges on (R501). -/
def Mach.bridgesOn (m : Mach) (a : Nat) : Mach :=
  if m.b MOT_AX_STATUS_BRIDGE a then m else (m.w MOT_AX_STATUS_BRIDGE 1 a).chopStart a

/-- The position in a segment, `t` units of 10 ns before its end: the steps lie evenly between its two rates (R510). -/
def segPos (p p' v v' frac : Int) (t : Nat) : Int :=
  let g : Int := 100000 - ((min t 100000 : Nat) : Int)
  let n := Int.tdiv (frac * 10000000000 + 2 * v * g * 100000 + (v' - v) * g * g) 20000000000000
  if p ≤ p' then min (p + n) p' else max (p + n) p'

/-- The choppers of an axis over the tick whose segment led from `o`; those of bridges that are off stand. -/
def Mach.chopAxis (m o : Mach) (l : List (List Nat × List Nat)) (a : Nat) : Mach :=
  m.when (m.b MOT_AX_STATUS_BRIDGE a) (fun m =>
    let i := l.getD a ([], [])
    let c := m.chops a
    let at_ := fun t => m.setpoints a (segPos (o.pos a) (m.pos a) (o.vel a) (m.vel a) (o.axis a).frac t)
    let run := chopRun (m.chopBlank a) (m.chopOff a)
    { m with chop := Tabs.put m.chop a (run (fun t => (at_ t).1) i.1 c.1 100000, run (fun t => (at_ t).2) i.2 c.2 100000) })

/-- The choppers over a tick. -/
def Mach.chopTick (m o : Mach) (l : List (List Nat × List Nat)) : Mach :=
  m.when m.isActive (fun m => m.each (List.range 8) (fun m a => m.chopAxis o l a))

/-! ### The pins (R500, R501) -/

/-- PWM and PH of a coil; PH of a current that is not negative is high (log entry 60). -/
def chopPins (toff fast : Nat) (c : Chop) : Bool × Bool :=
  match c.off with
  | none => (true, !c.neg)
  | some r => if toff < r + fast then (true, c.neg) else (false, !c.neg)

/-- AXa_EN, and PWM and PH of the coils A and B; none, high-impedance, while the unit does not hold grant (R501, R438). -/
def Mach.axisPins (m : Mach) (a : Nat) : Option (Bool × (Bool × Bool) × (Bool × Bool)) :=
  if !(m.b REDUN_STATUS_GRANTED && m.isActive) then none
  else if !m.b MOT_AX_STATUS_BRIDGE a then some (false, (false, false), (false, false))
  else
    let pins := chopPins (m.chopOff a) (m.chopFast a)
    some (true, pins (m.chops a).1, pins (m.chops a).2)

end Sys2Proof.Machine
end

