-- ==== Sys2Proof/Machine/Motion.lean ====
section
/-! DEFINITION. Fixture motion (16): axes, moves, homing, stops. The rounding of a rate to whole microsteps/s, and when a
jerk-limited profile changes its acceleration, are left open by the spec (R507 to R510) and are free (log entry 7). -/

namespace Sys2Proof.Machine

open Sys2Proof

/-- Queue entries, the move in progress among them (R507). -/
def Axis.count (x : Axis) : Nat := x.queue.length + (if x.run.isSome then 1 else 0)

/-- The remaining distance of a kept remainder. -/
def Mach.remDist (m : Mach) (a : Nat) (x : Axis) : Int :=
  match x.remain with
  | some (_, e) => e - m.pos a
  | none => 0

/-- The part with an axis changed; QUEUE and MOT_AX_REMAIN follow. -/
def Mach.setAxis (m : Mach) (a : Nat) (x : Axis) : Mach :=
  let m := { m with mot := Tabs.put m.mot a x }
  (m.w MOT_AX_STATUS_QUEUE x.count a).wi MOT_AX_REMAIN_ALL (m.remDist a x) a

/-- The rate of an axis, and its bit of MOVING. -/
def Mach.setVel (m : Mach) (a : Nat) (v : Int) : Mach :=
  let old := m.r MOT_STATUS_MOVING
  let cleared := old - (bits old a 1 <<< a)
  (m.wi MOT_AX_VEL_ALL v a).w MOT_STATUS_MOVING (cleared + (if v = 0 then 0 else 1 <<< a))

def Mach.setAxState (m : Mach) (a st : Nat) : Mach := m.w MOT_AX_STATUS_STATE st a

/-- RESULT of every Motion completion (R521): position, remainder, PT, and byte 28; of an AXIS above 7 no position (log entry 13). -/
def Mach.motRes (m : Mach) (a : Nat) (b28 : Nat := 0) : List Byte :=
  let w := fun f => if a < 8 then m.word f a else 0
  le 4 (w MOT_AX_POS_ALL) ++ le 4 (w MOT_AX_REMAIN_ALL) ++ le 4 m.pt ++ le 1 b28

/-- A Motion descriptor completes. -/
def Mach.motDone (m : Mach) (a : Nat) (d : Desc) (st : Nat) (b28 : Nat := 0) : Mach :=
  m.complete d st (m.motRes a b28)

/-- Queued moves complete with FLUSHED. -/
def Mach.flushAxis (m : Mach) (a : Nat) : Mach :=
  let x := m.axis a
  let m := m.setAxis a { x with queue := [] }
  m.each x.queue (fun m mv => m.motDone a mv.d stFLUSHED)

/-- Bridges off (R501, R518): an axis whose step rate is not 0 becomes uncertain and loses HOMED. -/
def Mach.bridgesOff (m : Mach) (a : Nat) : Mach :=
  let m := if m.vel a = 0 then m else (m.w MOT_AX_STATUS_UNCERTAIN 1 a).w MOT_AX_STATUS_HOMED 0 a
  (m.setVel a 0).w MOT_AX_STATUS_BRIDGE 0 a

/-- What was moving completes with a status: the move keeps its remainder, a homing run ends with HOMED 0 (R516, R517);
then the HALTs that wait for rest. -/
def Mach.endMotion (m : Mach) (a st hfail : Nat) : Mach :=
  let x := m.axis a
  let rem := if x.run.isSome then x.run else x.remain
  let m := m.setAxis a { x with run := none, remain := rem, home := none, stop := none, halts := [],
                                restAt := some m.now, hold := false, change := 0 }
  let m := match x.run with
    | some (mv, _) => m.motDone a mv.d st
    | none => m
  let m := match x.home with
    | some h => m.motDone a h.d (if hfail = 0 then st else 0x15) hfail
    | none => m
  m.each x.halts (fun m d => m.motDone a d stOK)

/-- The AXIS_STOP event (R517). -/
def Mach.axisStopEvent (m : Mach) (a st : Nat) : Mach :=
  m.event 0x0701 1 21 (le 1 a ++ le 1 st ++ le 4 (m.word MOT_AX_POS_ALL a) ++ le 4 (m.word MOT_AX_REMAIN_ALL a))

/-- The axis moves or homes: a stop has something to end. -/
def Mach.inMotion (m : Mach) (a : Nat) : Bool := (m.axis a).run.isSome || (m.axis a).home.isSome || m.vel a != 0

/-- A stop ends: bridges off where it says so, completions, the state it leaves (R517, R519). -/
def Mach.finishStop (m : Mach) (a : Nat) (k : AxisStop) : Mach :=
  let m := if k.off then m.bridgesOff a else m.setVel a 0
  let m := m.endMotion a k.status k.hfail
  let m := m.axisStopEvent a k.status
  let m := if k.dis then (m.flushAxis a).w MOT_AX_CTRL_EN 0 a else m
  m.setAxState a (if k.dis then 0 else if k.off then 5 else if k.pause then 6 else 1)

/-- STOP_DEC in microsteps/s². -/
def Mach.stopDec (m : Mach) (a : Nat) : Nat := 1000 * m.r MOT_AX_STOP_STOP_DEC a

/-- A further cause during a stop: the first keeps the status; bridges that are to go off do so, by the new cause's deceleration
where the first left them on (log entry 13). -/
def AxisStop.meet (o n : AxisStop) : AxisStop :=
  if o.off then { o with dis := o.dis || n.dis }
  else if n.off then { n with status := o.status, hfail := o.hfail }
  else o

/-- The stop that a cause makes, one in progress minded. -/
def Mach.stopWith (m : Mach) (a : Nat) (k : AxisStop) : AxisStop :=
  match (m.axis a).stop with
  | some o => o.meet k
  | none => k

/-- A category 0 stop (R518). -/
def Mach.stopNow (m : Mach) (a st : Nat) : Mach :=
  m.finishStop a (m.stopWith a ⟨st, true, false, false, m.now, 0, 0⟩)

/-- A decelerating stop begins: the axis is STOPPING until AXIS_AT_REST; an axis at rest is at its end at once. -/
def Mach.stopSlow (m : Mach) (a : Nat) (k : AxisStop) : Mach :=
  if m.inMotion a then (m.setAxis a { m.axis a with stop := some (m.stopWith a k) }).setAxState a 4
  else if k.off then
    let m := (m.bridgesOff a)
    let m := if k.dis then (m.flushAxis a).w MOT_AX_CTRL_EN 0 a else m
    if m.b MOT_AX_CTRL_EN a || k.dis then m.setAxState a (if k.dis then 0 else 5) else m
  else m

/-- A stop of the axis's STOP_CAT (R517, R518). -/
def Mach.stopCat (m : Mach) (a st : Nat) : Mach :=
  if m.b MOT_AX_CFG_STOP_CAT a then m.stopSlow a ⟨st, true, false, false, m.now + m.r MOT_AX_STOP_STOP_MS a, 0, m.stopDec a⟩
  else if m.inMotion a then m.stopNow a st
  else m.stopSlow a ⟨st, true, false, false, m.now, 0, 0⟩

/-- The quick-stop line of an axis as the latches drive it (R193): site, zone of the bound resource, agent of the bound
fixture. -/
def Mach.qstopLine (m : Mach) (a : Nat) : Bool :=
  m.siteLatched ||
  (match m.kiln.map.bind (fun mp => (mp.bindOf 1 a).map (fun b => (mp.zoneOf b.res, b.fixture))) with
   | some (z, f) => (m.zoneLatches).testBit z ||
      (match m.kiln.store.fixture f with
       | some i => m.agentLatched i
       | none => false)
   | none => false)

/-- The quick-stop lines follow the latches; an axis that the unit drives stops with its STOP_CAT as its line asserts, or where it
finds the line asserted while its bridges are on (R193, R517). -/
def Mach.quickStop (m : Mach) : Mach :=
  let old := m.r MOT_STATUS_QSTOP
  let lines := (List.range 8).filter m.qstopLine
  let m := m.w MOT_STATUS_QSTOP ((lines.map (fun a => 1 <<< a)).sum)
  let meets := fun a => m.b MOT_AX_CTRL_EN a &&
    (!old.testBit a || (m.b MOT_AX_STATUS_BRIDGE a && (m.axis a).stop.isNone))
  m.when m.isActive (fun m => m.each (lines.filter meets) (fun m a => m.stopCat a stSTOPPED))

/-- Every axis: category 0 with AXIS_FAULT (R23, R517). -/
def Mach.motionFault (m : Mach) : Mach :=
  m.when m.isActive (fun m => m.each (List.range 8) (fun m a => if m.b MOT_AX_CTRL_EN a then m.stopNow a 0x18 else m))

/-- Grant lost (R413, R517): outputs released at once, moves and homing runs complete with NOT_ACTIVE_ROLE; an axis that was
stopping because its EN was written 0 is off. -/
def Mach.motionRelease (m : Mach) : Mach :=
  m.each (List.range 8) (fun m a =>
    if m.b MOT_AX_STATUS_BRIDGE a || m.inMotion a then
      let m := m.when ((m.axis a).stop.any (fun k => k.dis)) (fun m => m.w MOT_AX_CTRL_EN 0 a)
      ((m.bridgesOff a).endMotion a stNOT_ACTIVE_ROLE 0).setAxState a (if m.b MOT_AX_CTRL_EN a then 5 else 0)
    else m)

/-- The axis is bound by the committed map (R96). -/
def Mach.axisBound (m : Mach) (a : Nat) : Bool := (m.kiln.map.bind (fun mp => mp.bindOf 1 a)).isSome

/-- R513, check 2. -/
def Mach.ilkBlocks (m : Mach) (a : Nat) : Bool :=
  (m.axisBound a || m.b MOT_AX_CFG_ILK_REQ a) && !(m.r KILN_FIX_ILK_AXIS).testBit a

/-- The limit in a direction is active: LIMP (bit 1) for positive, LIMN (bit 2) for negative. -/
def Mach.limitActive (m : Mach) (a : Nat) (neg : Bool) : Bool :=
  (m.r MOT_AX_STATUS_SW a).testBit (if neg then 2 else 1)

/-- The checks of R513 on a move towards `e`, in their order. -/
def Mach.moveCheck (m : Mach) (a : Nat) (absolute : Bool) (e : Int) : Option Nat :=
  let homed := m.b MOT_AX_STATUS_HOMED a
  firstOf [((m.r MOT_STATUS_QSTOP).testBit a, stSTOPPED),
    (m.ilkBlocks a, 0x10),
    (m.b MOT_AX_STATUS_CHATTER a, 0x14),
    (!homed && (absolute || !m.b MOT_AX_CFG_UNHOMED_OK a), 0x12),
    (homed && (e < m.ri MOT_AX_TRAVEL_MIN_ALL a || m.ri MOT_AX_TRAVEL_MAX_ALL a < e), 0x13),
    (e != m.pos a && m.limitActive a (e < m.pos a), 0x11)]

/-- The axis takes up a move towards `e`: bridges on, MOVING. -/
def Mach.startRun (m : Mach) (a : Nat) (mv : Move) (e : Int) : Mach :=
  let x := m.axis a
  ((m.setAxis a { x with run := some (mv, e), restAt := none, hold := false, brake := false }).bridgesOn a).setAxState a 2

/-- Where a move starting now ends (R507). -/
def Mach.moveEnd (m : Mach) (a : Nat) (mv : Move) : Int := if mv.rel then m.pos a + mv.target else mv.target

/-- A move at the head is checked and taken on, or completed with every entry behind it FLUSHED (R513). -/
def Mach.checked (m : Mach) (a : Nat) (mv : Move) (go : Mach → Mach) : Mach :=
  match m.moveCheck a (!mv.rel) (m.moveEnd a mv) with
  | some st => ((m.motDone a mv.d st).flushAxis a).when (m.axState a == 7) (fun m => m.setAxState a 1)
  | none => go m

/-- A move at the head is checked and started. -/
def Mach.tryMove (m : Mach) (a : Nat) (mv : Move) : Mach := m.checked a mv (fun m => m.startRun a mv (m.moveEnd a mv))

/-- The checks every Motion opcode shares (R43, R521). -/
def Mach.motShared (m : Mach) (d : Desc) (bad : Bool) : Option Nat :=
  let a := Descs.fld d 16 1
  firstOf [(a > 7 || bad, stRANGE),
    (!m.takes .motion || !m.b MOT_AX_CTRL_EN a || (m.axis a).stop.any (fun k => k.dis), stNOT_ENABLED),
    (!m.isActive, stNOT_ACTIVE_ROLE)]

/-- The move a MOVE descriptor spells (R521). -/
def moveOf (d : Desc) : Move :=
  let f := Descs.fld d 17 1
  { d := d, rel := f.testBit 0, jerk := f.testBit 1, blend := f.testBit 2, sched := f.testBit 3,
    target := sgn 32 (Descs.fld d 20 4), vel := Descs.fld d 24 4, acc := Descs.fld d 28 4, dec := Descs.fld d 32 4,
    jrk := Descs.fld d 36 4, startPt := Descs.fld d 40 4, late := false }

/-- MOVE (R507, R521). -/
def move (d : Desc) (m : Mach) : Mach :=
  m.desc 0x0700 d (res := fun e => m.motRes (Descs.fld e 16 1)) (fun d m =>
    let a := Descs.fld d 16 1
    let mv := moveOf d
    let bad := mv.vel == 0 || mv.vel > m.r MOT_AX_VMAX_VMAX a || mv.acc == 0 || mv.dec == 0 || (mv.jerk && mv.jrk == 0)
    match m.motShared d bad with
    | some st => m.motDone a d st
    | none =>
      let x := m.axis a
      if x.count ≥ 16 then m.motDone a d stQUEUE_FULL
      else m.setAxis a { x with queue := x.queue ++ [mv] })

def execMove (d : Desc) (s : State) : Res := s.on (move d)

/-- MOVE_START (R509, R513): the head of an idle axis's queue is checked and started; a scheduled one that passes its checks waits
for its START_PT at rest with the bridges on, at IHOLD, or was late or expired as it reached the head (R44), a rank behind those
checks (R43, R522). DESIGN CHOICE: one that has waited is checked again at its START_PT (log entry 14). -/
def moveStart (a : Nat) (m : Mach) : Mach :=
  let x := m.axis a
  if x.run.isSome || x.remain.isSome || x.home.isSome || x.stop.isSome || !m.takes .motion || !m.b MOT_AX_CTRL_EN a ||
      !m.isActive then m
  else match x.queue with
    | [] => m
    | mv :: rest =>
      let pop := fun (m : Mach) => m.setAxis a { m.axis a with queue := rest }
      if mv.sched && m.axState a != 7 then
        let late := diff32 m.pt mv.startPt
        if (m.moveCheck a (!mv.rel) (m.moveEnd a mv)).isSome then (pop m).tryMove a mv
        else if late < 0 then ((m.setAxis a { x with hold := true }).bridgesOn a).setAxState a 7
        else match dueOf late (m.r MOT_AX_CFG_LATE_WIN a) with
          | .onTime => (pop m).tryMove a mv
          | .late => (pop m).tryMove a { mv with late := true }
          | .expired => ((pop m).motDone a mv.d stEXPIRED).setAxState a 1
      else if mv.sched && decide (diff32 m.pt mv.startPt < 0) then m
      else (pop m).tryMove a mv

def execMoveStart (a : Fin 8) (s : State) : Res := s.on (moveStart a)

/-- The square root, rounded down, of a number below 2^96. -/
def isqrt (n : Nat) : Nat := (List.range 48).foldr (fun b r => if (r + 2 ^ b) * (r + 2 ^ b) ≤ n then r + 2 ^ b else r) 0

/-- The joint a blended move passes without rest, with the next move, its end and the rate there (R508): the next entry was queued
before the deceleration began, is not scheduled, runs in the same direction and passes its checks. -/
def Mach.joint (m : Mach) (a : Nat) (mv : Move) (e : Int) : Option (Move × Int × Nat) :=
  let x := m.axis a
  match x.queue with
  | nx :: _ =>
    let e2 := if nx.rel then e + nx.target else nx.target
    let neg := if m.pos a == e then decide (m.vel a < 0) else decide (e < m.pos a)
    if mv.blend && !x.brake && !nx.sched && e2 != e && decide (e2 < e) == neg && (m.moveCheck a (!nx.rel) e2).isNone then
      some (nx, e2, min (min mv.vel nx.vel) (isqrt (2 * nx.dec * (e2 - e).natAbs)))
    else none
  | [] => none

/-- The rate can fall to `v` within the tick at the deceleration in force. -/
def Mach.canReach (m : Mach) (a dec v : Nat) : Bool := decide (1000 * (m.vel a).natAbs ≤ dec + 1000 * v + 1000)

/-- The axis can be at rest within the tick. -/
def Mach.canRest (m : Mach) (a dec : Nat) : Bool := m.canReach a dec 0

/-- MOVE_COMPLETE (R508): at the end of the move in progress, at rest; a blended joint hands over to the next move in the same
direction without rest, at the joint's rate. -/
def moveComplete (a : Nat) (m : Mach) : Mach :=
  let x := m.axis a
  match x.run with
  | none => m
  | some (mv, e) =>
    if m.pos a != e || x.stop.isSome || !m.isActive then m
    else
      let done := fun (m : Mach) => m.motDone a mv.d (if mv.late then stLATE else stOK)
      match m.joint a mv e with
      | some (nx, _, v) =>
        if m.canReach a mv.dec v then
          let w := min (m.vel a).natAbs v
          let m := m.setVel a (if m.vel a < 0 then -((w : Nat) : Int) else ((w : Nat) : Int))
          (done (m.setAxis a { x with run := none, queue := x.queue.drop 1 })).tryMove a nx
        else m
      | none =>
        if m.canRest a mv.dec then
          (done ((m.setVel a 0).setAxis a { x with run := none, restAt := some m.now, hold := false, change := 0 })).setAxState a 1
        else m

def execMoveComplete (a : Fin 8) (s : State) : Res := s.on (moveComplete a)

/-- A homing run fails (R516): HOME_FAIL and its reason, a stop at STOP_DEC with the bridges left on. A run that stops already has
its cause. -/
def Mach.homeFail (m : Mach) (a reason : Nat) : Mach :=
  if (m.axis a).stop.isSome then m else
  let m := ((m.w MOT_AX_STATUS_HOME_FAIL 1 a).w MOT_AX_STATUS_HFAIL_REASON reason a).w MOT_AX_STATUS_HOMED 0 a
  let m := m.event 0x0703 1 21 (le 1 a ++ le 1 reason ++ le 4 (m.word MOT_AX_POS_ALL a))
  m.stopSlow a ⟨0x15, false, false, false, m.now + m.r MOT_AX_STOP_STOP_MS a, reason, m.stopDec a⟩

/-- The phase of a homing run changes. -/
def Mach.setPhase (m : Mach) (a : Nat) (h : HomeRun) (p : HomePhase) : Mach :=
  m.setAxis a { m.axis a with home := some { h with phase := p } }

/-- HOME (R515, R519, R521). -/
def home (d : Desc) (m : Mach) : Mach :=
  m.desc 0x0701 d (res := fun e => m.motRes (Descs.fld e 16 1)) (fun d m =>
    let a := Descs.fld d 16 1
    let kind := Descs.fld d 17 1
    let dir := Descs.fld d 18 1
    let x := m.axis a
    match m.motShared d (kind > 2 || dir > 1) with
    | some st => m.motDone a d st
    | none =>
      match firstOf [((m.r MOT_STATUS_QSTOP).testBit a, stSTOPPED), (m.ilkBlocks a, 0x10),
          (m.b MOT_AX_STATUS_CHATTER a, 0x14),
          (x.remain.isSome || x.count > 0 || x.home.isSome || x.stop.isSome, stBUSY)] with
      | some st => m.motDone a d st
      | none =>
        let neg := dir == 1
        let h : HomeRun := ⟨d, kind, neg, .search, m.pos a, false⟩
        let m := m.w MOT_AX_STATUS_HOMED 0 a
        let m := ((m.setAxis a { x with home := some h, restAt := none, hold := false }).bridgesOn a).setAxState a 3
        let inPlace := if kind == 0 then (m.r MOT_AX_STATUS_SW a).testBit 0 else m.limitActive a neg
        if inPlace then (if kind == 2 then m.homeFail a 3 else m.setPhase a h .latch)
        else if kind == 0 && m.limitActive a neg then m.setPhase a { h with turned := true } (.back false)
        else m)

def execHome (d : Desc) (s : State) : Res := s.on (home d)

/-- HALT (R517): the move's DEC (STOP_DEC for a homing run, log entry 13), bridges on, PAUSED at rest; an axis at rest completes it at
once. -/
def halt (d : Desc) (m : Mach) : Mach :=
  m.desc 0x0702 d (res := fun e => m.motRes (Descs.fld e 16 1)) (fun d m =>
    let a := Descs.fld d 16 1
    match m.motShared d false with
    | some st => m.motDone a d st
    | none =>
      let x := m.axis a
      if m.inMotion a then
        let m := m.setAxis a { x with halts := x.halts ++ [d] }
        if x.stop.isSome then m
        else
          let dec := match x.run with
            | some (mv, _) => mv.dec
            | none => m.stopDec a
          m.stopSlow a ⟨stSTOPPED, false, true, false, m.now + m.r MOT_AX_STOP_STOP_MS a, 0, dec⟩
      else m.motDone a d stOK)

def execHalt (d : Desc) (s : State) : Res := s.on (halt d)

/-- RESUME (R519, R522). The move it makes is an entry of the 16 (R507): DEDUCED, a full queue gives QUEUE_FULL (log entry 14). -/
def resume (d : Desc) (m : Mach) : Mach :=
  m.desc 0x0703 d (res := fun e => m.motRes (Descs.fld e 16 1)) (fun d m =>
    let a := Descs.fld d 16 1
    match m.motShared d false with
    | some st => m.motDone a d st
    | none =>
      let x := m.axis a
      if m.b MOT_AX_STATUS_UNCERTAIN a then m.motDone a d 0x16
      else match x.remain with
      | none => m.motDone a d 0x17
      | some (mv, e) =>
        match firstOf ((m.moveCheck a (!mv.rel) e).toList.map (fun st => (true, st)) ++ [(decide (x.count ≥ 16), stQUEUE_FULL)]) with
        | some st => m.motDone a d st
        | none => (m.setAxis a { x with remain := none }).startRun a { mv with d := d, late := false } e)

def execResume (d : Desc) (s : State) : Res := s.on (resume d)

/-- FLUSH (R519, R521). -/
def flush (d : Desc) (m : Mach) : Mach :=
  m.desc 0x0704 d (res := fun e => m.motRes (Descs.fld e 16 1)) (fun d m =>
    let a := Descs.fld d 16 1
    match m.motShared d false with
    | some st => m.motDone a d st
    | none =>
      let x := m.axis a
      let n := x.queue.length
      let m := (m.setAxis a { x with remain := none }).flushAxis a
      let m := if m.axState a == 6 || m.axState a == 7 then m.setAxState a 1 else m
      m.motDone a d stOK n)

def execFlush (d : Desc) (s : State) : Res := s.on (flush d)

/-- OVERCURRENT (R505). -/
def overcurrent (a : Nat) (m : Mach) : Mach :=
  if m.b MOT_AX_STATUS_BRIDGE a && m.isActive then ((m.w MOT_AX_STATUS_OVERCUR 1 a).inc MOT_AX_OVERCUR_ALL a).stopNow a 0x18 else m

def execOvercurrent (a : Fin 8) (s : State) : Res := s.on (overcurrent a)

/-- HOMING_STALL (R515): the hard-stop search ends, the axis stands, and the backoff starts from there. -/
def homingStall (a : Nat) (m : Mach) : Mach :=
  match (m.axis a).home with
  | some h => 
    if h.kind == 2 && h.phase == .search && (m.axis a).stop.isNone && m.isActive then
      (m.setVel a 0).setPhase a { h with start := m.pos a } .latch
    else m
  | none => m

def execHomingStall (a : Fin 8) (s : State) : Res := s.on (homingStall a)

/-- SWITCH_RAW_TRANSITION (R511, R512): the position is kept; more than 4 transitions within 20 ms are chatter, which
stops a moving axis and fails a homing run. -/
def switchRaw (a k : Nat) (m : Mach) : Mach :=
  let x := m.axis a
  let w := Tabs.val x.sw {} k
  let times := m.now :: w.times.filter (fun t => m.now < t + 20)
  let chatter := times.length > 4
  let w := { w with raw := !w.raw, edge := m.pos a, last := some m.now, times := if chatter then [] else times }
  let m := m.setAxis a { x with sw := Tabs.put x.sw k w }
  if chatter then
    let m := ((m.w MOT_AX_STATUS_CHATTER 1 a).inc MOT_AX_CHATTER_ALL a).event 0x0702 2 21 (le 1 a ++ le 1 k)
    if !m.isActive then m
    else if x.home.isSome then m.homeFail a 1
    else if m.inMotion a then m.stopCat a 0x14 else m
  else m

def execSwitchRawTransition (a : Fin 8) (k : Fin 3) (s : State) : Res := s.on (switchRaw a k)

/-- A debounced change during homing (R515). -/
def Mach.homeSwitch (m : Mach) (a k : Nat) (active : Bool) (edge : Int) (h : HomeRun) : Mach :=
  let inDir := if h.neg then 2 else 1
  let opposite := if h.neg then 1 else 2
  let setZero := fun (m : Mach) =>
    m.wi MOT_AX_POS_ALL (m.pos a - edge + m.ri MOT_AX_HOME_OFS_ALL a) a
  if k == opposite && active then m.homeFail a 2
  else if k == inDir && active && h.kind == 2 && h.phase == .search then m.homeFail a 3
  else match h.phase with
    | .search =>
      if h.kind == 0 && k == 0 && active then m.setPhase a h .found
      else if h.kind == 1 && k == inDir && active then m.setPhase a h .found
      else if h.kind == 0 && k == inDir && active && !h.turned then m.setPhase a { h with turned := true } (.back false)
      else m
    | .back seen =>
      if k == 0 && active then m.setPhase a h (.back true)
      else if k == 0 && seen then m.setPhase a h .backRest else m
    | .latch =>
      if !active && ((h.kind == 0 && k == 0) || (h.kind == 1 && k == inDir)) then (setZero m).setPhase a h .final else m
    | _ => m

/-- The raw level of a switch may have held for DEBOUNCE: the tick of its last transition tells the time to a tick (log entry 13). -/
def Mach.heldLong (m : Mach) (a : Nat) (w : SwitchIn) : Bool :=
  match w.last with
  | some t => decide (m.r MOT_AX_CFG_DEBOUNCE a < 10 * (m.now - t + 1))
  | none => true

/-- The limit in the direction of travel stops an axis at STOP_DEC with the bridges left on (R514). One that a HALT stops already
takes that deceleration and the status LIMIT_ACTIVE, PAUSED at its end; a stop that turns the bridges off goes on (log entry 13). -/
def Mach.limitStop (m : Mach) (a : Nat) : Mach :=
  let x := m.axis a
  let k : AxisStop := ⟨0x11, false, false, false, m.now + m.r MOT_AX_STOP_STOP_MS a, 0, m.stopDec a⟩
  match x.stop with
  | some o => if o.off then m else m.setAxis a { x with stop := some { k with pause := o.pause } }
  | none => m.stopSlow a k

/-- SWITCH_DEBOUNCE_CHANGE (R511, R514, R515). -/
def switchDebounce (a k : Nat) (m : Mach) : Mach :=
  let x := m.axis a
  let w := Tabs.val x.sw {} k
  let sw := m.r MOT_AX_STATUS_SW a
  if w.raw == sw.testBit k || !m.heldLong a w then m
  else
    let m := m.w MOT_AX_STATUS_SW (if w.raw then sw + (1 <<< k) else sw - (1 <<< k)) a
    match x.home with
    | some h => if x.stop.isSome || !m.isActive then m else m.homeSwitch a k w.raw w.edge h
    | none =>
      let travelNeg := match x.run with
        | some (_, e) => decide (e < m.pos a)
        | none => false
      if m.isActive && x.run.isSome && w.raw && k == (if travelNeg then 2 else 1) then
        (m.w MOT_AX_STATUS_LIMIT_HIT 1 a).limitStop a
      else m

def execSwitchDebounceChange (a : Fin 8) (k : Fin 3) (s : State) : Res := s.on (switchDebounce a k)

/-- The acceleration of homing in microsteps/s². -/
def Mach.homeAcc (m : Mach) (a : Nat) : Nat := 1000 * m.r MOT_AX_HCFG_HOME_ACC a

/-- A homing run ends well (R515): HOMED, UNCERTAIN cleared, HOME completes OK. -/
def Mach.homeDone (m : Mach) (a : Nat) (h : HomeRun) : Mach :=
  let x := m.axis a
  let m := (m.w MOT_AX_STATUS_HOMED 1 a).w MOT_AX_STATUS_UNCERTAIN 0 a
  let m := m.setAxis a { x with home := none, restAt := some m.now, hold := false, change := 0 }
  let m := (m.setAxState a 1).event 0x0703 1 21 (le 1 a ++ le 1 0 ++ le 4 (m.word MOT_AX_POS_ALL a))
  m.motDone a h.d stOK 0

/-- A homing run takes the phase that follows on rest; a repeated search measures HOME_MAX anew. -/
def Mach.homeRested (m : Mach) (a : Nat) (h : HomeRun) : Mach :=
  match h.phase with
  | .found => (m.setVel a 0).setPhase a h .latch
  | .backRest => (m.setVel a 0).setPhase a { h with start := m.pos a } .search
  | .final => (m.setVel a 0).homeDone a h
  | _ => m

/-- AXIS_AT_REST (R515, R518): the axis has come to rest: a stop ends, or a homing run takes its next phase. -/
def axisAtRest (a : Nat) (m : Mach) : Mach :=
  let x := m.axis a
  if !m.isActive then m
  else match x.stop with
  | some k => if m.canRest a k.dec then (m.setVel a 0).finishStop a k else m
  | none =>
    match x.home with
    | some h => if m.canRest a (m.homeAcc a) then m.homeRested a h else m
    | none => m

def execAxisAtRest (a : Fin 8) (s : State) : Res := s.on (axisAtRest a)

/-- STOP_MS_EXPIRY (R518). -/
def stopMsExpiry (a : Nat) (m : Mach) : Mach :=
  match (m.axis a).stop with
  | some k => if k.off && k.due ≤ m.now && m.isActive then m.finishStop a k else m
  | none => m

def execStopMsExpiry (a : Fin 8) (s : State) : Res := s.on (stopMsExpiry a)

/-- HOLD_CURRENT_SWITCH (R503). -/
def holdCurrentSwitch (a : Nat) (m : Mach) : Mach :=
  let x := m.axis a
  match x.restAt with
  | some t => if t + 100 ≤ m.now && m.isActive then m.setAxis a { x with hold := true } else m
  | none => m

def execHoldCurrentSwitch (a : Fin 8) (s : State) : Res := s.on (holdCurrentSwitch a)

/-- SINE_TABLE_WRITE (R503). -/
def sineTableWrite (a w v : Nat) (m : Mach) : Mach :=
  if m.b MOT_AX_CTRL_EN a then m.inc MOT_TBL_REFUSED_ALL else m.w MOT_TBL_ENTRIES v a w

def execSineTableWrite (a : Fin 8) (w : Fin 64) (v : BitVec 32) (s : State) : Res := s.on (sineTableWrite a w v.toNat)

/-- AXIS_ENABLE (R518): refused with CFG_ERR when VMAX / STOP_DEC exceeds STOP_MS or the travel limits do not rise. -/
def axisEnable (a : Nat) (m : Mach) : Mach :=
  if m.b MOT_AX_CTRL_EN a then m
  else if m.r MOT_AX_VMAX_VMAX a > m.r MOT_AX_STOP_STOP_MS a * m.r MOT_AX_STOP_STOP_DEC a ||
      m.ri MOT_AX_TRAVEL_MIN_ALL a ≥ m.ri MOT_AX_TRAVEL_MAX_ALL a then m.w MOT_AX_CTRL_CFG_ERR 1 a
  else ((m.w MOT_AX_CTRL_EN 1 a).w MOT_AX_CTRL_CFG_ERR 0 a).setAxState a 1

def execAxisEnable (a : Fin 8) (s : State) : Res := s.on (axisEnable a)

/-- AXIS_DISABLE (R517): STOP_DEC, then bridges off, queued moves FLUSHED, EN 0; a unit that does not drive the axes has nothing to
stop. -/
def axisDisable (a : Nat) (m : Mach) : Mach :=
  if !m.isActive then m.w MOT_AX_CTRL_EN 0 a
  else if m.b MOT_AX_CTRL_EN a then
    (m.flushAxis a).stopSlow a ⟨stSTOPPED, true, false, true, m.now + m.r MOT_AX_STOP_STOP_MS a, 0, m.stopDec a⟩
  else m

def execAxisDisable (a : Fin 8) (s : State) : Res := s.on (axisDisable a)

/-- MOT_CTRL.ENABLE written 0 (R41, R517): every axis stops at STOP_DEC, its queued moves FLUSHED. -/
def Mach.motionDrain (m : Mach) : Mach :=
  m.when m.isActive (fun m => m.each (List.range 8) (fun m a =>
    if m.b MOT_AX_CTRL_EN a then
      (m.flushAxis a).stopSlow a ⟨stSTOPPED, true, false, false, m.now + m.r MOT_AX_STOP_STOP_MS a, 0, m.stopDec a⟩
    else m))

/-- Nothing of Motion is under way in this unit. -/
def Mach.motionIdle (m : Mach) : Bool :=
  !m.isActive || (List.range 8).all (fun a => !m.inMotion a && (m.axis a).stop.isNone)

/-- What the planner aims at in a tick (R507, R510, R515): direction, rate limit, acceleration and deceleration in microsteps/s²,
JERK or 0, 1/2000 microsteps to a point to reach, the rate there, and whether it runs at its limit without a ramp. -/
structure AxisPlan where
  neg : Bool
  vmax : Nat
  acc : Nat
  dec : Nat
  jrk : Nat
  left : Option Nat
  vend : Nat
  flat : Bool := false
deriving DecidableEq, Repr

/-- The axis comes to rest at a deceleration, on the way it moves. -/
def Mach.braking (m : Mach) (a dec : Nat) : AxisPlan := ⟨decide (m.vel a < 0), 0, 0, dec, 0, none, 0, false⟩

/-- 1/2000 microsteps from the axis, the part of a microstep beside its position counted, to `d` microsteps from its position. -/
def Mach.ahead (m : Mach) (a : Nat) (d : Nat) : Nat :=
  2000 * d - (if m.vel a = 0 then 0 else (m.axis a).frac.natAbs)

/-- The plan of a homing phase (R515); the latch move and the backoff start at LATCH_VEL without a ramp. -/
def Mach.homePlan (m : Mach) (a : Nat) (h : HomeRun) : AxisPlan :=
  let acc := m.homeAcc a
  let search := 4 * m.r MOT_AX_HVEL_SEARCH_VEL a
  let latch := 4 * m.r MOT_AX_HVEL_LATCH_VEL a
  match h.phase with
  | .search => ⟨h.neg, search, acc, acc, 0, none, 0, false⟩
  | .back _ => ⟨!h.neg, search, acc, acc, 0, none, 0, false⟩
  | .latch =>
    let back := 256 * m.r MOT_AX_HCFG_BACKOFF a
    ⟨!h.neg, latch, acc, acc, 0, if h.kind == 2 then some (m.ahead a (back - (m.pos a - h.start).natAbs)) else none, latch, true⟩
  | _ => m.braking a acc

/-- The plan of an axis in this tick; none while nothing moves it. -/
def Mach.axisPlan (m : Mach) (a : Nat) : Option AxisPlan :=
  let x := m.axis a
  match x.stop, x.run, x.home with
  | some k, _, _ => some (m.braking a k.dec)
  | none, some (mv, e), _ =>
    let vend := match m.joint a mv e with
      | some (_, _, v) => v
      | none => 0
    some ⟨decide (e < m.pos a), mv.vel, mv.acc, mv.dec, if mv.jerk then mv.jrk else 0,
      some (m.ahead a (e - m.pos a).natAbs), vend, false⟩
  | none, none, some h => some (m.homePlan a h)
  | none, none, none => none

/-- The highest rate at the end of a tick, `w` its rate at the start, from which the point ahead is still reached at its rate at the
deceleration DEC (R508); at least 1 before a point of rest. -/
def AxisPlan.cap (p : AxisPlan) (w : Int) : Nat :=
  match p.left with
  | some d =>
    let k := (((1000 * p.vend * p.vend + p.dec * d : Nat) : Int) - (p.dec : Nat) * w).toNat
    let v := (isqrt (p.dec * p.dec + 4000 * k) - p.dec) / 2000
    min p.vmax (if d = 0 then v else max 1 v)
  | none => p.vmax

/-- What a rate `v` and a change `ch` of it in the last tick need to come to the rate at the point ahead under JERK and DEC, in
1/2000 microsteps: the rate at which the acceleration would be 0, the S-curve from there, and what lies between (R507). -/
def AxisPlan.needs (p : AxisPlan) (v ch : Int) : Int :=
  let acc := 1000 * ch.natAbs
  let v1 := v.toNat + acc * acc / (2 * p.jrk)
  let dv := v1 - p.vend
  let curve := if p.dec * p.dec ≤ dv * p.jrk then 1000 * (v1 + p.vend) * (dv * p.jrk + p.dec * p.dec) / (p.dec * p.jrk)
    else isqrt (4000000 * (v1 + p.vend) * (v1 + p.vend) * dv / p.jrk)
  if 0 ≤ ch then ((curve + 2000 * v.toNat * acc / p.jrk + 2000 * acc * acc * acc / (3 * p.jrk * p.jrk) : Nat) : Int)
  else ((curve + 1000 * acc * acc * acc / (3 * p.jrk * p.jrk) : Nat) : Int) - ((2000 * v1 * acc / p.jrk : Nat) : Int)

/-- A change of the rate can be followed, within JERK, by one that stays below the rate limit and reaches the point ahead. -/
def AxisPlan.safe (p : AxisPlan) (w ch : Int) : Bool :=
  let acc := 1000 * ch.natAbs
  (decide (ch ≤ 0) || decide ((w + ch).toNat + acc * acc / (2 * p.jrk) ≤ p.vmax)) &&
  (match p.left with
   | some d => decide (p.needs (w + ch) ch + (w + (w + ch)) ≤ ((d : Nat) : Int))
   | none => true)

/-- The change of the rate in a tick under JERK, `last` that of the tick before: `pick` where it is safe, the hardest braking `lo`
where it is not, and what eases it as a braking runs out before the point ahead (R507). -/
def AxisPlan.jerked (p : AxisPlan) (w last j lo pick : Int) : Int :=
  let ch := if p.safe w pick then pick else lo
  let acc := 1000 * ch.natAbs
  if ch < 0 && p.left != some 0 && decide ((w + ch - (p.vend : Nat)).toNat < acc * acc / (2 * p.jrk)) then min (last + j) 0 else ch

/-- The rate at the end of a tick, `w` the rate at its start in the plan's direction, `last` its change in the tick before; `c` and
`c2` round and, under JERK, choose (log entry 7). -/
def AxisPlan.next (p : AxisPlan) (w last : Int) (c c2 : Nat) : Int :=
  let up : Int := ((p.acc + c % 1000) / 1000 : Nat)
  let down : Int := ((p.dec + c % 1000) / 1000 : Nat)
  let top : Int := (p.cap w : Nat)
  if p.flat then (p.vmax : Nat)
  else if p.jrk == 0 then (if w ≤ top then min (w + up) top else max (w - down) top)
  else
    let j : Int := max 1 ((p.jrk + c % 1000000) / 1000000 : Nat)
    let lo := max (-down) (last - j)
    let hi := min up (last + j)
    let pick := lo + ((c2 : Nat) : Int) % (max lo hi - lo + 1)
    let v := max (if p.left == some 0 then min w (p.vend : Nat) else 0) (min (w + p.jerked w last j lo pick) ((p.vmax : Nat) : Int))
    if p.left.any (fun d => d != 0) then max 1 v else v

/-- The microsteps of a tick between two rates, in the plan's direction, the part of a microstep carried over in `f`, and what is
carried on; none past the point ahead. The rates and so the steps never go beyond VMAX (R502, R510). -/
def AxisPlan.steps (p : AxisPlan) (w w' f : Int) : Int × Int :=
  let t := w + w' + f
  match p.left with
  | some d => if ((d : Nat) : Int) ≤ w + w' then (Int.tdiv (((d : Nat) : Int) + f) 2000, 0) else (Int.tdiv t 2000, Int.tmod t 2000)
  | none => (Int.tdiv t 2000, Int.tmod t 2000)

/-- The step generator's gate (R506): a step beyond the travel limits of a homed axis is withheld with a category 0 stop. -/
def Mach.stepTo (m : Mach) (a : Nat) (p' : Int) : Mach :=
  let p := m.pos a
  let lo := m.ri MOT_AX_TRAVEL_MIN_ALL a
  let hi := m.ri MOT_AX_TRAVEL_MAX_ALL a
  if m.b MOT_AX_STATUS_HOMED a && ((p' < lo && p' < p) || (hi < p' && p < p')) then
    let m := (m.wi MOT_AX_POS_ALL (if p' < lo then min p lo else max p hi) a).w MOT_AX_STATUS_TRAVEL_HIT 1 a
    (m.w MOT_AX_STATUS_UNCERTAIN 1 a).stopNow a 0x13
  else m.wi MOT_AX_POS_ALL p' a

/-- What a homing run does at the position of a tick: the search has passed HOME_MAX, or the backoff of kind 2 is at its end, which
takes HOME_OFS (R515, R516). -/
def Mach.homeStepped (m : Mach) (a : Nat) : Mach :=
  match (m.axis a).home, (m.axis a).stop with
  | some h, none =>
    let gone := (m.pos a - h.start).natAbs
    if h.phase == .search && gone > m.r MOT_AX_HOME_MAX_ALL a then m.homeFail a 4
    else if h.phase == .latch && h.kind == 2 && 256 * m.r MOT_AX_HCFG_BACKOFF a ≤ gone then
      (m.wi MOT_AX_POS_ALL (m.ri MOT_AX_HOME_OFS_ALL a) a).setPhase a h .final
    else m
  | _, _ => m

/-- The segment of one tick (R507, R510): the rate moves from its value to the next of the plan, at most VMAX, and the position by the
steps between. -/
def Mach.axisSegment (m : Mach) (a : Nat) : Mach :=
  match m.axisPlan a with
  | none => m
  | some p =>
    let (c, m) := m.draw
    let (c2, m) := m.draw
    let x := m.axis a
    let sign := fun (v : Int) => if p.neg then -v else v
    let vmax : Int := (m.r MOT_AX_VMAX_VMAX a : Nat)
    let w := if p.flat then min ((p.vmax : Nat) : Int) vmax else sign (m.vel a)
    let w' := min (p.next w x.change c c2) vmax
    let n := p.steps w w' (if m.vel a = 0 then 0 else sign x.frac)
    let brake := x.brake || (x.run.isSome && p.vend == 0 && decide (((p.cap w : Nat) : Int) ≤ w'))
    let m := m.setAxis a { x with change := w' - w, brake := brake && p.cap w < p.vmax, frac := sign n.2 }
    ((m.setVel a (sign w')).stepTo a (m.pos a + sign n.1)).homeStepped a

/-- Motion's work of a tick of the unit that drives the axes (R510, R517): an axis whose interlock has fallen while it moves stops;
every axis steps. -/
def Mach.motionTick (m : Mach) : Mach :=
  m.when m.isActive (fun m => m.each (List.range 8) (fun m a =>
    let fall := m.inMotion a && m.ilkBlocks a && !(m.axis a).stop.any (fun k => k.off)
    (m.when fall (fun m => m.stopCat a 0x10)).axisSegment a))

end Sys2Proof.Machine
end

