-- ==== Sys2Proof/Machine/Park.lean ====
section
/-! DEFINITION. Kiln's park list and the mate frames, as other blocks use them (04, 13). -/

namespace Sys2Proof.Machine

open Sys2Proof

/-- The value of a field that names no resource. -/
def noRes : Nat := 0xFFFFFFFF

/-- The part with Kiln's store changed; KILN_STATUS and KILN_PARK_STATUS follow (R161). -/
def Mach.setStore (m : Mach) (k : KilnStore) : Mach :=
  let m := { m with kiln := { m.kiln with store := k } }
  let live := k.agents.filter (fun e => e.2.state == 2 || e.2.state == 3 || e.2.state == 4 || e.2.state == 6)
  let m := m.w KILN_STATUS_AGENTS live.length
  let m := m.w KILN_STATUS_FIXTURES (live.filter (fun e => e.2.state == 6)).length
  (m.w KILN_PARK_STATUS_COUNT k.park.length).w KILN_PARK_STATUS_OLDEST
    (match k.park with
     | [] => 0
     | p :: _ => k.ref p.idx)

/-- The parked request of an agent. -/
def Mach.parkedOf (m : Mach) (i : Nat) : Option Parked := m.kiln.store.park.find? (fun p => p.idx == i)

/-- The parked request of an agent taken out of the list; this tick's park service goes on where it stood. -/
def Mach.dropPark (m : Mach) (i : Nat) : Mach :=
  let k := m.kiln.store
  let pos := m.kiln.parkPos
  let before := ((k.park.take pos).filter (fun p => p.idx != i)).length
  ({ m with kiln := { m.kiln with parkPos := before } }).setStore
    { k with park := k.park.filter (fun p => p.idx != i) }

/-- PARK_END (R141): AGENT, TICKET, OUTCOME, CONFLICT, CHAIN_LEN, resource. -/
def Mach.parkEvent (m : Mach) (p : Parked) (outcome res : Nat) : Mach :=
  m.event 0x0101 0 15 (le 2 (m.refOf p.idx) ++ le 2 p.ticket ++ le 1 outcome ++ le 1 p.conflict ++
    le 2 (m.agent p.idx).chain.length ++ le 4 res)

/-- A parked request withdrawn with an outcome of R141, if there is one. -/
def Mach.withdrawPark (m : Mach) (i outcome : Nat) (res : Nat := noRes) : Mach :=
  match m.parkedOf i with
  | none => m
  | some p => ((m.dropPark i).inc KILN_PARK_WITHDRAWN_ALL).parkEvent p outcome res

/-! ### Mate frames (R415 to R419) -/

/-- MIRROR (R425). -/
def Mach.mirror (m : Mach) : Nat := m.r REDUN_STATUS_MIRROR

/-- MIRROR, with the MATE_OK pin. -/
def Mach.setMirror (m : Mach) (v : Nat) : Mach := (m.w REDUN_STATUS_MIRROR v).wb REDUN_STATUS_MATE_OK (v == 3)

/-- A mate frame as this unit sends it now; a standby's forward bit names what asserted in the tick or still does (R217). -/
def Mach.mateFrame (m : Mach) (final : Bool) (body : MateBody) : MateFrame where
  version := m.r REDUN_VER_IN_USE
  final := final
  forward := m.isStandby && (m.dam.forward || (m.r DAMP_SRC_SRC).testBit 4 || m.b DAMP_S0_REQ_SITE || m.b DAMP_S1_REQ_SITE)
  warm := m.b REDUN_STATUS_WARM
  seq := m.red.seqOut
  pt := m.pt
  body := body

/-- The mate link runs: MATE_EN is 1 and its block is not lost (R23). -/
def Mach.mateOn (m : Mach) : Bool := m.b REDUN_CTRL_MATE_EN && m.r INTC_BLK_FAULT_STATE 24 != 3

/-- A frame sent while the link runs: it takes the next SEQ and is kept, the last 512 (R419). -/
def Mach.mateSend (m : Mach) (final : Bool) (body : MateBody) : Mach :=
  if m.mateOn then
    let f := m.mateFrame final body
    let kept := m.red.kept ++ [f]
    ({ m with red := { m.red with seqOut := (m.red.seqOut + 1) % 2 ^ 32, kept := kept.drop (kept.length - 512) } }).mateOut f
  else m

end Sys2Proof.Machine
end

