-- ==== Sys2Proof/Machine/Latch.lean ====
section
/-! DEFINITION. Damper's latches: what an asserting source does (R187 to R199, R205, R206, R213). -/

namespace Sys2Proof.Machine

open Sys2Proof

/-- The stop of a site, and no stop. -/
def Stops.ofSite : Stops := ⟨true, 0, 0⟩
def Stops.empty : Stops := ⟨false, 0, 0⟩

/-- The stops latched now. -/
def Mach.latched (m : Mach) : Stops := ⟨m.siteLatched, BitVec.ofNat 64 m.zoneLatches, m.dam.agents⟩

/-- The latches set to given stops, in state and registers. -/
def Mach.setLatches (m : Mach) (s : Stops) : Mach :=
  let m := { m with dam := { m.dam with agents := s.agents } }
  let m := ((m.wb DAMP_STATUS_SITE_LATCHED s.site).w DAMP_ZONE_LO_ALL s.zones.toNat).w DAMP_ZONE_HI_ALL
    (s.zones.toNat / 2 ^ 32)
  m.each (List.range 16) (fun m w => m.w DAMP_AGENT_ALL (s.agents.toNat >>> (32 * w)) w)

/-- `b` adds a stop to `a`. -/
def Stops.gains (a b : Stops) : Bool :=
  (b.site && !a.site) || (b.zones &&& ~~~a.zones) != 0 || (b.agents &&& ~~~a.agents) != 0

/-- Both together. -/
def Stops.join (a b : Stops) : Stops := ⟨a.site || b.site, a.zones ||| b.zones, a.agents ||| b.agents⟩

/-- The first without the second. -/
def Stops.minus (a b : Stops) : Stops := ⟨a.site && !b.site, a.zones &&& ~~~b.zones, a.agents &&& ~~~b.agents⟩

/-- Transmit time of a lane on a channel (R247, R254). -/
def Mach.chargeTx (m : Mach) (x chan us : Nat) : Mach :=
  let key := 32 * x + chan
  let l := (Tabs.val m.air.txLog [] key).filter (fun e => m.now < e.1 + 1000)
  ({ m with air := { m.air with txLog := Tabs.put m.air.txLog key (l ++ [(m.now, us)]) } }).incBy AIR_LANE_TX_US_ALL us x

/-- The time since the slot in flight began, in µs: the ticks that are over; all of it once the next slot has begun. -/
def Mach.slotUs (m : Mach) : Nat := if m.air.slot == some m.asn then 1000 * (m.msInt % 4).toNat else 4000

/-- A compact IE in a flight that is cut off is discarded when its deadline has passed or a newer one has taken its place
(R369). -/
def Mach.corrCut (m : Mach) (f : Flight) : Mach :=
  let lost := match f.what with
    | .bcast _ (some e) _ => !m.air.corr.any (fun c => c.epoch == e)
    | _ => false
  m.when lost (fun m => m.inc CORR_IE_DISCARD_ALL)

/-- A flight is cut off. DESIGN CHOICE: how far into the tick, a tick does not tell; the time sent is free (log entry 61). -/
def Mach.cutFlight (m : Mach) (f : Flight) : Mach :=
  let (v, m) := m.draw
  let m := m.corrCut f
  (m.emit (.airCut f.lane)).chargeTx f.lane f.chan (min f.us (m.slotUs - f.start + v % 1000))

/-- The external PA's pins change. -/
def Mach.setPins (m : Mach) (p : PaPins) : Mach :=
  ({ m with air := { m.air with pins := p } }).emit (.pa p.en p.lna p.ramp)

/-- The last frame has ended, or the gate has closed: PA_RAMP falls, PA_EN low, LNA_EN high (R249, R250). -/
def Mach.paRest (m : Mach) : Mach :=
  if m.air.pins.en then ((m.setPins ⟨true, false, 0⟩).setPins ⟨false, false, 0⟩).setPins {} else m

/-- The flights, the ended ones waiting and the ACKs owed. -/
def Mach.setFlight (m : Mach) (l e : List Flight) (a : List AckDue) : Mach :=
  { m with air := { m.air with inFlight := l, ended := e, acks := a } }

/-- The flights that `p` names are cut off, the ACKs it names are no longer owed; pins at rest when none is left. -/
def Mach.cutFlights (m : Mach) (p : Nat → Bool) : Mach :=
  let cut := m.air.inFlight.filter (fun f => p f.lane)
  let left := m.air.inFlight.filter (fun f => !p f.lane)
  let m := (m.each cut Mach.cutFlight).setFlight left m.air.ended (m.air.acks.filter (fun a => !p a.lane))
  m.when left.isEmpty Mach.paRest

/-- The transmit gate closes for the rest of the slot; frames in flight are cut and counted, no ACK follows (R193,
R242). A frame whose end lies in an earlier tick is not cut. -/
def Mach.gateClose (m : Mach) : Mach :=
  let done := m.air.inFlight.filter (fun f => decide (f.start + f.us ≤ m.slotUs))
  let cut := m.air.inFlight.filter (fun f => decide (m.slotUs < f.start + f.us))
  let m := ((m.w DAMP_STATUS_GATE 1).w AIR_STATUS_GATE 1).w AIR_STATUS_TX_OK 0
  let m := m.incBy AIR_GATE_CUTS_ALL cut.length
  ((m.each cut Mach.cutFlight).setFlight [] (m.air.ended ++ done) []).paRest

/-- STOP_OUT_A and STOP_OUT_B pulled low (run) or released; the ball follows (R213). -/
def Mach.setStopOut (m : Mach) (run : Bool) : Mach :=
  let m := { m with dam := { m.dam with run := run } }
  (m.wb DAMP_STATUS_OUT_A !run).wb DAMP_STATUS_OUT_B !run

/-- FIX_EN_N pulled low (enable) or released. -/
def Mach.setFixEn (m : Mach) (run : Bool) : Mach :=
  let m := { m with dam := { m.dam with fixRun := run, fixDue := none } }
  m.wb DAMP_STATUS_FIX_EN_N !run

/-- The Plant region is fenced (R23). -/
def Mach.plantFenced (m : Mach) : Bool := (m.r INTC_STATUS_FENCED).testBit 3

/-- Outputs driven as R213 has it, the FIX_EN_N delay aside. -/
def Mach.driveOutputs (m : Mach) : Mach :=
  let run := m.b REDUN_STATUS_GRANTED && !m.siteLatched
  (m.setStopOut run).setFixEn (run && !m.plantFenced)

/-- The site latch sets: STOP_OUT released at once, FIX_EN_N after DELAY_MS (R193, R214). -/
def Mach.releaseOutputs (m : Mach) : Mach :=
  let m := m.setStopOut false
  let delay := m.r DAMP_FIX_CFG_DELAY_MS
  if delay == 0 then m.setFixEn false
  else if m.dam.fixRun then { m with dam := { m.dam with fixDue := some (m.now + delay) } }
  else m

/-- The arm ends in a case of R206. -/
def Mach.armEnd (m : Mach) (why : Nat) : Mach :=
  match m.dam.arm with
  | none => m
  | some a =>
    let m := { m with dam := { m.dam with arm := none, ended := some (a.ticket, why) } }
    ((m.w DAMP_STATUS_ARMED 0).inc DAMP_ARM_ENDED_ALL).event 0x0203 1 17 (le 2 a.ticket ++ le 1 why)

/-- Latches gain what a source names (R187, R193, R197): outputs, parked requests of agents, quick-stops, a stop burst
sequence, the LATCH mate frame of an ACTIVE unit (R417). -/
def Mach.gainStops (m : Mach) (what : Stops) : Mach :=
  let old := m.latched
  let m := m.setLatches (old.join what)
  let m := m.when (what.site && !old.site) Mach.releaseOutputs
  let m := m.each ((List.range 512).filter (fun i => what.agents.getLsbD i && !old.agents.getLsbD i))
    (fun m i => m.withdrawPark i 2)
  let m := m.quickStop
  if old.gains what then
    (m.w DAMP_STATUS_BURSTS_LEFT 3).when m.isActive (fun m => m.mateSend false (.latch (old.join what)))
  else m

/-- DAMP_CAUSE and its PT, 0 before the first step (R188). -/
def Mach.setCause (m : Mach) (src detail : Nat) : Mach :=
  ((m.w DAMP_CAUSE_SOURCE src).w DAMP_CAUSE_DETAIL detail).w DAMP_CAUSE_PT_ALL (if m.stepped then m.pt else 0)

/-- A source asserts (R187, R188, R193, R206): it is seen and counted, cancels an arm, closes the gate and sets the
latches of its scope; between a confirm and its boundary it is kept to be applied again (R205). -/
def Mach.assertSource (m : Mach) (src detail : Nat) (what : Stops) : Mach :=
  let seen := m.r DAMP_SRC_SEEN_SEEN
  let m := (m.w DAMP_SRC_SEEN_SEEN (seen ||| (1 <<< src))).inc DAMP_LATCH_COUNT_ALL
  let fresh := what.site && !m.siteLatched
  let m := m.when (fresh || (what.site && (src == 11 || src == 12))) (fun m => m.setCause src detail)
  let m := m.armEnd 1
  let m := m.when m.dam.release.isSome
    (fun m => { m with dam := { m.dam with again := m.dam.again ++ [⟨src, detail, what⟩] } })
  let m := { m with dam := { m.dam with own := m.dam.own.join what } }
  let m := (m.gateClose).gainStops what
  m.when fresh (fun m => m.event 0x0201 3 17 (le 1 src ++ le 1 detail ++ le 4 (m.r DAMP_CAUSE_PT_ALL)))

/-- A level source's bit of DAMP_SRC. -/
def Mach.setSrc (m : Mach) (src : Nat) (on : Bool) : Mach :=
  let old := m.r DAMP_SRC_SRC
  let cleared := old - (bits old src 1 <<< src)
  m.w DAMP_SRC_SRC (cleared + (b2n on <<< src))

/-- A level source begins to assert; one that asserts already does nothing new. -/
def Mach.levelAssert (m : Mach) (src detail : Nat) (what : Stops) : Mach :=
  if (m.r DAMP_SRC_SRC).testBit src then m else (m.setSrc src true).assertSource src detail what

/-- An agent latch clears as its index enters QUARANTINED (R194). -/
def Mach.clearAgentLatch (m : Mach) (i : Nat) : Mach :=
  if m.agentLatched i then
    let s := m.latched
    (m.setLatches { s with agents := s.agents &&& ~~~(1#512 <<< i) }).quickStop.event 0x0206 1 17 (le 2 i)
  else m

end Sys2Proof.Machine
end

