-- ==== Sys2Proof/Machine/AirCore.lean ====
section
/-! DEFINITION. The Air region's tables as other blocks use them: seats, tasks, the end of a membership, quarantine
(08, 09). -/

namespace Sys2Proof.Machine

open Sys2Proof

def Mach.member (m : Mach) (i : Nat) : Option Member := Tabs.look m.air.tab.members i
def Mach.setTab (m : Mach) (t : AirTab) : Mach := { m with air := { m.air with tab := t } }
def Mach.setMember (m : Mach) (i : Nat) (x : Member) : Mach :=
  m.setTab { m.air.tab with members := Tabs.put m.air.tab.members i x }

/-- Seats of a lane in use, each with its index: the members' and the targets of their moves (R268, R275, R284). -/
def Mach.seats (m : Mach) (x : Nat) : List (Nat × Nat) :=
  m.air.tab.members.flatMap (fun e =>
    (if e.2.lane == x then [(e.2.seat, e.1)] else []) ++
    (match e.2.move with
     | some v => if v.lane == x then [(v.seat, e.1)] else []
     | none => []))

/-- The lowest free seat of a lane. -/
def Mach.freeSeat (m : Mach) (x : Nat) : Option Nat :=
  let used := (m.seats x).map (fun e => e.1)
  (List.range 128).find? (fun s => !used.contains s)

/-- A lane modem stops inside a slot: what it is sending is cut off, and it owes no ACK (R240). -/
def Mach.modemCut (m : Mach) (n : Nat) : Mach := m.cutFlights (fun x => m.r AIR_LANE_STATUS_MODEM x == n)

/-- A logical lane is open. -/
def Mach.laneOpen (m : Mach) (x : Nat) : Bool := (m.r AIR_STATUS_LANE_OPEN).testBit x

/-- The conditions of R240 that depend neither on the lane nor on the gate. -/
def Mach.airCond (m : Mach) : Bool := m.b AIR_CTRL_ENABLE && m.isActive && m.b REDUN_STATUS_GRANTED && m.stepped

/-- AIR_STATUS follows; as TX_OK rises by a condition other than the gate, the next transmission is a permit (R240,
R241). -/
def Mach.airRefresh (m : Mach) : Mach :=
  let c := m.airCond
  let gate := m.b DAMP_STATUS_GATE
  let m := ((m.wb AIR_STATUS_STEPPED m.stepped).wb AIR_STATUS_GRANTED (m.b REDUN_STATUS_GRANTED)).wb AIR_STATUS_ACTIVE m.isActive
  let m := (m.wb AIR_STATUS_GATE gate).wb AIR_STATUS_TX_OK (c && !gate)
  { m with air := { m.air with cond := c, permitFirst := if c && !m.air.cond then true else m.air.permitFirst } }

def Mach.resps (m : Mach) (x : Nat) : List JoinResp := Tabs.val m.air.tab.resps [] x
def Mach.setResps (m : Mach) (x : Nat) (l : List JoinResp) : Mach :=
  m.setTab { m.air.tab with resps := Tabs.put m.air.tab.resps x l }

/-- The registers that show the Air region's tables (R289, R321). -/
def Mach.airShow (m : Mach) : Mach :=
  let ms := m.air.tab.members
  let pend := ((m.air.tab.resps.map (fun e => (e.2.filter (fun r => r.result == 0)).length)).sum)
  let m := (m.w AIR_MEMBERS_MEMBERS (ms.filter (fun e => !e.2.pending)).length).w AIR_MEMBERS_PENDING pend
  let m := m.each (List.range 8) (fun m x =>
    ((m.w AIR_LANE_SEATS_OCCUPIED (m.seats x).length x).w AIR_LANE_SEATS_LAST_UP (Tabs.val m.air.tab.lastUp 0 x) x).wb AIR_LANE_SEATS_MOVES
      (ms.any (fun e => match e.2.move with
        | some v => v.open_ && (v.lane == x || e.2.lane == x)
        | none => false)) x)
  let open_ := m.air.tab.ledger.filter (fun e => e.2.state == .offered || e.2.state == .accepted || e.2.state == .started)
  let m := (m.w AIR_TASK_STATUS_USED m.air.tab.ledger.length).w AIR_TASK_STATUS_OPEN open_.length
  match m.member (m.r AIR_LINK_SEL_INDEX) with
  | none => m.wWord AIR_LINK_VIEW_MCS 0
  | some x =>
    let m := (m.w AIR_LINK_VIEW_MCS x.mcs).w AIR_LINK_VIEW_RETRIES (match x.sent with
      | some u => u.retries
      | none => 0)
    let m := (m.wb AIR_LINK_VIEW_PENDING x.sent.isSome).w AIR_LINK_VIEW_DOWN_DSN x.downDsn
    (m.w AIR_LINK_VIEW_UP_DSN (x.upDsn.getD 0)).w AIR_LINK_VIEW_OK_RUN (min x.okRun 16)

/-! ### Tasks (R310 to R318) -/

/-- The STATE byte of a ledger entry. -/
def taskCode : TaskState → Nat
  | .offered => Config.taskStateCode 0
  | .accepted => 1
  | .started => 2
  | .done => 3
  | .failed => 4
  | .timedOut => Config.taskStateCode 1

/-- RESULT bytes 16 to 27 of the task opcodes (R317). -/
def taskRes (t : Task) (existing : Bool) : List Byte :=
  le 4 t.id ++ le 1 (taskCode t.state) ++ le 1 (b2n existing + 2 * b2n t.late) ++ le 2 t.reason ++ le 4 t.pt

def Mach.setTask (m : Mach) (e : Nat) (t : Task) : Mach :=
  m.setTab { m.air.tab with ledger := Tabs.put m.air.tab.ledger e t }

/-- The completion an offer gets as its entry first leaves OFFERED (R318). -/
def offerStatus (st : TaskState) (reason : Nat) : Nat :=
  match st with
  | .failed => if reason == 0xFF01 then 0x15 else if reason == 0xFF02 then stFLUSHED else 0x19
  | .timedOut => 0x1A
  | _ => stOK

/-- Fragments of a task are no longer sent. -/
def Member.dropTask (x : Member) (id : Nat) : Member :=
  { x with tasks := x.tasks.filter (fun t => t.1 != id),
           front := if x.front.any (fun f => f.task == id) then none else x.front }

/-- A ledger entry changes state (R311, R318): event, timers, and the offer's completion as it leaves OFFERED. -/
def Mach.taskMove (m : Mach) (e : Nat) (t : Task) (st : TaskState) (reason : Nat) : Mach :=
  let was := t.state == .offered
  let t' := { t with state := st, reason := reason, pt := m.pt, payload := if was then [] else t.payload, d := none,
                     doneDue := if st == .accepted && t.doneS != 0 then some (m.now + 1000 * t.doneS)
                                else if st == .started then t.doneDue else none,
                     fromOffer := st == .timedOut && was, since := m.now,
                     leftOffer := if was then m.now else t.leftOffer }
  let m := m.setTask e t'
  let m := m.event 0x0306 0 12 (le 4 t.id ++ le 2 t.ref ++ le 1 (taskCode st) ++ le 2 reason)
  let m := match m.member (refIdx t.ref) with
    | some x => if was then m.setMember (refIdx t.ref) (x.dropTask t.id) else m
    | none => m
  match t.d with
  | some d => m.complete d (offerStatus st reason)
      (if offerStatus st reason == stOK || offerStatus st reason == 0x19 then taskRes t' false else [])
  | none => m

/-- An entry that R311 lets the end of a membership fail. -/
def Task.open_ (t : Task) : Bool := !(t.state == .done || t.state == .failed)

/-! ### The end of a membership (R281) and quarantine (R122, R258) -/

/-- The membership or pending join of an index ends: its lane move completes with NOT_MEMBER, its open tasks fail, key and
seat are gone; MEMBERSHIP_END is posted with the item of R281. -/
def Mach.memberGone (m : Mach) (i ref item : Nat) : Mach :=
  match m.member i with
  | none => m
  | some x =>
    let m := match x.move with
      | some v => m.complete v.d 0x15
      | none => m
    let resps := m.air.tab.resps.map (fun e => (e.1, e.2.filter (fun r => !(r.result == 0 && r.idx == i))))
    let m := m.setTab { m.air.tab with
      members := Tabs.del m.air.tab.members i, auth := Tabs.del m.air.tab.auth i, resps := resps }
    let m := m.each (m.air.tab.ledger.filter (fun e => e.2.ref == ref && e.2.open_))
      (fun m e => m.taskMove e.1 e.2 .failed 0xFF01)
    m.event 0x0302 1 12 (le 2 ref ++ le 1 (Config.membershipCause item))

/-- Kiln's queues without an agent's entry in those groups of which no resource is left in its chain (R125). -/
def KilnStore.settleQueues (k : KilnStore) (mp : SiteMap) (i : Nat) (dropped : List Nat) : KilnStore :=
  let kept := (k.agent i).chain.flatMap mp.groupsOf
  let gone := ((dropped.flatMap mp.groupsOf).filter (fun g => !kept.contains g)).dedup
  { k with queues := gone.foldl (fun q g =>
      let l := (Tabs.val q [] g).filter (fun a => a != i)
      if l.isEmpty then Tabs.del q g else Tabs.put q g l) k.queues }

/-- An agent's chain set to a shorter one; its entries leave their queues (R125). -/
def Mach.cutChain (m : Mach) (i : Nat) (chain : List Nat) (dropped : List Nat) : Mach :=
  let k := m.kiln.store
  let k := { k with agents := Tabs.put k.agents i { k.agent i with chain := chain } }
  match m.kiln.map with
  | some mp => m.setStore (k.settleQueues mp i dropped)
  | none => m.setStore k

/-- An index enters QUARANTINED (R122, R177, R194, R258): generation advanced, AUTH_SEQ 0, chain released, membership ended
where there is one, agent latch cleared. -/
def Mach.quarantine (m : Mach) (i item : Nat) : Mach :=
  let a := m.agent i
  let ref := m.refOf i
  let m := m.cutChain i [] a.chain
  let k := m.kiln.store
  let m := m.setStore { k with agents := Tabs.put k.agents i { state := 5, gen := (a.gen + 1) % 16, lastRec := a.lastRec, recSince := a.recSince } }
  let m := m.setTab { m.air.tab with quarAt := Tabs.put m.air.tab.quarAt i m.now }
  (m.memberGone i ref item).clearAgentLatch i |>.airShow

/-- QUARANTINE_END (R258): after QUAR_S seconds the index is FREE. -/
def quarantineEnd (i : Nat) (m : Mach) : Mach :=
  let a := m.agent i
  if a.state == 5 && Tabs.val m.air.tab.quarAt 0 i + 1000 * m.r AIR_QUAR_CFG_QUAR_S ≤ m.now then
    let k := m.kiln.store
    let m := m.setStore { k with agents := Tabs.put k.agents i { a with state := 0 } }
    m.setTab { m.air.tab with quarAt := Tabs.del m.air.tab.quarAt i, freeAt := Tabs.put m.air.tab.freeAt i m.now }
  else m

def execQuarantineEnd (a : Fin 512) (s : State) : Res := s.on (quarantineEnd a)

end Sys2Proof.Machine
end

