-- ==== Sys2Proof/Machine/SiteMap.lean ====
section
/-! DEFINITION. The Jasper map image: its checks, staging, commit, restore and the rotating spare bank (03). -/

namespace Sys2Proof.Machine

open Sys2Proof

/-- A validation failure: VCODE and VINDEX (R103). -/
abbrev VFail := Nat × Nat

/-- The first failure of a list. -/
def firstFail : List (Option VFail) → Option VFail
  | [] => none
  | some f :: _ => some f
  | none :: t => firstFail t

/-- The image's counts (R98) and the length they give (R97). -/
def imgNodes (l : List Byte) : Nat := leAt l 16 4
def imgSegs (l : List Byte) : Nat := leAt l 20 4
def imgGroups (l : List Byte) : Nat := leAt l 24 4
def imgBinds (l : List Byte) : Nat := leAt l 28 4
def imgLen (l : List Byte) : Nat := 64 + 24 * imgNodes l + 32 * imgSegs l + 16 * imgBinds l

/-- A header check: it fails with a code at a byte offset. -/
def hchk (bad : Bool) (code idx : Nat) : Option VFail := if bad then some (code, idx) else none

/-- The header checks in order of byte offset (R98, R103). -/
def headerFail (l : List Byte) : Option VFail :=
  firstFail ([hchk (leAt l 0 4 != 0x5250534A) 0x0001 0,
    hchk (leAt l 4 2 != 1) 0x0002 4,
    hchk (leAt l 6 2 != 64) 0x0002 6,
    hchk (leAt l 8 4 == 0) 0x0004 8,
    hchk (imgNodes l == 0 || imgNodes l > 65536) 0x0004 16,
    hchk (imgSegs l > 131072) 0x0004 20,
    hchk (imgGroups l == 0 || imgGroups l > 131072) 0x0004 24,
    hchk (imgBinds l > 24) 0x0004 28,
    hchk (leAt l 32 4 != imgLen l) 0x0005 32] ++
    (List.range 24).map (fun k => hchk (leAt l (36 + k) 1 != 0) 0x0004 (36 + k)))

/-- Four group slots from an offset, and the first `n` of them. -/
def groupSlots (l : List Byte) (off : Nat) : List Nat := (List.range 4).map (fun k => leAt l (off + 4 * k) 4)

/-- R93 and R99: NGROUPS 1 to 4, numbers below GROUP_COUNT, none twice, the rest 0xFFFF_FFFF. -/
def groupsBad (n count : Nat) (slots : List Nat) : Bool :=
  !(1 ≤ n && n ≤ 4 && (slots.take n).all (fun g => g < count) && decide (slots.take n).Nodup &&
    (slots.drop n).all (fun g => g == 0xFFFFFFFF))

/-- The checks of node record `i` (R99, R103). -/
def nodeFail (l : List Byte) (i : Nat) : Option VFail :=
  let o := 64 + 24 * i
  let kind := leAt l o 1
  let n := leAt l (o + 2) 1
  firstFail [hchk (kind > 3 || leAt l (o + 1) 1 > 63 || leAt l (o + 3) 1 != 0) 0x0010 i,
    hchk (groupsBad n (imgGroups l) (groupSlots l (o + 8))) 0x0011 i,
    hchk ((kind == 1 || kind == 2) && n != 1) 0x0012 i]

/-- The checks of segment record `i` (R100). -/
def segFail (l : List Byte) (i : Nat) : Option VFail :=
  let o := 64 + 24 * imgNodes l + 32 * i
  let src := leAt l o 2
  let dst := leAt l (o + 2) 2
  let len := leAt l (o + 4) 4
  firstFail [hchk (src ≥ imgNodes l || dst ≥ imgNodes l || src == dst) 0x0020 i,
    hchk (len == 0 || len > 1000000 || leAt l (o + 8) 2 == 0 || leAt l (o + 10) 1 > 7 || leAt l (o + 11) 1 > 63 ||
      leAt l (o + 13) 3 != 0) 0x0021 i,
    hchk (groupsBad (leAt l (o + 12) 1) (imgGroups l) (groupSlots l (o + 16))) 0x0022 i]

/-- A resource identifier names a resource of an image with these counts (R91). -/
def resIn (nodes segs res : Nat) : Bool :=
  match resNode res, resSeg res with
  | some i, _ => i < nodes
  | none, some i => i < segs
  | none, none => false

/-- The offset of binding record `i`. -/
def bindOff (l : List Byte) (i : Nat) : Nat := 64 + 24 * imgNodes l + 32 * imgSegs l + 16 * i

/-- The checks of binding record `i` (R101). -/
def bindFail (l : List Byte) (i : Nat) : Option VFail :=
  let o := bindOff l i
  let kind := leAt l o 1
  let unit := leAt l (o + 1) 1
  firstFail [hchk (!(kind == 1 && unit ≤ 7 || kind == 2 && unit ≤ 15) || leAt l (o + 2) 1 > 15 || leAt l (o + 3) 1 != 0 ||
      leAt l (o + 8) 8 != 0) 0x0040 i,
    hchk ((List.range i).any (fun j => leAt l (bindOff l j) 2 == leAt l o 2)) 0x0041 i,
    hchk (!resIn (imgNodes l) (imgSegs l) (leAt l (o + 4) 4)) 0x0042 i]

/-- The record pass over the records an image's first bytes hold whole (R102). -/
def recordFail (l : List Byte) : Option VFail :=
  let b := l.length
  let nN := min (imgNodes l) ((b - 64) / 24)
  let nS := min (imgSegs l) ((b - (64 + 24 * imgNodes l)) / 32)
  let nB := min (imgBinds l) ((b - bindOff l 0) / 16)
  firstFail ((List.range nN).map (nodeFail l) ++ (List.range nS).map (segFail l) ++ (List.range nB).map (bindFail l))

/-- The map a whole image spells. -/
def parseMap (l : List Byte) : SiteMap where
  mapId := leAt l 8 4
  rev := leAt l 12 4
  groups := imgGroups l
  nodes := (List.range (imgNodes l)).map (fun i =>
    let o := 64 + 24 * i
    ⟨leAt l o 1, leAt l (o + 1) 1, leAt l (o + 4) 4, (groupSlots l (o + 8)).take (leAt l (o + 2) 1)⟩)
  segs := (List.range (imgSegs l)).map (fun i =>
    let o := 64 + 24 * imgNodes l + 32 * i
    ⟨leAt l o 2, leAt l (o + 2) 2, leAt l (o + 4) 4, leAt l (o + 8) 2, leAt l (o + 10) 1, leAt l (o + 11) 1,
      (groupSlots l (o + 16)).take (leAt l (o + 12) 1)⟩)
  binds := (List.range (imgBinds l)).map (fun i =>
    let o := bindOff l i
    ⟨leAt l o 1, leAt l (o + 1) 1, leAt l (o + 2) 1, leAt l (o + 4) 4⟩)
  image := l

/-- How many resources are members of a group. -/
def SiteMap.members (mp : SiteMap) (g : Nat) : Nat :=
  (mp.nodes.filter (fun n => n.groups.contains g)).length + (mp.segs.filter (fun s => s.groups.contains g)).length

/-- The image pass after the CRC: R93, R94, R95, gate nodes (R102). -/
def SiteMap.imageFail (mp : SiteMap) : Option VFail :=
  firstFail ((List.range mp.groups).map (fun g => hchk (mp.members g == 0) 0x0030 g) ++
    mp.nodes.zipIdx.map (fun (n, i) =>
      hchk ((n.kind == 1 || n.kind == 2) && n.groups.any (fun g => mp.members g != 1)) 0x0012 i) ++
    mp.segs.zipIdx.map (fun (s, j) =>
      hchk ((mp.segs.take j).any (fun t => t.src == s.dst && t.dst == s.src && !t.groups.any s.groups.contains))
        0x0023 j) ++
    mp.nodes.zipIdx.map (fun (n, i) => hchk (n.kind == 3 && !mp.binds.any (fun b => b.res == i)) 0x0013 i))

/-- The CRC of R98. -/
def imgCrcOk (l : List Byte) : Bool := crc32c (l.take 60 ++ le 4 0 ++ l.drop 64) == leAt l 60 4

/-- The whole image pass. -/
def imagePass (l : List Byte) : Option VFail :=
  if imgCrcOk l then (parseMap l).imageFail else some (0x0009, 60)

/-! ### Kiln's admission of operations (R31, R130) -/

/-- A parked request is skipped: an earlier one still in the list shares a group with it (R140). -/
def Mach.parkSkipped (m : Mach) (mp : SiteMap) (pos : Nat) : Bool :=
  let l := m.kiln.store.park
  match l[pos]? with
  | none => false
  | some p =>
    let g := p.path.flatMap mp.groupsOf
    (l.take pos).any (fun q => (q.path.flatMap mp.groupsOf).any g.contains)

/-- A request stands at or behind a place of the park list that the park service has still to evaluate: one parked in an
earlier tick (R141) and not skipped. -/
def Mach.parkLeft (m : Mach) (mp : SiteMap) (pos : Nat) : Bool :=
  m.kiln.store.park.zipIdx.any (fun e => pos ≤ e.2 && decide (e.1.tick < m.now) && !m.parkSkipped mp e.2)

/-- This tick's park service has ended (R130, R140); only a unit in the ACTIVE role has one. -/
def Mach.parkDone (m : Mach) : Bool :=
  match m.kiln.map with
  | none => true
  | some mp => !m.isActive || !(m.parkLeft mp m.kiln.parkPos || (m.kiln.parkAgain && m.parkLeft mp 0))

/-- The steps of R130: progress reports, park service, descriptors. -/
inductive KilnStep where
  | report | park | desc
deriving DecidableEq, Repr

/-- Kiln takes an operation of a step now: the steps before it have ended and it has not (R130), fewer than 200 operations have
been in this tick (R31), no COMMIT_MAP has closed it (R109) and no swap holds it back (R433). -/
def Mach.kilnAdmits (m : Mach) (st : KilnStep) : Bool :=
  decide (m.kiln.ops < 200) && !m.kiln.closed && !m.red.hold && (st == .report || m.kiln.reports.isEmpty) &&
    (st != .desc || (m.parkDone && !m.kiln.stepEnd))

/-- One operation of Kiln's tick; while Kiln does not take it, it waits and nothing happens yet. The cycles it needs are free
(log entry 57). -/
def Mach.kilnOp (m : Mach) (f : Mach → Mach) (st : KilnStep := .desc) : Mach :=
  if m.kilnAdmits st then
    let n := m.kiln.ops + 1
    f (((({ m with kiln := { m.kiln with ops := n } }).inc KILN_OPS_ALL).maxTo KILN_TICK_OPS_MAX_ALL n).maxTo
      KILN_OP_CYCLES_MAX_ALL (Config.opCycles m.now n))
  else m

/-! ### Loading and committing (R104 to R114) -/

def Mach.stage (m : Mach) : Nat := m.r KILN_MAP_STATUS_STAGE

/-- The staging area changed: state, bytes and map. -/
def Mach.setStage (m : Mach) (st : Nat) (l : List Byte) (mp : Option SiteMap) : Mach :=
  (({ m with kiln := { m.kiln with stage := l, staged := mp } }).w KILN_MAP_STATUS_STAGE st).w
    KILN_STAGE_BYTES_ALL l.length

/-- A validation failure is kept in LAST_VCODE and KILN_STAGE_VINDEX. -/
def Mach.vfail (m : Mach) (f : VFail) : Mach := (m.w KILN_MAP_STATUS_LAST_VCODE f.1).w KILN_STAGE_VINDEX_ALL f.2

/-- LOAD_MAP's completion (R105). -/
def Mach.loadRes (m : Mach) (f : VFail) : List Byte :=
  le 4 (m.r KILN_STAGE_BYTES_ALL) ++ le 1 m.stage ++ le 1 0 ++ le 2 f.1 ++ le 4 f.2
def Mach.loadDone (m : Mach) (d : Desc) (st : Nat) (f : VFail) : Mach := m.complete d st (m.loadRes f)

/-- A chunk refused with staging as it stands (R106). -/
def Mach.loadKeep (m : Mach) (d : Desc) (f : VFail) : Mach := (m.vfail f).loadDone d stRANGE f

/-- A chunk refused with staging INVALID, `l` having been taken. -/
def Mach.loadBad (m : Mach) (d : Desc) (l : List Byte) (f : VFail) : Mach :=
  ((m.setStage 3 l none).vfail f).loadDone d stRANGE f

/-- One chunk (R103, R105, R106). DESIGN CHOICE: the image pass, which R107 bounds from above only, ends within the operation
that completes the image; KILN_MAP_STATUS.VALIDATING is never seen 1 (log entry 61). -/
def Mach.loadChunk (m : Mach) (d : Desc) : Mach :=
  let off := Descs.fld d 16 4
  let chunk := m.bufRd d
  if off != 0 && (m.stage != 1 || off != m.kiln.stage.length) then m.loadKeep d (0x0007, off)
  else
    let l := if off == 0 then chunk else m.kiln.stage ++ chunk
    if off == 0 && chunk.length < 64 then m.loadBad d l (0x0003, 0)
    else match if off == 0 then headerFail l else none with
      | some f => m.loadBad d l f
      | none =>
        if l.length > imgLen l then m.loadBad d (if off == 0 then [] else m.kiln.stage) (0x0008, off)
        else match recordFail l with
          | some f => m.loadBad d l f
          | none =>
            if l.length < imgLen l then (m.setStage 1 l none).loadDone d stOK (0, 0)
            else match imagePass l with
              | some f => m.loadBad d l f
              | none => (m.setStage 2 l (some (parseMap l))).loadDone d stOK (0, 0)

/-- The area staging uses: the one not committed. -/
def Mach.stagingArea (m : Mach) : Nat := 1 - m.r KILN_MAP_STATUS_AREA

/-- A chunk at OFFSET 0 would overwrite the area the write of R114 reads from. -/
def Mach.loadWaits (m : Mach) (d : Desc) : Bool :=
  Descs.fld d 16 4 == 0 && m.b KILN_MAP_STATUS_PERSIST_BUSY && m.kiln.persistArea == m.stagingArea

/-- LOAD_MAP (R105 to R107, R111, R114). DEDUCED: a chunk is not checked while Kiln is disabled (R41, item 3) or the unit not
ACTIVE (R111), so NOT_ENABLED and NOT_ACTIVE_ROLE come before the codes of a check (log entry 18). -/
def loadMap (d : Desc) (m : Mach) : Mach :=
  m.desc 0x0140 d (res := fun _ => m.loadRes (0, 0)) (fun d m => if m.kiln.loadWait.contains d then m else m.kilnOp (fun m =>
    if !Descs.buf d then m.loadKeep d (0x0006, 0)
    else match firstOf [(!m.takes .kiln, stNOT_ENABLED), (!m.isActive, stNOT_ACTIVE_ROLE)] with
      | some st => m.loadDone d st (0, 0)
      | none => if m.loadWaits d then { m with kiln := { m.kiln with loadWait := m.kiln.loadWait ++ [d] } } else m.loadChunk d))

def execLoadMap (d : Desc) (s : State) : Res := s.on (loadMap d)

/-- The resources an agent holds: its chain with its anchor, and its fixture's bound resources (R112). -/
def Mach.heldResources (m : Mach) (mp : SiteMap) : List Nat :=
  (m.kiln.store.agents.flatMap (fun e => e.2.chain ++
    (if e.2.state == 6 then (mp.binds.filter (fun b => b.fixture == e.2.fixture)).map (fun b => b.res) else []))) ++
  m.kiln.store.park.flatMap (fun p => p.path)

/-- A held resource has the same kind, ends and groups in both maps (R112). -/
def sameResource (old new : SiteMap) (res : Nat) : Bool :=
  match old.node res, old.seg res with
  | some a, _ => (match new.node res with
    | some b => a.kind == b.kind && a.groups == b.groups
    | none => false)
  | none, some a => (match new.seg res with
    | some b => a.src == b.src && a.dst == b.dst && a.groups == b.groups
    | none => false)
  | none, none => true

/-- The lowest-numbered held resource that the new map changes. -/
def Mach.claimedChanged (m : Mach) (new : SiteMap) : Option Nat :=
  m.kiln.map.bind (fun old => ((m.heldResources old).filter (fun r => !sameResource old new r)).min?)

/-- An axis not at rest whose binding the new map changes, adds or removes (R113). -/
def Mach.axisRebound (m : Mach) (new : SiteMap) : Option Nat :=
  (List.range 8).find? (fun a =>
    decide (m.kiln.map.bind (fun mp => mp.bindOf 1 a) ≠ new.bindOf 1 a) &&
      ((Tabs.val m.mot {} a).run.isSome || (Tabs.val m.mot {} a).home.isSome || m.ri MOT_AX_VEL_ALL a != 0))

/-- COMMIT_MAP's completion (R108). -/
def commitRes (d : Desc) (f : VFail) : List Byte :=
  le 4 (Descs.fld d 16 4) ++ le 4 (Descs.fld d 20 4) ++ le 2 f.1 ++ le 2 0 ++ le 4 f.2
def Mach.commitDone (m : Mach) (d : Desc) (st : Nat) (f : VFail) : Mach := m.complete d st (commitRes d f)

/-- A refused commit: both areas unchanged. -/
def Mach.commitRefuse (m : Mach) (d : Desc) (st : Nat) (f : VFail) : Mach := (m.vfail f).commitDone d st f

/-- COMMIT_MAP (R108, R109, R111 to R113): accepted, it is exchanged at the end of the tick. DESIGN CHOICE: as with LOAD_MAP,
NOT_ENABLED (R41, item 3) and NOT_ACTIVE_ROLE (R111) come before NOT_VALID, ID_MISMATCH and the other codes of its checks, of status
RANGE, which R43 and R155 rank first (log entry 18). -/
def commitMap (d : Desc) (m : Mach) : Mach :=
  m.desc 0x0141 d (res := fun e => commitRes e (0, 0)) (fun d m => m.kilnOp (fun m =>
    let m := { m with kiln := { m.kiln with closed := true } }
    match firstOf [(!m.takes .kiln, stNOT_ENABLED), (!m.isActive, stNOT_ACTIVE_ROLE)] with
    | some st => m.commitDone d st (0, 0)
    | none =>
      match if m.stage == 2 then m.kiln.staged else none with
      | none => m.commitRefuse d stRANGE (0x0050, 0)
      | some new =>
        if new.mapId != Descs.fld d 16 4 || new.rev != Descs.fld d 20 4 then m.commitRefuse d stRANGE (0x0051, 0)
        else match m.claimedChanged new, m.axisRebound new with
          | some r, _ => m.commitRefuse d stRANGE (0x0052, r)
          | none, some a => m.commitRefuse d stBUSY (0x0053, a)
          | none, none => { m with kiln := { m.kiln with commit := some d } }))

def execCommitMap (d : Desc) (s : State) : Res := s.on (commitMap d)

/-- The registers of a unit that has no committed map (R119). -/
def Mach.hideMap (m : Mach) : Mach :=
  ((((((m.w KILN_MAP_STATUS_COMMITTED 0).w KILN_MAP_ID_ALL 0).w KILN_MAP_REV_ALL 0).w KILN_MAP_NODES_ALL 0).w
    KILN_MAP_SEGS_ALL 0).w KILN_MAP_GROUPS_ALL 0).w KILN_MAP_COMMIT_PT_ALL 0

/-- The registers that show the committed map. -/
def Mach.showMap (m : Mach) (mp : SiteMap) : Mach :=
  ((((((m.w KILN_MAP_STATUS_COMMITTED 1).w KILN_MAP_ID_ALL mp.mapId).w KILN_MAP_REV_ALL mp.rev).w
    KILN_MAP_NODES_ALL mp.nodes.length).w KILN_MAP_SEGS_ALL mp.segs.length).w KILN_MAP_GROUPS_ALL mp.groups).w
    KILN_MAP_COMMIT_PT_ALL m.pt

/-- The staged map becomes the committed one; the areas exchange roles (R108). -/
def Mach.exchangeMap (m : Mach) (mp : SiteMap) : Mach :=
  let m := { m with kiln := { m.kiln with map := some mp, staged := none } }
  ((m.w KILN_MAP_STATUS_AREA m.stagingArea).w KILN_MAP_STATUS_STAGE 0).showMap mp

/-- The write of R114 begins: the stored header is invalidated first, so that no image is stored meanwhile. -/
def Mach.persistStart (m : Mach) (mp : SiteMap) : Mach :=
  let m := { m with kiln := { m.kiln with persist := some mp.image, persistArea := m.r KILN_MAP_STATUS_AREA },
                    nv := { m.nv with mapImage := none } }
  m.w KILN_MAP_STATUS_PERSIST_BUSY 1

/-- MAP_AREA_EXCHANGE at the end of the commit's tick (R109). -/
def Mach.commitExchange (m : Mach) : Mach :=
  match m.kiln.commit with
  | none => m
  | some d =>
    let m := { m with kiln := { m.kiln with commit := none } }
    match m.kiln.staged with
    | none => m
    | some mp =>
      let m := m.exchangeMap mp
      let m := if Descs.fld d 24 1 % 2 == 1 then m else m.persistStart mp
      (m.event 0x0105 1 15 (le 4 mp.mapId ++ le 4 mp.rev)).commitDone d stOK (0, 0)

/-- MAP_PERSIST_DONE (R114): the header is written last; a LOAD_MAP that waited proceeds. -/
def mapPersistDone (m : Mach) : Mach :=
  match m.kiln.persist with
  | none => m
  | some img =>
    let w := m.kiln.loadWait
    let m := { m with kiln := { m.kiln with persist := none, loadWait := [] },
                      nv := { m.nv with mapImage := some img } }
    let m := m.w KILN_MAP_STATUS_PERSIST_BUSY 0
    m.each w Mach.loadChunk

def execMapPersistDone (s : State) : Res := s.on mapPersistDone

/-- MAP_RESTORE (R115): at start-up the stored image is checked and committed with an empty store. DESIGN CHOICE: where none
is committed the event's MAP_ID is that of KILN_MAP_ID, 0 (log entry 61). A validation failure shows as any other does
(R119). -/
def Mach.mapRestore (m : Mach) : Mach :=
  let fin := fun (m : Mach) (o : Nat) =>
    (m.w KILN_MAP_STATUS_RESTORE o).when (o != 1)
      (fun m => m.event 0x0104 2 15 (le 1 o ++ le 4 (m.r KILN_MAP_ID_ALL)))
  match m.nv.mapImage with
  | none => fin m 2
  | some l =>
    if leAt l 0 4 != 0x5250534A then fin m 2
    else if !imgCrcOk l then fin (m.vfail (0x0009, 60)) 3
    else match firstFail [headerFail l, hchk (l.length != imgLen l) 0x0005 32, recordFail l, (parseMap l).imageFail] with
      | some f => fin (m.vfail f) 4
      | none => fin (m.exchangeMap (parseMap l)) 1

/-! ### The rotating spare bank (R116 to R118) -/

/-- KILN_ROTATION_STEP: the spare is march-tested; one that fails is RETIRED and Kiln is DEGRADED at the end of the tick (R20); else it becomes
COPY_TARGET of the next logical bank and the copy runs to its end. DESIGN CHOICE: KILN_ROT_STATUS.SPARE names it until the
rename (log entry 61). -/
def kilnRotationStep (ok : Bool) (m : Mach) : Mach :=
  let sp := m.r KILN_ROT_STATUS_SPARE
  if sp > 16 || m.b KILN_ROT_STATUS_COPYING then m
  else if ok then
    let m := m.w KILN_BANK_PASSES (min (m.r KILN_BANK_PASSES sp + 1) 65535) sp
    let m := ((m.w KILN_BANK_ROLE 2 sp).w KILN_BANK_LOGICAL m.kiln.nextLogical sp).w KILN_ROT_STATUS_COPYING 1
    { m with kiln := { m.kiln with copyDone := some m.now } }
  else
    (((m.w KILN_BANK_ROLE 3 sp).w KILN_BANK_LOGICAL 0 sp).w KILN_ROT_STATUS_SPARE 31).raise 15 .degraded

/-- The physical bank in service for a logical bank. -/
def Mach.bankOf (m : Mach) (l : Nat) : Option Nat :=
  (List.range 17).find? (fun n => m.r KILN_BANK_ROLE n == 0 && m.r KILN_BANK_LOGICAL n == l)

/-- BANK_RENAME (R117): at the tick boundary after the copy the target serves the logical bank and the old bank becomes
the spare. -/
def bankRename (m : Mach) : Mach :=
  let sp := m.r KILN_ROT_STATUS_SPARE
  if !m.b KILN_ROT_STATUS_COPYING || !m.kiln.copyDone.any (fun t => t < m.now) then m
  else match m.bankOf m.kiln.nextLogical with
    | none => m
    | some old =>
      let m := (m.w KILN_BANK_ROLE 0 sp).w KILN_BANK_ROLE 1 old |>.w KILN_BANK_LOGICAL 0 old
      let m := ((m.w KILN_ROT_STATUS_SPARE old).w KILN_ROT_STATUS_COPYING 0).incBy KILN_ROT_STATUS_STEPS 1
      { m with kiln := { m.kiln with copyDone := none, nextLogical := (m.kiln.nextLogical + 1) % 16 } }

def execBankRename (s : State) : Res := s.on bankRename

end Sys2Proof.Machine
end

