-- ==== Sys2Proof/Machine/Kiln.lean ====
section
/-! DEFINITION. Kiln's operations: admission, paths, parked requests, releases, recovery, queries (04). -/

namespace Sys2Proof.Machine

open Sys2Proof

/-! ### The store -/

/-- Agents ahead of `i` in some queue: the agents it waits for (R127). -/
def KilnStore.waitsFor (k : KilnStore) (i : Nat) : List Nat :=
  (k.queues.flatMap (fun e => if e.2.contains i then e.2.takeWhile (fun a => a != i) else [])).dedup

/-- Agents reachable in the wait-for graph from a worklist, one agent's row a step (R136). -/
def KilnStore.reachable (k : KilnStore) : Nat → List Nat → List Nat → List Nat
  | 0, seen, _ => seen
  | _, seen, [] => seen
  | n + 1, seen, a :: l =>
    if seen.contains a then k.reachable n seen l else k.reachable n (a :: seen) (k.waitsFor a ++ l)

/-- Agents reachable from those listed. -/
def KilnStore.reach (k : KilnStore) (l : List Nat) : List Nat := k.reachable 300000 [] l

/-- The chain resources at an agent's front that it heads without a gap (R151, R162). -/
def KilnStore.headed (k : KilnStore) (mp : SiteMap) (i : Nat) : List Nat :=
  (k.agent i).chain.takeWhile (k.heads mp i)

/-- A path appended to a chain, the agent's entry at the tail of each queue in which it had none (R125, R138). -/
def KilnStore.grant (k : KilnStore) (mp : SiteMap) (i : Nat) (path : List Nat) : KilnStore :=
  { k with agents := Tabs.put k.agents i { k.agent i with chain := (k.agent i).chain ++ path },
           queues := (path.flatMap mp.groupsOf).foldl (fun q g =>
             let l := Tabs.val q [] g
             if l.contains i then q else Tabs.put q g (l ++ [i])) k.queues }

/-- Chain resources in the prefix of a record whose expiry has not passed (R128): the front of the chain up to the place
where the farthest of these prefixes ends. -/
def Mach.reachOf (m : Mach) (i : Nat) : List Nat :=
  let a := m.agent i
  let live := (a.issued.filter (fun e => diff32 m.pt e.2 < 0)).map (fun e => e.1)
  a.chain.take (live.max?.getD 0 - a.gone)

/-- A robot agent's chain ends at a resource. -/
def Mach.endOwner (m : Mach) (i res : Nat) : Option Nat :=
  (m.kiln.store.agents.find? (fun e => e.1 != i && (e.2.state == 2 || e.2.state == 3 || e.2.state == 4) &&
    e.2.chain.getLast? == some res)).map (fun e => e.1)

/-! ### RESULT of a refused descriptor (R129) -/

/-- Body bytes 16 to 17 and 20 to 23. -/
def kAgent (d : Desc) : Nat := Descs.fld d 16 2
def kRes (d : Desc) : Nat := Descs.fld d 20 4

/-- What a check of a path found: status, CONFLICT, OTHER (a reference), position in the path. -/
structure PathFail where
  st : Nat
  conflict : Nat
  other : Nat
  pos : Option Nat
deriving DecidableEq, Repr

/-- RESULT of RESERVE_PATH (R138). -/
def pathRes (outcome : Nat) (f : PathFail) (path : List Nat) (ticket len : Nat) : List Byte :=
  le 1 outcome ++ le 1 f.conflict ++ le 2 f.other ++
    (match f.pos with
     | some p => le 4 (path.getD p 0) ++ le 2 p
     | none => le 4 noRes ++ le 2 0xFFFF) ++ le 2 ticket ++ le 2 len

/-- Bytes 16 to 31 of QUERY_AGENT's RESULT, from a store (R151, R153). -/
def Mach.agentRow (m : Mach) (k : KilnStore) (i : Nat) : List Byte :=
  let a := k.agent i
  let headed := match m.kiln.map with
    | some mp => (k.headed mp i).length
    | none => 0
  le 2 (k.ref i) ++ le 1 a.state ++
    le 1 (b2n (m.agentLatched i) + 2 * b2n (k.park.any (fun p => p.idx == i)) + 4 * b2n a.held.isSome +
      8 * b2n (m.b KILN_SILENT_CFG_AUTOREL_EN)) ++
    le 2 a.chain.length ++ le 2 headed ++ le 4 (a.chain.headD noRes) ++ le 4 (a.chain.getLastD noRes)

/-- RESULT of QUERY_RESOURCE (R152); fields without a value are 0. -/
def Mach.resourceRow (m : Mach) (res gs : Nat) : List Byte :=
  match m.kiln.map with
  | none => []
  | some mp =>
    let groups := mp.groupsOf res
    let (tag, width, kind) := match mp.node res, mp.seg res with
      | some n, _ => (n.tag, 0, n.kind)
      | none, some s => (0, s.width, 0xFF)
      | none, none => (0, 0, 0)
    le 4 tag ++ le 1 (mp.zoneOf res) ++ le 1 groups.length ++ le 1 width ++ le 1 kind ++
      (match groups[gs]? with
       | none => []
       | some g =>
         let q := m.kiln.store.queue g
         le 4 g ++ le 1 q.length ++ le 2 (match q with
           | [] => 0
           | i :: _ => m.refOf i))

/-- RESULT of a Kiln descriptor that is refused, flushed or returned: its fields with nothing done (R129). -/
def Mach.denyRes (m : Mach) (d : Desc) : List Byte :=
  let i := refIdx (kAgent d)
  let a := m.agent i
  match d.op with
  | 0x0100 => le 2 (kAgent d) ++ le 1 a.state
  | 0x0101 => pathRes 0xFF ⟨0, 0, 0, none⟩ [] 0 a.chain.length
  | 0x0102 => le 2 0 ++ le 2 a.chain.length
  | 0x0103 => le 2 0 ++ le 2 a.chain.length
  | 0x0104 => le 1 1
  | 0x0105 => le 2 0 ++ le 2 a.chain.length
  | 0x0106 => le 2 0 ++ le 2 (mkRef i (a.gen + 1))
  | 0x0110 => m.agentRow m.kiln.store i
  | 0x0111 => m.resourceRow (kRes d) (Descs.fld d 18 1)
  | 0x0140 => m.loadRes (0, 0)
  | 0x0141 => commitRes d (0, 0)
  | _ => []

/-- RESULT of a descriptor of any block that ends so. -/
def Mach.refusedRes (m : Mach) (d : Desc) : List Byte :=
  if d.op / 256 == 1 then m.denyRes d else if d.op / 256 == 7 then m.motRes (Descs.fld d 16 1) else []

/-! ### Completions and shared checks (R155) -/

/-- Which KILN_DENY_k a status counts in (R160). -/
def denyIdx (st : Nat) : Option Nat :=
  if 0x10 ≤ st ∧ st ≤ 0x17 then some (st - 0x10) else if st = stSTALE_GENERATION then some 8
  else if st = stQUEUE_FULL then some 9 else none

/-- A Kiln descriptor completes; a refusal is counted. -/
def Mach.kilnDone (m : Mach) (d : Desc) (st : Nat) (res : List Byte) : Mach :=
  let m := match denyIdx st with
    | some k => m.inc KILN_DENY_ALL k
    | none => m
  m.complete d st res

/-- Checks 1 to 6 of R155. -/
def Mach.kilnPre (m : Mach) (bad query : Bool) : Option Nat :=
  firstOf [(bad, stRANGE), (!m.takes .kiln, stNOT_ENABLED), (!query && !m.isActive, stNOT_ACTIVE_ROLE),
    (!query && m.kiln.map.isNone, 0x14)]

/-- The reference's generation is not the current one. -/
def Mach.stale (m : Mach) (ref : Nat) : Bool := refGen ref != (m.agent (refIdx ref)).gen

/-- Whether an identifier names a resource of the committed map. -/
def Mach.known (m : Mach) (res : Nat) : Bool := m.kiln.map.any (fun mp => mp.has res)
def Mach.isHolding (m : Mach) (res : Nat) : Bool := m.kiln.map.any (fun mp => mp.holding res)

/-- The queue of a holding node's group. -/
def Mach.nodeQueue (m : Mach) (res : Nat) : List Nat :=
  match m.kiln.map with
  | some mp => (mp.groupsOf res).flatMap m.kiln.store.queue
  | none => []

/-! ### ADMIT (R131) -/

/-- The index is reserved by a pending join (R275). -/
def Mach.pendingIdx (m : Mach) (i : Nat) : Bool := (m.member i).any (fun x => x.pending)

/-- The view registers show the latest record of the selected index (R184, R185). -/
def Mach.authShow (m : Mach) : Mach :=
  let a := m.agent (m.r KILN_AUTH_SEL_INDEX)
  match a.lastRec with
  | none => ((m.wWord KILN_AUTH_VIEW_SEQ_AUTH_SEQ 0).w KILN_AUTH_VIEW_ASN_ALL 0).w KILN_AUTH_VIEW_EXP_ALL 0
      |>.w KILN_AUTH_VIEW_LIMIT_ALL 0
  | some r =>
    let m := ((m.w KILN_AUTH_VIEW_SEQ_AUTH_SEQ r.seq).w KILN_AUTH_VIEW_SEQ_COUNT r.path.length).w
      KILN_AUTH_VIEW_SEQ_FLAGS r.flags |>.w KILN_AUTH_VIEW_SEQ_VALID (b2n a.recSince)
    ((m.w KILN_AUTH_VIEW_ASN_ALL r.asn).w KILN_AUTH_VIEW_EXP_ALL r.expiry).w KILN_AUTH_VIEW_LIMIT_ALL r.limit

/-- ADMIT's checks in the order of R155. -/
def Mach.admitCheck (m : Mach) (d : Desc) : Option Nat :=
  let ref := kAgent d
  let i := refIdx ref
  let fix := Descs.fld d 18 1 == 1
  let fx := Descs.fld d 19 1
  let anchor := kRes d
  let st := (m.agent i).state
  match m.kilnPre (!refOk ref || Descs.fld d 18 1 > 1 || (fix && (fx > 15 || anchor != 0))) false with
  | some s => some s
  | none => firstOf [(m.stale ref, stSTALE_GENERATION),
      (st != (if fix then 0 else 1), 0x17),
      (!fix && !m.known anchor, 0x12),
      (!fix && !m.isHolding anchor, 0x11),
      ((fix && ((m.kiln.store.fixture fx).isSome || m.pendingIdx i)) || (!fix && !(m.nodeQueue anchor).isEmpty), stBUSY)]

/-- ADMIT. -/
def admitAgent (d : Desc) (m : Mach) : Mach :=
  m.desc 0x0100 d (res := m.denyRes) (fun d m => m.kilnOp (fun m =>
    let i := refIdx (kAgent d)
    match m.admitCheck d with
    | some st => m.kilnDone d st (le 2 (kAgent d) ++ le 1 (m.agent i).state)
    | none =>
      let a := m.agent i
      let k := m.kiln.store
      let fixed : Agent := { a with state := 6, fixture := Descs.fld d 19 1, chain := [] }
      let robot : Agent := { gen := a.gen, authSeq := a.authSeq, fixture := a.fixture, silentAt := a.silentAt, state := 2 }
      let put := fun (x : Agent) => { k with agents := Tabs.put k.agents i x }
      let m := if Descs.fld d 18 1 == 1 then m.setStore (put fixed)
        else match m.kiln.map with
          | some mp => m.setStore ((put robot).grant mp i [kRes d])
          | none => m
      m.authShow.kilnDone d stOK (le 2 (m.refOf i) ++ le 1 (m.agent i).state)))

def execAdmitAgent (d : Desc) (s : State) : Res := s.on (admitAgent d)

/-! ### RESERVE_PATH (R132 to R138) -/

/-- The path a descriptor names. -/
def Mach.pathOf (m : Mach) (d : Desc) : List Nat :=
  let n := Descs.fld d 19 1
  if Descs.buf d then (let l := m.bufRd d; (List.range n).map (fun k => leAt l (4 * k) 4))
  else (List.range n).map (fun k => Descs.fld d (24 + 4 * k) 4)

/-- R133 at position `p` of a robot's path after the node `prev`. -/
def pathStepBad (mp : SiteMap) (chainEnd : Nat) (path : List Nat) (p : Nat) : Bool :=
  let res := path.getD p 0
  let prev := if p = 0 then chainEnd else path.getD (p - 1) 0
  if p % 2 = 0 then
    match mp.seg res with
    | some s => resNode prev != some s.src
    | none => true
  else
    match mp.seg prev with
    | some s => resNode res != some s.dst
    | none => true

/-- The first position that breaks R133 or R134 (a robot's path of odd length at its last resource), repeats a resource or passes the chain limit. -/
def Mach.pathBad (m : Mach) (mp : SiteMap) (i : Nat) (path : List Nat) : Option Nat :=
  let a := m.agent i
  let fix := a.state == 6
  let lim := if fix then 4 else 128
  (List.range path.length).find? (fun p =>
    (if fix then !mp.binds.any (fun b => b.fixture == a.fixture && b.res == path.getD p 0)
     else pathStepBad mp (a.chain.getLastD 0) path p || (p + 1 == path.length && p % 2 == 0)) ||
    (path.take p).contains (path.getD p 0) || a.chain.length + p + 1 > lim)

/-- The groups in which an agent would gain an entry by taking a resource. -/
def KilnStore.newGroups (k : KilnStore) (mp : SiteMap) (i res : Nat) : List Nat :=
  (mp.groupsOf res).filter (fun g => !(k.queue g).contains i)

/-- The conflict checks of R135 against the store and earlier parked requests, with the steps of the cycle check. -/
def Mach.conflict (m : Mach) (mp : SiteMap) (i : Nat) (path : List Nat) (parked : List Parked) : Option PathFail × Nat :=
  let k := m.kiln.store
  match path.findIdx? (fun r => mp.holding r && (m.endOwner i r).isSome) with
  | some p => (some ⟨0x10, 1, (match m.endOwner i (path.getD p 0) with
      | some o => k.ref o
      | none => 0), some p⟩, 0)
  | none =>
    let groups := path.flatMap mp.groupsOf
    match parked.find? (fun q => q.idx != i && (q.path.flatMap mp.groupsOf).any groups.contains) with
    | some q =>
      let qg := q.path.flatMap mp.groupsOf
      (some ⟨0x10, 2, k.ref q.idx, path.findIdx? (fun r => (mp.groupsOf r).any qg.contains)⟩, 0)
    | none =>
      let full := fun r => (k.newGroups mp i r).find? (fun g => (k.queue g).length ≥ 8)
      match path.findIdx? (fun r => (full r).isSome) with
      | some p => (some ⟨stQUEUE_FULL, 4, (match full (path.getD p 0) with
          | some g => k.ref ((k.queue g).headD 0)
          | none => 0), some p⟩, 0)
      | none =>
        let ahead := (path.flatMap (fun r => (k.newGroups mp i r).flatMap k.queue)).dedup
        let steps := (k.reach ahead).length
        match (ahead.filter (fun b => (k.reach [b]).contains i)).min? with
        | some o => (some ⟨0x10, 3, k.ref o, path.findIdx? (fun r => (k.newGroups mp i r).any (fun g =>
            (k.queue g).contains o))⟩, steps)
        | none => (none, steps)

/-- Checks 1 to 12 of R155 on a RESERVE_PATH. -/
def Mach.pathCheck (m : Mach) (d : Desc) : Option PathFail :=
  let ref := kAgent d
  let i := refIdx ref
  let a := m.agent i
  let n := Descs.fld d 19 1
  let plain := fun st => some (⟨st, 0, 0, none⟩ : PathFail)
  match m.kilnPre (!refOk ref || n == 0 || n > 64 || (if Descs.buf d then decide (Descs.len d < 4 * n) else decide (n > 6)))
      false with
  | some st => plain st
  | none =>
    match firstOf [(m.stale ref, stSTALE_GENERATION),
        (!(a.state == 2 || a.state == 3 || a.state == 6) || (m.parkedOf i).isSome || a.held.isSome, 0x17),
        (a.state == 3 || m.agentLatched i, 0x13)] with
    | some st => plain st
    | none =>
      let path := m.pathOf d
      match m.kiln.map with
      | none => plain 0x14
      | some mp =>
        match path.findIdx? (fun r => !mp.has r) with
        | some p => some ⟨0x12, 0, 0, some p⟩
        | none => match m.pathBad mp i path with
          | some p => some ⟨0x15, 0, 0, some p⟩
          | none => if a.state != 6 && !mp.holding (path.getLastD 0) then some ⟨0x11, 0, 0, some (path.length - 1)⟩ else none

/-- A request is parked with a new ticket (R137, R139). -/
def Mach.park (m : Mach) (d : Desc) (i : Nat) (path : List Nat) (f : PathFail) : Mach :=
  let k := m.kiln.store
  let t := (k.parkCtr + 1) % 2 ^ 16
  let l := k.park ++ [⟨i, t, path, m.now, Descs.fld d 20 2, f.conflict⟩]
  let m := m.setStore { k with parkCtr := t, park := l }
  m.kilnDone d stOK (pathRes 1 f path t (m.agent i).chain.length)

/-- RESERVE_PATH. -/
def reservePath (d : Desc) (m : Mach) : Mach :=
  m.desc 0x0101 d (res := m.denyRes) (fun d m => m.kilnOp (fun m =>
    let i := refIdx (kAgent d)
    let path := m.pathOf d
    let deny := fun (m : Mach) (f : PathFail) => m.kilnDone d f.st (pathRes 0xFF f path 0 (m.agent i).chain.length)
    match m.pathCheck d, m.kiln.map with
    | some f, _ => deny m f
    | none, none => m
    | none, some mp =>
      let (c, steps) := m.conflict mp i path m.kiln.store.park
      let m := m.maxTo KILN_CYCLE_STEPS_MAX_ALL steps
      match c with
      | none =>
        let m := (m.setStore (m.kiln.store.grant mp i path)).inc KILN_GRANTS_ALL
        m.kilnDone d stOK (pathRes 0 ⟨stOK, 0, 0, none⟩ path 0 (m.agent i).chain.length)
      | some f =>
        if Descs.fld d 18 1 % 2 == 1 && f.conflict != 1 then
          if m.kiln.store.park.length < 64 then m.park d i path f else deny m { f with st := 0x16 }
        else deny m f))

def execReservePath (d : Desc) (s : State) : Res := s.on (reservePath d)

/-! ### Park service (R140, R141) -/

/-- The park service passes over requests it skips. -/
def Mach.parkAdvance (m : Mach) (mp : SiteMap) : Nat → Mach
  | 0 => m
  | n + 1 =>
    if m.parkSkipped mp m.kiln.parkPos then
      ({ m with kiln := { m.kiln with parkPos := m.kiln.parkPos + 1 } }).parkAdvance mp n
    else m

/-- The request at a position keeps its place with a new CONFLICT. -/
def Mach.parkKeep (m : Mach) (pos conflict : Nat) : Mach :=
  let k := m.kiln.store
  let m := m.setStore { k with park := modAt k.park pos (fun p => { p with conflict := conflict }) }
  { m with kiln := { m.kiln with parkPos := pos + 1 } }

/-- The unfinished park service of an earlier tick has reached the end of the list: this tick's begins (R130). -/
def Mach.parkTurn (m : Mach) (mp : SiteMap) : Mach :=
  if m.kiln.parkAgain && !m.parkLeft mp m.kiln.parkPos then
    { m with kiln := { m.kiln with parkPos := 0, parkAgain := false } }
  else m

/-- PARK_EVALUATION: the next request of this tick's park service. -/
def parkEvaluation (m : Mach) : Mach :=
  match m.kiln.map with
  | none => m
  | some mp =>
    let m := (m.parkTurn mp).parkAdvance mp 64
    let pos := m.kiln.parkPos
    match m.kiln.store.park[pos]? with
    | none => m
    | some p =>
      if !m.isActive || decide ((m.now : Int) ≤ p.tick) then m
      else m.kilnOp (st := .park) (fun m =>
        let (c, steps) := m.conflict mp p.idx p.path (m.kiln.store.park.take pos)
        let m := m.maxTo KILN_CYCLE_STEPS_MAX_ALL steps
        let m := match c with
          | none =>
            let m := (m.dropPark p.idx)
            let m := (m.setStore (m.kiln.store.grant mp p.idx p.path)).inc KILN_GRANTS_ALL
            m.parkEvent p 0 noRes
          | some f =>
            if f.conflict == 1 then m.withdrawPark p.idx 1 (match f.pos with
              | some q => p.path.getD q 0
              | none => noRes)
            else m.parkKeep pos f.conflict
        m.parkAdvance mp 64)

def execParkEvaluation (s : State) : Res := s.on parkEvaluation

/-- PARK_LIMIT_EXPIRY: at the end of park service PARK_LIMIT ticks after the request was parked. -/
def parkLimitExpiry (i : Nat) (m : Mach) : Mach :=
  match m.parkedOf i with
  | none => m
  | some p =>
    if p.limit != 0 && p.tick + p.limit ≤ m.now && m.parkDone then m.withdrawPark i 4 else m

def execParkLimitExpiry (a : Fin 512) (s : State) : Res := s.on (parkLimitExpiry a)

/-! ### Releasing (R142 to R145) -/

/-- `n` more resources have left the chain's front. -/
def Mach.addGone (m : Mach) (i n : Nat) : Mach :=
  let a := m.agent i
  m.setStore { m.kiln.store with agents := Tabs.put m.kiln.store.agents i { a with gone := a.gone + n } }

/-- The chain in front of a position released. -/
def Mach.releaseTo (m : Mach) (i p : Nat) : Mach :=
  let c := (m.agent i).chain
  (m.cutChain i (c.drop p) (c.take p)).addGone i (min p c.length)

/-- How far into the chain the prefix of the agent's latest record reaches; 0 where its limit node stands there no more. -/
def Agent.recordLen (a : Agent) : Nat :=
  match a.lastRec with
  | none => 0
  | some r =>
    let n := r.path.length - (a.gone - r.gone)
    if r.flags % 2 == 0 && 0 < n && a.chain[n - 1]? == some r.limit then n else 0

/-- REAR lies beyond the limit of the agent's latest record (R142, R164): a chain may name a resource twice, so the place
counts. -/
def Agent.beyond (a : Agent) (pos : Nat) : Bool := max 1 a.recordLen ≤ pos

/-- The LIMIT an agent's latest record shows. -/
def Agent.limit (a : Agent) : Nat := match a.lastRec with
  | some r => r.limit
  | none => noRes

/-- KILN_PROGRESS_REPORT: the next report in order of reception. -/
def kilnProgressReport (m : Mach) : Mach :=
  match m.kiln.reports with
  | [] => m
  | (ref, rear) :: rest => m.kilnOp (st := .report) (fun m =>
    let m := { m with kiln := { m.kiln with reports := rest } }
    let i := refIdx ref
    let a := m.agent i
    if !(a.state == 2 || a.state == 3) || m.stale ref then m.inc KILN_REPORT_IGNORED_ALL
    else match a.chain.findIdx? (fun x => x == rear) with
      | none => m.inc KILN_REPORT_IGNORED_ALL
      | some p =>
        if a.beyond p then
          ((m.inc KILN_LIMIT_PASSED_ALL).event 0x0102 3 15 (le 2 ref ++ le 4 rear ++ le 4 a.limit)).assertSource 7 0
            ⟨false, 0, 1#512 <<< i⟩
        else m.releaseTo i p)

def execKilnProgressReport (s : State) : Res := s.on kilnProgressReport

/-- RELEASE_BEHIND (R143). DESIGN CHOICE: of a fixture agent with ALL = 0 the rule says nothing; what stands in front of REAR's
first occurrence is released, as for a robot (log entry 61). -/
def releaseBehind (d : Desc) (m : Mach) : Mach :=
  m.desc 0x0102 d (res := m.denyRes) (fun d m => m.kilnOp (fun m =>
    let ref := kAgent d
    let i := refIdx ref
    let a := m.agent i
    let all := Descs.fld d 18 1 % 2 == 1
    let pos := if all then some (if a.state == 6 then a.chain.length else a.chain.length - 1)
      else a.chain.findIdx? (fun x => x == kRes d)
    let chk := match m.kilnPre (!refOk ref) false with
      | some st => some st
      | none => firstOf [(m.stale ref, stSTALE_GENERATION),
          (!(a.state == 2 || a.state == 3 || a.state == 6) || a.held.isSome, 0x17),
          (!all && !m.known (kRes d), 0x12), (pos.isNone, 0x15)]
    match chk, pos with
    | none, some p =>
      let m := m.releaseTo i p
      m.kilnDone d stOK (le 2 p ++ le 2 (m.agent i).chain.length)
    | some st, _ => m.kilnDone d st (le 2 0 ++ le 2 a.chain.length)
    | none, none => m))

def execReleaseBehind (d : Desc) (s : State) : Res := s.on (releaseBehind d)

/-- The position of the last occurrence of a resource in a chain. -/
def lastIdx (l : List Nat) (r : Nat) : Option Nat :=
  (l.reverse.findIdx? (fun x => x == r)).map (fun p => l.length - 1 - p)

/-- TRUNCATE (R144). -/
def truncate (d : Desc) (m : Mach) : Mach :=
  m.desc 0x0103 d (res := m.denyRes) (fun d m => m.kilnOp (fun m =>
    let ref := kAgent d
    let i := refIdx ref
    let a := m.agent i
    let e := kRes d
    let p := (lastIdx a.chain e).getD 0
    let gone := a.chain.drop (p + 1)
    let chk := match m.kilnPre (!refOk ref) false with
      | some st => some st
      | none => firstOf [(m.stale ref, stSTALE_GENERATION), (a.state != 2 || a.held.isSome, 0x17), (!m.known e, 0x12),
          (p == 0, 0x15), (!m.isHolding e, 0x11), (decide (p + 1 < (m.reachOf i).length), stBUSY)]
    match chk with
    | some st => m.kilnDone d st (le 2 0 ++ le 2 a.chain.length)
    | none =>
      let parked := (m.parkedOf i).isSome
      let m := (m.cutChain i (a.chain.take (p + 1)) gone).withdrawPark i 5
      m.kilnDone d stOK (le 2 gone.length ++ le 2 (p + 1) ++ le 1 (b2n parked))))

def execTruncate (d : Desc) (s : State) : Res := s.on (truncate d)

/-- CANCEL (R145). -/
def cancel (d : Desc) (m : Mach) : Mach :=
  m.desc 0x0104 d (res := m.denyRes) (fun d m => m.kilnOp (fun m =>
    let ref := kAgent d
    let i := refIdx ref
    let a := m.agent i
    let chk := match m.kilnPre (!refOk ref) false with
      | some st => some st
      | none => firstOf [(m.stale ref, stSTALE_GENERATION),
          (!(a.state == 2 || a.state == 3 || a.state == 6) || a.held.isSome, 0x17)]
    match chk with
    | some st => m.kilnDone d st (m.denyRes d)
    | none => match m.parkedOf i with
      | some p => (m.dropPark i).kilnDone d stOK (le 2 0 ++ le 2 p.ticket)
      | none => m.kilnDone d stOK (le 1 1)))

def execCancel (d : Desc) (s : State) : Res := s.on (cancel d)

/-! ### RECOVER and RETIRE (R146 to R150) -/

/-- RECOVER from check 10 of R155 onwards. -/
def Mach.recoverCheck (m : Mach) (d : Desc) : Option Nat :=
  let i := refIdx (kAgent d)
  let pos := kRes d
  let reloc := Descs.fld d 18 1 == 1
  firstOf [(!m.known pos, 0x12),
    (!reloc && !(m.agent i).chain.contains pos, 0x15),
    (reloc && !m.isHolding pos, 0x11),
    (reloc && (m.nodeQueue pos).any (fun a => a != i), stBUSY),
    (reloc && (m.endOwner i pos).isSome, 0x10)]

/-- RECOVER takes effect (R147). -/
def Mach.recoverDo (m : Mach) (d : Desc) : Mach :=
  let i := refIdx (kAgent d)
  let pos := kRes d
  let a := m.agent i
  let since := a.recSince && a.state == 2
  let upd := fun (m : Mach) => (m.setStore { m.kiln.store with
    agents := Tabs.put m.kiln.store.agents i { m.agent i with state := 2, held := none, recSince := since } }).authShow
  let m := m.withdrawPark i 5
  if Descs.fld d 18 1 == 1 then
    let m := match m.kiln.map with
      | some mp => m.setStore (m.kiln.store.grant mp i [pos])
      | none => m
    let m := upd ((m.cutChain i [pos] a.chain).addGone i a.chain.length)
    let n := a.chain.length - (if a.chain.contains pos then 1 else 0)
    m.kilnDone d stOK (le 2 n ++ le 2 1)
  else
    let p := (a.chain.findIdx? (fun x => x == pos)).getD 0
    let m := upd (m.releaseTo i p)
    m.kilnDone d stOK (le 2 p ++ le 2 (m.agent i).chain.length)

/-- An operation held until the reach is empty (R146). -/
def Mach.holdOp (m : Mach) (i : Nat) (h : Held) : Mach :=
  m.setStore { m.kiln.store with agents := Tabs.put m.kiln.store.agents i { m.agent i with held := some h } }

/-- RECOVER. -/
def recover (d : Desc) (m : Mach) : Mach :=
  m.desc 0x0105 d (res := m.denyRes) (fun d m => m.kilnOp (fun m =>
    let ref := kAgent d
    let i := refIdx ref
    let a := m.agent i
    let chk := match m.kilnPre (!refOk ref || Descs.fld d 18 1 > 1) false with
      | some st => some st
      | none => match firstOf [(m.stale ref, stSTALE_GENERATION),
          (!(a.state == 3 || (a.state == 2 && m.agentLatched i)) || a.held.isSome, 0x17)] with
        | some st => some st
        | none => m.recoverCheck d
    match chk with
    | some st => m.kilnDone d st (le 2 0 ++ le 2 a.chain.length)
    | none => if (m.reachOf i).isEmpty then m.recoverDo d else m.holdOp i (.recover d)))

def execRecover (d : Desc) (s : State) : Res := s.on (recover d)

/-- RESULT of RETIRE (R148): resources released and the reference after quarantine. -/
def Mach.retireRes (m : Mach) (i : Nat) : List Byte :=
  let a := m.agent i
  le 2 a.chain.length ++ le 2 (mkRef i (a.gen + 1))

/-- The Air region's authority entry of an index is emptied (R300). -/
def Mach.dropAuth (m : Mach) (i : Nat) : Mach := m.setTab { m.air.tab with auth := Tabs.del m.air.tab.auth i }

/-- RETIRING; the parked request goes at once, the index has left ADMITTED (R148, R300). -/
def Mach.retireBegin (m : Mach) (i : Nat) : Mach :=
  let m := (m.withdrawPark i 5).dropAuth i
  m.setStore { m.kiln.store with agents := Tabs.put m.kiln.store.agents i { m.agent i with state := 4 } }

/-- RETIRE. -/
def retire (d : Desc) (m : Mach) : Mach :=
  m.desc 0x0106 d (res := m.denyRes) (fun d m => m.kilnOp (fun m =>
    let ref := kAgent d
    let i := refIdx ref
    let a := m.agent i
    let chk := match m.kilnPre (!refOk ref) false with
      | some st => some st
      | none => firstOf [(m.stale ref, stSTALE_GENERATION),
          (!(a.state == 2 || a.state == 3 || a.state == 6) || a.held.isSome, 0x17)]
    match chk with
    | some st => m.kilnDone d st (m.denyRes d)
    | none =>
      let res := m.retireRes i
      let m := m.retireBegin i
      if a.state == 6 || (m.reachOf i).isEmpty then (m.quarantine i 0).kilnDone d stOK res else m.holdOp i (.retire d)))

def execRetire (d : Desc) (s : State) : Res := s.on (retire d)

/-- An automatic release takes effect: AUTO_RELEASE with AGENT and resources released (R150). -/
def Mach.autoDo (m : Mach) (i : Nat) : Mach :=
  let ref := m.refOf i
  let n := (m.agent i).chain.length
  (m.quarantine i 0).event 0x0103 2 15 (le 2 ref ++ le 2 n)

/-- HELD_OPERATION_EFFECT (R146): the reach has become empty. -/
def heldOperationEffect (i : Nat) (m : Mach) : Mach :=
  let a := m.agent i
  if !(m.reachOf i).isEmpty || !m.isActive then m
  else match a.held with
    | none => m
    | some (.recover d) =>
      (match m.recoverCheck d with
       | some st =>
         let m := m.setStore { m.kiln.store with agents := Tabs.put m.kiln.store.agents i { a with held := none } }
         m.kilnDone d st (le 2 0 ++ le 2 a.chain.length)
       | none => m.recoverDo d)
    | some (.retire d) => (m.quarantine i 0).kilnDone d stOK (m.retireRes i)
    | some .auto => m.autoDo i

def execHeldOperationEffect (a : Fin 512) (s : State) : Res := s.on (heldOperationEffect a)

/-- AUTO_RELEASE (R150): SILENT for AUTOREL_S seconds with automatic release armed and nothing held. DESIGN CHOICE: the spec does
not say whether it still runs while KILN_CTRL.ENABLE reads 0 or Kiln drains; it does (log entry 61). -/
def autoRelease (i : Nat) (m : Mach) : Mach :=
  let a := m.agent i
  if m.b KILN_SILENT_CFG_AUTOREL_EN && a.state == 3 && a.held.isNone && m.isActive &&
      a.silentAt + 1000 * m.r KILN_SILENT_CFG_AUTOREL_S ≤ m.now then
    let m := m.retireBegin i
    if (m.reachOf i).isEmpty then m.autoDo i else m.holdOp i .auto
  else m

def execAutoRelease (a : Fin 512) (s : State) : Res := s.on (autoRelease a)

/-- AGENT_SILENT (R149): the chain is frozen, the parked request withdrawn. -/
def Mach.agentSilent (m : Mach) (i : Nat) : Mach :=
  let m := (m.withdrawPark i 2).dropAuth i
  m.setStore { m.kiln.store with
    agents := Tabs.put m.kiln.store.agents i { m.agent i with state := 3, silentAt := m.now } }

/-- AUTHORITY_EXPIRY (R171, R300): records whose EXPIRY_PT PT has reached leave the reach and the Air entry. -/
def authorityExpiry (i : Nat) (m : Mach) : Mach :=
  let a := m.agent i
  let dead := fun e => decide (diff32 m.pt e ≥ 0)
  let m := if a.issued.any (fun e => dead e.2) then
      m.setStore { m.kiln.store with
        agents := Tabs.put m.kiln.store.agents i { a with issued := a.issued.filter (fun e => !dead e.2) } }
    else m
  match Tabs.look m.air.tab.auth i with
  | some e => if dead e.record.expiry then m.dropAuth i else m
  | none => m

def execAuthorityExpiry (a : Fin 512) (s : State) : Res := s.on (authorityExpiry a)

/-! ### Queries and snapshots (R151 to R153) -/

/-- QUERY_AGENT. -/
def queryAgent (d : Desc) (m : Mach) : Mach :=
  m.desc 0x0110 d (res := m.denyRes) (fun d m => m.kilnOp (fun m =>
    let ref := kAgent d
    let chk := match m.kilnPre (!refOk ref) true with
      | some st => some st
      | none => firstOf [(Descs.fld d 18 1 % 2 == 0 && m.stale ref, stSTALE_GENERATION)]
    match chk with
    | some st => m.kilnDone d st (m.denyRes d)
    | none => m.kilnDone d stOK (m.agentRow m.kiln.store (refIdx ref))))

def execQueryAgent (d : Desc) (s : State) : Res := s.on (queryAgent d)

/-- QUERY_RESOURCE. -/
def queryResource (d : Desc) (m : Mach) : Mach :=
  m.desc 0x0111 d (res := m.denyRes) (fun d m => m.kilnOp (fun m =>
    let res := kRes d
    let gs := Descs.fld d 18 1
    let past := m.kiln.map.any (fun mp => mp.has res && decide ((mp.groupsOf res).length ≤ gs))
    match m.kilnPre (gs > 3 || past) true with
    | some st => m.kilnDone d st (m.denyRes d)
    | none => m.kilnDone d (if m.known res then stOK else 0x12) (m.denyRes d)))

def execQueryResource (d : Desc) (s : State) : Res := s.on (queryResource d)

/-- The bytes of a SNAPSHOT section; `none` where the selection lies outside its table (R153). -/
def Mach.section_ (m : Mach) (sec first number : Nat) : Option (List Byte) :=
  let k := m.kiln.store
  let rows := (List.range number).map (fun n => first + n)
  match sec with
  | 0 => if first + number ≤ 512 then some (rows.flatMap (m.agentRow k)) else none
  | 1 => some (k.park.flatMap (fun p => le 2 (k.ref p.idx) ++ le 2 p.ticket ++ le 1 p.path.length ++ le 1 p.conflict ++
      le 2 ((m.now : Int) - p.tick).toNat ++ p.path.flatMap (le 4)))
  | 2 => if first + number ≤ 512 then
      some (rows.flatMap (fun a => le 64 ((k.waitsFor a).map (fun b => 2 ^ b)).sum)) else none
  | 3 => if first + number ≤ m.r KILN_MAP_GROUPS_ALL then
      some (rows.flatMap (fun g =>
        (((k.queue g).map k.ref ++ List.replicate 8 0).take 8).flatMap (le 2))) else none
  | _ => none

/-- SNAPSHOT: taken from the store at the end of its tick. DESIGN CHOICE: R153 gives no status for one without FLAGS.BUF; it is
RANGE (log entry 61). -/
def snapshot (d : Desc) (m : Mach) : Mach :=
  m.desc 0x0120 d (res := m.denyRes) (fun d m => m.kilnOp (fun m =>
    let sec := Descs.fld d 18 1
    let first := kRes d
    let number := Descs.fld d 24 4
    let short := match m.section_ sec first number with
      | some l => sec != 1 && l.length > Descs.len d
      | none => true
    match m.kilnPre (!Descs.buf d || sec > 3 || short) true with
    | some st => m.kilnDone d st []
    | none => { m with kiln := { m.kiln with snaps := m.kiln.snaps ++ [⟨d, sec, first, number⟩] } }))

def execSnapshot (d : Desc) (s : State) : Res := s.on (snapshot d)

/-- The snapshots asked for in the tick that ends are written and completed. -/
def Mach.writeSnaps (m : Mach) : Mach :=
  let l := m.kiln.snaps
  let m := { m with kiln := { m.kiln with snaps := [] } }
  m.each l (fun m r => match m.section_ r.sec r.first r.number with
    | some bytes => if bytes.length > Descs.len r.d then m.kilnDone r.d stRANGE []
        else (m.bufWr r.d 0 bytes).kilnDone r.d stOK []
    | none => m.kilnDone r.d stRANGE [])

/-! ### Draining (R41, R159) -/

/-- The descriptors of an opcode set delivered to their block and not held by it complete with a status. -/
def Mach.flushDelivered (m : Mach) (p : Desc → Bool) (st : Nat) : Mach :=
  m.each (m.allDelivered.filter p) (fun m d => m.complete d st (m.refusedRes d))

/-- Descriptors Kiln holds: held operations, the waiting LOAD_MAP, the accepted COMMIT_MAP, snapshots. DESIGN CHOICE: R41 does not
say whether a LOAD_MAP that waits for PERSIST_BUSY (R114) is work already started; it is held, and the drain waits for it (log
entry 61). -/
def Mach.kilnHolds (m : Mach) : List Desc :=
  m.kiln.store.agents.filterMap (fun e => match e.2.held with
    | some (.recover d) => some d
    | some (.retire d) => some d
    | _ => none) ++ m.kiln.loadWait ++ m.kiln.commit.toList ++ m.kiln.snaps.map (fun r => r.d)

/-- KILN_CTRL.ENABLE written 0: queued descriptors FLUSHED, parked requests withdrawn with outcome 3, no authority built from
here on (R159, R167). -/
def Mach.kilnDrain (m : Mach) : Mach :=
  let held := m.kilnHolds
  let m := { m with kiln := { m.kiln with build := [], signed := [], signing := false } }
  let m := m.flushDelivered (fun d => d.target == 1 && !held.contains d) stFLUSHED
  m.each (m.kiln.store.park.map (fun p => p.idx)) (fun m i => m.withdrawPark i 3)

end Sys2Proof.Machine
end

