-- ==== Sys2Proof/Machine/Authority.lean ====
section
/-! DEFINITION. The authority builder and the fixture interlocks (05). -/

namespace Sys2Proof.Machine

open Sys2Proof

/-- R167. -/
def Mach.signingOk (m : Mach) : Bool :=
  m.isActive && m.takes .kiln && m.kiln.map.isSome && m.stepped && m.kiln.key.isSome

/-- KILN_AUTH_STATUS.SIGNING follows (R184). -/
def Mach.signShow (m : Mach) : Mach := m.wb KILN_AUTH_STATUS_SIGNING m.signingOk

/-- The nodes among a prefix's candidates decide where it ends (R162): everything after the last node is left out. -/
def toLastNode (l : List Nat) : List Nat := (l.reverse.dropWhile (fun r => (resNode r).isNone)).reverse

/-- What a record holds before it is numbered and signed (R162 to R166, R169). -/
def Mach.recordOf (m : Mach) (mp : SiteMap) (k : KilnStore) (i : Nat) : AuthRec :=
  let a := k.agent i
  let stop := m.agentLatched i
  let prefix_ := if stop then [] else toLastNode ((k.headed mp i).take 24)
  let still := prefix_.isEmpty
  let zoneCap := fun (z : Nat) => m.r KILN_AUTH_ZONE_CAP_CAP z
  let caps := (prefix_.filterMap (fun r => (mp.seg r).map (fun s => s.cap))) ++
    ((prefix_.map mp.zoneOf).map zoneCap).filter (fun c => c != 0) ++ [m.r KILN_AUTH_SITE_CAP_CAP]
  let zones := if still then (a.chain.take 1).map mp.zoneOf else prefix_.map mp.zoneOf
  { flags := b2n still + 2 * b2n stop + 4 * b2n (!still && prefix_.length == a.chain.length)
    ref := k.ref i
    seq := 0
    asn := m.asn
    keyId := m.r KILN_AUTH_STATUS_KEY_ID
    expiry := (m.pt + m.r KILN_AUTH_CFG_EXPIRY_MS) % 2 ^ 32
    limit := if still then noRes else prefix_.getLastD noRes
    cap := if still then 0 else caps.min?.getD 0
    path := prefix_
    zones := (zones.dedup.map (fun z => 2 ^ z)).sum
    mic := 0
    gone := a.gone }

/-- The record says nothing new against the last one built (R168). -/
def AuthRec.same (a b : AuthRec) : Bool :=
  a.flags == b.flags && a.limit == b.limit && a.cap == b.cap && a.path == b.path && a.zones == b.zones

/-- The records of a slot, each with whether it is a changed record (R168, R300): for agents ADMITTED in the settled
snapshot. -/
def Mach.slotRecords (m : Mach) (first : Bool) : List (AuthRec × Bool) :=
  match m.kiln.settledMap with
  | none => []
  | some mp =>
    let k := m.kiln.settled
    (k.agents.filter (fun e => e.2.state == 2)).filterMap (fun e =>
      let r := m.recordOf mp k e.1
      let changed := first || (match (m.agent e.1).lastRec with
        | none => true
        | some o => !o.same r || o.keyId != r.keyId)
      if changed || m.asn % 250 == e.1 % 250 then some (r, changed) else none)

/-- The bytes of an authority IE before its MIC (R179). -/
def AuthRec.head (r : AuthRec) : List Byte :=
  le 1 1 ++ le 1 r.flags ++ le 2 r.ref ++ le 2 r.seq ++ le 5 r.asn ++ le 1 r.keyId ++ le 4 r.expiry ++ le 4 r.limit ++
    le 2 r.cap ++ le 1 r.path.length ++ le 1 0 ++ le 8 r.zones ++ r.path.flatMap (le 4)

/-- The authority IE content (R179). -/
def AuthRec.content (r : AuthRec) : List Byte := r.head ++ le 8 r.mic

/-- The nonce of R176. -/
def AuthRec.nonce (r : AuthRec) : List Byte :=
  (le 5 r.asn).reverse ++ (le 2 r.ref).reverse ++ (le 2 r.seq).reverse ++ le 3 0 ++ le 1 2

/-- A slot begins (R128, R169): its records join the reach of their agents now. -/
def Mach.builderSlot (m : Mach) : Mach :=
  let ok := m.signingOk
  let l := if ok then m.slotRecords (!m.kiln.signing) else []
  let k := m.kiln.store
  let issue := fun (t : Tab Agent) (e : AuthRec × Bool) =>
    let i := refIdx e.1.ref
    let a := Tabs.val t {} i
    if e.1.path.isEmpty then t else Tabs.put t i { a with issued := a.issued ++ [(a.gone + e.1.path.length, e.1.expiry)] }
  let m := { m with kiln := { m.kiln with build := l, signed := [], slotPt := m.pt, slotBuilt := 0, signing := ok } }
  m.setStore { k with agents := l.foldl issue k.agents }

/-- A record numbered and signed (R176, R177). -/
def Mach.signOne (m : Mach) (e : AuthRec × Bool) : Mach :=
  let i := refIdx e.1.ref
  let a := m.agent i
  let r := { e.1 with seq := (a.authSeq + 1) % 2 ^ 16 }
  let r := { r with mic := ccmMic (m.kiln.key.getD 0) r.nonce r.head [] }
  let m := m.setStore { m.kiln.store with
    agents := Tabs.put m.kiln.store.agents i { a with authSeq := r.seq, lastRec := some r, recSince := true } }
  let n := m.kiln.slotBuilt + 1
  ({ m with kiln := { m.kiln with signed := m.kiln.signed ++ [(r, e.2)], slotBuilt := n } }).maxTo
    KILN_AUTH_SLOT_MAX_ALL n

/-- The builder's work of a tick (R167, R169): up to 128 records in ascending index; nothing while R167 does not hold. -/
def Mach.builderTick (m : Mach) : Mach :=
  let m := m.signShow
  if m.signingOk then
    let now := m.kiln.build.take 128
    let m := { m with kiln := { m.kiln with build := m.kiln.build.drop 128 } }
    (m.each now Mach.signOne).authShow
  else { m with kiln := { m.kiln with build := [], signed := [], signing := false } }

/-- A checked record is released to the Air region (R169, R300). -/
def Mach.releaseRecord (m : Mach) (e : AuthRec × Bool) : Mach :=
  let i := refIdx e.1.ref
  let m := (m.inc KILN_AUTH_BUILT_ALL).when (e.1.flags % 2 == 1) (fun m => m.inc KILN_AUTH_STANDSTILL_ALL)
  if (m.agent i).state == 2 then
    let m := m.when ((Tabs.look m.air.tab.auth i).any (fun x => x.owed > 0)) (fun m => m.inc AIR_AUTH_SUPERSEDED_ALL)
    let ent : AuthEnt := ⟨e.1, e.2, if e.2 then m.r AIR_TX_CFG_AUTH_REPEAT else 1, false, (m.kiln.slotPt + 2 ^ 32 - 1) % 2 ^ 32, m.now + 1⟩
    m.setTab { m.air.tab with auth := Tabs.put m.air.tab.auth i ent }
  else m

/-- The S1 pair recomputes the records signed in the tick that ends (R170): one that differs is withheld and is an
uncorrectable error of the builder. Signing that R167 has ended leaves none. -/
def Mach.builderCheck (m : Mach) (bad : List Nat) : Mach :=
  let l := if m.signingOk then m.kiln.signed else []
  let wrong := l.filter (fun e => bad.contains (refIdx e.1.ref))
  let m := { m with kiln := { m.kiln with signed := l.filter (fun e => !bad.contains (refIdx e.1.ref)) } }
  m.each wrong (fun m _ =>
    (m.inc KILN_AUTH_CHK_FAIL_ALL).uncorrectable 16 none false)

/-- The records left are released (R169, R300). -/
def Mach.builderRelease (m : Mach) : Mach :=
  let l := m.kiln.signed
  let m := { m with kiln := { m.kiln with signed := [] } }
  m.each l Mach.releaseRecord

/-- The authority key slot and KEY_ID (R173); MRAM keeps the identifier (R175). -/
def Mach.setAuthKey (m : Mach) (key id : Nat) : Mach :=
  let m := { m with kiln := { m.kiln with key := some key }, nv := { m.nv with keyId := some id } }
  (m.w KILN_AUTH_STATUS_KEY_VALID 1).w KILN_AUTH_STATUS_KEY_ID id

/-- The beacon key slot and BK_ID (R261). -/
def Mach.setBeaconKey (m : Mach) (key id : Nat) : Mach :=
  let m := { m with air := { m.air with bkey := some key }, nv := { m.nv with bkId := some id } }
  (m.w AIR_KEY_STATUS_BK_VALID 1).w AIR_KEY_STATUS_BK_ID id

/-- The next identifier: the last one plus 1, wrapping from 255 to 1; from the random source where none is recorded
(R174, R175). -/
def nextKeyId (last : Option Nat) (rnd : Nat) : Nat :=
  match last with
  | some p => p % 255 + 1
  | none => rnd % 255 + 1

/-- AUTHORITY_KEY_GENERATE (R174, R261): each key that is missing is drawn; a cold takeover replaces both. -/
def Mach.newKeys (m : Mach) (cold : Bool) : Mach :=
  let m := if cold || m.kiln.key.isNone then
      let (k, m) := m.draw
      let (r, m) := m.draw
      m.setAuthKey (k % 2 ^ 128) (nextKeyId m.nv.keyId r)
    else m
  if cold || m.air.bkey.isNone then
    let (k, m) := m.draw
    let (r, m) := m.draw
    m.setBeaconKey (k % 2 ^ 128) (nextKeyId m.nv.bkId r)
  else m

/-- The interlock of an axis or dock, from the settled snapshot (R181). -/
def Mach.interlock (m : Mach) (kind unit : Nat) : Bool :=
  m.isActive && m.takes .kiln &&
  (match m.kiln.settledMap.bind (fun mp => (mp.bindOf kind unit).map (fun b => (mp, b))) with
   | some (mp, b) => (match m.kiln.settled.fixture b.fixture with
     | some i => (m.kiln.settled.agent i).chain.contains b.res && m.kiln.settled.heads mp i b.res
     | none => false)
   | none => false)

/-- KILN_FIX_ILK and each axis's ILK for the tick that begins; falls are counted (R181, R183, R524). -/
def Mach.interlocks (m : Mach) : Mach :=
  let old := m.r KILN_FIX_ILK_AXIS + 256 * m.r KILN_FIX_ILK_DOCK
  let ax := (List.range 8).filter (m.interlock 1)
  let dk := (List.range 16).filter (m.interlock 2)
  let m := (m.w KILN_FIX_ILK_AXIS (ax.map (fun a => 2 ^ a)).sum).w KILN_FIX_ILK_DOCK (dk.map (fun k => 2 ^ k)).sum
  let m := m.each (List.range 8) (fun m a => m.wb MOT_AX_STATUS_ILK (ax.contains a) a)
  let new := m.r KILN_FIX_ILK_AXIS + 256 * m.r KILN_FIX_ILK_DOCK
  m.incBy KILN_FIX_ILK_DROPS_ALL ((List.range 24).filter (fun b => old.testBit b && !new.testBit b)).length

/-- Kiln settles its snapshot at the end of a tick (R162). -/
def Mach.kilnSettle (m : Mach) : Mach :=
  { m with kiln := { m.kiln with settled := m.kiln.store, settledMap := m.kiln.map } }

end Sys2Proof.Machine
end

