-- ==== Sys2Proof/Machine/Stream.lean ====
section
/-! DEFINITION. The stream queues (14, R456 to R459). What a consumer takes inside a tick is not modelled: it takes every word by
the next tick (log entry 49). -/

namespace Sys2Proof.Machine

open Sys2Proof

/-- Bytes of one write of a queue's producer (R456): 32 bits of the lanes, the Ethernet ports, the mate link and the captures, 8
of the serial ports, 16 of the metering front end. -/
def streamWidth (q : Nat) : Nat := if 11 ≤ q && q ≤ 17 then 1 else if 18 ≤ q && q ≤ 21 then 2 else 4

/-- A queue whose producer the model holds: the metering front end and the captures. What the others write comes in with the
commands. -/
def streamOwn (q : Nat) : Bool := 18 ≤ q && q ≤ 22

/-- Bytes packed into words of 32; the last, partial one padded and tagged. -/
def packWords (close : Bool) : Nat → List Byte → List StreamWord
  | 0, _ => []
  | fuel + 1, l =>
    if l.length < 32 then
      if l.isEmpty && !close then []
      else [⟨l ++ List.replicate (32 - l.length) 0, l.length, close⟩]
    else ⟨l.take 32, 32, false⟩ :: packWords close fuel (l.drop 32)

def Mach.streamQ (m : Mach) (q : Nat) : StreamQ := Tabs.val m.sag.streams {} q

/-- A queue's content, and its status: of its words the first 16 are buffered, and those beyond wait with the producer, which never
writes while FULL reads 1 (R459). -/
def Mach.setStream (m : Mach) (q : Nat) (x : StreamQ) : Mach :=
  let m := { m with sag := { m.sag with streams := Tabs.put m.sag.streams q x } }
  ((m.w SAG_SQ_STATUS_LEVEL (min x.words.length 16) q).wb SAG_SQ_STATUS_FULL (decide (16 ≤ x.words.length)) q).wb
    SAG_SQ_STATUS_EMPTY x.words.isEmpty q

/-- Bytes are written: a word passes when its 32 bytes are filled (R457). Queues 23 to 31 are not used. -/
def Mach.streamWrite (m : Mach) (q : Nat) (data : List Byte) : Mach :=
  if 23 ≤ q then m
  else
    let x := m.streamQ q
    let l := x.part ++ data
    let n := 32 * (l.length / 32)
    m.setStream q { words := x.words ++ packWords false (n + 1) (l.take n), part := l.drop n }

/-- The partial word passes, padded: at a close, or as the producer falls idle (R458). -/
def Mach.streamEnd (m : Mach) (q : Nat) (close : Bool) : Mach :=
  if 23 ≤ q then m
  else
    let x := m.streamQ q
    m.setStream q { words := x.words ++ packWords close 1 x.part, part := [] }

/-- STREAM_CLOSE (R458): after the bytes written since the last command about the queue. -/
def streamClose (q : Nat) (data : List Byte) (m : Mach) : Mach :=
  (m.when (!streamOwn q) (fun m => m.streamWrite q data)).streamEnd q true

def execStreamClose (q : Fin 32) (data : List Byte) (s : State) : Res := s.on (streamClose q data)

/-- STREAM_IDLE_TIMEOUT (R458): IDLE_CYC cycles have passed since the last of these bytes was written, in whole writes; a partial word
passes, unless the timeout is off. -/
def streamIdleTimeout (q : Nat) (data : List Byte) (m : Mach) : Mach :=
  let w := streamWidth q
  let m := m.when (!streamOwn q) (fun m => m.streamWrite q (data.take (w * (data.length / w))))
  if m.r SAG_SQ_IDLE_IDLE_CYC q == 0 || (m.streamQ q).part.isEmpty then m else m.streamEnd q false

def execStreamIdleTimeout (q : Fin 32) (data : List Byte) (s : State) : Res := s.on (streamIdleTimeout q data)

/-- The consumer takes a queue's words. -/
def Mach.streamTake (m : Mach) (q : Nat) : Mach :=
  let x := m.streamQ q
  if x.words.isEmpty then m
  else ((m.setStream q { x with words := [] }).each x.words (fun m w => m.emit (.stream q w))).incBy SAG_SQ_WORDS_ALL x.words.length q

/-- The consumers take what waits, each tick. -/
def Mach.streamsTick (m : Mach) : Mach := m.each (m.sag.streams.map (fun e => e.1)) Mach.streamTake

end Sys2Proof.Machine
end

