-- ==== Sys2Proof/Machine/Meter.lean ====
section
/-! DEFINITION. Dock metering (15). The converters' samples come in with each tick and each line crossing: the sampling edges since
the last command that brought some (log entry 50). -/

namespace Sys2Proof.Machine

open Sys2Proof

def Mach.metEl (m : Mach) (d : Nat) : MetEl := Tabs.val m.met.els {} d

/-- What an element shows: the mirrored values in the STANDBY role, its own otherwise (R493). -/
def Mach.metShown (m : Mach) (d : Nat) : MetEnergy :=
  let x := m.metEl d
  if m.isStandby then x.mir.getD x.e else x.e

/-- The registers of an element follow. -/
def Mach.metShow (m : Mach) (d : Nat) : Mach :=
  let e := m.metShown d
  let m := (m.w MET_TOT_IMP_LO_ALL e.imp d).w MET_TOT_IMP_HI_ALL (e.imp / 2 ^ 32) d
  let m := (m.w MET_TOT_EXP_LO_ALL e.exp d).w MET_TOT_EXP_HI_ALL (e.exp / 2 ^ 32) d
  let m := (m.w MET_INT_IMP_LO_INTERVAL e.intImp d).w MET_INT_IMP_HI_WRAP_CNT (e.intImp / 2 ^ 32) d
  let m := (m.w MET_INT_EXP_LO_INTERVAL e.intExp d).w MET_INT_EXP_HI_WRAP_CNT (e.intExp / 2 ^ 32) d
  m.w MET_PULSE_OWED_ALL (min e.owed (2 ^ 32 - 1)) d

/-- An element changed; its registers follow. -/
def Mach.putMetEl (m : Mach) (d : Nat) (x : MetEl) : Mach := { m with met := { m.met with els := Tabs.put m.met.els d x } }
def Mach.setMetEl (m : Mach) (d : Nat) (x : MetEl) : Mach := (m.putMetEl d x).metShow d

/-- STATE of an element (R475): 0 OFF, 1 DC, 2 AC, 3 FAILED. -/
def Mach.metState (m : Mach) (d : Nat) : Nat := m.r MET_EL_STATUS_STATE d

/-- The element accumulates. -/
def Mach.metRuns (m : Mach) (d : Nat) : Bool := (m.metState d == 1 || m.metState d == 2) && !m.met.stopped

/-- Whole µWh of one direction booked: the fraction, the total and the interval with its wraps (R482, R483). -/
def bookFrac (frac mag : Nat) : Nat := (frac + mag) % 2 ^ 32
def bookWhole (frac mag : Nat) : Nat := (frac + mag) / 2 ^ 32
def bookTotal (total whole : Nat) : Nat := (total + whole) % 2 ^ 64
def bookInterval (int whole : Nat) : Nat := (int + whole) % 2 ^ 40
def wraps (int whole : Nat) : Bool := 2 ^ 32 ≤ int % 2 ^ 32 + whole

/-- One pulse's worth of residue (R486). -/
def pulseUnit : Nat := 1000000000 * 2 ^ 32

/-- The energy that counts for the pulse output (R486). -/
def pulseEnergy (src : Nat) (toImp : Bool) (mag : Nat) : Nat :=
  if src == 2 || (src == 0 && toImp) || (src == 1 && !toImp) then mag else 0

/-- The registers show the element's own values, not mirrored ones (R493). -/
def Mach.ownShown (m : Mach) (d : Nat) : Bool := !m.isStandby || (m.metEl d).mir.isNone

/-- The pending energy of an element is assigned (R480, R481, R486). A standby's own metering books no pulses, and its hidden
INTERVAL sets no WRAPPED. -/
def Mach.metAssign (m : Mach) (d : Nat) : Mach :=
  let x := m.metEl d
  let e := x.e
  let toImp := 0 ≤ e.acc || m.b MET_EL_CFG_ABS d
  let mag := e.acc.natAbs
  let res := if m.isStandby then e.residue
    else e.residue + pulseEnergy (m.r MET_PULSE_CFG_SRC d) toImp mag * m.r MET_PULSE_CFG_CONST d
  let e := { e with acc := 0, residue := res % pulseUnit, owed := e.owed + res / pulseUnit }
  if toImp then
    let n := bookWhole e.fracImp mag
    let wrap := wraps e.intImp n && m.ownShown d
    let e := { e with fracImp := bookFrac e.fracImp mag, imp := bookTotal e.imp n, intImp := bookInterval e.intImp n }
    (m.setMetEl d { x with e := e }).when wrap (fun m => m.w MET_INT_IMP_HI_WRAPPED 1 d)
  else
    let n := bookWhole e.fracExp mag
    let wrap := wraps e.intExp n && m.ownShown d
    let e := { e with fracExp := bookFrac e.fracExp mag, exp := bookTotal e.exp n, intExp := bookInterval e.intExp n }
    (m.setMetEl d { x with e := e }).when wrap (fun m => m.w MET_INT_EXP_HI_WRAPPED 1 d)

/-- A calibration GAIN as a factor, times 2^20 (R488). -/
def calFactor (gain : Nat) : Int := 2 ^ 20 + gain - 32768

/-- LSBs of the ×32 range in one of the range in use, and the range's calibration. -/
def rangeLsb (g : Nat) : Int := if g == 0 then 32 else if g == 1 then 4 else 1
def icalGain (g : Nat) : Field := if g == 0 then MET_ICAL1_GAIN else if g == 1 then MET_ICAL8_GAIN else MET_ICAL32_GAIN
def icalPhase (g : Nat) : Field := if g == 0 then MET_ICAL1_PHASE else if g == 1 then MET_ICAL8_PHASE else MET_ICAL32_PHASE

/-- A current sample delayed by PHASE × 2^-16 of a sample period (R488). How the value between two samples, or past the last one, is
formed the spec does not state: a free function of them where they differ (log entry 50). -/
def delayed (phase prev cur : Int) : Int := if phase = 0 ∨ prev = cur then cur else Config.fracDelay phase prev cur

/-- A calibrated current sample, in 2^-20 LSB of the ×32 range (R488). DESIGN CHOICE: the DC offset is subtracted before the
gain (log entry 50). -/
def Mach.calCurrent (m : Mach) (d : Nat) (prev raw : Int) : Int :=
  let g := m.r MET_EL_STATUS_GAIN d
  let i := delayed (m.ri (icalPhase g) d) prev raw * rangeLsb g
  (i - if m.metState d == 1 then m.ri MET_IOFS_ALL d else 0) * calFactor (m.r (icalGain g) d)

/-- A calibrated voltage sample of the input an element uses, in 2^-20 LSB (R473, R488). -/
def Mach.calVoltage (m : Mach) (d : Nat) (raw : Int) : Int := raw * calFactor (m.r MET_VCAL_GAIN (m.r MET_EL_CFG_VSEL d))

/-- Full scale of a 24-bit converter (R473). -/
def fullScale : Nat := 2 ^ 23

/-- The current used for a sample (R479): one of the six after a gain change is replaced by the calibrated one a line period
earlier in AC, the last one before the change in DC. -/
def Mach.usedCurrent (m : Mach) (d : Nat) (x : MetEl) (raw : Int) : Int :=
  if x.blank == 0 then m.calCurrent d x.prev raw
  else
    let last := x.past.headD 0
    if m.metState d == 2 && x.period != 0 then x.past.getD (x.period - 1) last else last

/-- The sign of a voltage after a sample: it changes outside the hysteresis of 2 % of full scale (R476). -/
def voltSign (old : Option Bool) (v : Int) : Option Bool :=
  if (fullScale : Int) ≤ 50 * v then some true else if 50 * v ≤ -(fullScale : Int) then some false else old

/-- The calibrated currents an element keeps: those of a line period, the one being measured too; in DC only the last one. -/
def MetEl.keeps (x : MetEl) : Nat := if x.lastZc.isSome then min 16000 (max x.period (x.since + 1)) else 1

/-- A sample of voltage and current (R476, R478 to R480, R485): the energy p × 125 µs in 2^-32 µWh joins the pending
accumulator, the peak and the samples of the line period follow. -/
def Mach.metSample (m : Mach) (d : Nat) (x : MetEl) (s : BitVec 24 × BitVec 24) : MetEl :=
  let raw := s.2.toInt
  let i := m.usedCurrent d x raw
  let energy := m.calVoltage d s.1.toInt * i * Config.metUnit / 2 ^ 72
  let e := { x.e with acc := x.e.acc + energy }
  let size := raw.natAbs * (rangeLsb (m.r MET_EL_STATUS_GAIN d)).toNat
  { x with e := e, second := x.second + energy, peak := if x.blank == 0 then max x.peak size else x.peak,
           past := (i :: x.past).take x.keeps, prev := raw, blank := x.blank - 1, since := x.since + 1,
           sign := voltSign x.sign s.1.toInt }

/-- A current sample at full scale (R479). -/
def clipped (s : BitVec 24 × BitVec 24) : Bool := s.2.toInt == -(fullScale : Int) || s.2.toInt == fullScale - 1

/-- Full scale of a range, in LSBs of the ×32 range. -/
def rangeFull (g : Nat) : Nat := fullScale * (rangeLsb g).toNat

/-- The gain changes (R479): six samples are blanked. -/
def Mach.setGain (m : Mach) (d g : Nat) : Mach :=
  let x := m.metEl d
  let b := if m.r MET_EL_STATUS_GAIN d == g then x.blank else 6
  (m.setMetEl d { x with blank := b }).w MET_EL_STATUS_GAIN g d

/-- A switching point of the current gain (R478). -/
def Mach.gainSwitch (m : Mach) (d : Nat) : Mach :=
  let x := m.metEl d
  let g := m.r MET_EL_STATUS_GAIN d
  let peaks := (x.peaks ++ [x.peak]).drop (x.peaks.length + 1 - 4)
  let keep := m.setMetEl d { x with peak := 0, peaks := peaks }
  if !m.b MET_EL_CFG_AUTO_GAIN d then keep.setGain d (m.r MET_EL_CFG_FIX_GAIN d)
  else if 9 * rangeFull g ≤ 10 * x.peak then if g == 0 then keep else keep.setGain d (g - 1)
  else if g < 2 && peaks.length == 4 && peaks.all (fun p => decide (10 * p < 8 * rangeFull (g + 1))) then keep.setGain d (g + 1)
  else keep

/-- The record of an element as it stands (R497). -/
def Mach.metRecordNow (m : Mach) (d : Nat) : List Byte :=
  let e := m.metShown d
  le 8 e.imp ++ le 8 e.exp ++ le 4 e.intImp ++ le 4 e.intExp ++ le 1 (e.intImp / 2 ^ 32) ++ le 1 (e.intExp / 2 ^ 32) ++
    le 1 (m.metState d) ++ le 1 (m.word MET_EL_STATUS_STATE d / 4 % 128) ++ le 4 (m.word MET_POWER_ALL d) ++
    le 4 (min e.owed (2 ^ 32 - 1)) ++ le 4 0

/-- The records at the boundary that began the tick in progress (R497); before the first one as they stand. -/
def Mach.metRecords (m : Mach) : List (List Byte) :=
  if m.met.bound.isEmpty then (List.range 16).map m.metRecordNow else m.met.bound

/-- A crossing of an element's voltage, rising or falling (R476, R478, R480): it enters AC after four crossings each within ZC_TMO of
the previous one; in AC a rising one switches the gain and assigns the period's energy. -/
def Mach.metCross (m : Mach) (d : Nat) (rising : Bool) : Mach :=
  let x := m.metEl d
  let within := x.lastZc.any (fun t => m.now - t ≤ m.r MET_EL_ZC_ZC_TMO d)
  let run := if within then x.zcRun + 1 else 0
  let ac := m.metState d == 2
  let m := m.setMetEl d { x with lastZc := some m.now, zcRun := min run 4, period := if rising then x.since else x.period,
                                 since := if rising then 0 else x.since }
  if ac then (if rising then (m.gainSwitch d).metAssign d else m)
  else if run ≥ 4 then m.w MET_EL_STATUS_STATE 2 d
  else m

/-- The voltage left the band of hysteresis on its other side: a crossing, and its direction. -/
def crossing (old new : Option Bool) : Option Bool :=
  match old, new with
  | some a, some b => if a == b then none else some b
  | _, _ => none

/-- What an element measures at an edge: the voltage input that VSEL selects, its current input (R473). -/
def Mach.metInputs (m : Mach) (d : Nat) (e : MetEdge) : BitVec 24 × BitVec 24 :=
  (e.v.getD (m.r MET_EL_CFG_VSEL d) 0, e.i.getD d 0)

/-- An element takes its samples of an edge: energy, clips and OVERRANGE (R479, R480), a crossing. -/
def Mach.metOne (m : Mach) (e : MetEdge) (d : Nat) : Mach :=
  if !m.metRuns d then m
  else
    let x := m.metEl d
    let s := m.metInputs d e
    let y := m.metSample d x s
    let m := (m.putMetEl d y).when (clipped s) (fun m => (m.inc MET_CLIP_ALL d).w MET_EL_STATUS_OVERRANGE 1 d)
    match crossing x.sign y.sign with
    | some rising => m.metCross d rising
    | none => m

/-- Edges are processed, every element at each. -/
def Mach.metFeed (m : Mach) (l : List MetEdge) : Mach := m.each l (fun m e => m.each (List.range 16) (fun m d => m.metOne e d))

/-- The samples of edges pass stream queues 18 to 21 (R456, R474): 24 bits of voltage and of current for each of four elements.
DESIGN CHOICE: the voltage first (log entry 49). -/
def Mach.metStream (m : Mach) (l : List MetEdge) : Mach :=
  m.each (List.range 4) (fun m k => m.streamWrite (18 + k) (l.flatMap (fun e => (List.range 4).flatMap (fun j =>
    let s := m.metInputs (4 * k + j) e
    le 3 s.1.toNat ++ le 3 s.2.toNat))))

/-- Edges of the front end reach the DSP, after those of a tick it abandoned (R474); a lost DSP takes none. -/
def Mach.metTake (m : Mach) (l : List MetEdge) : Mach :=
  let all := m.met.kept ++ l
  let m := { m with met := { m.met with kept := [] } }
  m.when (m.r INTC_BLK_FAULT_STATE 20 != 3) (fun m => (m.metStream l).metFeed all)

/-- ZERO_CROSSING (R476): the edges up to a crossing of an element. DEDUCED: the DSP finds it in the samples, as every other crossing in
them; which one the sender names adds nothing (log entry 50). -/
def zeroCrossing (l : List MetEdge) (m : Mach) : Mach := m.metTake l

def execZeroCrossing (_ : Fin 16) (_ : Bool) (l : List MetEdge) (s : State) : Res := s.on (zeroCrossing l)

/-- LINE_LOST (R477): the boundary after ZC_TMO without a crossing. -/
def lineLost (d : Nat) (m : Mach) : Mach :=
  let x := m.metEl d
  if m.metRuns d && m.metState d == 2 && x.lastZc.any (fun t => t + m.r MET_EL_ZC_ZC_TMO d < m.now) then
    let m := (m.setMetEl d { x with lastZc := none, zcRun := 0 }).w MET_EL_STATUS_STATE 1 d
    let m := (m.w MET_EL_STATUS_LINE_LOST 1 d).event 0x0601 2 20 (le 1 d)
    (m.gainSwitch d).metAssign d
  else m

def execLineLost (d : Fin 16) (s : State) : Res := s.on (lineLost d)

/-- A standby keeps its own totals of the last 64 boundaries (R439). -/
def Mach.metHist (m : Mach) (d : Nat) : Mach :=
  let x := m.metEl d
  let h := (m.pt, x.e.imp * 2 ^ 32 + x.e.fracImp, x.e.exp * 2 ^ 32 + x.e.fracExp)
  m.putMetEl d { x with hist := (x.hist ++ [h]).drop (x.hist.length + 1 - 64) }

/-- The edges of the tick that ends (R474, R479, R480): in DC the boundary is a switching point and assigns. A restart of the front
end has lost them (R17); those of a tick that a restart of the DSP abandoned are processed in the next tick, before its own. -/
def Mach.metTick (m : Mach) (l : List MetEdge) : Mach :=
  if m.r INTC_BLK_FAULT_STATE 20 == 3 then m
  else
    let l := if m.restartedNow 19 then [] else l
    if m.restartedNow 20 then ({ m with met := { m.met with kept := m.met.kept ++ l } }).metStream l
    else
      let m := m.metTake l
      let m := m.each (List.range 16) (fun m d =>
        if m.metRuns d && m.metState d == 1 then (m.gainSwitch d).metAssign d else m)
      m.when m.isStandby (fun m => m.each (List.range 16) Mach.metHist)

/-- The records of the boundary, SAVE_BUSY 0 again: a save ends within 50 µs (R490, R497). -/
def Mach.metBound (m : Mach) : Mach :=
  let m := m.w MET_STATUS_SAVE_BUSY 0
  { m with met := { m.met with bound := (List.range 16).map m.metRecordNow } }

/-! ### Enable, failure, takeover -/

/-- MET_CTRL.ENABLE rises: every element with EN starts in DC (R475, R476). -/
def Mach.metEnable (m : Mach) : Mach :=
  m.each (List.range 16) (fun m d =>
    if m.b MET_EL_CFG_EN d && m.metState d != 3 then
      let m := m.setMetEl d { m.metEl d with lastZc := none, zcRun := 0, peak := 0, peaks := [], past := [], prev := 0,
                                             sign := none, blank := 0, since := 0, period := 0 }
      (m.w MET_EL_STATUS_STATE 1 d).w MET_EL_STATUS_GAIN
        (if m.b MET_EL_CFG_AUTO_GAIN d then m.r MET_EL_STATUS_GAIN d else m.r MET_EL_CFG_FIX_GAIN d) d
    else m)

/-- The carried state that a save captures. -/
def Mach.metCapture (m : Mach) : List MetEnergy := (List.range 16).map m.metShown

/-- The bytes of a slot before its CRC (R490): header and records. -/
def MetSlot.header (s : MetSlot) : List Byte := le 4 s.seq ++ le 4 s.pt ++ le 1 (b2n s.final) ++ le 7 0
def MetEnergy.record (e : MetEnergy) : List Byte :=
  le 48 (Config.metRecord [e.imp, e.exp, e.intImp, e.intExp, e.fracImp, e.fracExp, e.acc.natAbs, b2n (decide (e.acc < 0)), e.residue,
    e.owed]).toNat
def MetSlot.bytes (s : MetSlot) : List Byte := s.header ++ s.els.flatMap MetEnergy.record

/-- A slot with its CRC-32C, written last, and one whose CRC holds. -/
def MetSlot.sealed (s : MetSlot) : MetSlot := { s with crc := crc32c s.bytes }
def MetSlot.valid (s : MetSlot) : Bool := s.crc == crc32c s.bytes

/-- A save (R490, R491): the next slot and the next SEQ; one whose read-back fails leaves no valid slot. Which of the commands that
follow come while it is still being written, its 50 µs, is not told: SAVE_BUSY is free up to the next tick (log entry 50). -/
def Mach.metSave (m : Mach) (final ok : Bool) : Mach :=
  let seq := (m.nv.metSeq + 1) % 2 ^ 32
  let slot : MetSlot := { seq := seq, pt := m.pt, final := final, els := m.metCapture, crc := 0 }
  let slots := if ok then Tabs.put m.nv.slots (seq % 8) slot.sealed else Tabs.del m.nv.slots (seq % 8)
  let m := { m with nv := { m.nv with slots := slots, metSeq := seq }, met := { m.met with savedAt := some m.now } }
  let (v, m) := m.draw
  let m := m.w MET_STATUS_SAVE_BUSY (v % 2)
  if ok then (m.w MET_SAVE_SEQ_ALL seq).w MET_SAVE_PT_ALL m.pt else m.inc MET_SAVE_FAIL_ALL

/-- METER_SAVE (R490): once at each boundary whose tick index is a multiple of 10. -/
def meterSave (ok : Bool) (m : Mach) : Mach :=
  if m.met.restored && !m.met.stopped && m.msInt % 10 == 0 && m.met.savedAt != some m.now &&
      m.r INTC_BLK_FAULT_STATE 20 != 3 then m.metSave false ok
  else m

def execMeterSave (ok : Bool) (s : State) : Res := s.on (meterSave ok)

/-- The final save before a reset that device firmware commands and on the power-fail warning (R491, R566). -/
def Mach.metFinal (m : Mach) (ok : Bool) : Mach := if m.met.restored && !m.met.stopped then m.metSave true ok else m

/-- POWER_FAIL_WARNING (R491, R580): VIN is below V_W; accumulation stops, the final save is made, the unit is in power-fail
mode. -/
def powerFailWarning (p : PowerDip) (m : Mach) : Mach :=
  if max 2600 (m.r PWR_VIN_VW_MV) ≤ p.vin.toNat then m
  else
    let m := m.metFinal p.saved
    { m with met := { m.met with stopped := true }, boot := { m.boot with powerFail := true } }

def execPowerFailWarning (p : PowerDip) (s : State) : Res := s.on (powerFailWarning p)

/-- The valid slot with the highest SEQ, a count of 4 bytes that wraps (DEDUCED: compared as R10 compares, log entry 50). -/
def Mach.lastSlot (m : Mach) : Option MetSlot :=
  let l := (m.nv.slots.map (fun e => e.2)).filter MetSlot.valid
  l.find? (fun s => l.all (fun t => diff32 t.seq s.seq ≤ 0))

/-- The restore at start-up (R492). -/
def Mach.metRestore (m : Mach) : Mach :=
  let m := { m with met := { m.met with restored := true } }
  match m.lastSlot with
  | none => (m.w MET_STATUS_RESTORE 3).event 0x0602 2 20 (le 1 3 ++ le 4 0)
  | some s =>
    let m := { m with nv := { m.nv with metSeq := s.seq } }
    let m := m.each (List.range 16) (fun m d => m.setMetEl d { m.metEl d with e := s.els.getD d {} })
    let m := (m.w MET_SAVE_SEQ_ALL s.seq).w MET_SAVE_PT_ALL s.pt
    if s.final then m.w MET_STATUS_RESTORE 1
    else (m.w MET_STATUS_RESTORE 2).event 0x0602 2 20 (le 1 2 ++ le 4 s.pt)

/-- An element fails: TOTAL shows the last saved values until reset (R23, R475). -/
def Mach.metFail (m : Mach) (d : Nat) : Mach :=
  let x := m.metEl d
  let e := (m.lastSlot.map (fun s => s.els.getD d {})).getD {}
  let e := { x.e with imp := e.imp, exp := e.exp }
  let mir := x.mir.map (fun _ => e)
  (m.w MET_EL_STATUS_STATE 3 d).setMetEl d { x with e := e, mir := mir, pulse := none }

/-- Every element fails. -/
def Mach.metFailAll (m : Mach) : Mach := m.each (List.range 16) Mach.metFail

/-- Values of an element, with the TOTALs it shows where it has FAILED (R475). -/
def Mach.metHeld (m : Mach) (d : Nat) (e : MetEnergy) : MetEnergy :=
  if m.metState d == 3 then { e with imp := (m.metShown d).imp, exp := (m.metShown d).exp } else e

/-- WRAPPED of a shown INTERVAL whose WRAP_CNT has gone on (R483). -/
def Mach.metWrapped (m : Mach) (d : Nat) (old new : MetEnergy) : Mach :=
  (m.when (old.intImp / 2 ^ 32 != new.intImp / 2 ^ 32) (fun m => m.w MET_INT_IMP_HI_WRAPPED 1 d)).when
    (old.intExp / 2 ^ 32 != new.intExp / 2 ^ 32) (fun m => m.w MET_INT_EXP_HI_WRAPPED 1 d)

/-- Mirrored values of the active unit's tick `pt` (R421, R493): own totals older than it are no longer needed. -/
def Mach.metMirror (m : Mach) (pt : Nat) (l : List MetEnergy) : Mach :=
  m.each (List.range 16) (fun m d =>
    let x := m.metEl d
    let e := m.metHeld d (l.getD d {})
    (m.setMetEl d { x with mir := some e, hist := x.hist.dropWhile (fun h => diff32 h.1 pt < 0) }).metWrapped d (x.mir.getD e) e)

/-- A warm takeover (R439, R494): the last mirrored totals plus the own energy assigned since that tick; residue and pulses
owed as mirrored. -/
def Mach.metTakeover (m : Mach) : Mach :=
  m.each (List.range 16) (fun m d =>
    let x := m.metEl d
    match x.mir with
    | none => m
    | some y =>
      let own := (x.e.imp * 2 ^ 32 + x.e.fracImp, x.e.exp * 2 ^ 32 + x.e.fracExp)
      let base := (x.hist.head?.map (fun h => h.2)).getD own
      let di := own.1 - base.1
      let de := own.2 - base.2
      let e := m.metHeld d { y with acc := x.e.acc, fracImp := di % 2 ^ 32, fracExp := de % 2 ^ 32,
                                    imp := bookTotal y.imp (di / 2 ^ 32), exp := bookTotal y.exp (de / 2 ^ 32),
                                    intImp := bookInterval y.intImp (di / 2 ^ 32), intExp := bookInterval y.intExp (de / 2 ^ 32) }
      (m.setMetEl d { x with e := e, mir := none, hist := [] }).metWrapped d y e)

/-- A cold takeover: every element goes on from the unit's own totals. -/
def Mach.metCold (m : Mach) : Mach :=
  m.each (List.range 16) (fun m d => m.setMetEl d { m.metEl d with mir := none, hist := [] })

/-- MET_XCHK reads 0 in the ACTIVE role (R493). -/
def Mach.xchkClear (m : Mach) : Mach := m.each (List.range 16) (fun m d => m.w MET_XCHK_ALL 0 d)

/-- A standby's own energy at the boundary of the mirrored values it holds, in µWh (R493): the same moment on both sides. -/
def MetEl.ownAt (x : MetEl) : Nat := match x.hist with
  | h :: _ => h.2.1 / 2 ^ 32 + h.2.2 / 2 ^ 32
  | [] => x.e.imp + x.e.exp

/-- A cross-check window begins (R493). -/
def Mach.xchkStart (m : Mach) : Mach :=
  let m := { m with met := { m.met with xchkAt := m.now } }
  m.each (List.range 16) (fun m d =>
    let x := m.metEl d
    let y := x.mir.getD {}
    m.setMetEl d { x with xOwn := x.ownAt, xMir := y.imp + y.exp })

/-- METER_CROSS_CHECK (R493): every 60 s in the STANDBY role; energy is import plus export. Of a window without mirrored
energy the spec states no ratio: a free value (log entry 50). -/
def meterCrossCheck (m : Mach) : Mach :=
  if m.isStandby && m.mirror == 3 && m.met.xchkAt + 60000 ≤ m.now then
    let m := m.each ((List.range 16).filter (fun d => (m.metEl d).mir.isSome)) (fun m d =>
      let x := m.metEl d
      let y := x.mir.getD {}
      let own : Int := (x.ownAt : Int) - (x.xOwn : Int)
      let mir : Int := ((y.imp + y.exp : Nat) : Int) - (x.xMir : Int)
      if mir = 0 then
        let (v, m) := m.draw
        m.w MET_XCHK_ALL v d
      else
        let diff := (own - mir) * 10000 / mir
        let clip := max (-(2 ^ 31 : Int)) (min (2 ^ 31 - 1) diff)
        let m := m.wi MET_XCHK_ALL clip d
        if 10000 ≤ mir && m.r MET_XCHK_CFG_LIM < diff.natAbs then
          (m.w MET_EL_STATUS_XCHK_FAIL 1 d).event 0x0603 3 20 (le 1 d ++ le 4 (unsgn 32 clip))
        else m)
    m.xchkStart
  else m

def execMeterCrossCheck (s : State) : Res := s.on meterCrossCheck

/-- METER_POWER_UPDATE (R485): at each whole second of site time, once; 1 µWh in a second is 3.6 mW. -/
def meterPowerUpdate (m : Mach) : Mach :=
  if m.totalNs % 1000000000 < 1000000 && m.met.powerAt != some m.now then
    let m := { m with met := { m.met with powerAt := some m.now } }
    m.each (List.range 16) (fun m d =>
      let x := m.metEl d
      (m.setMetEl d { x with second := 0 }).wi MET_POWER_ALL (x.second * 36 / (10 * 2 ^ 32)) d)
  else m

def execMeterPowerUpdate (s : State) : Res := s.on meterPowerUpdate

/-! ### Pulses (R486, R487, R494) -/

/-- PULSE_START: an owed pulse and a free output, in a unit that holds grant. -/
def pulseStart (d : Nat) (m : Mach) : Mach :=
  let x := m.metEl d
  if m.takes .metering && m.b MET_PULSE_CFG_PEN d && m.b REDUN_STATUS_GRANTED && m.isActive && x.pulse.isNone &&
      0 < x.e.owed && x.freeAt ≤ m.now && m.metState d != 3 then
    let e := { x.e with owed := x.e.owed - 1 }
    m.setMetEl d { x with e := e, pulse := some m.now }
  else m

def execPulseStart (d : Fin 16) (s : State) : Res := s.on (pulseStart d)

/-- PULSE_END: after WIDTH; the output is free after a gap of WIDTH. -/
def pulseEnd (d : Nat) (m : Mach) : Mach :=
  let x := m.metEl d
  let w := m.r MET_PULSE_CFG_WIDTH d
  if x.pulse.any (fun t => t + w ≤ m.now) then m.setMetEl d { x with pulse := none, freeAt := m.now + w } else m

def execPulseEnd (d : Fin 16) (s : State) : Res := s.on (pulseEnd d)

/-- The pulse and dock outputs are released as grant leaves (R413, R494, R495): a pulse cut short has ended (R487). -/
def Mach.pulseRelease (m : Mach) : Mach :=
  m.each (List.range 16) (fun m d =>
    let x := m.metEl d
    if x.pulse.isSome then m.setMetEl d { x with pulse := none, freeAt := m.now + m.r MET_PULSE_CFG_WIDTH d } else m)

/-! ### Dock outputs (R495) -/

/-- A compare channel names a GPIO (R393). -/
def Mach.gpioCompared (m : Mach) (g : Nat) : Bool :=
  (List.range 16).any (fun k => 2 ≤ k && m.r TIME_CMP_CFG_OUT k == g)

/-- The pin of a dock output changes: the one driven before is released, the one named is driven. -/
def Mach.dockPin (m : Mach) (d : Nat) (want : Option (Nat × Bool)) : Mach :=
  let old := Tabs.look m.met.docks d
  if old == want then m
  else
    let m := { m with met := { m.met with docks := match want with
      | some p => Tabs.put m.met.docks d p
      | none => Tabs.del m.met.docks d } }
    let m := match old with
      | some (g, _) => m.when (want.all (fun p => p.1 != g)) (fun m => m.emit (.dockPin g none))
      | none => m
    match want with
    | some (g, level) => m.emit (.dockPin g (some level))
    | none => m

/-- Dock outputs follow the interlocks, the grant, the pins' other users and their set-up. -/
def Mach.dockOutputs (m : Mach) : Mach :=
  let ilk := m.r KILN_FIX_ILK_DOCK
  let gpio := fun d => m.r MET_DOCK_CFG_GPIO d
  let clash := (List.range 16).filter (fun d => gpio d != 0 && m.gpioCompared (gpio d))
  let m := m.w MET_STATUS_DOCK_CONFLICT (clash.map (fun d => 2 ^ d)).sum
  m.each (List.range 16) (fun m d =>
    let on := ilk.testBit d && m.b REDUN_STATUS_GRANTED && m.isActive && gpio d != 0 && !clash.contains d
    ((m.wb MET_EL_STATUS_DOCK_ILK (ilk.testBit d) d).wb MET_EL_STATUS_DOCK_OUT on d).dockPin d
      (if on then some (gpio d - 1, !m.b MET_DOCK_CFG_POL d) else none))

/-! ### METER_READ (R497) -/

/-- METER_READ: executed in both roles and whatever ENABLE holds. -/
def meterRead (d : Desc) (m : Mach) : Mach :=
  m.desc 0x0600 d (fun d m =>
    if !Descs.buf d || Descs.len d < 640 then m.complete d stRANGE
    else (m.bufWr d 0 m.metRecords.flatten).complete d stOK (le 4 m.pt))

def execMeterRead (d : Desc) (s : State) : Res := s.on (meterRead d)

/-- A save whose outcome no command brings; whether its read-back fails is free (log entry 50). -/
def Mach.metSaveFree (m : Mach) (final : Bool) : Mach :=
  let (v, m) := m.draw
  m.metSave final (v % 2 == 0)

/-- The boundary of a drain (R496): pending energy assigned, every element OFF, a save. -/
def Mach.metStop (m : Mach) : Mach :=
  let m := m.each (List.range 16) (fun m d =>
    if m.metState d == 1 || m.metState d == 2 then (m.metAssign d).w MET_EL_STATUS_STATE 0 d else m)
  if m.met.restored && !m.met.stopped then m.metSaveFree false else m

/-- Some element runs. -/
def Mach.metRunning (m : Mach) : Bool := (List.range 16).any (fun d => m.metState d == 1 || m.metState d == 2)

/-- No element runs and no pulse is under way. -/
def Mach.metIdle (m : Mach) : Bool :=
  !m.metRunning && (List.range 16).all (fun d => (m.metEl d).pulse.isNone)

end Sys2Proof.Machine
end

