-- ==== Sys2Proof/Machine/Roles.lean ====
section
/-! DEFINITION. Leaving the ACTIVE role and the chip safe state (R21, R413, R597). -/

namespace Sys2Proof.Machine

open Sys2Proof

/-- A descriptor that only a unit in the ACTIVE role executes (R597): Kiln's but its queries, Damper's zone and agent stops
and releases, the Air region's but its queries, SET_BASE_POS, SURVEY, SET_DESCRIPTORS, SET_FREE_TIME, SET_EXT_TOD,
Motion's. -/
def needsActive (d : Desc) : Bool :=
  (d.target == 1 && !([0x0110, 0x0111, 0x0120] : List Nat).contains d.op) ||
  (d.op == 0x0200 && Descs.fld d 18 1 != 0) || d.op == 0x0201 || d.op == 0x0202 ||
  (d.target == 3 && !([0x0302, 0x0305] : List Nat).contains d.op) ||
  ([0x0410, 0x0411, 0x0413, 0x0500, 0x0501] : List Nat).contains d.op || d.target == 7

/-- The same descriptor as one of the other unit. -/
def Desc.foreign (d : Desc) : Desc := { d with ring := foreignRing }

/-- A held operation without its descriptor. -/
def Held.foreign : Held → Held
  | .recover d => .recover d.foreign
  | .retire d => .retire d.foreign
  | .auto => .auto

/-- Agents, members, tasks, moves and axes without their descriptors. -/
def Agent.foreign (a : Agent) : Agent := { a with held := a.held.map Held.foreign }
def Member.foreign (x : Member) : Member := { x with move := x.move.map (fun v => { v with d := v.d.foreign }) }
def Task.foreign (t : Task) : Task := { t with d := none }
def Move.foreign (v : Move) : Move := { v with d := v.d.foreign }
def Axis.foreign (x : Axis) : Axis :=
  { x with queue := x.queue.map Move.foreign, run := x.run.map (fun r => (r.1.foreign, r.2)),
           remain := x.remain.map (fun r => (r.1.foreign, r.2)), home := x.home.map (fun h => { h with d := h.d.foreign }),
           halts := [] }
def KilnStore.foreign (k : KilnStore) : KilnStore := { k with agents := k.agents.map (fun e => (e.1, e.2.foreign)) }
def AirTab.foreign (t : AirTab) : AirTab :=
  { t with members := t.members.map (fun e => (e.1, e.2.foreign)), ledger := t.ledger.map (fun e => (e.1, e.2.foreign)) }

/-- Motion's moves, queued or under way, end with NOT_ACTIVE_ROLE and the outputs are released (R413, R517). -/
def Mach.motionLost (m : Mach) : Mach :=
  let m := m.motionRelease
  m.each (List.range 8) (fun m a =>
    let x := m.axis a
    let m := m.setAxis a { x with queue := [] }
    m.each x.queue (fun m mv => m.motDone a mv.d stNOT_ACTIVE_ROLE))

/-- A survey ends without a position as its descriptor does (R357). -/
def Mach.surveyLost (m : Mach) : Mach :=
  if m.corr.survey.isSome then
    let base := { m.nv.set.base with state := 0 }
    ({ m with corr := { m.corr with survey := none }, nv := { m.nv with set := { m.nv.set with base := base } } }).w
      CORR_STATUS_POS_STATE 0
  else m

/-- A swap waiting or begun ends with the role (R413, R433). -/
def Mach.swapLost (m : Mach) : Mach :=
  let w := m.red.swap.bind (fun q => q.d)
  let r := m.red.run.bind (fun q => q.d)
  let m := { m with red := { m.red with swap := none, run := none, swapH := none, hold := false } }
  let m := (m.w REDUN_STATUS_SWAP_PENDING 0).w REDUN_STATUS_SWAPPING 0
  (m.each w.toList (fun m d => m.complete d stNOT_ACTIVE_ROLE)).each r.toList (fun m d => m.complete d 0x12)

/-- Every descriptor that needs the ACTIVE role and is not complete completes with NOT_ACTIVE_ROLE (R413, item 4). -/
def Mach.failActive (m : Mach) : Mach :=
  let m := m.swapLost.motionLost
  let m := m.flushDelivered needsActive stNOT_ACTIVE_ROLE
  let m := m.setStore m.kiln.store.foreign
  let m := m.setTab m.air.tab.foreign
  let m := m.surveyLost
  { m with
    kiln := { m.kiln with loadWait := [], commit := none }
    time := { m.time with extTod := none }
    dam := { m.dam with stops := m.dam.stops.filter (fun e => !needsActive e.1) } }

/-- ROLE_STATE, with its event (R433). -/
def Mach.setRole (m : Mach) (st : Nat) : Mach :=
  let old := m.r REDUN_STATUS_ROLE_STATE
  if old == st then m else (m.w REDUN_STATUS_ROLE_STATE st).event 0x0801 1 24 (le 1 old ++ le 1 st)

/-- The ALIVE code (R407): 0 held low, 1 SYNC, 2 UNSYNC, 3 RELINQUISH, 4 PERMIT_LOSS. -/
def Mach.setAlive (m : Mach) (c : Nat) : Mach :=
  if m.r REDUN_STATUS_ALIVE_CODE == c then m
  else ({ m with red := { m.red with aliveAt := m.now } }).w REDUN_STATUS_ALIVE_CODE c

/-- HOLDING and STALE are states of an active unit (R425): with the role they end, in DOWN where the link is lost, else in BULK (DESIGN
CHOICE for a unit in the chip safe state, log entry 62). -/
def Mach.mirrorLeave (m : Mach) : Mach :=
  if m.mirror == 4 || m.mirror == 5 then
    ({ m with red := { m.red with lost := false } }).setMirror (if m.red.lost then 0 else 2)
  else m

/-- The ACTIVE role ends (R413): gate closed, stop and plant outputs released, a release arm cancelled, descriptors that
need the role completed. -/
def Mach.leaveActive (m : Mach) (st : Nat) : Mach :=
  let m := ((m.gateClose).setStopOut false).setFixEn false
  let m := (m.armEnd 5).setRole st
  (m.w REDUN_STATUS_ROLE 0).airRefresh.failActive.pulseRelease.dockOutputs.signShow.mirrorLeave

/-- The chip safe state (R21), with its cause and the block concerned (R48); a standby in it is neither synchronised nor
warm-eligible (R425, R427), and in recovery mode ALIVE stays low (R552); in a trial the unit is to revert (R551). -/
def Mach.enterSafe (m : Mach) (cause blk : Nat) : Mach :=
  if m.isSafe then m
  else
    let m := ((m.w INTC_STATUS_SAFE_STATE 1).w INTC_SAFE_CAUSE_CAUSE cause).w INTC_SAFE_CAUSE_BLOCK blk
    let m := m.levelAssert 11 0 Stops.ofSite
    let m := (m.leaveActive 3).w REDUN_STATUS_WARM 0
    let m := { m with red := { m.red with warmEnd := none } }
    let m := m.when (!m.recovery) (fun m => m.setAlive 3)
    if m.r UPD_STATUS_TRIAL == 0 then m
    else
      let reset : PlannedReset := ⟨m.now, some 3, false⟩
      { m with upd := { m.upd with reset := some reset } }

end Sys2Proof.Machine
end

