-- ==== Sys2Proof/Machine/AirSlot.lean ====
section
/-! DEFINITION. The slot engine: slots, lanes, banks, permits, bursts and the two windows (07, R265 to R269, R299 to
R304). -/

namespace Sys2Proof.Machine

open Sys2Proof

/-! ### Channels and kinds (R229 to R236) -/

/-- The hop permutations of R229. -/
def hopAM : List Nat := [0, 8, 16, 3, 11, 19, 6, 14, 1, 9, 17, 4, 12, 20, 7, 15, 2, 10, 18, 5, 13]
def hopAU : List Nat := [0, 3, 6, 9, 2, 5, 8, 1, 4, 7]
def hop : List Nat := if Config.isAM then hopAM else hopAU
/-- L of R229. -/
def hopLen : Nat := if Config.isAM then 21 else 10

/-- The centre frequency of a channel, in kHz (R228). -/
def chanKHz (c : Nat) : Nat := (if Config.isAM then 902800 else 915800) + 1200 * c

/-- The channel of a logical lane in a slot (R230). -/
def Mach.chanOf (m : Mach) (x a : Nat) : Nat := hop.getD ((a + m.r AIR_LANE_CFG_OFFSET x) % hopLen) 0

/-- Slot kinds: the codes of R235, and PERMIT. -/
def kIDLE : Nat := 0
def kDOWN : Nat := 1
def kUP : Nat := 2
def kJOIN : Nat := 3
def kBCAST : Nat := 4
def kPERMIT : Nat := 16

/-- The kind code of a slot under a bank (R234, R235). -/
def Mach.bankKind (m : Mach) (bank a : Nat) : Nat :=
  let off := a % m.r AIR_SLOT_CFG_SF_LEN
  let w := if bank == 0 then m.word AIR_SF_KIND_A_KINDS (off / 8) else m.word AIR_SF_KIND_B_KINDS (off / 8)
  if off % 5 == 0 then kPERMIT else bits w (4 * (off % 8)) 4

/-- A requested exchange of banks takes place as slot `a` starts (R236). -/
def Mach.bankDue (m : Mach) (a : Nat) : Bool :=
  m.b AIR_SF_CTRL_SWITCH && a % m.r AIR_SLOT_CFG_SF_LEN == 0 &&
  (match m.air.switchAt with
   | some r => decide (r + 2 ≤ a)
   | none => true)

/-- The kind code slot `a` has or will have, an exchange at a slotframe start up to it taken into account. -/
def Mach.kindAt (m : Mach) (a : Nat) : Nat :=
  let now := m.air.slot.getD m.asn
  let flip := (List.range (a + 1 - now)).any (fun k => m.bankDue (now + k))
  let bank := m.r AIR_SF_CTRL_BANK
  m.bankKind (if flip then 1 - bank else bank) a

/-- The kind the slot in progress acts as: codes 5 to 15 are IDLE, and so are the slots before the first permit (R241) and
the slot before a planned swap (R433). -/
def Mach.slotKind (m : Mach) : Nat :=
  let k := m.kindAt m.asn
  if m.air.permitFirst || m.red.swapH == some (m.asn + 1) then kIDLE
  else if k == kPERMIT || k ≤ 4 then k else kIDLE

/-- The slot in progress is the one that began last, in its first tick. -/
def Mach.inSlot (m : Mach) : Bool := m.stepped && m.air.slot == some m.asn

/-- SLOT_BANK_SWITCH_REQUEST (R236). -/
def slotBankSwitchRequest (m : Mach) : Mach :=
  if m.b AIR_SF_CTRL_SWITCH || !m.ready then m
  else ({ m with air := { m.air with switchAt := if m.stepped then some m.asn else none } }).w AIR_SF_CTRL_SWITCH 1

def execSlotBankSwitchRequest (s : State) : Res := s.on slotBankSwitchRequest

/-- SLOT_BANK_EXCHANGE (R236). -/
def slotBankExchange (m : Mach) : Mach :=
  if m.inSlot && m.air.phase ≤ 2 && m.bankDue m.asn then
    (({ m with air := { m.air with switchAt := none } }).w AIR_SF_CTRL_SWITCH 0).w AIR_SF_CTRL_BANK
      (1 - m.r AIR_SF_CTRL_BANK)
  else m

def execSlotBankExchange (s : State) : Res := s.on slotBankExchange

/-! ### Lanes (R251 to R253) -/

/-- A list element put before the first one `lt` places after it. -/
def insertBy {α : Type} (lt : α → α → Bool) (e : α) : List α → List α
  | [] => [e]
  | x :: l => if lt e x then e :: x :: l else x :: insertBy lt e l

/-- A list sorted, equals in their order. -/
def sortBy {α : Type} (lt : α → α → Bool) (l : List α) : List α := l.foldl (fun s e => insertBy lt e s) []

/-- Logical lanes that are open, lane modems that work. -/
def Mach.openLanes (m : Mach) : List Nat := (List.range 8).filter m.laneOpen
def Mach.modems (m : Mach) : List Nat := (List.range 8).filter (fun n => !(m.r AIR_STATUS_MODEM_FAIL).testBit n)

/-- The lanes served in a slot, ascending (R251). -/
def Mach.servedLanes (m : Mach) (permit : Bool) : List Nat :=
  let n := m.modems.length
  if m.openLanes.length ≤ n then m.openLanes
  else
    let t := if permit then m.air.servedPermit else m.air.servedOther
    let at_ := fun (x : Nat) => (Tabs.look t x).elim 0 (fun a => a + 1)
    let l := (sortBy (fun x y => at_ x < at_ y) m.openLanes).take n
    m.openLanes.filter l.contains

/-- A lane is served in the slot in progress, by a modem that still works (R240, R251). -/
def Mach.laneServed (m : Mach) (x : Nat) : Bool :=
  m.r AIR_LANE_STATUS_STATE x != 0 && !m.b AIR_LANE_STATUS_DARK x &&
  !(m.r AIR_STATUS_MODEM_FAIL).testBit (m.r AIR_LANE_STATUS_MODEM x)

/-- LANE_SERVICE_ASSIGN (R251): modems, dark lanes, channels of slot `a`. -/
def Mach.serveLanes (m : Mach) (a : Nat) (permit : Bool) : Mach :=
  let l := m.servedLanes permit
  let mods := m.modems
  let rot := mods.length < m.openLanes.length
  let mark := fun t => l.foldl (fun t x => Tabs.put t x a) t
  let m := if permit then { m with air := { m.air with servedPermit := mark m.air.servedPermit } }
    else { m with air := { m.air with servedOther := mark m.air.servedOther } }
  m.each (List.range 8) (fun m x =>
    let m := m.w AIR_LANE_STATUS_CHANNEL (m.chanOf x a) x
    let m := m.w AIR_LANE_STATUS_STATE (if !m.laneOpen x then 0 else if rot then 2 else 1) x
    match l.findIdx? (fun y => y == x) with
    | some k => (m.w AIR_LANE_STATUS_DARK 0 x).w AIR_LANE_STATUS_MODEM (mods.getD k 0) x
    | none => if m.laneOpen x then (m.w AIR_LANE_STATUS_DARK 1 x).inc AIR_LANE_DARK_ALL x else m.w AIR_LANE_STATUS_DARK 0 x)

/-- A slot begins with the present tick, after the first step, and SLOT_START has not come yet. -/
def Mach.slotDue (m : Mach) : Bool :=
  m.stepped && m.msInt % 4 == 0 && m.air.slot != some m.asn && m.time.stepTick != some m.now

/-- LANE_CLOSE (R253): a lane whose modem has failed, at a slotframe start at which no robot has it as its home lane,
before that slot serves its lanes. DESIGN CHOICE: a seat reserved there by a move not yet effective, or by a pending join, keeps
the lane open as a home does (log entry 61). -/
def laneClose (x : Nat) (m : Mach) : Mach :=
  if m.slotDue && m.asn % m.r AIR_SLOT_CFG_SF_LEN == 0 && (m.r AIR_STATUS_MODEM_FAIL).testBit x &&
      m.laneOpen x && (m.seats x).isEmpty then
    let o := m.r AIR_STATUS_LANE_OPEN
    (m.w AIR_STATUS_LANE_OPEN (o - 2 ^ x)).w AIR_LANE_STATUS_STATE 0 x
  else m

def execLaneClose (x : Fin 8) (s : State) : Res := s.on (laneClose x)

/-! ### Enable (R230, R288) -/

/-- The hop offsets are below L and differ modulo L, and a PAN ID is set. -/
def Mach.airCfgOk (m : Mach) : Bool :=
  let l := (List.range 8).map (fun x => m.r AIR_LANE_CFG_OFFSET x)
  l.all (fun o => o < hopLen) && l.dedup.length == 8 && m.r AIR_PAN_ID_PAN_ID != 0xFFFF

/-- AIR_ENABLE: a write of 1 to AIR_CTRL.ENABLE; one during a drain has no effect (R42). -/
def airEnable (m : Mach) : Mach :=
  if !m.ready || m.b AIR_CTRL_ENABLE then m
  else if m.airCfgOk then ((m.w AIR_CTRL_ENABLE 1).w AIR_CTRL_CFG_ERR 0).airRefresh
  else m.w AIR_CTRL_CFG_ERR 1

def execAirEnable (s : State) : Res := s.on airEnable

/-! ### Frames (R263 to R266, R290 to R296) -/

/-- The nonce of R263. -/
def airNonce (a src lane win : Nat) : List Byte :=
  (le 5 a).reverse ++ (le 2 src).reverse ++ le 1 lane ++ le 4 0 ++ le 1 win

/-- An OAP IE (R290). -/
def oapIe (sub : Nat) (content : List Byte) : List Byte := le 2 (0xC800 + content.length + 1) ++ le 1 sub ++ content

/-- A frame with its FCS. -/
def withFcs (l : List Byte) : List Byte := l ++ le 4 (Config.fcs l)

/-- A frame of security level 2: authenticated, not encrypted. -/
def sealed2 (key : Nat) (nonce body : List Byte) : List Byte := withFcs (body ++ le 8 (ccmMic key nonce body []))

/-- A frame of security level 6: the payload IEs encrypted, all of it authenticated. -/
def sealed6 (key : Nat) (nonce head ies : List Byte) : List Byte :=
  withFcs (head ++ ccmEnc key nonce ies ++ le 8 (ccmMic key nonce head ies))

/-- Header Termination 1 IE. -/
def ht1 : List Byte := le 2 0x3F00

/-- The base's short address on a lane (R256). -/
def baseAddr (x : Nat) : Nat := 0x0100 + x

/-- The seats of a lane in its rotation and in its stop map, with their indices: members and pending joins, and the new
seats of unresolved moves (R268, R284). -/
def Mach.rotSeats (m : Mach) (x : Nat) : List (Nat × Nat) :=
  m.air.tab.members.flatMap (fun e =>
    (if e.2.lane == x then [(e.2.seat, e.1)] else []) ++
    (match e.2.move with
     | some v => if v.open_ && v.lane == x then [(v.seat, e.1)] else []
     | none => []))

/-- The seats of a lane that carry a stop: of the agents stopped in the sample (R268). -/
def Mach.seatStops (m : Mach) (x : Nat) : List Nat :=
  ((m.rotSeats x).filter (fun e => m.dam.sample.agents.getLsbD e.2)).map (fun e => e.1)

/-- The content of a permit or burst (R266, R268, R269). Outside a permit slot it carries the stop content only. -/
def Mach.permitContent (m : Mach) (x : Nat) (burst permit : Bool) (plan : List Plan) : List Byte :=
  let s := m.dam.sample
  let flags := b2n s.site + 2 * b2n burst +
    (if permit then 4 * b2n m.air.valid + 8 * b2n (m.b AIR_JOIN_CTRL_JOIN_OPEN) else 0)
  let entry := fun (p : Plan) => p.kind % 16 + 16 * p.seat.getD 0 + 2048 * b2n p.seat.isSome
  let slots := if permit then plan.flatMap (fun p => le 2 (entry p)) else le 8 0
  le 1 1 ++ le 1 flags ++ le 1 x ++ le 1 (m.r KILN_AUTH_STATUS_KEY_ID) ++ le 5 m.asn ++ slots ++ le 8 s.zones.toNat ++
    le 16 ((m.seatStops x).map (fun k => 2 ^ k)).sum

/-- The bytes of a permit before its content (R265): 41 bytes of content follow. -/
def Mach.permitHead (m : Mach) (x : Nat) : List Byte :=
  le 2 0xA308 ++ le 2 (m.r AIR_PAN_ID_PAN_ID) ++ le 2 (baseAddr x) ++ le 1 0x6A ++ le 1 (m.r AIR_KEY_STATUS_BK_ID) ++ ht1 ++
    (oapIe 1 (List.replicate 41 0)).take 3

/-- The 66 bytes of a permit beacon or stop burst (R265). -/
def Mach.permitFrame (m : Mach) (x : Nat) (burst permit : Bool) (plan : List Plan) : List Byte :=
  sealed2 (m.air.bkey.getD 0) (airNonce m.asn (baseAddr x) x 0)
    (le 2 0xA308 ++ le 2 (m.r AIR_PAN_ID_PAN_ID) ++ le 2 (baseAddr x) ++ le 1 0x6A ++ le 1 (m.r AIR_KEY_STATUS_BK_ID) ++
      ht1 ++ oapIe 1 (m.permitContent x burst permit plan))

/-- A broadcast data frame (R295). -/
def Mach.bcastFrame (m : Mach) (x : Nat) (ies : List Byte) : List Byte :=
  sealed2 (m.air.bkey.getD 0) (airNonce m.asn (baseAddr x) x 0)
    (le 2 0xAB49 ++ le 2 (m.r AIR_PAN_ID_PAN_ID) ++ le 2 0xFFFF ++ le 2 (baseAddr x) ++ le 1 0x6A ++
      le 1 (m.r AIR_KEY_STATUS_BK_ID) ++ ht1 ++ ies)

/-- A unicast data frame to a robot (R294). -/
def Mach.uniFrame (m : Mach) (x key ref dsn : Nat) (ies : List Byte) : List Byte :=
  sealed6 key (airNonce m.asn (baseAddr x) x 0)
    (le 2 0xAA69 ++ le 1 dsn ++ le 2 (m.r AIR_PAN_ID_PAN_ID) ++ le 2 ref ++ le 2 (baseAddr x) ++ le 1 0x6E ++ le 1 0 ++ ht1)
    ies

/-- A join response (R276). -/
def Mach.respFrame (m : Mach) (x : Nat) (r : JoinResp) : List Byte :=
  sealed6 r.jkey (airNonce m.asn (baseAddr x) x 0)
    (le 2 0xAF69 ++ le 2 (m.r AIR_PAN_ID_PAN_ID) ++ le 8 r.eui ++ le 2 (baseAddr x) ++ le 1 0x66 ++ ht1)
    (oapIe 3 r.content)

/-- An ACK of the base (R296). -/
def Mach.ackFrame (m : Mach) (k : AckDue) : List Byte :=
  sealed2 k.key (airNonce m.asn (baseAddr k.lane) k.lane 1)
    (le 2 0x230A ++ (if k.session then le 1 0x6A ++ le 1 0 else le 1 0x62) ++ le 2 0x0F02 ++ le 2 (unsgn 12 k.tc))

/-! ### Plans (R267, R268, R284) -/

/-- The occupied seat after the last one, wrapping. -/
def nextSeat (seats : List Nat) (last : Option Nat) : Option Nat :=
  match last with
  | none => seats.min?
  | some p => match (seats.filter (fun s => p < s)).min? with
    | some s => some s
    | none => seats.min?

/-- New seats of unresolved moves to a lane whose first UP slot is still to be planned. -/
def Mach.newSeats (m : Mach) (x : Nat) : List Nat :=
  m.air.tab.members.filterMap (fun e => match e.2.move with
    | some v => if v.open_ && !v.planned && v.lane == x then some v.seat else none
    | none => none)

/-- The plan of the slots listed, for a lane. -/
def Mach.planSlots (m : Mach) (x : Nat) (seats : List Nat) : List Nat → List Nat → Option Nat → List Plan
  | [], _, _ => []
  | a :: l, fresh, last =>
    let k := m.kindAt a
    if k == kUP then
      match fresh with
      | s :: t => ⟨a, k, some s⟩ :: m.planSlots x seats l t (some s)
      | [] =>
        let s := nextSeat seats last
        ⟨a, k, s⟩ :: m.planSlots x seats l [] (if s.isSome then s else last)
    else ⟨a, k, none⟩ :: m.planSlots x seats l fresh last

/-- The SLOT_PLAN of a permit in the slot in progress. -/
def Mach.planOf (m : Mach) (x : Nat) : List Plan :=
  m.planSlots x ((m.rotSeats x).map (fun e => e.1)) [m.asn + 1, m.asn + 2, m.asn + 3, m.asn + 4] (m.newSeats x)
    (Tabs.look m.air.tab.lastUp x)

/-! ### Broadcast frames (R299, R300, R369, R423) -/

/-- An authority record waits for the standby's acknowledgement of the TICK_END of its snapshot's tick (R423). -/
def Mach.authHeld (m : Mach) (e : AuthEnt) : Bool :=
  (m.mirror == 3 || m.mirror == 4) && m.red.ackPt.all (fun p => decide (diff32 p e.snapPt < 0))

/-- REDUN_HELD_MAX follows the records held (R423). -/
def Mach.heldShow (m : Mach) : Mach :=
  m.maxTo REDUN_HELD_MAX_ALL (m.air.tab.auth.filter (fun e => e.2.owed > 0 && m.authHeld e.2)).length

/-- Entries that may be sent on a lane now, as they stood at the start of the last tick before the slot (R369). -/
def Mach.authOn (m : Mach) (x : Nat) : List (Nat × AuthEnt) :=
  m.air.tab.auth.filter (fun e =>
    e.2.owed > 0 && e.2.tick < (m.now : Int) && (m.agent e.1).state == 2 && decide (diff32 m.pt e.2.record.expiry < 0) && !m.authHeld e.2 &&
    (match m.member e.1 with
     | some r => r.lane == x || r.move.any (fun v => v.open_ && v.lane == x)
     | none => false))

/-- The order within a group: ascending BUILD_ASN, ties to the lower index. -/
def authBefore (a b : Nat × AuthEnt) : Bool :=
  a.2.record.asn < b.2.record.asn || (a.2.record.asn == b.2.record.asn && a.1 < b.1)

/-- What an IE of a broadcast frame is. -/
inductive BcastItem where
  | corr (epoch : Nat)
  | auth (r : AuthRec)
  | rtcm (k : Nat)
deriving DecidableEq, Repr

/-- The IEs offered for a lane's broadcast frame, in order. -/
def Mach.bcastItems (m : Mach) (x : Nat) : List (BcastItem × List Byte) :=
  let corr := match m.air.corr with
    | some c => if !m.air.corrSent.contains x && c.tick < m.now && decide (diff32 m.pt c.epoch ≤ 17) then
        [(BcastItem.corr c.epoch, oapIe 5 c.content)] else []
    | none => []
  let all := sortBy authBefore (m.authOn x)
  let grp := all.filter (fun e => e.2.changed && !e.2.sent) ++ all.filter (fun e => e.2.changed && e.2.sent) ++
    all.filter (fun e => !e.2.changed)
  let q := (Tabs.val m.air.rtcm [] x).filter (fun e => decide (e.tick < m.now))
  corr ++ grp.map (fun e => (.auth e.2.record, oapIe 4 e.2.record.content)) ++ q.map (fun e => (.rtcm e.id, oapIe 6 e.content))

/-- Filling: an IE that does not fit is held back, and the filling goes on. -/
def fillIes : Nat → List (BcastItem × List Byte) → List (BcastItem × List Byte)
  | _, [] => []
  | room, e :: l => if e.2.length ≤ room then e :: fillIes (room - e.2.length) l else fillIes room l

/-- The broadcast frame of a lane, if there is something to send. -/
def Mach.bcastFor (m : Mach) (x : Nat) : Option (FlightKind × Nat × List Byte) :=
  let l := fillIes 184 (m.bcastItems x)
  if l.isEmpty then none
  else
    let auth := l.filterMap (fun e => match e.1 with
      | .auth i => some i
      | _ => none)
    let rtcm := l.filterMap (fun e => match e.1 with
      | .rtcm k => some k
      | _ => none)
    let corr := l.findSome? (fun e => match e.1 with
      | .corr p => some p
      | _ => none)
    some (.bcast auth corr rtcm, 3, m.bcastFrame x (l.flatMap (fun e => e.2)))

/-! ### Downlink frames (R297, R298, R301, R303, R314) -/

/-- IE bytes a unicast frame holds at an MCS (R297). -/
def uniRoom (mcs : Nat) : Nat := if mcs ≥ 3 then 183 else 79

/-- The content of a LANE_MOVE IE (R282). -/
def Mach.moveIe (m : Mach) (v : LaneMove) : List Byte :=
  oapIe 10 (le 1 1 ++ le 1 v.lane ++ le 1 (m.r AIR_LANE_CFG_OFFSET v.lane) ++ le 1 v.seat ++ le 5 v.asn)

/-- A LANE_MOVE IE is owed: not acknowledged, EFFECTIVE_ASN not reached (R282). -/
def Member.moveOwed (x : Member) : Option LaneMove :=
  x.move.bind (fun v => if v.acked || v.open_ then none else some v)

/-- The lane on which the base sends to a robot: where it was last heard while a move is unresolved. -/
def Member.down (x : Member) : Nat := if x.move.any (fun v => v.open_) then x.heard else x.lane

/-- The payload of an open offer. -/
def Mach.payloadOf (m : Mach) (id : Nat) : List Byte :=
  match m.air.tab.ledger.find? (fun e => e.2.id == id) with
  | some e => e.2.payload
  | none => []

/-- The fragment a robot is owed, cut to at most `room` data bytes unless it was cut before (R303, R314). -/
def Mach.nextFrag (m : Mach) (x : Member) (room : Nat) : Option Frag :=
  match x.front with
  | some f => some f
  | none => match x.tasks with
    | [] => none
    | (id, off) :: _ =>
      let total := (m.payloadOf id).length
      if off < total then some ⟨id, off, min room (total - off)⟩ else none

/-- A TASK_FRAG IE (R314). -/
def Mach.fragIe (m : Mach) (f : Frag) : List Byte :=
  let p := m.payloadOf f.task
  oapIe 8 (le 1 1 ++ le 1 (b2n (f.off + f.len == p.length)) ++ le 4 f.task ++ le 2 p.length ++ le 2 f.off ++
    (p.drop f.off).take f.len)

/-- A new unicast frame to a robot: the LANE_MOVE IE first, then one fragment that fits; `none` when nothing is owed. A
fragment cut for a larger frame than the current MCS allows goes alone at MCS3. -/
def Mach.newFrame (m : Mach) (x : Member) (lane : Nat) : Option Unicast :=
  let eff := x.moveOwed.map (fun v => v.asn)
  let mv := match x.moveOwed with
    | some v => m.moveIe v
    | none => []
  let room := uniRoom x.mcs - mv.length
  match m.nextFrag x (room - 13) with
  | some f =>
    if f.len + 13 ≤ room then
      some ⟨mv ++ m.fragIe f, x.nextDsn, m.asn, x.mcs, lane, 0, eff, some f, none⟩
    else if !mv.isEmpty then some ⟨mv, x.nextDsn, m.asn, x.mcs, lane, 0, eff, none, none⟩
    else some ⟨m.fragIe f, x.nextDsn, m.asn, 3, lane, 0, none, some f, none⟩
  | none => if mv.isEmpty then none else some ⟨mv, x.nextDsn, m.asn, x.mcs, lane, 0, eff, none, none⟩

/-- The MCS at which a frame's retry goes: the current one if it fits, else that of the first attempt (R298). -/
def retryMcs (x : Member) (u : Unicast) : Nat := if u.ies.length ≤ uniRoom x.mcs then x.mcs else u.mcs

/-- A unicast frame as a flight. -/
def Mach.uniFlight (m : Mach) (lane i : Nat) (x : Member) (u : Unicast) (retry : Bool) : FlightKind × Nat × List Byte :=
  (.uni i u retry, if retry then retryMcs x u else u.mcs, m.uniFrame lane x.key (m.refOf i) u.dsn u.ies)

/-- Members with nothing outstanding that are served on a lane. -/
def Mach.freeOn (m : Mach) (x : Nat) : List (Nat × Member) :=
  m.air.tab.members.filter (fun e => !e.2.pending && e.2.sent.isNone && e.2.down == x)

/-- DOWNLINK_FRAME_SELECT (R301). -/
def Mach.downFor (m : Mach) (x : Nat) : Option (FlightKind × Nat × List Byte) :=
  match (m.resps x).find? (fun r => r.sends < 5 && r.waits.isNone) with
  | some r => some (.resp r.eui r.content, 2, m.respFrame x r)
  | none =>
    let due := m.air.tab.members.filterMap (fun e => match e.2.sent with
      | some u => if u.waits.isNone && u.lane == x then some (e.1, e.2, u) else none
      | none => none)
    match sortBy (fun a b => a.2.2.first < b.2.2.first) due with
    | e :: _ => some (m.uniFlight x e.1 e.2.1 e.2.2 true)
    | [] =>
      let free := m.freeOn x
      match free.find? (fun e => e.2.lane == x && e.2.moveOwed.isSome) with
      | some e => (m.newFrame e.2 x).map (fun u => m.uniFlight x e.1 e.2 u false)
      | none =>
        let withFrag := free.filter (fun e => (m.nextFrag e.2 1).isSome)
        let last := Tabs.look m.air.tab.lastDown x
        let after := withFrag.filter (fun e => match last with
          | some p => decide (p < e.1)
          | none => true)
        match after ++ withFrag with
        | e :: _ => (m.newFrame e.2 x).map (fun u => m.uniFlight x e.1 e.2 u false)
        | [] => none

/-! ### SLOT_START (R232) and the sample of R199 -/

/-- RTCM IEs with the numbers listed leave a queue. -/
def dropRtcm (l : List RtcmIe) (ks : List Nat) : List RtcmIe := l.filter (fun e => !ks.contains e.id)

/-- What a frame that has ended commits, AUTH sends aside. -/
def Mach.settleFlight (m : Mach) (f : Flight) : Mach :=
  let m := m.chargeTx f.lane f.chan f.us
  let slot := m.air.slot.getD 0
  match f.what with
  | .permit plan burst =>
    let m := if burst then m.inc AIR_BURSTS_SENT_ALL else m.inc AIR_PERMITS_SENT_ALL
    let m := { m with air := { m.air with plans := Tabs.put m.air.plans f.lane plan } }
    let ups := plan.filterMap (fun p => p.seat)
    let m := match ups.getLast? with
      | some s => m.setTab { m.air.tab with lastUp := Tabs.put m.air.tab.lastUp f.lane s }
      | none => m
    let note := fun (x : Member) => { x with move := x.move.map (fun v =>
      { v with planned := v.planned || (v.open_ && v.lane == f.lane && ups.contains v.seat) }) }
    m.setTab { m.air.tab with members := m.air.tab.members.map (fun e => (e.1, note e.2)) }
  | .burst => m.inc AIR_BURSTS_SENT_ALL
  | .bcast auth corr rtcm =>
    let m := m.incBy AIR_AUTH_SENT_ALL auth.length
    let q := dropRtcm (Tabs.val m.air.rtcm [] f.lane) rtcm
    let old := dropRtcm (Tabs.val m.air.rtcmOld [] f.lane) rtcm
    let m := { m with air := { m.air with rtcm := Tabs.put m.air.rtcm f.lane q, rtcmOld := Tabs.put m.air.rtcmOld f.lane old } }
    match corr with
    | some epoch =>
      let age := 1000 * (diff32 ((4 * slot) % 2 ^ 32) epoch).toNat + 200 + f.us
      let m := if m.air.corr.any (fun c => c.epoch == epoch) then
          { m with air := { m.air with corrSent := f.lane :: m.air.corrSent } } else m
      (m.maxTo CORR_AGE_MAX_ALL age).inc CORR_IE_SENT_ALL
    | none => m
  | .ack join => m.when join (fun m => m.inc AIR_JOIN_ACKED_ALL)
  | .resp eui content =>
    let sent := fun (r : JoinResp) =>
      { r with sends := r.sends + 1, firstAt := if r.firstAt.isSome then r.firstAt else some m.now, waits := some slot }
    m.setResps f.lane ((m.resps f.lane).map (fun r => if r.eui == eui && r.content == content then sent r else r))
  | .uni i u retry =>
    match m.member i with
    | none => m
    | some x =>
      let u' := { u with waits := some slot, retries := if retry then u.retries + 1 else u.retries }
      let x := { x with sent := some u', downDsn := u.dsn, nextDsn := if retry then x.nextDsn else (u.dsn + 1) % 256,
                        front := if retry || u.frag.isNone then x.front else none }
      let m := m.setMember i x
      let m := if retry then m.inc AIR_TX_RETRY_ALL else m.inc AIR_TX_FIRST_ALL
      m.setTab { m.air.tab with lastDown := if u.frag.isSome then Tabs.put m.air.tab.lastDown f.lane i else m.air.tab.lastDown }

/-- One send made of each authority record that went out in the slot, on one lane or on both lanes of an unresolved move; a
record that has replaced it since is not charged (R300). -/
def Mach.authSent (m : Mach) (l : List AuthRec) : Mach :=
  m.each l.dedup (fun m r =>
    let i := refIdx r.ref
    match Tabs.look m.air.tab.auth i with
    | some e =>
      if e.record != r then m
      else if e.owed ≤ 1 then m.setTab { m.air.tab with auth := Tabs.del m.air.tab.auth i }
      else m.setTab { m.air.tab with auth := Tabs.put m.air.tab.auth i { e with owed := e.owed - 1, sent := true } }
    | none => m)

/-- Stream bytes of RTCM IEs: a content has one byte before them (R364). -/
def rtcmBytesOf (l : Tab (List RtcmIe)) : Nat := (l.map (fun e => (e.2.map (fun i => i.content.length - 1)).sum)).sum

/-- RTCM IEs that were in flight as their epoch was discarded, and were cut off, are dropped (R364). -/
def Mach.rtcmLost (m : Mach) : Mach :=
  let n := rtcmBytesOf m.air.rtcmOld
  ({ m with air := { m.air with rtcmOld := [] } }).incBy CORR_RTCM_DROPPED_ALL n

/-- The frames of a window have ended, and the external PA is at rest again. -/
def Mach.settleFlights (m : Mach) : Mach :=
  let l := m.air.ended ++ m.air.inFlight
  let m := (m.setFlight [] [] m.air.acks).paRest
  let m := (m.each l Mach.settleFlight).rtcmLost
  (m.authSent (l.flatMap (fun f => match f.what with
    | .bcast auth _ _ => auth
    | _ => []))).airShow

/-- The slot that begins owes a stop burst (R197, R198). -/
def Mach.takeBurst (m : Mach) : Mach :=
  let n := m.r DAMP_STATUS_BURSTS_LEFT
  ({ m with dam := { m.dam with burst := n != 0 } }).w DAMP_STATUS_BURSTS_LEFT (n - 1)

/-- The tables of a role that was lost inside the slot are gone (R413). -/
def Mach.airWipe (m : Mach) : Mach :=
  let w := m.air.wipe
  ({ m with air := { m.air with wipe := false } }).when w (fun m => (m.setTab {}).airShow)

/-- SLOT_START: at a tick boundary at which a slot begins, after the first step. DESIGN CHOICE: the spec says what ASN_VALID and
AIR_ASN read before the first step only; they rise with the first slot that starts after it (log entry 61). -/
def slotStart (m : Mach) : Mach :=
  if !m.slotDue then m
  else
    let m := m.settleFlights
    let a := m.asn
    let on := m.takes .air
    let m := m.airWipe
    let held := m.isActive && m.b REDUN_STATUS_GRANTED
    let m := { m with air := { m.air with slot := some a, phase := 1, on := on, acks := [], sentOn := [], joins := [], heard := [], counted := [], held := held } }
    let m := ((m.w AIR_ASN_LO_ALL a).w AIR_ASN_HI_ALL (a / 2 ^ 32)).w AIR_STATUS_ASN_VALID 1
    let m := m.when (!m.isSafe) (fun m => m.w DAMP_STATUS_GATE 0)
    let m := m.airRefresh.takeBurst
    let permit := m.kindAt a == kPERMIT
    let m := if permit && on && m.air.cond then { m with air := { m.air with permitFirst := false } } else m
    m.serveLanes a permit

def execSlotStart (s : State) : Res := s.on slotStart

/-- STOP_CONTENT_SAMPLE (R199), 50 µs into the slot, and CORR_VALID with it (R359). -/
def stopContentSample (m : Mach) : Mach :=
  if m.inSlot && m.msInt % 4 == 0 && m.air.phase == 1 then
    { m with dam := { m.dam with sample := m.latched }, air := { m.air with phase := 2, valid := m.b CORR_STATUS_VALID } }
  else m

def execStopContentSample (s : State) : Res := s.on stopContentSample

/-! ### TRANSMIT_WINDOW and ACK_WINDOW (R232, R233, R240) -/

/-- The region may transmit in the slot in progress. -/
def Mach.mayTransmit (m : Mach) : Bool :=
  m.air.on && m.air.cond && !m.b DAMP_STATUS_GATE && !m.air.permitFirst && m.red.swapH != some (m.asn + 1)

/-- The frame a served lane sends in the transmit window. -/
def Mach.laneFrame (m : Mach) (x : Nat) : Option (FlightKind × Nat × List Byte) :=
  let k := m.slotKind
  if k == kPERMIT then
    let plan := m.planOf x
    let b := m.dam.burst
    some (.permit plan b, if b then 3 else 2, m.permitFrame x b true plan)
  else if m.dam.burst then some (.burst, 3, m.permitFrame x true false [])
  else if k == kBCAST then m.bcastFor x
  else if k == kDOWN then m.downFor x
  else none

/-- The longest air time that ends within the window, in µs (R232, R233). -/
def FlightKind.room : FlightKind → Nat
  | .ack _ => 700
  | _ => 2300

/-- A frame or ACK starts unless it would pass the end of the window (R233). -/
def Mach.launch (m : Mach) (x : Nat) (f : FlightKind × Nat × List Byte) : Mach :=
  let us := Config.airUs f.2.1 f.2.2.length
  if us > f.1.room then m.inc AIR_WINDOW_REFUSED_ALL
  else
    let ch := m.r AIR_LANE_STATUS_CHANNEL x
    let fl : Flight := ⟨Fin.ofNat 8 x, ch, f.2.1, us, f.2.2, f.1⟩
    ({ m with air := { m.air with inFlight := m.air.inFlight ++ [fl], sentOn := m.air.sentOn ++ [x] } }).emit
      (.air x (chanKHz ch) (m.r AIR_LANE_PWR_PWR x) f.2.1 f.2.2)

/-- The external PA before a window with a frame (R249): LNA_EN low, PA_EN high, PA_RAMP up to LEVEL. -/
def Mach.paRise (m : Mach) : Mach :=
  if m.b AIR_PA_CFG_EXT_PA then ((m.setPins ⟨false, false, 0⟩).setPins ⟨true, false, 0⟩).setPins ⟨true, false, m.r AIR_PA_CFG_LEVEL⟩
  else m

/-- The frames of a window start; the external PA rises for a window in which one does. -/
def Mach.launchAll (m : Mach) (l : List (Nat × FlightKind × Nat × List Byte)) : Mach :=
  let any := l.any (fun e => decide (Config.airUs e.2.2.1 e.2.2.2.length ≤ e.2.1.room))
  (m.when any Mach.paRise).each l (fun m e => m.launch e.1 e.2)

/-- TRANSMIT_WINDOW. Frames are chosen from the state as the window begins. -/
def transmitWindow (m : Mach) : Mach :=
  if m.inSlot && m.msInt % 4 == 0 && m.air.phase == 2 then
    let m := { m with air := { m.air with phase := 3 } }
    let m := m.heldShow
    if m.mayTransmit then
      let l := (List.range 8).filter m.laneServed
      m.launchAll (l.filterMap (fun x => (m.laneFrame x).map (fun f => (x, f))))
    else m
  else m

def execTransmitWindow (s : State) : Res := s.on transmitWindow

/-- TX_LIMIT_TRIP (R247): a frame in flight would pass a limit of the transmit monitor; it is cut off at the limit. -/
def txLimitTrip (x : Nat) (m : Mach) : Mach :=
  match m.air.inFlight.find? (fun f => f.lane == x) with
  | none => m
  | some f =>
    let log := (Tabs.val m.air.txLog [] (32 * x + f.chan)).filter (fun e => m.now < e.1 + 1000)
    let used := (log.map (fun e => e.2)).sum
    let limit := if Config.isAM then 40000 else 70000
    let long := decide (2300 < f.us)
    if long || used + f.us > limit then
      let us := if long then 2300 else limit - used
      let m := { m with air := { m.air with inFlight := m.air.inFlight.filter (fun g => g.lane != x) } }
      let m := m.when m.air.inFlight.isEmpty Mach.paRest
      let m := ((m.corrCut f).emit (.airCut x)).chargeTx x f.chan us |>.inc AIR_LIMIT_TRIP_ALL
      m.event 0x0305 3 12 (le 1 x ++ le 1 (Config.limitCode (if long then 0 else 1)))
    else m

def execTxLimitTrip (x : Fin 8) (s : State) : Res := s.on (txLimitTrip x)

end Sys2Proof.Machine
end

