-- ==== Sys2Proof/Machine/AirMember.lean ====
section
/-! DEFINITION. Joining, missed uplinks, lane moves, membership descriptors (08). -/

namespace Sys2Proof.Machine

open Sys2Proof

/-! ### Reception (R238, R243) -/

/-- The unit listens on a lane in the transmit window. -/
def Mach.listenTx (m : Mach) (x : Nat) : Bool :=
  m.inSlot && m.air.on && m.laneServed x && (m.air.phase == 2 || m.air.phase == 3) &&
  (m.isStandby || (m.isActive && !m.dam.burst && (m.slotKind == kUP || m.slotKind == kJOIN)))

/-- A join response or a unicast frame was sent on a lane in this slot. -/
def Mach.respWaits (m : Mach) (x : Nat) : Option JoinResp := (m.resps x).find? (fun r => r.waits == some m.asn)
def Mach.uniWaits (m : Mach) (x : Nat) : Option (Nat × Member × Unicast) :=
  m.air.tab.members.findSome? (fun e => match e.2.sent with
    | some u => if u.lane == x && u.waits == some m.asn then some (e.1, e.2, u) else none
    | none => none)

/-- The unit listens on a lane in the ACK window. -/
def Mach.listenAck (m : Mach) (x : Nat) : Bool :=
  m.inSlot && m.air.on && m.laneServed x && m.air.phase == 4 &&
  (m.isStandby || (m.isActive && ((m.respWaits x).isSome || (m.uniWaits x).isSome)))

/-- The copy of a frame that is kept (R248): of those whose SHR was received the one of better quality. While a lane
transmits RF_B is blanked. DESIGN CHOICE: of two of one quality that of RF_A (log entry 61). -/
def Mach.keptCopy (m : Mach) (rx : AirRx) : Option RxCopy :=
  match rx.a, (if m.air.inFlight.isEmpty then rx.b else none) with
  | some a, some b => some (if a.quality < b.quality then b else a)
  | some a, none => some a
  | none, b => b

/-- The SHR starts inside the receive window (R238). -/
def RxCopy.inWindow (c : RxCopy) : Bool := decide (-100 ≤ c.tc ∧ c.tc ≤ 100)

/-- A frame arrives: its kept copy, where it is received; counted by its window and FCS, the RSSI of both copies kept
(R238, R248). DESIGN CHOICE: no register or completion of the spec carries the RSSI; that of the last frame of each lane is kept
(log entry 61). -/
def Mach.receive (m : Mach) (rx : AirRx) (listens : Bool) : Mach × Option RxCopy :=
  match (if listens then m.keptCopy rx else none) with
  | none => (m, none)
  | some c =>
    if !c.inWindow then (m.inc AIR_RX_WINDOW_MISS_ALL, none)
    else
      let seen := (rx.a.map (fun c => c.rssi), if m.air.inFlight.isEmpty then rx.b.map (fun c => c.rssi) else none)
      let m := { m with air := { m.air with rssi := Tabs.put m.air.rssi rx.lane seen } }
      if !c.fcsOk then (m.inc AIR_LANE_RX_FCS_ALL rx.lane, none)
      else (m.inc AIR_LANE_RX_OK_ALL rx.lane, some c)

/-- The unit serves the slot in progress as the base: it is ACTIVE, or was as the slot began (R242). -/
def Mach.asBase (m : Mach) : Bool := m.isActive || m.air.held

/-- An ACK is owed on a lane, unless the gate is closed or the role is lost (R242). -/
def Mach.oweAck (m : Mach) (k : AckDue) : Mach :=
  if m.b DAMP_STATUS_GATE || !m.isActive then m else { m with air := { m.air with acks := m.air.acks ++ [k] } }

/-- A frame carries a MIC made under a key with the nonce its receiver builds (R263, R264): source address, window. -/
def Mach.micOk (m : Mach) (rx : AirRx) (key src win : Nat) : Bool := rx.mic == some (key, airNonce m.asn src rx.lane win)

/-- The nonce's source of a frame whose source is an EUI-64. -/
def euiSrc : Nat := 0xFFFE

/-! ### Credentials (R259) -/

/-- The entry of an EUI-64. -/
def Mach.cred (m : Mach) (eui : Nat) : Option (Nat × Cred) := m.nv.set.creds.find? (fun e => e.2.eui == eui)
def Mach.setCred (m : Mach) (n : Nat) (c : Cred) : Mach := { m with nv := { m.nv with set := { m.nv.set with creds := Tabs.put m.nv.set.creds n c } } }

/-- The index an EUI-64 holds, and the one a pending join of it reserves (R257, R275). -/
def Mach.holderOf (m : Mach) (eui : Nat) : Option (Nat × Member) :=
  m.air.tab.members.find? (fun e => e.2.eui == eui && !e.2.pending)
def Mach.reservedBy (m : Mach) (eui : Nat) : Option (Nat × Member) :=
  m.air.tab.members.find? (fun e => e.2.eui == eui && e.2.pending)

/-! ### JOIN_REQUEST_RECEIVED (R274, R275, R277) -/

/-- The FREE index that has been FREE longest, ties to the lowest. -/
def Mach.freeIndex (m : Mach) : Option Nat :=
  let since := fun (i : Nat) => Tabs.val m.air.tab.freeAt 0 i
  let l := (List.range 512).filter (fun i => (m.agent i).state == 0 && (m.member i).isNone)
  match l with
  | [] => none
  | a :: t => some (t.foldl (fun b i => if since i < since b then i else b) a)

/-- Home lane and seat of a new join. -/
def Mach.placeFor (m : Mach) (home : Nat) : Option (Nat × Nat) :=
  let ok := fun (x : Nat) => m.laneOpen x && (m.freeSeat x).isSome
  let lane := if home < 8 && ok home then some home
    else
      let l := (List.range 8).filter ok
      let n := fun (x : Nat) => (m.seats x).length
      match l with
      | [] => none
      | a :: t => some (t.foldl (fun b x => if n x < n b then x else b) a)
  lane.bind (fun x => (m.freeSeat x).map (fun s => (x, s)))

/-- The downlink MCS at which an agent starts, and the highest it may use (R298). -/
def Mach.mcsTop (m : Mach) (mcsMax : Nat) : Nat := min mcsMax (min (m.r AIR_TX_CFG_DOWN_MCS_MAX) 3)
def Mach.mcsStart (m : Mach) (mcsMax : Nat) : Nat := max (m.r AIR_TX_CFG_DOWN_MCS_MIN) (m.mcsTop mcsMax)

/-- A frame has the form of a join request to the base on its lane (R256, R264, R273): length, frame control, PAN ID,
destination, security control, Header Termination 1 IE, OAP IE header, FORMAT. DESIGN CHOICE: reserved bits are not looked
at (log entry 61). -/
def Mach.joinForm (m : Mach) (rx : JoinTaken) : Bool :=
  let l := rx.bytes
  l.length == 36 && leAt l 0 2 == 0xEB69 && leAt l 2 2 == m.r AIR_PAN_ID_PAN_ID && leAt l 4 2 == baseAddr rx.lane &&
    leAt l 14 1 == 0x62 && (l.drop 15).take 2 == ht1 && (l.drop 17).take 3 == le 2 (0xC800 + 17) ++ le 1 2 && leAt l 20 1 == 1

/-- The content of a join response (R277). -/
def Mach.respContent (m : Mach) (result ref lane seat nonce : Nat) : List Byte :=
  if result != 0 then le 1 1 ++ le 1 result ++ le 47 0
  else le 1 1 ++ le 1 0 ++ le 2 ref ++ le 1 lane ++ le 1 (m.r AIR_LANE_CFG_OFFSET lane) ++ le 1 seat ++
    le 1 (m.r AIR_KEY_STATUS_BK_ID) ++ le 16 (m.air.bkey.getD 0) ++ le 1 (m.r KILN_AUTH_STATUS_KEY_ID) ++
    le 16 (m.kiln.key.getD 0) ++ le 8 nonce

/-- JOIN_RESPONSE_QUEUE (R275): the response of an acknowledged request on a lane. It takes the place of a queued one of the
same EUI-64 and kind; a pending join keeps its reservation. DESIGN CHOICE: a BLOCKED entry gets REFUSED also where no index or
seat is free (log entry 61). -/
def Mach.queueResp (m : Mach) (x : Nat) (c : Cred) (nonce mcsMax : Nat) : Mach :=
  let (b, m) := m.draw
  let base := b % 2 ^ 64
  let place : Nat × Nat × Bool × Nat × Nat :=
    if c.blocked then (2, 0, false, 0, 0)
    else match m.holderOf c.eui, m.reservedBy c.eui with
      | some e, _ => (0, e.1, false, e.2.lane, e.2.seat)
      | none, some e => (0, e.1, true, e.2.lane, e.2.seat)
      | none, none => match m.freeIndex, m.placeFor c.home with
        | some i, some p => (0, i, true, p.1, p.2)
        | _, _ => (1, 0, false, 0, 0)
  let (result, i, fresh, lane, seat) := place
  let content := m.respContent result (m.refOf i) lane seat base
  let r : JoinResp := { eui := c.eui, jkey := c.key, result := result, idx := i, fresh := fresh, content := content,
                        skey := aes128 c.key (nonce + 2 ^ 64 * base), mcsMax := mcsMax }
  let drop := fun (q : JoinResp) => q.eui == c.eui && (q.result == 0) == (result == 0)
  let m := m.setTab { m.air.tab with resps := m.air.tab.resps.map (fun e => (e.1, e.2.filter (fun q => !drop q))) }
  let m := m.setResps x (m.resps x ++ [r])
  let m := if result == 0 && fresh && (m.member i).isNone then
      m.setMember i { eui := c.eui, key := 0, lane := lane, seat := seat, pending := true, mcsMax := mcsMax,
                      mcs := m.mcsStart mcsMax, heard := lane }
    else m
  m.airShow

/-- The conditions of R274 for an entry of the credential table; a request in a slot that is no JOIN slot is not
acknowledged either. -/
def Mach.joinOk (m : Mach) (j : JoinTaken) (c : Cred) : Bool :=
  m.slotKind == kJOIN && m.b AIR_JOIN_CTRL_JOIN_OPEN && m.joinForm j && j.mic == some (c.key, airNonce m.asn euiSrc j.lane 0) &&
    decide (c.ctr < leAt j.bytes 22 4) && decide ((m.resps j.lane).length < 16)

/-- A join request is decided (R274): acknowledged with its counter stored and its response queued, or rejected. -/
def Mach.joinDecide (m : Mach) (j : JoinTaken) : Mach :=
  match m.cred (leAt j.bytes 6 8) with
  | none => m.inc AIR_JOIN_REJECT_ALL
  | some (n, c) =>
    if m.joinOk j c then
      let m := (m.setCred n { c with ctr := leAt j.bytes 22 4 }).oweAck ⟨j.lane, c.key, j.tc, false⟩
      m.queueResp j.lane c (leAt j.bytes 26 8) (leAt j.bytes 34 1)
    else m.inc AIR_JOIN_REJECT_ALL

/-- The join requests of a slot are decided in lane order (R274). -/
def Mach.joinsTake (m : Mach) : Mach :=
  let l := sortBy (fun a b => decide (a.lane.val < b.lane.val)) m.air.joins
  ({ m with air := { m.air with joins := [] } }).each l Mach.joinDecide

/-- JOIN_REQUEST_RECEIVED: kept until the ACK window begins. -/
def joinRequest (rx : AirRx) (m : Mach) : Mach :=
  let (m, got) := m.receive rx (m.listenTx rx.lane)
  match (if m.asBase then got else none) with
  | none => m
  | some k => { m with air := { m.air with joins := m.air.joins ++ [⟨rx.lane, k.tc, rx.bytes, rx.mic⟩] } }

def execJoinRequestReceived (rx : AirRx) (s : State) : Res := s.on (joinRequest rx)

/-- An ACK of the base as a frame to launch, at MCS2 (R227). -/
def Mach.ackLaunch (m : Mach) (k : AckDue) : Nat × FlightKind × Nat × List Byte :=
  (k.lane.val, .ack (!k.session), 2, m.ackFrame k)

/-- ACK_WINDOW (R233): the join requests of the slot are decided; the frames of the transmit window have ended; the base acknowledges on every lane that owes an ACK. -/
def ackWindow (m : Mach) : Mach :=
  if m.inSlot && m.msInt % 4 == 2 && m.air.phase == 3 then
    let m := m.settleFlights.joinsTake
    let l := if m.mayTransmit && !m.dam.burst then m.air.acks.filter (fun k => m.laneServed k.lane) else []
    let m := { m with air := { m.air with phase := 4, acks := [] } }
    m.launchAll (l.map m.ackLaunch)
  else m

def execAckWindow (s : State) : Res := s.on ackWindow

/-! ### Completion of a join (R278) -/

/-- A response leaves its lane's queue. -/
def Mach.dropResp (m : Mach) (x : Nat) (r : JoinResp) : Mach :=
  m.setResps x ((m.resps x).filter (fun q => !(q.eui == r.eui && q.content == r.content)))

/-- JOIN_COMPLETE: session key, DSN and TXN records, downlink MCS; a new index becomes JOINED. DESIGN CHOICE: every completion, a
rejoin's too, starts the time of ADMIT_S again (log entry 61). -/
def Mach.joinComplete (m : Mach) (x : Nat) (r : JoinResp) : Mach :=
  let m := m.dropResp x r
  if r.result != 0 then m.airShow
  else match m.member r.idx with
    | none => m
    | some y =>
      let y := { y with key := r.skey, pending := false, joined := m.now, missed := 0, mcsMax := r.mcsMax,
                        mcs := m.mcsStart r.mcsMax, failRun := 0, okRun := 0, downDsn := 0, nextDsn := 0, upDsn := none,
                        txn := none }
      let m := m.setMember r.idx y
      let a := m.agent r.idx
      let k := m.kiln.store
      let m := if a.state == 0 && m.isActive then m.setStore { k with agents := Tabs.put k.agents r.idx { a with state := 1 } } else m
      let m := m.inc AIR_JOIN_DONE_ALL
      (m.event 0x0301 1 12 (le 2 (m.refOf r.idx) ++ le 1 y.lane ++ le 1 y.seat ++ le 8 y.eui)).airShow

/-- JOIN_TIMEOUT (R278, item 7): neither event within 2 s of the first send. -/
def joinTimeout (x eui : Nat) (m : Mach) : Mach :=
  match (m.resps x).find? (fun r => r.eui == eui && r.firstAt.any (fun t => t + 2000 ≤ (m.now : Int))) with
  | none => m
  | some r =>
    let m := m.dropResp x r
    if r.result != 0 then m.airShow
    else
      let m := m.inc AIR_JOIN_FAIL_ALL
      match m.member r.idx with
      | none => m.airShow
      | some y => if y.pending then m.quarantine r.idx 3 else (m.setMember r.idx { y with key := r.skey }).airShow

def execJoinTimeout (x : Fin 8) (eui : BitVec 64) (s : State) : Res := s.on (joinTimeout x eui.toNat)

/-! ### Lane moves (R282 to R284) -/

/-- EFFECTIVE_ASN of a move executed now: the first permit slot at least 25 slots later. -/
def Mach.effectiveAsn (m : Mach) : Nat := (m.asn + 29) / 5 * 5

/-- The move of a member resolves on its new lane: the old seat is free, the completion is written. -/
def Mach.moveDone (m : Mach) (i : Nat) (x : Member) (v : LaneMove) : Mach :=
  let m := m.setMember i { x with lane := v.lane, seat := v.seat, move := none, heard := v.lane }
  let m := m.event 0x0304 1 12 (le 2 (m.refOf i) ++ le 1 v.lane ++ le 1 v.seat ++ le 5 v.asn)
  (m.complete v.d stOK (le 1 v.lane ++ le 1 v.seat ++ le 6 0 ++ le 5 v.asn)).airShow

/-- A frame on the old lane after EFFECTIVE_ASN: the new seat is free and the move is repeated. -/
def Mach.moveRepeat (m : Mach) (i : Nat) (x : Member) (v : LaneMove) : Mach :=
  let m := m.setMember i { x with move := none }
  let seat := (m.freeSeat v.lane).getD v.seat
  let v' : LaneMove := { d := v.d, lane := v.lane, seat := seat, asn := m.effectiveAsn }
  (m.setMember i { x with move := some v' }).airShow

/-- A frame of a robot that verifies has been heard on a lane: no uplink is missed in sequence any more, and an unresolved
move resolves or is repeated. -/
def Mach.hearRobot (m : Mach) (i x : Nat) : Mach :=
  match m.member i with
  | none => m
  | some y =>
    let y := { y with missed := 0, heard := x }
    match y.move with
    | some v => if v.open_ then (if v.lane == x then m.moveDone i y v else m.moveRepeat i y v) else m.setMember i y
    | none => m.setMember i y

/-- An unacknowledged frame is taken back: its fragment, where its task is still open, returns to the front (R303). -/
def Member.takeBack (x : Member) (u : Unicast) : Member :=
  let open_ := u.frag.any (fun f => x.tasks.any (fun t => t.1 == f.task))
  { x with sent := none, front := if open_ then u.frag else x.front }

/-- EFFECTIVE_ASN ends the sending of a LANE_MOVE IE (R282). DESIGN CHOICE: a frame that carries one and is still owed a
retry is not retried; its fragment goes in a new frame (log entry 61). -/
def Member.moveExpired (x : Member) (a : Nat) : Member :=
  match x.sent with
  | some u => if u.move.any (fun e => decide (e ≤ a)) && u.waits.isNone then x.takeBack u else x
  | none => x

/-- LANE_MOVE_EFFECTIVE (R284). -/
def laneMoveEffective (i : Nat) (m : Mach) : Mach :=
  match m.member i with
  | none => m
  | some x => match x.move with
    | none => m
    | some v =>
      if v.open_ || !m.inSlot || m.asn < v.asn then m
      else if v.acked then m.moveDone i x v
      else
        let x := x.moveExpired m.asn
        let v' := { v with open_ := true }
        (m.setMember i { x with move := some v' }).airShow

def execLaneMoveEffective (a : Fin 512) (s : State) : Res := s.on (laneMoveEffective a)

/-! ### ROBOT_ACK_RECEIVED (R278, R282, R298, R303) -/

/-- Acknowledged fragments advance their task (R314). -/
def Member.fragAcked (x : Member) (f : Frag) (total : Nat) : Member :=
  { x with tasks := x.tasks.filterMap (fun t =>
      if t.1 == f.task && t.2 == f.off then (if f.off + f.len ≥ total then none else some (t.1, f.off + f.len)) else some t) }

/-- A unicast frame is acknowledged. -/
def Mach.uniAcked (m : Mach) (i : Nat) (x : Member) (u : Unicast) : Mach :=
  let ok := if u.retries == 0 then min 16 (x.okRun + 1) else 0
  let up := ok == 16 && x.okRun == 15
  let mcs := if up then max x.mcs (min (x.mcs + 1) (m.mcsTop x.mcsMax)) else x.mcs
  let mv := x.move.map (fun v => if u.move == some v.asn && m.asn < v.asn then { v with acked := true } else v)
  let x := { x with sent := none, failRun := 0, okRun := ok, mcs := mcs, move := mv }
  let x := match u.frag with
    | some f => x.fragAcked f (m.payloadOf f.task).length
    | none => x
  m.setMember i x

/-- A frame has the form of a join ACK or of a session ACK (R264, R296); the field of its Time Correction IE is ignored. -/
def joinAckForm (l : List Byte) : Bool := l.length == 7 && leAt l 0 2 == 0x230A && leAt l 2 1 == 0x62 && leAt l 3 2 == 0x0F02
def sessionAckForm (l : List Byte) : Bool :=
  l.length == 8 && leAt l 0 2 == 0x230A && leAt l 2 1 == 0x6A && leAt l 3 1 == 0 && leAt l 4 2 == 0x0F02

/-- ROBOT_ACK_RECEIVED: of the one frame the base sent on the lane in this slot. -/
def robotAck (rx : AirRx) (m : Mach) : Mach :=
  let (m, got) := m.receive rx (m.listenAck rx.lane)
  if got.isNone || !m.asBase then m
  else match m.respWaits rx.lane with
    | some r =>
      if joinAckForm rx.bytes && m.micOk rx r.jkey euiSrc 1 then
        let m := m.joinComplete rx.lane r
        if r.result == 0 then m.hearRobot r.idx (((m.member r.idx).map (fun y => y.lane)).getD rx.lane) else m
      else m
    | none => match m.uniWaits rx.lane with
      | some (i, x, u) =>
        if sessionAckForm rx.bytes && m.micOk rx x.key (m.refOf i) 1 then ((m.uniAcked i x u).hearRobot i rx.lane).airShow
        else m
      | none => m

def execRobotAckReceived (rx : AirRx) (s : State) : Res := s.on (robotAck rx)

/-! ### The ends of R281 -/

/-- ADMISSION_TIMEOUT: JOINED and not admitted within ADMIT_S seconds of join completion. -/
def admissionTimeout (i : Nat) (m : Mach) : Mach :=
  match m.member i with
  | none => m
  | some x =>
    if !x.pending && (m.agent i).state == 1 && x.joined + 1000 * m.r AIR_JOIN_CFG_ADMIT_S ≤ m.now then m.quarantine i 1
    else m

def execAdmissionTimeout (a : Fin 512) (s : State) : Res := s.on (admissionTimeout a)

/-- The owner of the UP slot in progress on a lane by the last permit sent there: the plan's seat, and the index that holds
it. -/
def Mach.planned (m : Mach) (x : Nat) : Option (Nat × Nat) :=
  match (Tabs.val m.air.plans [] x).find? (fun p => p.asn == m.asn && p.kind == kUP) with
  | none => none
  | some p => match p.seat with
    | none => none
    | some s => match (m.rotSeats x).find? (fun e => e.1 == s) with
      | some e => some e
      | none => none

/-- The third missed uplink in sequence acts by the index's state (R280). -/
def Mach.thirdMiss (m : Mach) (i : Nat) : Mach :=
  let st := (m.agent i).state
  if st == 2 then
    ((m.agentSilent i).inc AIR_SILENT_CNT_ALL).event 0x0303 2 12 (le 2 (m.refOf i))
  else if st == 1 then m.quarantine i 2
  else m

/-- UPLINK_MISSED (R279, R280, R284): at the end of an UP slot planned for a member of which nothing was accepted. DESIGN CHOICE:
a member whose rejoin is not complete is no pending join here: its uplinks are counted (log entry 61). -/
def uplinkMissed (x : Nat) (m : Mach) : Mach :=
  if !(m.inSlot && m.air.on && m.air.phase == 4 && m.isActive && !m.dam.burst && m.laneServed x && m.slotKind == kUP) ||
      m.air.heard.contains x || m.air.counted.contains x then m
  else match m.planned x with
    | none => m
    | some (_, i) => match m.member i with
      | none => m
      | some y =>
        if y.pending || (y.move.any (fun v => v.open_) && y.heard != x) then m
        else
          let m := { m with air := { m.air with counted := x :: m.air.counted } }
          let m := (m.setMember i { y with missed := y.missed + 1 }).inc AIR_MISSED_UL_ALL
          if y.missed + 1 == 3 then m.thirdMiss i else m

def execUplinkMissed (x : Fin 8) (s : State) : Res := s.on (uplinkMissed x)

/-! ### Membership descriptors (R286, R287) -/

/-- The checks of R43 up to NOT_ACTIVE_ROLE. -/
def Mach.airPre (m : Mach) (bad query : Bool) : List (Bool × Nat) :=
  [(bad, stRANGE), (!m.takes .air, stNOT_ENABLED), (!query && !m.isActive, stNOT_ACTIVE_ROLE)]

/-- The lowest entry number not in use. -/
def Mach.freeCred (m : Mach) : Nat :=
  ((List.range 1024).find? (fun n => (Tabs.look m.nv.set.creds n).isNone)).getD 0

/-- CRED_WRITE. -/
def credWrite (d : Desc) (m : Mach) : Mach :=
  m.desc 0x0300 d (fun d m =>
    let eui := Descs.fld d 16 8
    let home := Descs.fld d 40 1
    let old := m.cred eui
    match firstOf (m.airPre (home > 7 && home != 0xFF) false ++ [(old.isNone && m.nv.set.creds.length ≥ 1024, 0x12)]) with
    | some st => m.complete d st
    | none =>
      let fl := Descs.fld d 41 1
      let n := (old.map (fun e => e.1)).getD m.freeCred
      let ctr := if fl.testBit 1 then ((old.map (fun e => e.2.ctr)).getD 0) else 0
      (m.setCred n ⟨eui, Descs.fld d 24 16, home, fl.testBit 0, ctr⟩).complete d stOK (le 2 n ++ le 1 (b2n old.isSome)))

def execCredWrite (d : Desc) (s : State) : Res := s.on (credWrite d)

/-- CRED_REMOVE. -/
def credRemove (d : Desc) (m : Mach) : Mach :=
  m.desc 0x0301 d (fun d m =>
    let eui := Descs.fld d 16 8
    match firstOf (m.airPre false false ++ [((m.cred eui).isNone, 0x10), ((m.holderOf eui).isSome, 0x11)]) with
    | some st => m.complete d st
    | none => match m.cred eui with
      | some (n, _) => ({ m with nv := { m.nv with set := { m.nv.set with creds := Tabs.del m.nv.set.creds n } } }).complete d stOK (le 1 0)
      | none => m)

def execCredRemove (d : Desc) (s : State) : Res := s.on (credRemove d)

/-- CRED_QUERY. -/
def credQuery (d : Desc) (m : Mach) : Mach :=
  m.desc 0x0302 d (fun d m =>
    let eui := Descs.fld d 16 8
    match firstOf (m.airPre false true) with
    | some st => m.complete d st
    | none => match m.cred eui with
      | none => m.complete d 0x10
      | some (_, c) =>
        let ref := match m.holderOf eui with
          | some e => m.refOf e.1
          | none => 0
        m.complete d stOK (le 1 c.home ++ le 1 (b2n c.blocked) ++ le 2 0 ++ le 4 c.ctr ++ le 2 ref))

def execCredQuery (d : Desc) (s : State) : Res := s.on (credQuery d)

/-- The member a descriptor's AGENT names, no pending join. -/
def Mach.memberOf (m : Mach) (ref : Nat) : Option Member := (m.member (refIdx ref)).bind (fun x => if x.pending then none else some x)

/-- MOVE_LANE (R282). -/
def moveLane (d : Desc) (m : Mach) : Mach :=
  m.desc 0x0303 d (fun d m =>
    let ref := Descs.fld d 16 2
    let i := refIdx ref
    let lane := Descs.fld d 18 1
    let here := (m.memberOf ref).any (fun x => x.lane == lane)
    match firstOf (m.airPre (!refOk ref || lane > 7 || !m.laneOpen lane || here) false ++
        [(m.stale ref, stSTALE_GENERATION), ((m.freeSeat lane).isNone, 0x13),
         ((m.memberOf ref).any (fun x => x.move.isSome), 0x14)]) with
    | some st => m.complete d st
    | none => match m.memberOf ref, m.freeSeat lane with
      | some x, some s =>
        let v : LaneMove := { d := d, lane := lane, seat := s, asn := m.effectiveAsn }
        (m.setMember i { x with move := some v }).airShow
      | _, _ => m.complete d 0x15)

def execMoveLane (d : Desc) (s : State) : Res := s.on (moveLane d)

/-- EVICT (R281). -/
def evict (d : Desc) (m : Mach) : Mach :=
  m.desc 0x0304 d (fun d m =>
    let ref := Descs.fld d 16 2
    let i := refIdx ref
    match firstOf (m.airPre (!refOk ref) false ++ [(m.stale ref, stSTALE_GENERATION),
        ((m.memberOf ref).isNone || (m.agent i).state != 1, 0x15)]) with
    | some st => m.complete d st
    | none => (m.quarantine i 4).complete d stOK (le 1 0))

def execEvict (d : Desc) (s : State) : Res := s.on (evict d)

/-- A join of the index waits for its end in a lane's response queue (AIR_MEMBERS.PENDING, R278). -/
def Mach.rejoining (m : Mach) (i : Nat) : Bool :=
  m.air.tab.resps.any (fun e => e.2.any (fun r => r.result == 0 && r.idx == i))

/-- QUERY_MEMBER. -/
def queryMember (d : Desc) (m : Mach) : Mach :=
  m.desc 0x0305 d (fun d m =>
    let ref := Descs.fld d 16 2
    let i := refIdx ref
    let any := (Descs.fld d 18 1).testBit 0
    match firstOf (m.airPre (!refOk ref) true ++ [(!any && m.stale ref, stSTALE_GENERATION)]) with
    | some st => m.complete d st
    | none => match m.member i with
      | none => m.complete d 0x15
      | some x => m.complete d stOK (le 8 x.eui ++ le 1 x.lane ++ le 1 x.seat ++ le 1 x.missed ++
          le 1 (b2n (x.pending || m.rejoining i) + 2 * b2n (x.move.any (fun v => v.open_))) ++ le 2 (m.refOf i)))

def execQueryMember (d : Desc) (s : State) : Res := s.on (queryMember d)

end Sys2Proof.Machine
end

