-- ==== Sys2Proof/Machine/AirData.lean ====
section
/-! DEFINITION. Uplink frames, retries, progress reports and the task ledger (09). -/

namespace Sys2Proof.Machine

open Sys2Proof

/-! ### Progress reports (R308, R309) -/

/-- TXN is later than the last one delivered. -/
def txnLater (last : Option Nat) (txn : Nat) : Bool :=
  match last with
  | none => true
  | some t => decide (0 < sgn 16 (unsgn 16 ((txn : Int) - t)))

/-- A PROGRESS IE of an accepted frame: delivered, or an old report. -/
def Mach.progressIe (m : Mach) (x i : Nat) (flags txn rear word : Nat) : Mach :=
  match m.member i with
  | none => m
  | some y =>
    if !txnLater y.txn txn || m.red.hold || !m.isActive then m
    else
      let ref := m.refOf i
      let m := (m.setMember i { y with txn := some txn }).inc AIR_RPT_DELIVERED_ALL
      let m := { m with air := { m.air with reports := m.air.reports ++ [(x, ref, rear)] } }
      m.when (m.b AIR_TASK_CFG_RPT_EVENTS) (fun m =>
        m.event 0x0308 0 12 (le 2 ref ++ le 4 rear ++ le 1 flags ++ le 1 0 ++ le 4 word))

/-- The reports of the tick pass to Kiln in ascending lane order (R302, R309). -/
def Mach.passReports (m : Mach) : Mach :=
  let l := (sortBy (fun a b => a.1 < b.1) m.air.reports).map (fun r => r.2)
  { m with air := { m.air with reports := [] }, kiln := { m.kiln with reports := m.kiln.reports ++ l } }

/-! ### Task statuses (R311, R315) -/

/-- The ledger entry of a TASK_ID. -/
def Mach.taskOf (m : Mach) (id : Nat) : Option (Nat × Task) := m.air.tab.ledger.find? (fun e => e.2.id == id)

/-- The entry passes to a state, as it stands now. -/
def Mach.taskTo (m : Mach) (e : Nat) (st : TaskState) (reason : Nat) (late : Bool) : Mach :=
  match Tabs.look m.air.tab.ledger e with
  | some t => m.taskMove e { t with late := t.late || late } st reason
  | none => m

/-- Rank of a state among those a status can name. -/
def taskRank : TaskState → Nat
  | .offered => 0
  | .accepted => 1
  | .started => 2
  | .done => 3
  | .failed => 3
  | .timedOut => 0

/-- The state a STATE code names: REFUSED fails the entry. -/
def statusState : Nat → Option TaskState
  | 1 => some .accepted
  | 2 => some .started
  | 3 => some .done
  | 4 => some .failed
  | 5 => some .failed
  | _ => none

/-- TASK_STATUS_UPDATE: the status of a robot for an entry of its own. -/
def Mach.taskStatus (m : Mach) (e : Nat) (t : Task) (code reason : Nat) : Mach :=
  match statusState code with
  | none => m
  | some st =>
    let why := if st == .failed then reason else 0
    match t.state with
    | .offered =>
      if st == .accepted || st == .failed then m.taskTo e st why false
      else (m.taskTo e .accepted 0 false).taskTo e st why false
    | .timedOut => (m.taskTo e st why true).inc AIR_TASK_LATE_ALL
    | cur =>
      if cur == st then m
      else if taskRank st ≤ taskRank cur || code == 5 then m.inc AIR_STATUS_IGNORED_ALL
      else m.taskTo e st why false

/-- A TASK_STATUS IE of an accepted frame. -/
def Mach.statusIe (m : Mach) (ref code id reason : Nat) : Mach :=
  match m.taskOf id with
  | some (e, t) =>
    if t.ref == ref then m.taskStatus e t code reason
    else (m.inc AIR_TASK_UNKNOWN_ALL).event 0x0307 2 12 (le 4 id ++ le 2 ref)
  | none => (m.inc AIR_TASK_UNKNOWN_ALL).event 0x0307 2 12 (le 4 id ++ le 2 ref)

/-- The IEs of an accepted frame, in order (R292). -/
def Mach.upIes (m : Mach) (x i ref : Nat) : List UpIe → Mach
  | [] => m
  | .runsPast :: _ => m
  | .other :: l => (m.inc AIR_IE_UNKNOWN_ALL).upIes x i ref l
  | .progress flags txn rear _ _ word :: l => (m.progressIe x i flags txn rear word).upIes x i ref l
  | .status code id reason :: l => (m.statusIe ref code id reason).upIes x i ref l

/-! ### UPLINK_DATA_FRAME (R302, R307) -/

/-- The payload IE a SUB_TYPE and its content stand for in an uplink frame (R291, R308, R315). DESIGN CHOICE: content of
another length or FORMAT is skipped as unknown, and reserved bits are not looked at (log entry 61). -/
def upIe (oap : Bool) (body : List Byte) : UpIe :=
  let c := body.drop 1
  if oap && leAt body 0 1 == 7 && c.length == 16 && leAt c 0 1 == 1 then
    .progress (leAt c 1 1) (leAt c 2 2) (leAt c 4 4) (leAt c 8 2) (leAt c 10 2) (leAt c 12 4)
  else if oap && leAt body 0 1 == 9 && c.length == 8 && leAt c 0 1 == 1 then .status (leAt c 1 1) (leAt c 2 4) (leAt c 6 2)
  else .other

/-- The payload IEs of a frame, from their descriptors (R290, R292); `fuel` bounds their number. -/
def splitIes : Nat → List Byte → List UpIe
  | 0, _ => []
  | fuel + 1, l =>
    if l.isEmpty then []
    else
      let d := leAt l 0 2
      let n := d % 2048
      if l.length < n + 2 then [.runsPast]
      else upIe (d / 2048 == 25) ((l.drop 2).take n) :: splitIes fuel (l.drop (n + 2))

/-- The IEs of an uplink data frame (R294). -/
def AirRx.ies (rx : AirRx) : List UpIe := splitIes rx.bytes.length (rx.bytes.drop 13)

/-- A frame has the form of a unicast data frame to the base on its lane (R256, R264, R294). -/
def Mach.upForm (m : Mach) (rx : AirRx) : Bool :=
  let l := rx.bytes
  13 ≤ l.length && leAt l 0 2 == 0xAA69 && leAt l 3 2 == m.r AIR_PAN_ID_PAN_ID && leAt l 5 2 == baseAddr rx.lane &&
    leAt l 9 1 == 0x6E && leAt l 10 1 == 0 && (l.drop 11).take 2 == ht1

/-- The first IE is a PROGRESS IE. -/
def firstIsProgress : List UpIe → Bool
  | .progress _ _ _ _ _ _ :: _ => true
  | _ => false

/-- The accepted response whose join a robot's new session key completes. -/
def Mach.pendingResp (m : Mach) (i : Nat) : Option (Nat × JoinResp) :=
  m.air.tab.resps.findSome? (fun e => (e.2.find? (fun r => r.result == 0 && r.idx == i)).map (fun r => (e.1, r)))

/-- The key under which a frame of index `i` verifies, of those the base holds for it: its session key, or the new one of a
join not yet complete, with true (R264, R278). -/
def Mach.upKey (m : Mach) (i : Nat) (rx : AirRx) : Option (Nat × Bool) :=
  let src := leAt rx.bytes 7 2
  let own := (m.member i).bind (fun y => if !y.pending && m.micOk rx y.key src 0 then some (y.key, false) else none)
  let new := (m.pendingResp i).bind (fun e =>
    if e.2.firstAt.isSome && m.micOk rx e.2.skey src 0 then some (e.2.skey, true) else none)
  if own.isSome then own else new

/-- The slot in progress is an UP slot planned for a seat that the sender of a frame, of current generation, holds on its
lane (R258, R302). -/
def Mach.ownSlot (m : Mach) (x src : Nat) : Bool :=
  m.slotKind == kUP && refOk src && !m.stale src && (m.planned x).any (fun e => e.2 == refIdx src)

/-- An accepted frame is processed: a pending join completed, its IEs delivered unless it is a duplicate. -/
def Mach.upProcess (m : Mach) (f : UpTaken) : Mach :=
  let i := refIdx f.ref
  let m := if f.newKey then (match m.pendingResp i with
      | some (y, r) => m.joinComplete y r
      | none => m) else m
  let m := m.hearRobot i f.lane
  match (if m.stale f.ref then none else m.member i) with
  | none => m
  | some y =>
    let m := if y.upDsn == some f.dsn then m.inc AIR_RX_DUP_ALL
      else (m.setMember i { y with upDsn := some f.dsn }).upIes f.lane i f.ref f.ies
    m.airShow

/-- The frames accepted in the tick that ends are processed in ascending lane order (R302, R309). -/
def Mach.airTake (m : Mach) : Mach :=
  let l := sortBy (fun a b => decide (a.lane < b.lane)) m.air.taken
  ({ m with air := { m.air with taken := [] } }).each l Mach.upProcess

/-- UPLINK_DATA_FRAME (R302): accepted and acknowledged, or dropped and counted. One that verifies keeps the uplink from
being missed although it is dropped (R279). -/
def uplinkDataFrame (rx : AirRx) (m : Mach) : Mach :=
  let x := rx.lane.val
  let (m, got) := m.receive rx (m.listenTx x)
  match (if m.asBase then got else none) with
  | none => m
  | some k =>
    let src := leAt rx.bytes 7 2
    let m := m.when (refOk src && m.stale src) (fun m => m.inc AIR_STALE_GEN_ALL)
    match (if m.upForm rx && m.ownSlot x src then m.upKey (refIdx src) rx else none) with
    | none => m.inc AIR_RX_DROPPED_ALL
    | some (key, new) =>
      let m := { m with air := { m.air with heard := x :: m.air.heard } }
      if firstIsProgress rx.ies then
        let f : UpTaken := ⟨x, src, leAt rx.bytes 2 1, new, rx.ies⟩
        ({ m with air := { m.air with taken := m.air.taken ++ [f] } }).oweAck ⟨rx.lane, key, k.tc, true⟩
      else m.inc AIR_RX_DROPPED_ALL

def execUplinkDataFrame (rx : AirRx) (s : State) : Res := s.on (uplinkDataFrame rx)

/-! ### ACK_MISSING (R298, R303) -/

/-- The member whose frame on a lane still has its ACK window to answer it, or had. -/
def Mach.unanswered (m : Mach) (x : Nat) : Option (Nat × Member × Unicast) :=
  m.air.tab.members.findSome? (fun e => match e.2.sent with
    | some u => if u.lane == x && u.waits.isSome then some (e.1, e.2, u) else none
    | none => none)

/-- A transmission without an ACK: the downlink MCS steps down after two; the frame is owed a retry or given up. -/
def Mach.uniMissed (m : Mach) (i : Nat) (x : Member) (u : Unicast) : Mach :=
  let down := x.failRun + 1 ≥ 2
  let mcs := if down then max (x.mcs - 1) (m.r AIR_TX_CFG_DOWN_MCS_MIN) else x.mcs
  let x := { x with failRun := if down then 0 else x.failRun + 1, okRun := 0, mcs := mcs }
  if m.r AIR_TX_CFG_RETRY_MAX ≤ u.retries then (m.setMember i (x.takeBack u)).inc AIR_TX_GIVEUP_ALL
  else m.setMember i (({ x with sent := some { u with waits := none } } : Member).moveExpired m.asn)

/-- ACK_MISSING: the ACK window of the slot in which the base sent on a lane has passed without a valid ACK. -/
def ackMissing (x : Nat) (m : Mach) : Mach :=
  let past := fun (w : Option Nat) => w.isSome && (w != some m.asn || m.air.phase == 4)
  let m := m.setResps x ((m.resps x).map (fun r => if past r.waits then { r with waits := none } else r))
  match m.unanswered x with
  | some (i, y, u) => if past u.waits then (m.uniMissed i y u).airShow else m
  | none => m

def execAckMissing (x : Fin 8) (s : State) : Res := s.on (ackMissing x)

/-! ### Task descriptors (R312, R313, R317 to R319) -/

/-- The seconds an offer stays open. -/
def Mach.offerS (m : Mach) (d : Desc) : Nat :=
  let s := Descs.fld d 26 2
  if s == 0 then m.r AIR_TASK_CFG_OFFER_S else s

/-- An entry a new offer may free: DONE, FAILED, or TIMED_OUT and out of OFFERED for more than 600 s. -/
def Mach.freeable (m : Mach) (t : Task) : Bool :=
  t.state == .done || t.state == .failed || (t.state == .timedOut && t.leftOffer + 600000 < m.now)

/-- The ledger entry a new offer takes: a free one, else the freeable one of longest standing. -/
def Mach.ledgerPlace (m : Mach) : Option Nat :=
  if m.air.tab.ledger.length < 4096 then (List.range 4096).find? (fun e => (Tabs.look m.air.tab.ledger e).isNone)
  else match m.air.tab.ledger.filter (fun e => m.freeable e.2) with
    | [] => none
    | a :: l => some (l.foldl (fun b e => if e.2.since < b.2.since then e else b) a).1

/-- An offer taken into a ledger entry (R310, R312). -/
def Mach.offerInto (m : Mach) (e : Nat) (d : Desc) (late : Bool) : Mach :=
  let ref := Descs.fld d 16 2
  let id := Descs.fld d 20 4
  let payload := (m.bufRd d).take (Descs.fld d 24 2)
  let t : Task := { id := id, ref := ref, state := .offered, reason := 0, pt := m.pt, late := late, payload := payload,
                    d := some d, offerDue := m.now + 1000 * m.offerS d, doneS := Descs.fld d 28 2, doneDue := none,
                    fromOffer := false, since := m.now, leftOffer := 0 }
  let m := m.setTask e t
  let m := match m.member (refIdx ref) with
    | some x => m.setMember (refIdx ref) { x with tasks := x.tasks ++ [(id, 0)] }
    | none => m
  (m.event 0x0306 0 12 (le 4 id ++ le 2 ref ++ le 1 (taskCode .offered) ++ le 2 0)).airShow

/-- TASK_OFFER. -/
def taskOffer (d : Desc) (m : Mach) : Mach :=
  m.desc 0x0310 d (fun d m =>
    let ref := Descs.fld d 16 2
    let id := Descs.fld d 20 4
    let len := Descs.fld d 24 2
    let bad := !refOk ref || id == 0 || len == 0 || len > 1024 || !Descs.buf d || Descs.len d < len || Descs.fld d 26 2 > 600
    let old := m.taskOf id
    match firstOf (m.airPre bad false ++ [(m.stale ref, stSTALE_GENERATION), ((m.memberOf ref).isNone, 0x15),
        (old.any (fun e => e.2.ref != ref), 0x18), (old.isNone && m.ledgerPlace.isNone, stQUEUE_FULL)]) with
    | some st => m.complete d st
    | none => match old with
      | some (e, t) =>
        if t.state == .timedOut && t.fromOffer then m.offerInto e d t.late else m.complete d stOK (taskRes t true)
      | none => match m.ledgerPlace with
        | some e => m.offerInto e d false
        | none => m)

def execTaskOffer (d : Desc) (s : State) : Res := s.on (taskOffer d)

/-- TASK_QUERY. -/
def taskQuery (d : Desc) (m : Mach) : Mach :=
  m.desc 0x0311 d (fun d m =>
    match firstOf (m.airPre false false) with
    | some st => m.complete d st
    | none => match m.taskOf (Descs.fld d 20 4) with
      | some (_, t) => m.complete d stOK (taskRes t false ++ le 2 t.ref)
      | none => m.complete d 0x1B)

def execTaskQuery (d : Desc) (s : State) : Res := s.on (taskQuery d)

/-- TASK_FORGET. -/
def taskForget (d : Desc) (m : Mach) : Mach :=
  m.desc 0x0312 d (fun d m =>
    match firstOf (m.airPre false false) with
    | some st => m.complete d st
    | none => match m.taskOf (Descs.fld d 20 4) with
      | none => m.complete d 0x1B
      | some (e, t) =>
        if t.state == .done || t.state == .failed || t.state == .timedOut then
          ((m.setTab { m.air.tab with ledger := Tabs.del m.air.tab.ledger e }).airShow).complete d stOK (le 1 0)
        else m.complete d 0x1C)

def execTaskForget (d : Desc) (s : State) : Res := s.on (taskForget d)

/-- TASK_OFFER_TIMEOUT (R312). -/
def taskOfferTimeout (e : Nat) (m : Mach) : Mach :=
  match Tabs.look m.air.tab.ledger e with
  | some t => if t.state == .offered && t.offerDue ≤ m.now then (m.taskMove e t .timedOut t.reason).airShow else m
  | none => m

def execTaskOfferTimeout (e : Fin 4096) (s : State) : Res := s.on (taskOfferTimeout e)

/-- TASK_DONE_TIMEOUT (R312). -/
def taskDoneTimeout (e : Nat) (m : Mach) : Mach :=
  match Tabs.look m.air.tab.ledger e with
  | some t =>
    if (t.state == .accepted || t.state == .started) && t.doneDue.any (fun u => u ≤ (m.now : Int)) then
      (m.taskMove e t .timedOut t.reason).airShow
    else m
  | none => m

def execTaskDoneTimeout (e : Fin 4096) (s : State) : Res := s.on (taskDoneTimeout e)

/-! ### Draining (R41, R244, R311) -/

/-- AIR_CTRL.ENABLE written 0: open offers fail with REASON 0xFF02, moves not resolved are returned FLUSHED. -/
def Mach.airDrain (m : Mach) : Mach :=
  let m := m.each (m.air.tab.ledger.filter (fun e => e.2.state == .offered)) (fun m e => m.taskMove e.1 e.2 .failed 0xFF02)
  let moves := m.air.tab.members.filterMap (fun e => e.2.move.map (fun v => v.d))
  let own := fun (x : Member) => { x with move := x.move.map (fun v => { v with d := v.d.foreign }) }
  let m := m.setTab { m.air.tab with members := m.air.tab.members.map (fun e => (e.1, own e.2)) }
  let m := m.each moves (fun m d => m.complete d stFLUSHED)
  (m.flushDelivered (fun d => d.target == 3) stFLUSHED).airShow

/-- The region's last slot is over. -/
def Mach.airIdle (m : Mach) : Bool := !m.air.on && m.air.inFlight.isEmpty

end Sys2Proof.Machine
end

