-- ==== Sys2Proof/Machine/Hif.lean ====
section
/-! DEFINITION. The host interface: rings, doorbells, fetch and interrupts (02). -/

namespace Sys2Proof.Machine

open Sys2Proof

/-- Entries a ring pair holds. -/
def Mach.rpSize (m : Mach) (r : Nat) : Nat := 2 ^ m.r HIF_RP_CFG_SIZE_LOG2 r
/-- Entries an event ring holds. -/
def Mach.erSize (m : Mach) (e : Nat) : Nat := 2 ^ m.r HIF_ER_CFG_SIZE_LOG2 e

/-- R61: the size and the alignment an enable write checks. A VECTOR field of six bits names no vector of 64 or more. -/
def ringCfgOk (sizeLog2 : Nat) (bases : List Nat) : Bool :=
  4 ≤ sizeLog2 && sizeLog2 ≤ 16 && bases.all (fun a => a % 4096 == 0)

/-- The index of the device behind a doorbell (R77): fetch index of a submission ring, write index and next phase of a
completion or event ring. Ring numbers are those of R58. -/
def Mach.doorbellRead (m : Mach) (k : Nat) : Nat :=
  if k < 64 then m.r HIF_RP_STATUS_SQ_HEAD k
  else if k < 128 then (m.ring (k - 64)).cqWrite + 2 ^ 16 * b2n (m.ring (k - 64)).phase
  else if k < 136 then m.r HIF_ER_STATUS_WR_INDEX (k - 128) + 2 ^ 16 * m.r HIF_ER_STATUS_PHASE (k - 128)
  else 0

/-- RING_PAIR_ENABLE (R60, R61, R566): from DISABLED, with a legal configuration, all indices 0 and phase 1; with an
illegal one CFG_ERR. Recovery mode has ring pair 0 only (R552). -/
def ringPairEnable (r : Nat) (m : Mach) : Mach :=
  if !m.ready || (m.recovery && r != 0) || m.r HIF_RP_STATUS_STATE r != 0 then m
  else if ringCfgOk (m.r HIF_RP_CFG_SIZE_LOG2 r) [m.sqBase r, m.cqBase r] then
    (((m.setRing r {}).w HIF_RP_CTRL_ENABLE 1 r).w HIF_RP_CTRL_CFG_ERR 0 r).w HIF_RP_STATUS_STATE 1 r
      |>.w HIF_RP_STATUS_SQ_HEAD 0 r
  else m.w HIF_RP_CTRL_CFG_ERR 1 r

def execRingPairEnable (r : Fin 64) (s : State) : Res := s.on (ringPairEnable r)

/-- EVENT_RING_ENABLE (R61). -/
def eventRingEnable (e : Nat) (m : Mach) : Mach :=
  if !m.ready || m.r HIF_ER_STATUS_STATE e != 0 then m
  else if ringCfgOk (m.r HIF_ER_CFG_SIZE_LOG2 e) [m.erBase e] then
    (((m.setERing e { seq := (m.ering e).seq }).w HIF_ER_CTRL_ENABLE 1 e).w HIF_ER_CTRL_CFG_ERR 0 e).w HIF_ER_STATUS_STATE 1 e
      |>.w HIF_ER_STATUS_WR_INDEX 0 e |>.w HIF_ER_STATUS_PHASE 1 e
  else m.w HIF_ER_CTRL_CFG_ERR 1 e

def execEventRingEnable (e : Fin 8) (s : State) : Res := s.on (eventRingEnable e)

/-- The first descriptor fetched and not yet delivered completes without reaching its block. -/
def Mach.dropPaused (m : Mach) (r : Nat) (d : Desc) (st : Nat) : Mach :=
  (m.setRing r { m.ring r with paused := (m.ring r).paused.tail }).finish d st

/-- Descriptors fetched and not yet delivered complete with FLUSHED, each in its slot (R82). -/
def Mach.flushPaused (m : Mach) (r : Nat) : Mach := m.each (m.ring r).paused (fun m d => m.dropPaused r d stFLUSHED)

/-- RING_DISABLE (R82): a ring pair that is RUNNING or HALTED drains; it ends DISABLED at once if nothing is in flight.
An event ring has nothing in flight. -/
def ringDisable (i : RingId) (m : Mach) : Mach :=
  match i with
  | .pair r =>
    let st := m.r HIF_RP_STATUS_STATE r
    if st == 1 || st == 2 then
      ((m.w HIF_RP_STATUS_STATE 3 r).w HIF_RP_STATUS_CAUSE 0 r).flushPaused r |>.settleRing r
    else m
  | .events e =>
    let st := m.r HIF_ER_STATUS_STATE e
    if st == 1 || st == 2 then
      (((m.setERing e { seq := (m.ering e).seq }).w HIF_ER_STATUS_STATE 0 e).w HIF_ER_STATUS_CAUSE 0 e).w HIF_ER_CTRL_ENABLE 0 e
        |>.w HIF_ER_STATUS_WR_INDEX 0 e |>.w HIF_ER_STATUS_PHASE 1 e
    else m

def execRingDisable (r : RingId) (s : State) : Res := s.on (ringDisable r)

/-- SUBMISSION_DOORBELL (R75, R83). -/
def submissionDoorbell (r v : Nat) (m : Mach) : Mach :=
  if m.r HIF_RP_STATUS_STATE r != 1 then m.inc HIF_BAD_DB_ALL
  else
    let n := m.rpSize r
    let x := m.ring r
    if v = x.tail then m
    else if n ≤ v then m.haltRing r 1
    else
      let add := (v + n - x.tail) % n
      if x.outstanding + add > n - 1 then m.haltRing r 6
      else m.setRing r { x with tail := v, outstanding := x.outstanding + add }

def execSubmissionDoorbell (r : Fin 64) (v : BitVec 16) (s : State) : Res := s.on (submissionDoorbell r v.toNat)

/-- COMPLETION_DOORBELL (R75): the head may not pass the device's write index. -/
def completionDoorbell (r v : Nat) (m : Mach) : Mach :=
  if m.r HIF_RP_STATUS_STATE r != 1 then m.inc HIF_BAD_DB_ALL
  else
    let n := m.rpSize r
    let x := m.ring r
    let freed := (v + n - x.cqHead) % n
    if v = x.cqHead then m
    else if n ≤ v || freed > (x.cqWrite + n - x.cqHead) % n then m.haltRing r 2
    else m.setRing r { x with cqHead := v, outstanding := x.outstanding - freed }

def execCompletionDoorbell (r : Fin 64) (v : BitVec 16) (s : State) : Res := s.on (completionDoorbell r v.toNat)

/-- EVENT_RING_DOORBELL (R75). -/
def eventRingDoorbell (e v : Nat) (m : Mach) : Mach :=
  if m.r HIF_ER_STATUS_STATE e != 1 then m.inc HIF_BAD_DB_ALL
  else
    let n := m.erSize e
    let x := m.ering e
    if v = x.head then m
    else if n ≤ v || (v + n - x.head) % n > (m.r HIF_ER_STATUS_WR_INDEX e + n - x.head) % n then m.haltERing e 2
    else m.setERing e { x with head := v }

/-- A write to the doorbell of ring number `k` (R58, R74, R75): 0 to 63 submission, 64 to 127 completion, 128 to 135 event
ring; an unused offset is counted. -/
def ringDoorbell (k v : Nat) (m : Mach) : Mach :=
  if k < 64 then submissionDoorbell k v m
  else if k < 128 then completionDoorbell (k - 64) v m
  else if k < 136 then eventRingDoorbell (k - 128) v m
  else m.inc HIF_BAD_DB_ALL

def execEventRingDoorbell (e : Fin 8) (v : BitVec 16) (s : State) : Res := s.on (eventRingDoorbell e v.toNat)

/-- The opcodes the blocks implement (R66, R86). -/
def opcodes : List Nat :=
  [0x0100, 0x0101, 0x0102, 0x0103, 0x0104, 0x0105, 0x0106, 0x0110, 0x0111, 0x0120, 0x0140, 0x0141,
   0x0200, 0x0201, 0x0202, 0x0203, 0x0204,
   0x0300, 0x0301, 0x0302, 0x0303, 0x0304, 0x0305, 0x0310, 0x0311, 0x0312] ++
  [0x0400, 0x0401, 0x0402, 0x0403, 0x0404, 0x0410, 0x0411, 0x0412, 0x0413,
   0x0500, 0x0501, 0x0502, 0x0503, 0x0504, 0x0600, 0x0700, 0x0701, 0x0702, 0x0703, 0x0704,
   0x0800, 0x0801, 0x0802, 0x0900, 0x0901,
   0x0A00, 0x0A01, 0x0A02, 0x0A03, 0x0A04, 0x0A05, 0x0A06, 0x0B00, 0x0B01, 0x0B02, 0x0C00, 0x0C01]

/-- A descriptor as its 64 bytes spell it (R64). -/
def parseDesc (r era : Nat) (l : List Byte) : Desc where
  ring := r
  op := leAt l 0 2
  target := leAt l 2 1
  flags := leAt l 3 1
  tag := BitVec.ofNat 16 (leAt l 4 2)
  rsv6 := BitVec.ofNat 16 (leAt l 6 2)
  req := BitVec.ofNat 32 (leAt l 8 4)
  rsv12 := BitVec.ofNat 32 (leAt l 12 4)
  body := BitVec.ofNat 384 (leAt l 16 48)
  bufErr := false
  era := era

/-- R65: the buffer's address and length, and the reserved bytes 60 to 63. -/
def bufferOk (d : Desc) : Bool :=
  !Descs.buf d || (Descs.addr d % 8 == 0 && Descs.len d % 8 == 0 && 8 ≤ Descs.len d && Descs.len d ≤ 1048576 &&
    Descs.fld d 60 4 == 0)

/-- R66: a descriptor that does not complete with BAD_DESCRIPTOR. -/
def descOk (d : Desc) : Bool :=
  d.target == d.op / 256 && 1 ≤ d.target && d.target ≤ 13 && d.flags < 4 && d.rsv6 == 0 && d.rsv12 == 0 && bufferOk d

/-- Descriptors of every ring delivered to a block and not started: those in its input queue (R130). -/
def Mach.queuedAt (m : Mach) (blk : Nat) : Nat :=
  (m.allDelivered.filter (fun d => d.target == blk && !m.holds d)).length

/-- Descriptors of an opcode delivered and not complete. -/
def Mach.deliveredOp (m : Mach) (op : Nat) : Nat :=
  (m.allDelivered.filter (fun d => d.op == op)).length

/-- Fetch from a ring pauses at a LOAD_MAP of it that waits (R114). -/
def Mach.ringPaused (m : Mach) (r : Nat) : Bool := m.kiln.loadWait.any (fun d => d.ring == r)

/-- A block can take a further descriptor now (R63): Kiln's input queue of 200 (R130), and the descriptors MEAS_READ (R348), NAV_READ, RTCM_READ (R372) and CAPTURE_READ (R402) of which a block holds so many. -/
def Mach.accepts (m : Mach) (d : Desc) : Bool :=
  (d.target != 1 || m.queuedAt 1 < 200) &&
  (d.op != 0x0400 || m.deliveredOp 0x0400 < 16) &&
  (d.op != 0x0401 || m.deliveredOp 0x0401 < 1) &&
  (d.op != 0x0412 || m.deliveredOp 0x0412 < 8) &&
  (d.op != 0x0504 || m.deliveredOp 0x0504 < 8) &&
  (d.op != 0x0B01 || m.deliveredOp 0x0B01 < 64)

/-- A descriptor is delivered to its block. Kiln's go to the end of its input queue; where the queue is empty and steps 1 and 2 of
the tick have ended, step 3 has ended too (R130). -/
def Mach.arrive (m : Mach) (d : Desc) : Mach :=
  let x := m.ring d.ring
  let n := m.setRing d.ring { x with delivered := x.delivered ++ [d] }
  if d.target == 1 then
    let done := m.kiln.stepEnd || (m.kilnQueue.isEmpty && m.kiln.reports.isEmpty && m.parkDone)
    { n with kiln := { n.kiln with inq := m.kilnQueue ++ [d], stepEnd := done } }
  else n

/-- The descriptors waiting at a ring are delivered in ring order, each checked under R66, up to one its block cannot
take. In recovery mode only the Update opcodes are accepted (R552). -/
def Mach.deliver (m : Mach) (r : Nat) : Nat → Mach
  | 0 => m
  | fuel + 1 =>
    let x := m.ring r
    match x.paused with
    | [] => m
    | d :: rest =>
      if !descOk d then (m.dropPaused r d stBAD_DESCRIPTOR).deliver r fuel
      else if !opcodes.contains d.op || (m.recovery && d.target != 10) then (m.dropPaused r d stUNSUPPORTED).deliver r fuel
      else if m.accepts d then
        ((m.setRing r { x with paused := rest }).arrive d).deliver r fuel
      else m

/-- A ring has a descriptor to fetch: it is RUNNING, its tail is ahead, and a completion slot is left to reserve (R63). -/
def Mach.canFetch (m : Mach) (r : Nat) : Bool :=
  let x := m.ring r
  let n := m.rpSize r
  m.r HIF_RP_STATUS_STATE r == 1 && m.canWrite && m.r HIF_RP_STATUS_SQ_HEAD r != x.tail &&
    decide (x.inflight + (x.cqWrite + n - x.cqHead) % n < n)

/-- One descriptor fetched. -/
def Mach.fetchOne (m : Mach) (r : Nat) : Mach :=
  let x := m.ring r
  let n := m.rpSize r
  let h := m.r HIF_RP_STATUS_SQ_HEAD r
  if m.canFetch r then
    let d := parseDesc r m.hif.era (m.hostRd (m.sqBase r + 64 * h) 64)
    (m.setRing r { x with paused := x.paused ++ [d] }).w HIF_RP_STATUS_SQ_HEAD ((h + 1) % n) r
  else m

/-- `n` fetches in one burst. -/
def Mach.fetchMany (m : Mach) (r : Nat) : Nat → Mach
  | 0 => m
  | n + 1 => (m.fetchOne r).fetchMany r n

/-- A ring pair's weight; 0 counts as 1 (R89). -/
def Mach.weight (m : Mach) (r : Nat) : Nat := max 1 (m.r HIF_RP_CFG_WEIGHT r)

/-- A ring pair has bursts left in the present round of the weighted round-robin (R63). -/
def Mach.hasShare (m : Mach) (r : Nat) : Bool := Tabs.val m.hif.served 0 r < m.weight r

/-- A ring pair wants a burst now. -/
def Mach.wantsFetch (m : Mach) (r : Nat) : Bool :=
  m.canFetch r && !m.ringPaused r && (m.ring r).paused.isEmpty

/-- The round-robin serves ring `r` now: it has bursts left in this round, or no ring that wants one has (R63). -/
def Mach.turnOf (m : Mach) (r : Nat) : Bool :=
  m.hasShare r || (List.range 64).all (fun q => !(m.wantsFetch q && m.hasShare q))

/-- A burst counted to ring `r`; where it had none left, a new round begins. -/
def Mach.countBurst (m : Mach) (r : Nat) : Mach :=
  let l := if m.hasShare r then m.hif.served else []
  { m with hif := { m.hif with served := Tabs.put l r (Tabs.val l 0 r + 1) } }

/-- DESCRIPTOR_FETCH (R63, R76, R81): a burst of up to 8 descriptors of the ring whose turn it is, delivered in ring order;
none is fetched behind one that waits for its block; an error on the fetch halts the ring with cause 3. A burst that fetches
records its latency. -/
def descriptorFetch (r n : Nat) (err : Bool) (lat : Nat) (m : Mach) : Mach :=
  if err then (m.when (m.r HIF_RP_STATUS_STATE r == 1) Mach.linkError).haltRing r 3
  else if m.ringPaused r then m
  else
    let m := m.deliver r (m.ring r).paused.length
    let m := if n != 0 && m.wantsFetch r && m.turnOf r then
      ((m.countBurst r).fetchMany r n).maxTo HIF_FETCH_LAT_MAX_ALL lat else m
    (m.deliver r (m.ring r).paused.length).showRing r

def execDescriptorFetch (r : Fin 64) (n : Fin 9) (err : Bool) (lat : Nat) (s : State) : Res :=
  s.on (descriptorFetch r n err lat)

/-- TIME µs can have gone by in this tick since the first entry not yet signalled, which was written within its own tick
(R79). -/
def Mach.coalDue (m : Mach) (v : Nat) : Bool :=
  m.r HIF_VEC_COAL_TIME v != 0 && decide (0 < (m.vec v).count) &&
    decide (m.r HIF_VEC_COAL_TIME v < 1000 * (m.now - (m.vec v).first + 1))

/-- INTERRUPT_COALESCE_TIMEOUT (R79): with the timer on and an entry not yet signalled, once the time has gone by. -/
def interruptCoalesceTimeout (v : Nat) (m : Mach) : Mach := if m.coalDue v then m.fireVec v else m

def execInterruptCoalesceTimeout (v : Fin 64) (s : State) : Res := s.on (interruptCoalesceTimeout v)

/-- MSIX_VECTOR_UNMASK (R79). -/
def msixVectorUnmask (v : Nat) (m : Mach) : Mach := (m.setVec v { m.vec v with masked := false }).sendPending v

def execMsixVectorUnmask (v : Fin 64) (s : State) : Res := s.on (msixVectorUnmask v)

/-- Every vector sends what is pending. -/
def Mach.sendAllPending (m : Mach) : Mach := m.each (List.range 64) Mach.sendPending

/-- BUS_MASTER_DISABLE (R54): bus master enable cleared, or D3hot: every RUNNING ring halts with cause 5. -/
def busMasterDisable (d3 : Bool) (m : Mach) : Mach :=
  let m := if d3 then m.w HIF_STATUS_D_STATE 3 else m.w HIF_STATUS_BME 0
  let m := m.each (List.range 8) (fun m e => m.haltERing e 5)
  m.each (List.range 64) (fun m r => m.haltRing r 5)

def execBusMasterDisable (d3 : Bool) (s : State) : Res := s.on (busMasterDisable d3)

/-- BUS_MASTER_ENABLE (R79). -/
def busMasterEnable (m : Mach) : Mach :=
  let m := m.w HIF_STATUS_BME 1
  if m.r HIF_STATUS_D_STATE == 0 then m.sendAllPending else m

def execBusMasterEnable (s : State) : Res := s.on busMasterEnable

/-- FUNCTION_RETURN_TO_D0 (R79). -/
def functionReturnToD0 (m : Mach) : Mach := (m.w HIF_STATUS_D_STATE 0).sendAllPending

def execFunctionReturnToD0 (s : State) : Res := s.on functionReturnToD0

/-- The registers of the Host interface window gone back to their reset values. -/
def Mach.hifRegsReset (m : Mach) : Mach :=
  { m with regs := m.regs.filter (fun e => e.1 < 0x40000 || 0x100000 ≤ e.1) }

/-- The link trains: up to the generation and width the other side offers, at Gen1 only where the strap PCIE_MODE says so
(R564). -/
def Mach.linkUp (m : Mach) (gen width : Nat) : Mach :=
  let g := if (m.r ID_STRAPS_ALL).testBit 3 then min gen 1 else gen
  ((m.w HIF_STATUS_LINK_UP 1).w HIF_STATUS_GEN g).w HIF_STATUS_WIDTH width

/-- The host interface after link down, hot reset or function-level reset (R54): registers at reset, every ring DISABLED
without a further memory write, configuration space at reset; words captured under R6 stay, work delivered to blocks goes on. `after` is the link's generation
and width where it comes up again. DESIGN CHOICE: a descriptor fetched and not yet delivered, of which R54 does not speak, is
dropped, neither delivered nor counted (log entry 61). -/
def pcieLinkDown (after : Option (Fin 4 × Fin 5)) (m : Mach) : Mach :=
  let rings := m.hif.erings.map (fun e => (e.1, { seq := e.2.seq : ERing }))
  let m := { m.hifRegsReset with hif := { erings := rings, wide := m.hif.wide, era := m.hif.era + 1, old := m.allDelivered } }
  match after with
  | none => m
  | some (g, w) => m.linkUp g w

/-- NOP (R85): bytes 16 to 23 echoed. -/
def nop (d : Desc) (m : Mach) : Mach :=
  m.desc 0x0C00 d (fun d m => m.complete d stOK (le 8 (Descs.fld d 16 8)))

def execNop (d : Desc) (s : State) : Res := s.on (nop d)

/-- GET_TIME (R85). -/
def getTime (d : Desc) (m : Mach) : Mach :=
  m.desc 0x0C01 d (fun d m => m.complete d stOK (le 6 m.time.sec ++ le 4 m.time.ns ++ le 1 m.timeStatus))

def execGetTime (d : Desc) (s : State) : Res := s.on (getTime d)

end Sys2Proof.Machine
end

