-- ==== Sys2Proof/Machine/ConfigSpace.lean ====
section
/-! DEFINITION. The configuration space of the PCIe function: identity, base addresses, capabilities (02, R51 to R53). The spec
gives the identity, the sizes and which capabilities there are; the places of the fields are PRESUMED from PCI Express, and
the offsets of the capabilities are the model's (log entry 62). -/

namespace Sys2Proof.Machine
open Sys2Proof

/-- The bits of a base address that are not decoded from the size: BAR0 64 MB, BAR2 4 KB, BAR4 8 KB; BAR1, BAR3 and BAR5 are
not implemented (R52). -/
def barMask (k : Nat) : Nat :=
  match k with
  | 0 => 0xFC000000
  | 2 => 0xFFFFF000
  | 4 => 0xFFFFE000
  | _ => 0

/-- The subsystem ID of the unit's ordering code (R51). -/
def subsystemId : Nat := if Config.isAM then 1 else 2

/-- A word of configuration space (R51 to R53): identity and class, command, base addresses, subsystem, and the chain of the
power-management, MSI-X (64 vectors in BAR4) and PCIe (payload of 512 bytes) capabilities; advanced error reporting at
0x100. Any other word reads 0. -/
def Mach.readCfg (m : Mach) (off : Nat) : Nat :=
  let c := m.hif.cfg
  match off with
  | 0x00 => 0x05121E9C
  | 0x04 => 0x00100000 + c.command + 4 * m.r HIF_STATUS_BME
  | 0x08 => 0x1180000B
  | 0x10 => Tabs.val c.bars 0 0
  | 0x18 => Tabs.val c.bars 0 2
  | 0x20 => Tabs.val c.bars 0 4
  | 0x2C => 2 ^ 16 * subsystemId + 0x1E9C
  | 0x34 => 0x40
  | 0x40 => 0x00035001
  | 0x44 => 8 + m.r HIF_STATUS_D_STATE
  | 0x50 => 2 ^ 31 * b2n c.msixOn + 2 ^ 30 * b2n c.msixMask + 0x003F6011
  | 0x54 => 0x00000004
  | 0x58 => 0x00001004
  | 0x60 => 0x00020010
  | 0x64 => 0x10008002
  | 0x68 => c.devCtl
  | 0x6C => 0x00000043
  | 0x70 => 2 ^ 20 * m.r HIF_STATUS_WIDTH + 2 ^ 16 * m.r HIF_STATUS_GEN
  | 0x100 => 0x00020001
  | 0x104 => c.aer.unc
  | 0x108 => c.aer.uncMask
  | 0x10C => c.aer.sev
  | 0x110 => c.aer.cor
  | 0x114 => c.aer.corMask
  | 0x118 => c.aer.first
  | 0x11C => Tabs.val c.aer.header 0 0
  | 0x120 => Tabs.val c.aer.header 0 1
  | 0x124 => Tabs.val c.aer.header 0 2
  | 0x128 => Tabs.val c.aer.header 0 3
  | _ => 0

/-- The part with its configuration space changed. -/
def Mach.setCfg (m : Mach) (c : CfgSt) : Mach := { m with hif := { m.hif with cfg := c } }

/-- Bits of a status word that a write of 1 clears. -/
def clearOnes (old v : Nat) : Nat := old - (old &&& v)

/-- The part with its error reporting capability changed. -/
def Mach.setAer (m : Mach) (a : AerSt) : Mach := m.setCfg { m.hif.cfg with aer := a }

/-- A function-level reset (R54): the link stays as it has trained. -/
def flr (m : Mach) : Mach := (pcieLinkDown none m).linkUp (m.r HIF_STATUS_GEN) (m.r HIF_STATUS_WIDTH)

/-- A write to configuration space: bus master enable and the power state act as their commands do; a MSI-X message that
nothing holds back any more is sent (R54, R79). Relaxed ordering and no-snoop stay 0; bit 15 of device control is the
function-level reset; the status words of the error reporting clear where 1 is written (R53). -/
def Mach.writeCfg (m : Mach) (off v : Nat) : Mach :=
  let c := m.hif.cfg
  match off with
  | 0x04 =>
    let m := m.setCfg { c with command := v &&& 0x142 }
    if v.testBit 2 == m.b HIF_STATUS_BME then m else if v.testBit 2 then busMasterEnable m else busMasterDisable false m
  | 0x10 => m.setCfg { c with bars := Tabs.put c.bars 0 (v &&& barMask 0) }
  | 0x18 => m.setCfg { c with bars := Tabs.put c.bars 2 (v &&& barMask 2) }
  | 0x20 => m.setCfg { c with bars := Tabs.put c.bars 4 (v &&& barMask 4) }
  | 0x44 =>
    if v % 4 == m.r HIF_STATUS_D_STATE then m
    else if v % 4 == 3 then busMasterDisable true m
    else if v % 4 == 0 then functionReturnToD0 m else m
  | 0x50 => (m.setCfg { c with msixOn := v.testBit 31, msixMask := v.testBit 30 }).sendAllPending
  | 0x68 => if v.testBit 15 then flr m else m.setCfg { c with devCtl := v &&& 0x70EF }
  | 0x104 => m.setAer { c.aer with unc := clearOnes c.aer.unc v }
  | 0x108 => m.setAer { c.aer with uncMask := v &&& 0x07FFF030 }
  | 0x10C => m.setAer { c.aer with sev := v &&& 0x07FFF030 }
  | 0x110 => m.setAer { c.aer with cor := clearOnes c.aer.cor v }
  | 0x114 => m.setAer { c.aer with corMask := v &&& 0xF1C1 }
  | _ => m

end Sys2Proof.Machine
end

