-- ==== Sys2Proof/Machine/Mailbox.lean ====
section
/-! DEFINITION. Mailboxes and lock registers (14). Commands of master 0, a number never issued (R35), do nothing; the host's
do nothing before READY (R566). -/

namespace Sys2Proof.Machine

open Sys2Proof

/-- A change of mailboxes and locks, and of the part. -/
def State.mbox (s : State) (f : MbSt → Mach → MbSt × Mach) : Res :=
  let r := f s.mb s.m
  .next { s with mb := r.1, m := r.2 }

def MbSt.chan (x : MbSt) (c : Nat) : List (BitVec 64) := Tabs.val x.chans [] c
def MbSt.setChan (x : MbSt) (c : Nat) (l : List (BitVec 64)) : MbSt := { x with chans := Tabs.put x.chans c l }
def MbSt.epoch (x : MbSt) (k : Nat) : Nat := Tabs.val x.epochs 0 k
def MbSt.owner (x : MbSt) (k : Nat) : Nat := Tabs.val x.owners 0 k
def MbSt.setOwner (x : MbSt) (k owner : Nat) : MbSt := { x with owners := Tabs.put x.owners k owner }

/-- MB_STATUS follows a channel. -/
def Mach.showChan (m : Mach) (x : MbSt) (c : Nat) : Mach := m.w MB_STATUS_LEVEL (x.chan c).length c

/-- MAILBOX_POST_LOW (R461). -/
def postLow (master v : Nat) (x : MbSt) (m : Mach) : MbSt × Mach :=
  if m.hears master then ({ x with lowWord := Tabs.put x.lowWord master (BitVec.ofNat 32 v) }, m) else (x, m)

def execMailboxPostLow (m : Fin 16) (v : BitVec 32) (s : State) : Res := s.mbox (postLow m v.toNat)

/-- The notice a post makes (R460, R461). -/
def noticeOf (x : MbSt) (master v : Nat) : BitVec 64 :=
  BitVec.ofNat 64 ((Tabs.val x.lowWord 0 master).toNat + 2 ^ 32 * (v % 2 ^ 16) + 2 ^ 48 * master +
    2 ^ 52 * (x.epoch master % 16) + 2 ^ 56 * (v / 2 ^ 16 % 2 ^ 8))

/-- MAILBOX_POST (R461): on a full channel the post is dropped and counted. -/
def post (master c v : Nat) (x : MbSt) (m : Mach) : MbSt × Mach :=
  if !m.hears master then (x, m)
  else if (x.chan c).length ≥ 32 then (x, m.inc MB_DROP_ALL c)
  else
    let y := x.setChan c (x.chan c ++ [noticeOf x master v])
    (y, m.showChan y c)

def execMailboxPost (m : Fin 16) (ch : Fin 64) (v : BitVec 32) (s : State) : Res := s.mbox (post m ch v.toNat)

/-- MAILBOX_POP (R462): 0 from an empty channel. -/
def pop (master c : Nat) (x : MbSt) (m : Mach) : MbSt × Mach :=
  if !m.hears master then (x, m.deafRead master (MB_POP_LO_ALL.off c 0))
  else
    let n := (x.chan c).headD 0
    let y := x.setChan c ((x.chan c).drop 1)
    let y := { y with highWord := Tabs.put y.highWord (16 * c + master) (BitVec.ofNat 32 (n.toNat / 2 ^ 32)) }
    (y, (m.showChan y c).emit (.read master (MB_POP_LO_ALL.off c 0) (n.setWidth 32)))

def execMailboxPop (m : Fin 16) (ch : Fin 64) (s : State) : Res := s.mbox (pop m ch)

/-- A read of MB_POP_HI: the word captured for the master at its last pop of the channel, once; then 0 (R462). -/
def popHigh (master c : Nat) (x : MbSt) (m : Mach) : MbSt × Mach :=
  let off := MB_POP_HI_ALL.off c 0
  if !m.hears master then (x, m.deafRead master off)
  else ({ x with highWord := Tabs.del x.highWord (16 * c + master) },
        m.emit (.read master off (Tabs.val x.highWord 0 (16 * c + master))))

/-- A channel discards its notices, counted in MB_LOST (R463). -/
def discardChan (r : MbSt × Mach) (c : Nat) : MbSt × Mach :=
  let n := (r.1.chan c).length
  let y := r.1.setChan c []
  (y, (r.2.incBy MB_LOST_ALL n c).showChan y c)

/-- The epochs as MB_EPOCH_LO and MB_EPOCH_HI show them. -/
def Mach.showEpochs (m : Mach) (x : MbSt) : Mach :=
  let word := fun (first : Nat) => ((List.range 8).map (fun k => x.epoch (first + k) % 16 * 16 ^ k)).sum
  (m.w MB_EPOCH_LO_EPOCHS (word 0)).w MB_EPOCH_HI_EPOCHS (word 8)

/-- A lock is free again. -/
def freeLock (r : MbSt × Mach) (k : Nat) : MbSt × Mach := (r.1.setOwner k 0, r.2.w LOCK_OWNER_OWNER 0 k)

/-- A master resets (R463, R467): its epoch advances modulo 16, the channels it receives discard their notices, its locks are
released with one event that names them. -/
def resetMaster (master : Nat) (x : MbSt) (m : Mach) : MbSt × Mach :=
  if master == 0 then (x, m)
  else
    let y := { x with epochs := Tabs.put x.epochs master ((x.epoch master + 1) % 16) }
    let m := m.showEpochs y
    let r := ((List.range 64).filter (fun c => m.r MB_CFG_RX_DOMAIN c == master)).foldl discardChan (y, m)
    let mine := (List.range 64).filter (fun k => r.1.owner k == master)
    if mine.isEmpty then r
    else
      let r := mine.foldl freeLock r
      (r.1, (r.2.incBy LOCK_RESET_REL_ALL mine.length).event 0x0B03 2 27
        (le 1 master ++ le 8 ((mine.map (fun k => 2 ^ k)).sum)))

def execMasterReset (m : Fin 16) (s : State) : Res := s.mbox (resetMaster m)

/-- LOCK_ACQUIRE_READ (R465). -/
def lockRead (master k : Nat) (x : MbSt) (m : Mach) : MbSt × Mach :=
  if !m.hears master then (x, m.deafRead master (LOCK_OWNER.off k 0))
  else
    let own := x.owner k
    let m := m.emit (.read master (LOCK_OWNER.off k 0) (BitVec.ofNat 32 own))
    if own == 0 then (x.setOwner k master, m.w LOCK_OWNER_OWNER master k) else (x, m)

def execLockAcquireRead (m : Fin 16) (k : Fin 64) (s : State) : Res := s.mbox (lockRead m k)

/-- LOCK_RELEASE_WRITE (R466). -/
def lockWrite (master k v : Nat) (x : MbSt) (m : Mach) : MbSt × Mach :=
  if !m.hears master then (x, m)
  else if v == 0 && x.owner k == master then freeLock (x, m) k
  else (x, m.inc LOCK_BAD_WR_ALL)

def execLockReleaseWrite (m : Fin 16) (k : Fin 64) (v : BitVec 32) (s : State) : Res := s.mbox (lockWrite m k v.toNat)

/-- PCIE_LINK_DOWN (R54, R463): the host interface is reset, and master 1 with it. -/
def execPcieLinkDown (after : Option (Fin 4 × Fin 5)) (s : State) : Res :=
  s.mbox (fun x m => resetMaster 1 x (pcieLinkDown after m))

end Sys2Proof.Machine
end

