-- ==== Sys2Proof/Machine/NavDecode.lean ====
section
/-! DEFINITION. Decoding of navigation symbols (10, R337): polarity, relative code, deinterleaving, Viterbi. Preambles, code
polynomials and interleavers stand in the signals' interface specifications, which the spec names without repeating them: PRESUMED
from there (log entry 64). The decoder takes hard decisions, and of two equal paths the one from the lower state (PRESUMED). -/

namespace Sys2Proof.Machine

/-- The exclusive or of some bits. -/
def xorAll (l : List Bool) : Bool := l.foldl (fun a b => a != b) false

/-- The bits of a 7-bit number that a mask picks sum to an odd number. -/
def oddUnder (mask v : Nat) : Bool := xorAll ((List.range 7).map (fun k => mask.testBit k && v.testBit k))

/-- The paths of the Viterbi decoder by the last six bits, the newest on top: distance, bits, the newest first. -/
abbrev Trellis := List (Nat × List Bool)

/-- One pair of symbols: rate 1/2, constraint length 7, polynomials 171 and 133 (octal), the second one's symbol inverted where
the signal inverts it. -/
def viterbiStep (inv2 : Bool) (t : Trellis) (s : Bool × Bool) : Trellis :=
  (List.range 64).map (fun n =>
    let via := fun (p : Nat) =>
      let reg := 64 * (n / 32) + p
      let e := t.getD p (0, [])
      let miss := (if oddUnder 0x79 reg != s.1 then 1 else 0) + (if (oddUnder 0x5B reg != inv2) != s.2 then 1 else 0)
      (e.1 + miss, decide (n / 32 = 1) :: e.2)
    let a := via (2 * (n % 32))
    let b := via (2 * (n % 32) + 1)
    if a.1 ≤ b.1 then a else b)

/-- Symbols in pairs. -/
def pairUp : List Bool → List (Bool × Bool)
  | a :: b :: l => (a, b) :: pairUp l
  | _ => []

/-- The bits of the path nearest to the symbols. -/
def viterbi (inv2 : Bool) (l : List Bool) : List Bool :=
  let t := (pairUp l).foldl (viterbiStep inv2) (List.replicate 64 (0, []))
  (t.foldl (fun (a : Nat × List Bool) e => if e.1 < a.1 then e else a) (t.getD 0 (0, []))).2.reverse

/-- Symbols of a block of `cols` columns, written column by column and sent row by row, in their order before. -/
def deinterleave (cols : Nat) (l : List Bool) : List Bool :=
  let rows := l.length / max 1 cols
  (List.range l.length).map (fun i => l.getD (i % max 1 rows * cols + i / max 1 rows) false)

/-- Bits inverted where the unit's preamble is inverted. -/
def upright (pre l : List Bool) : List Bool := if l.take pre.length == pre.map (!·) then l.map (!·) else l

def lnavPreamble : List Bool := [true, false, false, false, true, false, true, true]
def bdsPreamble : List Bool := [true, true, true, false, false, false, true, false, false, true, false]

/-- An LNAV subframe with its polarity resolved: the preamble's, and in each word after the first that of D30* of the word
before, which inverts the word's 24 data bits. -/
def lnavBits (l : List Bool) : List Bool :=
  let b := upright lnavPreamble l
  (List.range b.length).map (fun i =>
    let k := i % 30
    if k < 24 && 30 ≤ i then b.getD i false != b.getD (i - k - 1) false else b.getD i false)

/-- A GLONASS string out of its relative code: each bit is the change from the symbol before. -/
def relativeBits : List Bool → List Bool
  | a :: b :: l => (a != b) :: relativeBits (b :: l)
  | _ => []

/-- The bits of a unit of TYPE `typ` from its symbols as received: 300 of LNAV, D1, D2; 600 of CNAV; 240 of each part of an I/NAV
page, sync left out; 488 of an F/NAV page; 500 of SBAS; 86 of a GLONASS string, from the one before it on; of B-CNAV the bits
that device firmware has decoded. -/
def navDecode (typ : Nat) (l : List Bool) : List Bool :=
  match typ with
  | 1 => lnavBits l
  | 2 | 8 => viterbi false l
  | 3 => (viterbi true (deinterleave 30 (l.take 240))).take 114 ++ (viterbi true (deinterleave 30 (l.drop 240))).take 114
  | 4 => (viterbi true (deinterleave 61 l)).take 238
  | 5 | 6 => upright bdsPreamble l
  | 7 => relativeBits l
  | _ => l

/-- Bits in a word, the first one on top. -/
def navWord (l : List Bool) : BitVec 320 :=
  BitVec.ofNat 320 ((l.take 320 ++ List.replicate (320 - l.length) false).foldl (fun a b => 2 * a + (if b then 1 else 0)) 0)

end Sys2Proof.Machine
end

