-- ==== Sys2Proof/Machine/Gnss.lean ====
section
/-! DEFINITION. The GNSS baseband (10): antennas, channels, acquisition, navigation records, measurement epochs. What the
receive paths deliver (currents, metrics, latched states, decoded units) comes in with the commands; which satellite stands
how high and what the loops do inside a tick is the sender's (log entry 51). -/

namespace Sys2Proof.Machine

open Sys2Proof

/-! ### Signals (R322, R324) -/

/-- Code length in chips and chip rate in kcps of each SIG. -/
def sigLens : List Nat := [1023, 10230, 10230, 4092, 10230, 10230, 2046, 10230, 10230, 511, 511, 1023, 10230, 10230, 1023]
def sigRates : List Nat :=
  [1023, 1023, 10230, 1023, 10230, 10230, 2046, 1023, 10230, 511, 511, 1023, 1023, 10230, 1023]
/-- Code period in ms of each SIG, the period of its dumps. -/
def sigPeriods : List Nat := [1, 20, 1, 4, 1, 1, 1, 10, 1, 1, 1, 1, 20, 1, 1]
/-- Band of each SIG: 0 L1, 1 L2, 2 L5. -/
def sigBands : List Nat := [0, 1, 2, 0, 2, 2, 0, 0, 2, 0, 1, 0, 1, 2, 0]
/-- System of each SIG: 0 GPS, 1 Galileo, 2 BeiDou, 3 GLONASS, 4 QZSS, 5 SBAS. -/
def sigSystems : List Nat := [0, 0, 0, 1, 1, 1, 2, 2, 2, 3, 3, 4, 4, 4, 5]
/-- Signals with a pilot: the taps work on it, and a data prompt correlator, from which the symbols come, on the data component. -/
def sigPilots : List Bool :=
  [false, true, true, true, true, true, false, true, true, false, false, false, true, true, false]
def sigLen (sig : Nat) : Nat := sigLens.getD sig 0
def sigPeriod (sig : Nat) : Nat := sigPeriods.getD sig 1
def sigRate (sig : Nat) : Nat := sigRates.getD sig 0
def sigBand (sig : Nat) : Nat := sigBands.getD sig 3
def sigSystem (sig : Nat) : Nat := sigSystems.getD sig 6

/-- SVIDs of each system. -/
def svidRanges : List (Nat × Nat) := [(1, 32), (1, 36), (1, 63), (1, 24), (193, 202), (120, 158)]

/-- A SIG in use and an SVID of its system. -/
def signalOk (sig svid : Nat) : Bool :=
  match svidRanges[sigSystem sig]? with
  | some (lo, hi) => lo ≤ svid && svid ≤ hi
  | none => false

/-! ### Antennas (R323) -/

def antBias (a : Nat) : Field := if a == 0 then GNSS_ANT_CFG_A_BIAS_EN else GNSS_ANT_CFG_B_BIAS_EN
def antMa (a : Nat) : Field := if a == 0 then GNSS_ANT_STATUS_A_MA else GNSS_ANT_STATUS_B_MA
def antOpen (a : Nat) : Field := if a == 0 then GNSS_ANT_STATUS_A_OPEN else GNSS_ANT_STATUS_B_OPEN
def antShort (a : Nat) : Field := if a == 0 then GNSS_ANT_STATUS_A_SHORT else GNSS_ANT_STATUS_B_SHORT

/-- The condition of an antenna becomes NORMAL (0), OPEN (1) or SHORT (2), with one event. -/
def Mach.antCond (m : Mach) (a c ma : Nat) : Mach :=
  ((((m.wb (antOpen a) (c == 1)).wb (antShort a) (c == 2)).w (antMa a) ma).event 0x0401 2 0
    (le 1 a ++ le 1 (Config.antennaCode c) ++ le 1 ma))

def Mach.setShortAt (m : Mach) (t : Tab Nat) : Mach := { m with gnss := { m.gnss with shortAt := t } }

/-- The bias of an antenna is on: not in the off time between the retries of a SHORT. -/
def Mach.biasOn (m : Mach) (a : Nat) : Bool := m.b (antBias a) && (Tabs.look m.gnss.shortAt a).isNone

/-- How many ticks in sequence an antenna has drawn less than 2 mA, its bias being on. -/
def Mach.lowMa (m : Mach) (a : Nat) : Nat := Tabs.val m.gnss.lowMa 0 a

/-- The bias currents as a tick begins; none flows while a bias is off. -/
def Mach.biasTick (m : Mach) (maA maB : Nat) : Mach :=
  let low := fun (a ma : Nat) => if m.biasOn a && ma < 2 then m.lowMa a + 1 else 0
  let m := { m with gnss := { m.gnss with lowMa := Tabs.put (Tabs.put m.gnss.lowMa 0 (low 0 maA)) 1 (low 1 maB) } }
  (m.w GNSS_ANT_STATUS_A_MA (if m.biasOn 0 then maA else 0)).w GNSS_ANT_STATUS_B_MA (if m.biasOn 1 then maB else 0)

/-- ANTENNA_OPEN: below 2 mA for 100 ms while the bias is on. -/
def antennaOpen (a ma : Nat) (m : Mach) : Mach :=
  if m.biasOn a && ma < 2 && 100 ≤ m.lowMa a && !m.b (antOpen a) then m.antCond a 1 ma else m

def execAntennaOpen (a : Fin 2) (ma : BitVec 8) (s : State) : Res := s.on (antennaOpen a ma.toNat)

/-- ANTENNA_SHORT: above 80 mA; the bias is off until the retry. A load still SHORT since before posts no second event. -/
def antennaShort (a ma : Nat) (m : Mach) : Mach :=
  if m.biasOn a && 80 < ma then
    let off := m.setShortAt (Tabs.put m.gnss.shortAt a m.now)
    if m.b (antShort a) then off.w (antMa a) ma else off.antCond a 2 ma
  else m

def execAntennaShort (a : Fin 2) (ma : BitVec 8) (s : State) : Res := s.on (antennaShort a ma.toNat)

/-- ANTENNA_BIAS_RETRY: every second while SHORT; a current that is still too large switches the bias off again. -/
def antennaBiasRetry (a ma : Nat) (m : Mach) : Mach :=
  match Tabs.look m.gnss.shortAt a with
  | some t =>
    if m.b (antBias a) && t + 1000 ≤ m.now then
      if 80 < ma then (m.setShortAt (Tabs.put m.gnss.shortAt a m.now)).w (antMa a) ma
      else (m.setShortAt (Tabs.del m.gnss.shortAt a)).w (antMa a) ma
    else m
  | none => m

def execAntennaBiasRetry (a : Fin 2) (ma : BitVec 8) (s : State) : Res := s.on (antennaBiasRetry a ma.toNat)

/-- ANTENNA_NORMAL: 2 mA to 80 mA again, the bias being on. -/
def antennaNormal (a ma : Nat) (m : Mach) : Mach :=
  if m.b (antBias a) && 2 ≤ ma && ma ≤ 80 && (m.b (antOpen a) || m.b (antShort a)) &&
      (Tabs.look m.gnss.shortAt a).isNone then
    m.antCond a 0 ma
  else m

def execAntennaNormal (a : Fin 2) (ma : BitVec 8) (s : State) : Res := s.on (antennaNormal a ma.toNat)

/-! ### Channels (R325 to R330) -/

def Mach.gchan (m : Mach) (c : Nat) : GChan := Tabs.val m.gnss.chans {} c
def Mach.setGchan (m : Mach) (c : Nat) (x : GChan) : Mach :=
  { m with gnss := { m.gnss with chans := Tabs.put m.gnss.chans c x } }
def Mach.chState (m : Mach) (c : Nat) : Nat := m.r GNSS_CH_STATUS_STATE c

/-- PULL_IN or TRACKING; SPARE or TEST. -/
def stActive (st : Nat) : Bool := st == 1 || st == 2
def stSpare (st : Nat) : Bool := st == 3 || st == 4
def Mach.chActive (m : Mach) (c : Nat) : Bool := stActive (m.chState c)

/-- A channel's state; the counts of GNSS_STATUS follow. -/
def Mach.setChState (m : Mach) (c st : Nat) : Mach :=
  let old := m.chState c
  let act := m.r GNSS_STATUS_ACTIVE + b2n (stActive st) - b2n (stActive old)
  let spa := m.r GNSS_STATUS_SPARES + b2n (stSpare st) - b2n (stSpare old)
  ((m.w GNSS_CH_STATUS_STATE st c).w GNSS_STATUS_ACTIVE act).w GNSS_STATUS_SPARES spa

/-- The signal a channel is assigned to. -/
def Mach.chSig (m : Mach) (c : Nat) : Nat := m.r GNSS_CH_STATUS_SIG c
def Mach.chSvid (m : Mach) (c : Nat) : Nat := m.r GNSS_CH_STATUS_SVID c
def Mach.chPath (m : Mach) (c : Nat) : Nat := m.r GNSS_CH_STATUS_PATH c

/-- A channel takes up a signal. -/
def Mach.chTake (m : Mach) (c sig svid path st : Nat) (x : GChan) : Mach :=
  let m := ((m.w GNSS_CH_STATUS_SIG sig c).w GNSS_CH_STATUS_SVID svid c).w GNSS_CH_STATUS_PATH path c
  ((m.w GNSS_CH_INFO_SLIPS 0 c).setGchan c x).setChState c st

/-- A channel goes back to a state without a signal. -/
def Mach.chFree (m : Mach) (c st : Nat) : Mach :=
  let m := (m.chTake c 0 0 0 st {}).w GNSS_CH_STATUS_CN0 0 c
  (m.w GNSS_CH_INFO_MP_INDEX 0 c).w GNSS_CH_INFO_LOCK_S 0 c

/-- The channel that holds a signal on a path. -/
def Mach.chOf (m : Mach) (sig svid path : Nat) : Option Nat :=
  (List.range 456).find? (fun c => m.chActive c && m.chSig c == sig && m.chSvid c == svid && m.chPath c == path)

/-- The lowest IDLE channel, within the limit of R325 and R326. -/
def Mach.chIdle (m : Mach) : Option Nat :=
  if m.r GNSS_STATUS_ACTIVE + m.gnss.lost < 448 then (List.range 456).find? (fun c => m.chState c == 0) else none

/-- A channel's dump boundary has passed: the tap settings written by then take effect (R330). -/
def Mach.tapsTake (m : Mach) (c : Nat) : Mach :=
  { m with gnss := { m.gnss with taps := Tabs.put m.gnss.taps c (m.word GNSS_CH_CFG_SPACING c, m.word GNSS_CH_MP_M0 c) } }

/-- A pin covers a signal on a path. -/
def Mach.pinned (m : Mach) (sig svid path : Nat) : Bool :=
  m.gnss.pins.any (fun p => p.sig == sig && p.svid == svid && p.mask.testBit path)

/-- A candidate of R327: enabled, on an antenna that is not SHORT, not assigned yet, and pinned or, while AUTO is 1, above the
mask. -/
def Mach.candOk (m : Mach) (x : GCand) : Bool :=
  signalOk x.sig x.svid && sigBand x.sig == x.path % 3 && (m.r GNSS_SIG_EN_EN).testBit x.sig && !m.b (antShort (x.path / 3)) &&
    (m.chOf x.sig x.svid x.path).isNone &&
    (m.pinned x.sig x.svid x.path ||
      (m.b GNSS_CTRL_AUTO && x.elev.any (fun e => decide (((1000 * m.r GNSS_ELEV_CFG_MASK_DEG : Nat) : Int) < e))))

/-- Pinned candidates come first, then the others in descending elevation. -/
def Mach.candBefore (m : Mach) (a b : GCand) : Bool :=
  let pa := m.pinned a.sig a.svid a.path
  let pb := m.pinned b.sig b.svid b.path
  (pa && !pb) || (pa == pb && decide (b.elev.getD (-90000) < a.elev.getD (-90000)))

/-! ### Device firmware's acquisition requests (R334, R335) -/

/-- A channel that tracks a signal of the same satellite. -/
def Mach.satTracked (m : Mach) (c : Nat) : Option Nat :=
  (List.range 456).find? (fun k => k != c && m.chState k == 2 && sigSystem (m.chSig k) == sigSystem (m.chSig c) &&
    m.chSvid k == m.chSvid c)

/-- The time uncertainty in ns: the time unit's, or before the first step the real-time clock's, which the spec does not give;
none where that clock has no time. -/
def Mach.timeUnc (m : Mach) : Option Nat :=
  if m.stepped then some (m.r TIME_UNCERT_ALL) else m.nv.rtc.map (fun _ => Config.rtcUncert)

/-- The row of R335 for a channel's signal. DESIGN CHOICE: what no row covers is searched as cold (log entry 64). -/
def Mach.acqRow (m : Mach) (c alm : Nat) : Nat :=
  if (m.satTracked c).isSome then 3
  else if alm == 0 || m.nv.set.tcxo.isNone then 0
  else match m.timeUnc with
    | some u => if alm == 2 && u ≤ 10000 then 2 else if u ≤ 2000000000 then 1 else 0
    | none => 0

/-- The windows device firmware sets for its own searches, by row of R335: CODE_WIN, DOP_WIN, DWELL_MS. -/
def Mach.acqWindows (m : Mach) (row sig : Nat) : Nat × Nat × Nat :=
  match row with
  | 0 => (0, 8000, 2)
  | 1 => (0, 500, 1)
  | 2 => ((m.timeUnc.getD 0 * sigRate sig + 999999) / 1000000 + 2, 500, 1)
  | _ => (4, 250, 1)

/-- The code centre a transmit time (2^-32 ns) and the ticks since give a signal, in 1/1024 chip (R335). -/
def codeOfTx (sig : Nat) (t : Int) (ticks : Nat) : Nat :=
  ((t + ticks * 1000000 * 2 ^ 32) * (sigRate sig * 1024 : Nat) / (1000000 * 2 ^ 32) % (max 1 (sigLen sig * 1024) : Nat)).toNat

/-- Device firmware's request for a channel's signal. -/
def Mach.fwRequest (m : Mach) (c alm : Nat) : AcqReq :=
  let row := m.acqRow c alm
  let w := m.acqWindows row (m.chSig c)
  let centre := match (m.satTracked c).bind (fun k => (m.gchan k).txAt) with
    | some (t, at_) => codeOfTx (m.chSig c) t (m.now - at_)
    | none => 0
  { d := none, sig := m.chSig c, svid := m.chSvid c, path := m.chPath c, dwell := w.2.2,
    codeCentre := if row == 3 then centre else 0, codeWin := w.1, dopCentre := 0, dopWin := w.2.1, gloK := (m.gchan c).gloK,
    handover := true }

/-- Device firmware's requests join their queue of 64 while it has room, oldest first. -/
def Mach.fwFill (m : Mach) : Mach :=
  let n := 64 - m.gnss.fwQ.length
  { m with gnss := { m.gnss with fwQ := m.gnss.fwQ ++ m.gnss.fwLate.take n, fwLate := m.gnss.fwLate.drop n } }
def Mach.fwPut (m : Mach) (q : AcqReq) : Mach :=
  ({ m with gnss := { m.gnss with fwLate := m.gnss.fwLate ++ [q] } }).fwFill

/-! ### Assignment and release (R327) -/

/-- The waiting candidates, the highest first, take free channels in PULL_IN, each with a search for its signal (DEDUCED: a
channel in PULL_IN converges from an acquisition result, R325); `fuel` bounds their number. -/
def Mach.giveChannels : Nat → Mach → Mach
  | 0, m => m
  | fuel + 1, m =>
    match sortBy m.candBefore (m.gnss.waiting.filter m.candOk) with
    | [] => { m with gnss := { m.gnss with waiting := [] } }
    | x :: rest =>
      match m.chIdle with
      | none => { m with gnss := { m.gnss with waiting := x :: rest } }
      | some c =>
        let m := { m with gnss := { m.gnss with waiting := rest } }
        let m := m.chTake c x.sig x.svid x.path 1 { gloK := if sigSystem x.sig == 3 then x.gloK else 0, outAt := some m.now }
        Mach.giveChannels fuel (m.fwPut (m.fwRequest c x.alm))
def Mach.giveAll (m : Mach) : Mach := if m.gnss.waiting.isEmpty then m else Mach.giveChannels (m.gnss.waiting.length + 1) m

/-- CHANNEL_ASSIGN (R327): a candidate joins those that wait in the place of what was known of it, and one that is none any more
leaves them; the highest take what channels are free. -/
def channelAssign (x : GCand) (m : Mach) : Mach :=
  if m.takes .gnss then
    let others := m.gnss.waiting.filter (fun y => !(y.sig == x.sig && y.svid == x.svid && y.path == x.path))
    ({ m with gnss := { m.gnss with waiting := others ++ (if m.candOk x then [x] else []) } }).giveAll
  else m

def execChannelAssign (sig : Fin 16) (svid : BitVec 8) (path : Fin 6) (k : BitVec 8) (elev : Option Int) (alm : Fin 3)
    (s : State) : Res := s.on (channelAssign ⟨sig, svid.toNat, path, k.toInt, elev, alm⟩)

/-- The elevation of a satellite has fallen more than 2° below the mask. -/
def Mach.belowMask (m : Mach) (elev : Option Int) : Bool :=
  elev.any (fun e => decide (e + 2000 < ((1000 * m.r GNSS_ELEV_CFG_MASK_DEG : Nat) : Int)))

/-- CHANNEL_RELEASE (R327): an unpinned channel whose satellite has fallen more than 2° below the mask, or that has been out of
lock for 10 s. -/
def channelRelease (c : Nat) (elev : Option Int) (m : Mach) : Mach :=
  if m.chActive c && !m.pinned (m.chSig c) (m.chSvid c) (m.chPath c) &&
      (m.belowMask elev || (m.gchan c).outAt.any (fun t => t + 10000 ≤ m.now)) then (m.chFree c 0).giveAll
  else m

def execChannelRelease (c : Fin 456) (elev : Option Int) (s : State) : Res := s.on (channelRelease c elev)

/-- While AUTO is 0 channels neither pinned nor handed over are released (R327). -/
def Mach.autoOff (m : Mach) : Mach :=
  (m.each ((List.range 456).filter (fun c => m.chActive c && !(m.gchan c).hand &&
    !m.pinned (m.chSig c) (m.chSvid c) (m.chPath c))) (fun m c => m.chFree c 0)).giveAll

/-- SPACING and VSPACING as stored (R330); a VSPACING of 5 to 7 beside a SPACING of 4 as the nearer limit 8 (DEDUCED). -/
def spacingOf (v : Nat) : Nat := max 4 (min 64 v)
def vspacingOf (v sp : Nat) : Nat := if v ≤ sp then 2 * sp else max 8 (min v 128)

/-- A 9-bit monitor offset as stored (R330). -/
def monOf (v : Nat) : Nat := unsgn 9 (max (-128) (min 128 (sgn 9 v)))

/-- CHANNEL_TAP_WRITE (R330): the register holds the fields stored, and they take effect at the next dump boundary. -/
def channelTapWrite (master c : Nat) (mp : Bool) (v : Nat) (m : Mach) : Mach :=
  if !m.hears master then m
  else if mp then (m.w GNSS_CH_MP_M0 (monOf (bits v 0 9)) c).w GNSS_CH_MP_M1 (monOf (bits v 16 9)) c
  else
    let sp := spacingOf (bits v 0 7)
    (m.w GNSS_CH_CFG_SPACING sp c).w GNSS_CH_CFG_VSPACING (vspacingOf (bits v 8 8) sp) c

def execChannelTapWrite (m : Fin 16) (c : Fin 456) (mp : Bool) (v : BitVec 32) (s : State) : Res :=
  s.on (channelTapWrite m c mp v.toNat)

/-- PULL_IN_LOCK (R329). -/
def pullInLock (c cn0 : Nat) (m : Mach) : Mach :=
  if m.chState c == 1 then
    ((m.setGchan c { m.gchan c with lockAt := some m.now, outAt := none, lowAt := none }).w GNSS_CH_STATUS_CN0 cn0 c).setChState c 2
  else m

def execPullInLock (c : Fin 456) (cn0 : BitVec 8) (s : State) : Res := s.on (pullInLock c cn0.toNat)

/-! ### Acquisition (R332 to R336) -/

/-- LOSS_OF_LOCK (R329): after a second below DROP_CN0 back to PULL_IN, with a request for the signal. -/
def lossOfLock (c cn0 alm : Nat) (m : Mach) : Mach :=
  if m.chState c == 2 && cn0 < m.r GNSS_TRK_CFG_DROP_CN0 && (m.gchan c).lowAt.any (fun t => t + 1000 ≤ m.now) then
    let m := m.setGchan c { m.gchan c with lockAt := none, outAt := some m.now, lowAt := none, slip := true }
    let m := ((m.w GNSS_CH_STATUS_CN0 cn0 c).w GNSS_CH_INFO_LOCK_S 0 c).setChState c 1
    m.fwPut (m.fwRequest c alm)
  else m

def execLossOfLock (c : Fin 456) (cn0 : BitVec 8) (alm : Fin 3) (s : State) : Res := s.on (lossOfLock c cn0.toNat alm)

/-- Size of a search in dwells (R332). -/
def AcqReq.cells (q : AcqReq) : Nat := if q.codeWin == 0 then 2 * sigLen q.sig else 4 * q.codeWin + 1
def AcqReq.bins (q : AcqReq) : Nat := 2 * ((q.dopWin + 499) / 500) + 1
def AcqReq.dwells (q : AcqReq) : Nat := (q.cells * q.bins + 63) / 64

/-- The `k`-th cell visited (R332): code offset in 1/1024 chip, ascending within a bin, and Doppler in Hz, bin by bin outwards
from the centre. DESIGN CHOICE: of two bins as far out the upper one first, and a whole code from phase 0 (log entry 64). -/
def AcqReq.cellAt (q : AcqReq) (k : Nat) : Nat × Int :=
  let j := k % max 1 q.cells
  let b := k / max 1 q.cells
  let out : Int := if b % 2 == 1 then ((b + 1) / 2 : Nat) else -((b / 2 : Nat) : Int)
  let code : Int := if q.codeWin == 0 then 512 * j else (q.codeCentre : Int) + 512 * ((j : Int) - 2 * q.codeWin)
  ((code % (max 1 (sigLen q.sig * 1024) : Nat)).toNat, q.dopCentre + 500 * out)

def Mach.setEngine (m : Mach) (e : Nat) (r : AcqRun) : Mach :=
  { m with gnss := { m.gnss with engines := Tabs.put m.gnss.engines e r } }
def Mach.freeEngine (m : Mach) (e : Nat) : Mach :=
  { m with gnss := { m.gnss with engines := Tabs.del m.gnss.engines e } }

/-- ACQ_SEARCH_START (R334): a free engine takes the head of the host queue, else of the firmware queue. -/
def acqSearchStart (e : Nat) (m : Mach) : Mach :=
  let g := m.gnss
  if !m.takes .gnss || (Tabs.look g.engines e).isSome || g.engLost.contains e || m.r INTC_BLK_FAULT_STATE 1 == 3 then m
  else match g.hostQ, g.fwQ with
    | q :: rest, _ =>
      ({ m with gnss := { g with hostQ := rest } }).setEngine e { req := q, start := m.now, left := q.dwells }
    | [], q :: rest =>
      (({ m with gnss := { g with fwQ := rest } }).setEngine e { req := q, start := m.now, left := q.dwells }).fwFill
    | [], [] => m

def execAcqSearchStart (e : Fin 16) (s : State) : Res := s.on (acqSearchStart e)

/-- RESULT of ACQ_SEARCH (R349). -/
def acqRes (chan code dop metric used : Nat) : List Byte :=
  le 2 chan ++ le 2 0 ++ le 4 code ++ le 4 dop ++ le 2 metric ++ le 2 used

/-- A search ends without a confirmed detection (R333). -/
def Mach.acqNotFound (m : Mach) (e : Nat) (r : AcqRun) : Mach :=
  let m := (m.freeEngine e).inc GNSS_ACQ_NOT_FOUND_ALL
  match r.req.d with
  | some d => m.complete d 0x12 (acqRes 0xFFFF r.best.2.1 r.best.2.2 r.best.1 r.used)
  | none => m

/-- A search ends as found (R333, R334): the signal goes, with the code phase and Doppler found, to the channel that holds it
or to an IDLE one. While AUTO is 0 device firmware's searches place pinned signals only (R327). -/
def Mach.acqFound (m : Mach) (e : Nat) (r : AcqRun) (metric code dop : Nat) : Mach :=
  let m := (m.freeEngine e).inc GNSS_ACQ_FOUND_ALL
  let q := r.req
  let res := fun c => acqRes c code dop metric r.used
  if !q.handover then
    match q.d with
    | some d => m.complete d stOK (res 0xFFFF)
    | none => m
  else
    let have_ := m.chOf q.sig q.svid q.path
    let chan := match have_ with
      | some c => some c
      | none => if m.b (antShort (q.path / 3)) then none else m.chIdle
    match chan, q.d with
    | some c, d =>
      let at_ := fun (x : GChan) => { x with code := code, dopp := 1000 * sgn 32 dop, hand := x.hand || d.isSome }
      let m := if have_.isSome then m.setGchan c (at_ (m.gchan c))
        else if d.isNone && !m.b GNSS_CTRL_AUTO && !m.pinned q.sig q.svid q.path then m
        else m.chTake c q.sig q.svid q.path 1 (at_ { gloK := q.gloK, outAt := some m.now })
      match d with
      | some d => m.complete d stOK (res c)
      | none => m
    | none, some d => m.complete d 0x13 (res 0xFFFF)
    | none, none => m.fwPut q

/-- ACQ_DWELL_COMPLETE (R332, R333, R352): the largest metric of the dwell's cells, with the cell it belongs to, the
interpolation of its code phase in 1/1024 chip and the refinement of its Doppler in 10 Hz. A dwell lasts DWELL_MS. -/
def acqDwellComplete (e metric cell : Nat) (dc dd : Int) (m : Mach) : Mach :=
  match (Tabs.look m.gnss.engines e).filter (fun r => decide (r.start + r.req.dwell ≤ m.now)) with
  | none => m
  | some r =>
    let n := min (64 * (r.req.dwells - r.left) + cell) (r.req.cells * r.req.bins - 1)
    let at_ := r.req.cellAt (r.confirm.getD n)
    let code := (((at_.1 : Int) + dc) % (max 1 (sigLen r.req.sig * 1024) : Nat)).toNat
    let dop := unsgn 32 (at_.2 + 10 * dd)
    let best := if r.best.1 ≤ metric then (metric, code, dop) else r.best
    let r := { r with used := r.used + 1, best := best, start := r.start + r.req.dwell }
    let hit := m.r GNSS_ACQ_CFG_THRESH ≤ metric
    if !m.takes .gnss then
      let m := m.freeEngine e
      match r.req.d with
      | some d => m.complete d stFLUSHED
      | none => m
    else if r.confirm.isSome then
      if hit then m.acqFound e r metric code dop
      else if r.left == 0 then m.acqNotFound e r
      else m.setEngine e { r with confirm := none }
    else
      let r := { r with left := r.left - 1 }
      if hit then m.setEngine e { r with confirm := some n }
      else if r.left == 0 then m.acqNotFound e r
      else m.setEngine e r

def execAcqDwellComplete (e : Fin 16) (metric : BitVec 16) (cell : Fin 64) (dc : BitVec 10) (dd : BitVec 8) (s : State) : Res :=
  s.on (acqDwellComplete e metric.toNat cell dc.toInt dd.toInt)

/-- The request an ACQ_SEARCH spells (R349). -/
def Mach.acqOf (m : Mach) (d : Desc) : AcqReq :=
  let dw := Descs.fld d 19 1
  { d := some d, sig := Descs.fld d 16 1, svid := Descs.fld d 17 1, path := Descs.fld d 18 1,
    dwell := if dw == 0 then m.r GNSS_ACQ_CFG_DWELL_MS else dw, codeCentre := Descs.fld d 20 4,
    codeWin := Descs.fld d 24 2, dopCentre := sgn 32 (Descs.fld d 28 4), dopWin := Descs.fld d 32 2,
    gloK := if sigSystem (Descs.fld d 16 1) == 3 then sgn 8 (Descs.fld d 27 1) else 0,
    handover := (Descs.fld d 26 1).testBit 0 }

/-- A field outside its rule (R349). -/
def AcqReq.bad (q : AcqReq) : Bool :=
  !signalOk q.sig q.svid || q.path > 5 || q.dwell > 10 || q.codeCentre ≥ sigLen q.sig * 1024 || q.codeWin > 32767 ||
    (sigSystem q.sig == 3 && (q.gloK < -7 || 6 < q.gloK)) || q.dopCentre < -20000 || 20000 < q.dopCentre || q.dopWin > 20000

/-- ACQ_SEARCH (R334, R349, R351). -/
def acqSearch (d : Desc) (m : Mach) : Mach :=
  m.desc 0x0402 d (fun d m =>
    let q := m.acqOf d
    match firstOf [(q.bad, stRANGE), (!m.takes .gnss, stNOT_ENABLED), (m.gnss.hostQ.length ≥ 64, stQUEUE_FULL),
        (!(m.r GNSS_SIG_EN_EN).testBit q.sig, 0x10)] with
    | some st => m.complete d st
    | none => { m with gnss := { m.gnss with hostQ := m.gnss.hostQ ++ [q] } })

def execAcqSearch (d : Desc) (s : State) : Res := s.on (acqSearch d)

/-- TRACK_PIN (R350, R351): a further pin of a signal replaces the mask of the one it has; while AUTO is 0 a path no longer in it
is released (R327). -/
def trackPin (d : Desc) (m : Mach) : Mach :=
  m.desc 0x0403 d (fun d m =>
    let sig := Descs.fld d 16 1
    let svid := Descs.fld d 17 1
    let mask := Descs.fld d 18 1
    match firstOf [(!signalOk sig svid || mask > 63, stRANGE), (!m.takes .gnss, stNOT_ENABLED),
        (!(m.r GNSS_SIG_EN_EN).testBit sig, 0x10), (m.gnss.pins.length ≥ 64, 0x11)] with
    | some st => m.complete d st
    | none =>
      let l := m.gnss.pins.filter (fun p => !(p.sig == sig && p.svid == svid)) ++ [⟨sig, svid, mask⟩]
      let m := { m with gnss := { m.gnss with pins := l } }
      (m.when (!m.b GNSS_CTRL_AUTO) Mach.autoOff).complete d stOK (le 1 l.length))

def execTrackPin (d : Desc) (s : State) : Res := s.on (trackPin d)

/-- TRACK_UNPIN (R350): the channels return to the rules of R327, which while AUTO is 0 release them. -/
def trackUnpin (d : Desc) (m : Mach) : Mach :=
  m.desc 0x0404 d (fun d m =>
    let sig := Descs.fld d 16 1
    let svid := Descs.fld d 17 1
    match firstOf [(!signalOk sig svid, stRANGE), (!m.takes .gnss, stNOT_ENABLED),
        (!(m.r GNSS_SIG_EN_EN).testBit sig, 0x10)] with
    | some st => m.complete d st
    | none =>
      let l := m.gnss.pins.filter (fun p => !(p.sig == sig && p.svid == svid))
      let m := { m with gnss := { m.gnss with pins := l } }
      (m.when (!m.b GNSS_CTRL_AUTO) Mach.autoOff).complete d stOK (le 1 l.length))

def execTrackUnpin (d : Desc) (s : State) : Res := s.on (trackUnpin d)

/-! ### Navigation records (R337 to R339, R348) -/

/-- TYPE of a record (R338). -/
def navType (sig : Nat) (d2 : Bool) : Nat :=
  if sig == 6 then (if d2 then 6 else 5) else ([1, 2, 2, 3, 4, 3, 5, 9, 10, 7, 7, 1, 2, 2, 8] : List Nat).getD sig 0

/-- NBITS of each TYPE; of a B-CNAV part the bits decoded (R337). -/
def navNbits (typ own : Nat) : Nat := (([300, 300, 228, 238, 300, 300, 85, 250] : List Nat)[typ - 1]?).getD (min own 320)

/-- The parity bits D25 to D30 of an LNAV word: the source bits each is made of (PRESUMED, log entry 64). -/
def lnavTaps : List (Bool × List Nat) :=
  [(false, [1, 2, 3, 5, 6, 10, 11, 12, 13, 14, 17, 18, 20, 23]), (true, [2, 3, 4, 6, 7, 11, 12, 13, 14, 15, 18, 19, 21, 24]),
   (false, [1, 3, 4, 5, 7, 8, 12, 13, 14, 15, 16, 19, 20, 22]), (true, [2, 4, 5, 6, 8, 9, 13, 14, 15, 16, 17, 20, 21, 23]),
   (true, [1, 3, 5, 6, 7, 9, 10, 14, 15, 16, 17, 18, 21, 22, 24]), (false, [3, 5, 6, 8, 9, 10, 11, 13, 15, 19, 22, 23, 24])]

/-- Word `w` of a subframe with its polarity resolved passes the 6-bit parity; before the first word D29* and D30* are 0. -/
def lnavWordOk (b : BitVec 320) (w : Nat) : Bool :=
  let star := fun (k : Nat) => w != 0 && b.getMsbD (30 * w + k - 31)
  let src := fun (k : Nat) => b.getMsbD (30 * w + k - 1)
  (List.range 6).all (fun i => match lnavTaps[i]? with
    | some (s30, l) => b.getMsbD (30 * w + 24 + i) == xorAll (star (if s30 then 30 else 29) :: l.map src)
    | none => false)

/-- A BCH(15,11) code word divides by its generator X^4 + X + 1 (PRESUMED, log entry 64). -/
def bchOk (l : List Bool) : Bool :=
  l.foldl (fun r b => let r := 2 * r + b2n b; if r.testBit 4 then r ^^^ 0x13 else r) 0 == 0

/-- Word `w` of a BeiDou subframe: the code word that ends its first word, two interleaved ones in every other (PRESUMED). -/
def bdsWordOk (b : BitVec 320) (w : Nat) : Bool :=
  let l := fun (first step : Nat) => (List.range 15).map (fun k => b.getMsbD (30 * w + first + step * k))
  if w == 0 then bchOk (l 15 1) else bchOk (l 0 2) && bchOk (l 1 2)

/-- The positions C1 to C7 of a GLONASS string's Hamming check cover, beside their own check bit (PRESUMED). -/
def gloCovers (c n : Nat) : Bool :=
  let any := fun (l : List (Nat × Nat)) => l.any (fun e => decide (e.1 ≤ n ∧ n ≤ e.2))
  match c with
  | 1 => ([9, 10, 12, 13, 15, 17, 19, 20, 22, 24, 26, 28, 30, 32, 34, 35, 37, 39, 41, 43, 45, 47, 49, 51, 53, 55, 57, 59, 61, 63,
      65, 66, 68, 70, 72, 74, 76, 78, 80, 82, 84] : List Nat).contains n
  | 2 => ([9, 11, 12, 14, 15, 18, 19, 21, 22, 25, 26, 29, 30, 33, 34, 36, 37, 40, 41, 44, 45, 48, 49, 52, 53, 56, 57, 60, 61, 64,
      65, 67, 68, 71, 72, 75, 76, 79, 80, 83, 84] : List Nat).contains n
  | 3 => any [(10, 12), (16, 19), (23, 26), (31, 34), (38, 41), (46, 49), (54, 57), (62, 65), (69, 72), (77, 80), (85, 85)]
  | 4 => any [(13, 19), (27, 34), (42, 49), (58, 65), (73, 80)]
  | 5 => any [(20, 34), (50, 65), (81, 85)]
  | 6 => any [(35, 65)]
  | _ => any [(66, 85)]

/-- A GLONASS string passes the Hamming check: every C and the sum over all bits are 0. Bit 85 comes first. -/
def gloOk (b : BitVec 320) : Bool :=
  let bit := fun (n : Nat) => b.getMsbD (85 - n)
  let at_ := fun (p : Nat → Bool) => xorAll (((List.range 86).filter p).map bit)
  (List.range 7).all (fun k => !at_ (fun n => n == k + 1 || gloCovers (k + 1) n)) && !at_ (fun n => decide (1 ≤ n))

/-- The leading bits of a unit. -/
def navLead (b : BitVec 320) (n : Nat) : List Bool := (List.range n).map (fun k => b.getMsbD k)

/-- The checks of a unit by TYPE, one of each word or of the unit (R337). Of an I/NAV page the last 8 bits lie outside the CRC
(PRESUMED). -/
def navChecks (typ : Nat) (b : BitVec 320) (ldpc : Bool) : List Bool :=
  match typ with
  | 1 => (List.range 10).map (lnavWordOk b)
  | 2 => [crc24q (navLead b 300) == 0]
  | 3 => [crc24q (navLead b 220) == 0]
  | 4 => [crc24q (navLead b 238) == 0]
  | 5 | 6 => (List.range 10).map (bdsWordOk b)
  | 7 => [gloOk b]
  | 8 => [crc24q (navLead b 250) == 0]
  | _ => [ldpc]

/-- CHECK_MASK of some checks: a bit for each, and bit 31 where all passed. -/
def checkMask (l : List Bool) : Nat :=
  ((List.range l.length).map (fun k => 2 ^ k * b2n (l.getD k false))).sum + 2 ^ 31 * b2n (l.all (fun c => c))

/-- A unit decoded: its bits with their checks. DEDUCED: where a convolutional code leaves the polarity open, inverted bits whose
check passes are the ones sent (R338: polarity resolved; log entry 64). -/
def navResolve (typ : Nat) (r : NavRaw) : BitVec 320 × Nat :=
  let l := navDecode typ r.syms
  let own := checkMask (navChecks typ (navWord l) r.ldpc)
  let inv := navWord (l.map (!·))
  let alt := checkMask (navChecks typ inv r.ldpc)
  if !own.testBit 31 && alt.testBit 31 && ([2, 3, 4, 8] : List Nat).contains typ then (inv, alt) else (navWord l, own)

/-- The 64 bytes of a record; BITS come first bit first, in bit 7 of byte 24, which is the top of `bts`. -/
def Mach.navRecord (m : Mach) (u : NavUnit) (c mask : Nat) (bts : BitVec 320) : List Byte :=
  let typ := navType (m.chSig c) u.d2
  let n := navNbits typ u.raw.syms.length
  le 1 1 ++ le 1 (m.chSig c) ++ le 1 (m.chSvid c) ++ le 1 (m.chPath c) ++ le 1 typ ++ le 1 (if typ < 9 then 0x10 else u.part.toNat) ++ le 2 n ++ le 4 mask ++
    le 4 (unsgn 32 ((m.pt : Int) - u.age)) ++ le 2 c ++ le 1 (unsgn 8 (m.gchan c).gloK) ++ le 5 0 ++
    (le 40 ((bts.toNat >>> (320 - n)) <<< (320 - n))).reverse

/-- A NAV_READ takes records and completes. -/
def Mach.navServe (m : Mach) (d : Desc) : Mach :=
  let q := m.gnss.navQ
  let n := min q.length (Descs.len d / 64)
  let dropped := m.gnss.navDropped
  let m := { m with gnss := { m.gnss with navQ := q.drop n, navDropped := 0 } }
  (m.bufWr d 0 (q.take n).flatten).complete d stOK (le 2 n ++ le 2 (q.length - n) ++ le 4 dropped)

/-- A record joins the queue, or is dropped and counted; a NAV_READ that waits takes it (R339, R348). -/
def Mach.navPut (m : Mach) (r : List Byte) : Mach :=
  if m.gnss.navQ.length ≥ 1024 then
    ({ m with gnss := { m.gnss with navDropped := m.gnss.navDropped + 1 } }).inc GNSS_NAV_DROPPED_ALL
  else
    let m := { m with gnss := { m.gnss with navQ := m.gnss.navQ ++ [r] } }
    match m.gnss.navReads with
    | [] => m
    | d :: rest => ({ m with gnss := { m.gnss with navReads := rest } }).navServe d

/-- A channel tracks the signal of another one on the other antenna. -/
def Mach.partner (m : Mach) (c k : Nat) : Bool :=
  k != c && m.chState k == 2 && m.chSig k == m.chSig c && m.chSvid k == m.chSvid c && m.chPath k / 3 != m.chPath c / 3

/-- NAV_UNIT_DECODED (R337, R339): of the two antennas' units the lower PATH's, unless only the other passed. A unit alone is
delivered unless a lower PATH tracks its signal. -/
def navUnitDecoded (u : NavUnit) (m : Mach) : Mach :=
  let c := u.chan.val
  let typ := navType (m.chSig c) u.d2
  if !m.takes .gnss || m.chState c != 2 || navNbits typ u.raw.syms.length == 0 then m
  else
    let own := (c, navResolve typ u.raw)
    let other := (u.other.filter (fun o => m.partner c o.1)).map (fun o => (o.1.val, navResolve typ o.2))
    let m := m.each (own :: other.toList) (fun m e => m.when (!e.2.2.testBit 31) (fun m => m.inc GNSS_NAV_FAILED_ALL))
    let pick := match other with
      | none => if (List.range 456).any (fun k => m.partner c k && decide (m.chPath k < m.chPath c)) then none else some own
      | some oth =>
        let (low, high) := if m.chPath c ≤ m.chPath oth.1 then (own, oth) else (oth, own)
        if !low.2.2.testBit 31 && high.2.2.testBit 31 then some high else some low
    match pick with
    | none => m
    | some p => m.navPut (m.navRecord u p.1 p.2.2 p.2.1)

def execNavUnitDecoded (u : NavUnit) (s : State) : Res := s.on (navUnitDecoded u)

/-- NAV_READ (R348). -/
def navRead (d : Desc) (m : Mach) : Mach :=
  m.desc 0x0401 d (fun d m =>
    match firstOf [(!Descs.buf d || Descs.len d < 64, stRANGE), (!m.takes .gnss, stNOT_ENABLED)] with
    | some st => m.complete d st
    | none =>
      if m.gnss.navQ.isEmpty then { m with gnss := { m.gnss with navReads := m.gnss.navReads ++ [d] } }
      else m.navServe d)

def execNavRead (d : Desc) (s : State) : Res := s.on (navRead d)

/-! ### Measurement epochs (R340 to R346) -/

/-- MEAS_READ (R344, R348): waits for the next epoch. -/
def measRead (d : Desc) (m : Mach) : Mach :=
  m.desc 0x0400 d (fun d m =>
    match firstOf [(!Descs.buf d || Descs.len d < 32, stRANGE), (!m.takes .gnss, stNOT_ENABLED)] with
    | some st => m.complete d st
    | none => { m with gnss := { m.gnss with measReads := m.gnss.measReads ++ [d] } })

def execMeasRead (d : Desc) (s : State) : Res := s.on (measRead d)

/-- The baseline measures between 1 m and 100 m (R345). -/
def Mach.baselineOk (m : Mach) : Bool :=
  let e := m.ri GNSS_BASELINE_E_ALL
  let n := m.ri GNSS_BASELINE_N_ALL
  let u := m.ri GNSS_BASELINE_U_ALL
  let q := e * e + n * n + u * u
  1000000 ≤ q && q ≤ 10000000000

/-- GNSS_DA_STATUS.BASELINE_OK follows the baseline. -/
def Mach.showBaseline (m : Mach) : Mach := m.wb GNSS_DA_STATUS_BASELINE_OK m.baselineOk

/-- The median of a list; of an even number the mean of the middle two, rounded down (PRESUMED). -/
def median (l : List Int) : Int :=
  let s := sortBy (fun a b => decide (a < b)) l
  let n := s.length
  if n % 2 = 1 then s.getD (n / 2) 0 else (s.getD (n / 2 - 1) 0 + s.getD (n / 2) 0) / 2

/-- A signal under check: SIG, SVID, measured minus predicted single difference in 2^-16 m. -/
structure DaCheck where
  sig : Nat
  svid : Nat
  dev : Int
deriving DecidableEq, Repr

/-- The pseudorange of a transmit time at the present epoch, in 2^-16 m: c times the time between them, rounded down (R341). -/
def Mach.prOf (m : Mach) (t : Int) : Int :=
  let epoch : Int := ((m.time.sec * 1000000000 + m.time.ns / 1000000 * 1000000) * 2 ^ 32 : Nat)
  (epoch - t) * (299792458 * 65536) / (1000000000 * 2 ^ 32)

/-- The predicted single difference S = u · b of a satellite's direction and the baseline, in 2^-16 m (R345). -/
def Mach.predDiff (m : Mach) (u : Int × Int × Int) : Int :=
  (u.1 * m.ri GNSS_BASELINE_E_ALL + u.2.1 * m.ri GNSS_BASELINE_N_ALL + u.2.2 * m.ri GNSS_BASELINE_U_ALL) * 65536 /
    (1000 * 2 ^ 30)

/-- The signals that can be checked at an epoch (R345). -/
def Mach.daChecks (m : Mach) (l : List EpochIn) : List DaCheck :=
  l.filterMap (fun a =>
    if 3 ≤ m.chPath a.chan || !a.prValid then none
    else match a.dir, l.find? (fun b => 3 ≤ m.chPath b.chan && b.prValid && m.chSig b.chan == m.chSig a.chan &&
        m.chSvid b.chan == m.chSvid a.chan) with
      | some u, some b => some ⟨m.chSig a.chan, m.chSvid a.chan, m.prOf a.txTime - m.prOf b.txTime - m.predDiff u⟩
      | _, _ => none)

/-- Residuals of the checked signals (R345). -/
def residuals (l : List DaCheck) : List (DaCheck × Int) :=
  l.map (fun k => (k, k.dev - median ((l.filter (fun j => j.sig == k.sig)).map (fun j => j.dev))))

/-- |r| beyond CODE_THR, and beyond half of it; CODE_THR counts 0.1 m. -/
def overThr (r : Int) (thr : Nat) : Bool := thr * 65536 < 10 * r.natAbs
def overHalf (r : Int) (thr : Nat) : Bool := thr * 65536 < 20 * r.natAbs
def underHalf (r : Int) (thr : Nat) : Bool := 20 * r.natAbs < thr * 65536

/-- The key of a signal in the consistency check's table. -/
def daKey (sig svid : Nat) : Nat := 256 * sig + svid

/-- A checked signal is flagged or cleared (R345). -/
def Mach.daSignal (m : Mach) (k : DaCheck × Int) : Mach :=
  let thr := m.r GNSS_DA_CFG_CODE_THR
  let key := daKey k.1.sig k.1.svid
  let x := Tabs.val m.gnss.da {} key
  let x := { x with above := if overThr k.2 thr then x.above + 1 else 0,
                    below := if underHalf k.2 thr then x.below + 1 else 0 }
  let rise := !x.flagged && m.r GNSS_DA_CFG_EPOCHS ≤ x.above
  let fall := x.flagged && 10 ≤ x.below
  let x := { x with flagged := (x.flagged || rise) && !fall }
  let m := { m with gnss := { m.gnss with da := Tabs.put m.gnss.da key x } }
  let m := m.when rise (fun m => m.inc GNSS_DA_FLAGS_ALL)
  m.when (rise || fall) (fun m => m.event 0x0402 2 2
    (le 1 k.1.sig ++ le 1 k.1.svid ++ le 1 (b2n rise) ++ le 4 (unsgn 32 (k.2 * 1000 / 65536))))

/-- SPOOF_SUSPECT begins or ends (R346). -/
def Mach.spoofCheck (m : Mach) (l : List (DaCheck × Int)) : Mach :=
  let thr := m.r GNSS_DA_CFG_CODE_THR
  let n := l.length
  let big := (l.filter (fun k => overThr k.2 thr)).length
  let half := (l.filter (fun k => overHalf k.2 thr)).length
  if !m.b GNSS_DA_STATUS_SPOOF then
    if 4 ≤ n && n ≤ 2 * big then
      (({ m with gnss := { m.gnss with calm := 0 } }).w GNSS_DA_STATUS_SPOOF 1).event 0x0403 4 2 (le 1 1 ++ le 2 n)
    else m
  else
    let calm := if 4 * half < n then m.gnss.calm + 1 else 0
    let m := { m with gnss := { m.gnss with calm := calm } }
    if 10 ≤ calm then (m.w GNSS_DA_STATUS_SPOOF 0).event 0x0403 4 2 (le 1 0 ++ le 2 n) else m

/-- The consistency check of an epoch (R345, R346); a signal not checked in it starts its counts again. -/
def Mach.daEpoch (m : Mach) (l : List EpochIn) : Mach × List (DaCheck × Int) :=
  let rs := if m.b GNSS_DA_CFG_EN && m.baselineOk then residuals (m.daChecks l) else []
  let keys := rs.map (fun k => daKey k.1.sig k.1.svid)
  let da := m.gnss.da.map (fun e => if keys.contains e.1 then e else (e.1, { e.2 with above := 0, below := 0 }))
  let m := { m with gnss := { m.gnss with da := da } }
  let m := (m.each rs Mach.daSignal).spoofCheck rs
  let m := m.w GNSS_DA_STATUS_CHECKED rs.length
  (m.w GNSS_DA_STATUS_FLAGGED (m.gnss.da.filter (fun e => e.2.flagged)).length, rs)

/-- A satellite with a flagged signal (R345). -/
def Mach.satFlagged (m : Mach) (sig svid : Nat) : Bool :=
  m.gnss.da.any (fun e => e.2.flagged && sigSystem (e.1 / 256) == sigSystem sig && e.1 % 256 == svid)

/-- MP_INDEX from the sums over the dumps of the epoch interval (R331): the quotient of two means over the same dumps is that
of the sums. Without a prompt magnitude the spec states none: a free value. -/
def Mach.mpIndex (m : Mach) (x : GChan) : Nat × Mach :=
  if x.sumP == 0 then let (v, m) := m.draw; (v % 256, m) else (min 255 (256 * x.sumD / x.sumP), m)

/-- One entry of the record (R342, R343), with the registers of its channel. -/
def Mach.epochEntry (m : Mach) (rs : List (DaCheck × Int)) (i : EpochIn) : Mach × EpochEnt :=
  let c := i.chan.val
  let x := m.gchan c
  let sig := m.chSig c
  let svid := m.chSvid c
  let slip := x.slip || i.jump || !x.entry
  let lock := if slip then 0 else min (m.now - x.lockAt.getD m.now) 0xFFFFFFFF
  let integ := m.b GNSS_DA_STATUS_SPOOF || m.satFlagged sig svid
  let checked := rs.any (fun k => k.1.sig == sig && k.1.svid == svid)
  let flags := b2n slip + 2 * b2n i.prValid + 4 * b2n i.cpValid + 8 * b2n i.half + 16 * b2n integ +
    32 * b2n (!checked) + 64 * b2n x.took
  let since := if slip && x.lockAt.isSome then some m.now else x.lockAt
  let (mp, m) := m.mpIndex x
  let m := m.setGchan c { x with slip := false, entry := true, lockAt := since, sumP := 0, sumD := 0, code := i.code,
                                 dopp := i.dop.toInt, txAt := if i.prValid then some (i.txTime, m.now) else none }
  let m := m.w GNSS_CH_INFO_MP_INDEX mp c
  let m := m.w GNSS_CH_INFO_LOCK_S (min (lock / 1000) 65535) c
  let m := m.when slip (fun m => (m.inc GNSS_SLIPS_ALL).inc GNSS_CH_INFO_SLIPS c)
  (m, ⟨sig, svid, m.chPath c, flags, c, m.r GNSS_CH_STATUS_CN0 c, mp, unsgn 48 (m.prOf i.txTime), x.gloK, i.cp.toInt,
    i.dop.toInt, lock⟩)

/-- Entries in ascending channel number. -/
def Mach.epochEntries (m : Mach) (rs : List (DaCheck × Int)) : List EpochIn → Mach × List EpochEnt
  | [] => (m, [])
  | i :: l =>
    let (m, e) := m.epochEntry rs i
    let (m, es) := m.epochEntries rs l
    (m, e :: es)

/-- An entry's 32 bytes and the header's (R342). -/
def EpochEnt.bytes (e : EpochEnt) : List Byte :=
  le 1 e.sig ++ le 1 e.svid ++ le 1 e.path ++ le 1 e.flags ++ le 2 e.chan ++ le 1 e.cn0 ++ le 1 e.mp ++ le 6 e.pr ++
    le 1 (unsgn 8 e.gloK) ++ le 1 0 ++ le 8 (unsgn 64 e.cp) ++ le 4 (unsgn 32 e.dop) ++ le 4 e.lock
def EpochRec.header (r : EpochRec) (truncated : Bool) : List Byte :=
  le 1 1 ++ le 1 r.rate ++ le 2 r.ents.length ++ le 6 r.sec ++ le 4 r.ns ++ le 1 r.status ++
    le 1 (r.hflags + 2 * b2n truncated) ++ le 4 r.pt ++ le 12 0

/-- The oldest MEAS_READ gets the record, or it is counted as missed (R344, R348). -/
def Mach.giveRecord (m : Mach) (r : EpochRec) : Mach :=
  match m.gnss.measReads with
  | [] => m.inc GNSS_MEAS_MISSED_ALL
  | d :: rest =>
    let n := min r.ents.length ((Descs.len d - 32) / 32)
    let m := { m with gnss := { m.gnss with measReads := rest } }
    (m.bufWr d 0 (r.header (n < r.ents.length) ++ (r.ents.take n).flatMap EpochEnt.bytes)).complete d stOK
      (le 2 n ++ le 2 r.ents.length ++ le 4 r.pt)

/-- The present tick began with an epoch (R340); the instant of the step in a tick is none. -/
def Mach.epochNow (m : Mach) : Bool :=
  m.time.stepTick != some m.now &&
    m.msInt % (if m.stepped then 1000 / max 1 (m.r GNSS_EPOCH_CFG_RATE_HZ) else 50 : Nat) == 0

/-- A cell whose signal has slipped, or is no longer tracked, in a later record (R368). -/
def MsmCell.after (k : MsmCell) (ant : Nat) (r : EpochRec) : MsmCell :=
  match r.ents.find? (fun e => e.sig == k.sig && e.svid == k.svid && e.path / 3 == ant) with
  | some e => { k with bad := k.bad || e.flags.testBit 0 }
  | none => { k with bad := true }
def MsmEpoch.after (x : MsmEpoch) (r : EpochRec) : MsmEpoch :=
  { x with cells := x.cells.map (fun k => k.after x.ant r) }

/-- Every record goes to the correction encoder (R344), which marks the cells of its MSM epochs; an epoch before it for which
no compact IE was built gave none (R359). -/
def Mach.corrRecord (m : Mach) (r : EpochRec) : Mach :=
  let c := m.corr
  let cand := c.cand.map (fun e => (e.1.after r, e.2))
  let ref := c.ref.map (fun e => (e.1.after r, e.2))
  let built := m.gnss.last.any (fun e => c.ieAt == some (e.2 + 1))
  { m with corr := { c with cand := cand, ref := ref, lastIe := c.lastIe && built } }

/-- MEASUREMENT_EPOCH (R340 to R346). -/
def measurementEpoch (l : List EpochIn) (m : Mach) : Mach :=
  if m.takes .gnss && m.epochNow && m.r INTC_BLK_FAULT_STATE 2 != 3 && !m.gnss.last.any (fun e => e.2 == m.now) then
    let l := sortBy (fun a b => decide (a.chan.val < b.chan.val)) (l.filter (fun i => m.chActive i.chan))
    let l := l.filter (fun i => (l.find? (fun j => j.chan == i.chan)) == some i)
    let chans := l.map (fun i => i.chan.val)
    let (m, rs) := m.daEpoch l
    let (m, es) := m.epochEntries rs l
    let all := m.gnss.chans.map (fun e => if chans.contains e.1 then e else (e.1, { e.2 with entry := false, sumP := 0, sumD := 0 }))
    let r : EpochRec := {
      rate := m.r GNSS_EPOCH_CFG_RATE_HZ, sec := m.time.sec, ns := m.time.ns / 1000000 * 1000000,
      status := m.timeStatus, hflags := b2n (!m.stepped) + 4 * b2n (m.b GNSS_DA_STATUS_SPOOF), pt := m.pt, ents := es }
    let m := m.corrRecord r
    ({ m with gnss := { m.gnss with chans := all, last := some (r, m.now) } }).giveRecord r
  else m

def execMeasurementEpoch (l : List EpochIn) (s : State) : Res := s.on (measurementEpoch l)

/-! ### Failures, ticks, drains -/

/-- A channel's cell fails (R16, R325, R326): FAILED; its signal moves at the next tick boundary, a test of it is over. -/
def Mach.chFail (m : Mach) (c : Nat) : Mach :=
  let st := m.chState c
  if st == 5 then m
  else
    let test := m.gnss.test.filter (fun t => t.1 != c)
    ({ m with gnss := { m.gnss with failing := m.gnss.failing ++ [(c, st)], test := test } }).setChState c 5

/-- The spare that takes over: the lowest SPARE, else the one under test. -/
def Mach.chSpare (m : Mach) : Option Nat :=
  match (List.range 456).find? (fun c => m.chState c == 3) with
  | some c => some c
  | none => (List.range 456).find? (fun c => m.chState c == 4)

/-- A failed channel's signal moves to a spare, with its code and carrier state and tap settings, or is released (R326). -/
def Mach.takeOver (m : Mach) (e : Nat × Nat) : Mach :=
  let c := e.1
  if !stActive e.2 then m
  else match m.chSpare with
    | none => { m with gnss := { m.gnss with lost := m.gnss.lost + 1 } }
    | some k =>
      let test := if m.chState k == 4 then none else m.gnss.test
      let m := { m with gnss := { m.gnss with test := test } }
      let m := (m.wWord GNSS_CH_CFG_SPACING (m.word GNSS_CH_CFG_SPACING c) k).wWord GNSS_CH_MP_M0 (m.word GNSS_CH_MP_M0 c) k
      let taps := match Tabs.look m.gnss.taps c with
        | some t => Tabs.put m.gnss.taps k t
        | none => Tabs.del m.gnss.taps k
      let m := { m with gnss := { m.gnss with taps := taps } }
      let m := m.chTake k (m.chSig c) (m.chSvid c) (m.chPath c) e.2 { m.gchan c with took := true, slip := true }
      m.event 0x0404 2 0 (le 2 c ++ le 2 k)

/-- A dump that completed in the tick before: one per code period of a running channel (R324, R328). It is the channel's dump
boundary. DEDUCED: Doppler up to 20 kHz (R349) shortens a period by less than 20 ppm, so that the next dump cannot end before
0.99998 of it has passed (log entry 51). -/
def Mach.dumpDone (m : Mach) (d : DumpIn) : Mach :=
  let x := m.gchan d.chan
  if (m.chActive d.chan || m.chState d.chan == 4) && x.dumpAt < 1000000 * m.now then
    let next := max x.dumpAt (1000000 * (m.now - 1)) + 999980 * sigPeriod (m.chSig d.chan)
    let m := (m.setGchan d.chan { x with dumpAt := next }).tapsTake d.chan
    { m with gnss := { m.gnss with backlog := m.gnss.backlog ++ [d] } }
  else m

/-- A dump is processed: C/N0, and what the multipath index is made of (R329, R331). -/
def Mach.dumpProcess (m : Mach) (d : DumpIn) : Mach :=
  if m.chActive d.chan then
    let x := m.gchan d.chan
    let low := if d.cn0.toNat < m.r GNSS_TRK_CFG_DROP_CN0 then some (x.lowAt.getD m.now) else none
    (m.setGchan d.chan { x with lowAt := low, sumP := x.sumP + d.p, sumD := x.sumD + (max d.m0 d.m1 - min d.m0 d.m1) }).w
      GNSS_CH_STATUS_CN0 d.cn0.toNat d.chan
  else m

/-- LOCK_S of the channels in use whose lock time passes a whole second. -/
def Mach.lockShow (m : Mach) : Mach :=
  m.each (m.gnss.chans.filter (fun e => m.chActive e.1)) (fun m e => match e.2.lockAt with
    | some t => if (m.now - t) % 1000 == 0 then m.w GNSS_CH_INFO_LOCK_S (min ((m.now - t) / 1000) 65535) e.1 else m
    | none => m)

/-- Failed channels' signals move at the tick boundary; the dumps of the last tick are processed, oldest first, up to 456 of
them (R326, R328); free channels go to the candidates that wait (R327). -/
def Mach.gnssTick (m : Mach) (dumps : List DumpIn) : Mach :=
  let l := m.gnss.failing
  let m := ({ m with gnss := { m.gnss with failing := [] } }).each l Mach.takeOver
  let m := m.each dumps Mach.dumpDone
  let q := m.gnss.backlog
  let m := ({ m with gnss := { m.gnss with backlog := q.drop 456 } }).each (q.take 456) Mach.dumpProcess
  ((m.maxTo GNSS_DUMP_MAX_ALL (min q.length 456)).lockShow).giveAll

/-- GNSS_CTRL.ENABLE written 0 (R352). -/
def Mach.gnssDrain (m : Mach) : Mach :=
  let g := m.gnss
  let m := { m with gnss := { g with hostQ := [], fwQ := [], fwLate := [], waiting := [], measReads := [], navReads := [], navQ := [] } }
  let m := m.each (g.hostQ.filterMap (fun q => q.d) ++ g.measReads ++ g.navReads) (fun m d => m.complete d stFLUSHED)
  let m := m.flushDelivered (fun d => ([0x0400, 0x0401, 0x0402, 0x0403, 0x0404] : List Nat).contains d.op &&
    !g.engines.any (fun e => e.2.req.d == some d)) stFLUSHED
  m.each ((List.range 456).filter m.chActive) (fun m c => m.chFree c 0)

/-- No search is under way. -/
def Mach.gnssIdle (m : Mach) : Bool := m.gnss.engines.isEmpty

end Sys2Proof.Machine
end

