-- ==== Sys2Proof/Machine/Corrections.lean ====
section
/-! DEFINITION. Corrections (11): base position, survey, RTCM stream, compact IE. The bytes of an RTCM message and the
arithmetic of phases in mm are opaque (log entry 52). -/

namespace Sys2Proof.Machine

open Sys2Proof

/-! ### The base position (R355 to R358) -/

/-- The position registers follow the settings. -/
def Mach.posShow (m : Mach) : Mach :=
  let b := m.nv.set.base
  let m := (m.w CORR_POS_X_LO_ALL (unsgn 64 b.x)).w CORR_POS_X_HI_ALL (unsgn 64 b.x / 2 ^ 32)
  let m := (m.w CORR_POS_Y_LO_ALL (unsgn 64 b.y)).w CORR_POS_Y_HI_ALL (unsgn 64 b.y / 2 ^ 32)
  let m := (m.w CORR_POS_Z_LO_ALL (unsgn 64 b.z)).w CORR_POS_Z_HI_ALL (unsgn 64 b.z / 2 ^ 32)
  (m.w CORR_ANT_HEIGHT_HEIGHT b.height).w CORR_STATUS_POS_STATE b.state

/-- The position set, in MRAM. -/
def Mach.setBase (m : Mach) (b : BasePos) : Mach :=
  ({ m with nv := { m.nv with set := { m.nv.set with base := b } } }).posShow

/-- A position is there: SET or SURVEYED. -/
def Mach.posOk (m : Mach) : Bool := m.nv.set.base.state == 1 || m.nv.set.base.state == 3

/-- CORR_VALID and SPOOF_HOLD (R23, R359). -/
def Mach.corrRefresh (m : Mach) : Mach :=
  let spoof := m.b GNSS_DA_STATUS_SPOOF
  let up := m.r INTC_BLK_FAULT_STATE 2 != 3 && m.r INTC_BLK_FAULT_STATE 3 != 3 && !(m.r INTC_STATUS_FENCED).testBit 0
  let ok := m.b CORR_CTRL_ENABLE && m.b GNSS_CTRL_ENABLE && m.posOk && m.stepped && !spoof && m.corr.lastIe && up
  (m.wb CORR_STATUS_VALID ok).wb CORR_STATUS_SPOOF_HOLD (m.b CORR_CTRL_ENABLE && spoof)

/-- BASE_POSITION (R356, R357). -/
def Mach.posEvent (m : Mach) (b : BasePos) : Mach :=
  m.event 0x0411 1 3 (le 8 (unsgn 64 b.x) ++ le 8 (unsgn 64 b.y) ++ le 8 (unsgn 64 b.z))

/-- The period of MSM epochs in ms (R362). -/
def Mach.msmPeriod (m : Mach) : Nat := 1000 / max 1 (m.r CORR_RTCM_CFG_MSM_HZ)

/-- The position of a SET_BASE_POS lies outside 6,300 km to 6,400 km from the Earth's centre (R356). -/
def posBad (b : BasePos) : Bool :=
  let q := b.x * b.x + b.y * b.y + b.z * b.z
  q < 6300000000 * 6300000000 || 6400000000 * 6400000000 < q

/-- The survey ends with a status (R356, R357): its position state, completion and event. The standard deviations are a
function of the usable fixes, which the spec does not write out (R371, log entry 52). -/
def Mach.surveyDone (m : Mach) (s : SurveyRun) (st : Nat) (b : BasePos) : Mach :=
  let m := ({ m with corr := { m.corr with survey := none } }).setBase b
  let m := m.event 0x0410 1 3 (le 1 st ++ le 4 s.used)
  let dev := Config.surveyDev s.fixes
  (m.complete s.d st (if st == stOK then le 4 s.used ++ le 4 dev.1 ++ le 4 dev.2 else [])).corrRefresh

/-- A running survey is cancelled. -/
def Mach.surveyCancel (m : Mach) : Mach :=
  match m.corr.survey with
  | some s => m.surveyDone s 0x16 { m.nv.set.base with state := 0 }
  | none => m

/-- The checks every correction descriptor shares (R43, R371). -/
def Mach.corrShared (m : Mach) (bad both : Bool) : List (Bool × Nat) :=
  [(bad, stRANGE), (!m.takes .corr, stNOT_ENABLED), (!both && !m.isActive, stNOT_ACTIVE_ROLE)]

/-- SET_BASE_POS (R356, R371): at once where there is no position, else at the next MSM epoch. -/
def setBasePos (d : Desc) (m : Mach) : Mach :=
  m.desc 0x0410 d (fun d m =>
    let b : BasePos := ⟨sgn 64 (Descs.fld d 16 8), sgn 64 (Descs.fld d 24 8), sgn 64 (Descs.fld d 32 8), Descs.fld d 40 2, 1⟩
    match firstOf (m.corrShared (posBad b) false) with
    | some st => m.complete d st
    | none =>
      let m := m.surveyCancel
      if m.posOk then
        let p := m.msmPeriod
        ({ m with corr := { m.corr with newPos := some b } }).complete d stOK
          (le 4 ((m.msInt / p + 1) * p % (2 ^ 32 : Nat)).toNat)
      else (((m.setBase b).posEvent b).corrRefresh).complete d stOK (le 4 0))

def execSetBasePos (d : Desc) (s : State) : Res := s.on (setBasePos d)

/-- SURVEY (R357, R373). -/
def survey (d : Desc) (m : Mach) : Mach :=
  m.desc 0x0411 d (fun d m =>
    let dur := Descs.fld d 16 4
    match firstOf (m.corrShared (dur < 600 || 86400 < dur) false ++ [(m.corr.survey.isSome, 0x14)]) with
    | some st => m.complete d st
    | none =>
      let m := { m with corr := { m.corr with survey := some { d := d, start := m.now, dur := dur }, newPos := none } }
      ((m.wWord CORR_SURVEY_ELAPSED_S 0).setBase { m.nv.set.base with state := 2 }).corrRefresh)

def execSurvey (d : Desc) (s : State) : Res := s.on (survey d)

/-- SURVEY_FIX (R357): once each second; usable with at least 6 satellites without INTEG and no SPOOF_SUSPECT. The fix is in
µm. -/
def surveyFix (fix : Option (Int × Int × Int)) (sats : Nat) (m : Mach) : Mach :=
  match m.corr.survey with
  | none => m
  | some s =>
    if s.lastAt.any (fun t => m.now < t + 1000) then m
    else
      let s := { s with seen := s.seen + 1, lastAt := some m.now }
      let s := match fix with
        | some (x, y, z) => if 6 ≤ sats && !m.b GNSS_DA_STATUS_SPOOF then
            { s with used := s.used + 1, fixes := (x, y, z) :: s.fixes, sx := s.sx + x, sy := s.sy + y, sz := s.sz + z } else s
        | none => s
      let m := { m with corr := { m.corr with survey := some s } }
      (m.w CORR_SURVEY_ELAPSED_S ((m.now - s.start) / 1000)).w CORR_SURVEY_USED_PCT (100 * s.used / s.seen)

def execSurveyFix (fix : Option (Int × Int × Int)) (sats : Nat) (s : State) : Res := s.on (surveyFix fix sats)

/-- A sum of `n` values in µm as their mean in mm, to the nearest, a half upwards. -/
def meanMm (sum : Int) (n : Nat) : Int := (2 * sum + 1000 * n) / (2000 * n)

/-- SURVEY_END (R357). -/
def surveyEnd (m : Mach) : Mach :=
  match m.corr.survey with
  | none => m
  | some s =>
    if m.now < s.start + 1000 * s.dur then m
    else if 2 * s.used < s.dur then m.surveyDone s 0x15 { m.nv.set.base with state := 0 }
    else
      let b := { m.nv.set.base with x := meanMm s.sx s.used, y := meanMm s.sy s.used, z := meanMm s.sz s.used, state := 3 }
      (m.surveyDone s stOK b).posEvent b

def execSurveyEnd (s : State) : Res := s.on surveyEnd

/-- At start-up the position is restored; a survey that a reset has cut off leaves none (R355, R357). -/
def Mach.posRestore (m : Mach) : Mach :=
  let b := m.nv.set.base
  m.setBase (if b.state == 2 then { b with state := 0 } else b)

/-! ### The RTCM stream (R361 to R365) -/

/-- No open lane owes any of these IEs any more. DESIGN CHOICE: of a unit that is not ACTIVE, whose output goes to host software
only, every MSM epoch counts as sent (log entry 52). -/
def Mach.rtcmSent (m : Mach) (l : List Nat) : Bool :=
  !m.isActive || m.openLanes.all (fun x => (Tabs.val m.air.rtcm [] x).all (fun e => !l.contains e.id))

/-- A unit that takes the ACTIVE role has sent no MSM epoch on any lane (R365). -/
def Mach.corrForget (m : Mach) : Mach :=
  let m := { m with corr := { m.corr with cand := none, ref := none, nextCell := 0 } }
  (m.w CORR_STATUS_REF_IODS 0).w CORR_STATUS_TOTAL_CELLS 0

/-- The last built MSM epoch becomes the reference epoch once its bytes have been sent on every open lane (R365, R367). -/
def Mach.corrQualify (m : Mach) : Mach :=
  match m.corr.cand with
  | none => m
  | some (e, ies) =>
    if m.rtcmSent ies then
      let m := { m with corr := { m.corr with cand := none, ref := some (e, m.now), nextCell := 0 } }
      let m := (m.w CORR_STATUS_REF_IODS e.iods).w CORR_STATUS_TOTAL_CELLS e.cells.length
      m.event 0x0412 0 3 (le 4 e.pt ++ le 1 e.iods ++ le 2 e.cells.length)
    else m

/-- A stream piece cut into IE contents: CHUNK, START, up to 180 bytes; a transport frame begins an IE. -/
def cutFrame : Nat → Nat → Bool → List Byte → List (List Byte)
  | 0, _, _, _ => []
  | fuel + 1, chunk, start, l =>
    if l.isEmpty then []
    else (le 1 (chunk % 128 + 128 * b2n start) ++ l.take 180) :: cutFrame fuel (chunk + 1) false (l.drop 180)

/-- The IEs of several frames, from a CHUNK on. -/
def cutFrames : Nat → List (List Byte) → List (List Byte)
  | _, [] => []
  | chunk, f :: l =>
    let c := cutFrame f.length chunk true f
    c ++ cutFrames (chunk + c.length) l

/-- The numbers of the RTCM IEs in flight on a lane. -/
def Mach.rtcmFlying (m : Mach) (x : Nat) : List Nat :=
  (m.air.ended ++ m.air.inFlight).flatMap (fun f => match f.what with
    | .bcast _ _ l => if f.lane == x then l else []
    | _ => [])

/-- What is unsent leaves the stream and is counted, IEs in flight aside (R364). -/
def Mach.rtcmDrop (m : Mach) : Mach :=
  let flying := m.air.rtcm.map (fun e => (e.1, e.2.filter (fun i => (m.rtcmFlying e.1).contains i.id)))
  let rest := m.air.rtcm.map (fun e => (e.1, e.2.filter (fun i => !(m.rtcmFlying e.1).contains i.id)))
  ({ m with air := { m.air with rtcm := [], rtcmOld := flying } }).incBy CORR_RTCM_DROPPED_ALL (rtcmBytesOf rest)

/-- Frames join the stream on every open lane (R364, R369), cut into numbered IEs; with `fresh` they replace what is unsent, which a
unit that has lost the role discards too. -/
def Mach.rtcmQueue (m : Mach) (frames : List (List Byte)) (fresh : Bool) : Mach × List Nat :=
  let l := cutFrames m.corr.chunk frames
  let first := m.air.rtcmNext
  let ies := (List.range l.length).map (fun k => (⟨l.getD k [], m.now + 1, first + k⟩ : RtcmIe))
  let m := { m with corr := { m.corr with chunk := (m.corr.chunk + l.length) % 128 } }
  let ids := ies.map (fun e => e.id)
  let m := m.when fresh Mach.rtcmDrop
  if !m.isActive then (m, ids)
  else
    let q := m.openLanes.map (fun x => (x, Tabs.val m.air.rtcm [] x ++ ies))
    ({ m with air := { m.air with rtcm := q, rtcmNext := first + l.length } }, ids)

/-- A message in a RTCM 3 transport frame (R361): preamble 0xD3, 10-bit length, CRC-24Q, most significant bytes first. -/
def transport (body : List Byte) : List Byte :=
  let l := le 1 0xD3 ++ (le 2 (body.length % 1024)).reverse ++ body
  l ++ (le 3 (crc24q (bitsOf l))).reverse

/-- A message of a number with what the encoder puts into it. -/
def rtcmFrame (number iods : Nat) (content : List Byte) : List Byte := transport (Config.rtcmBytes number iods content)

/-- The entries that feed the corrections (R358, R362): the antenna in use, SBAS left out. -/
def Mach.corrEnts (m : Mach) (r : EpochRec) : List EpochEnt :=
  r.ents.filter (fun e => e.path / 3 == m.corr.refAnt && e.sig != 14)

/-- The systems of the MSM7 messages in their order, with the message numbers (R361). -/
def msmOrder : List (Nat × Nat) := [(0, 1077), (3, 1087), (1, 1097), (4, 1117), (2, 1127)]

/-- Cells of a message: by satellite, then by signal ID (R365). -/
def cellBefore (a b : EpochEnt) : Bool :=
  if a.svid == b.svid then decide (Config.msmSignal a.sig < Config.msmSignal b.sig) else decide (a.svid < b.svid)

/-- The entries of each message present, with its number. -/
def Mach.msmGroups (m : Mach) (r : EpochRec) : List (Nat × List EpochEnt) :=
  (msmOrder.map (fun o => (o.2, sortBy cellBefore ((m.corrEnts r).filter (fun e => sigSystem e.sig == o.1))))).filter
    (fun g => !g.2.isEmpty)

/-- What the encoder gets of a cell (R360, R362): satellite, MSM signal, whether the fine pseudorange and phaserange are valid,
which they are not in an entry with INTEG, and its measurements. -/
def cellContent (e : EpochEnt) : List Byte :=
  let integ := e.flags.testBit 4
  le 1 e.svid ++ le 1 (Config.msmSignal e.sig) ++ le 1 (b2n (!integ && e.flags.testBit 1)) ++
    le 1 (b2n (!integ && e.flags.testBit 2)) ++ le 1 (b2n (e.flags.testBit 3)) ++ le 6 e.pr ++
    le 8 (if integ then 0 else unsgn 64 e.cp) ++ le 4 (unsgn 32 e.dop) ++ le 4 e.lock ++ le 1 e.cn0 ++ le 1 (unsgn 8 e.gloK)

/-- The MSM7 frames of an epoch (R360 to R362): station ID, epoch time, multiple-message bit, clock steering 1, external clock,
smoothing 0, cells. -/
def Mach.msmFrames (m : Mach) (r : EpochRec) (iods : Nat) (l : List (Nat × List EpochEnt)) : List (List Byte) :=
  let last := (l.getLast?.map (fun g => g.1)).getD 0
  l.map (fun g => rtcmFrame g.1 iods (le 2 (m.r CORR_STATION_ID) ++ le 6 r.sec ++ le 4 r.ns ++ le 1 (b2n (g.1 != last)) ++
    le 1 1 ++ le 1 (b2n (m.b TIME_SRC_CFG_REF_SEL)) ++ le 1 0 ++ g.2.flatMap cellContent))

/-- The position the encoder sends (R358). -/
def Mach.sentPos (m : Mach) : Int × Int × Int :=
  let b := m.nv.set.base
  if m.corr.refAnt == 0 then (b.x, b.y, b.z)
  else Config.addBaseline (b.x, b.y, b.z)
    (m.ri GNSS_BASELINE_E_ALL, m.ri GNSS_BASELINE_N_ALL, m.ri GNSS_BASELINE_U_ALL)

/-- The 1005 or 1006 frame (R361). -/
def Mach.arpFrame (m : Mach) : List Byte :=
  let p := m.sentPos
  let h := m.nv.set.base.height
  rtcmFrame (if h == 0 then 1005 else 1006) 0 (le 2 (m.r CORR_STATION_ID) ++ le 8 (unsgn 64 p.1) ++
    le 8 (unsgn 64 p.2.1) ++ le 8 (unsgn 64 p.2.2) ++ le 2 h)

/-- The station messages (R361); 1230 with the alignment indicator 0 and the biases of factory calibration. -/
def Mach.stationFrames (m : Mach) : List (List Byte) :=
  let s := m.nv.set
  let id := le 2 (m.r CORR_STATION_ID)
  let str := fun k => let t := s.descs.getD k []; le 1 t.length ++ t
  [m.arpFrame,
   rtcmFrame (if (s.descs.getD 1 []).isEmpty then 1007 else 1008) 0 (id ++ str 0 ++ str 1 ++ le 1 s.setup),
   rtcmFrame 1033 0 (id ++ str 0 ++ str 1 ++ le 1 s.setup ++ str 2 ++ str 3 ++ str 4),
   rtcmFrame 1230 0 (id ++ le 1 0 ++ (List.range 4).flatMap (fun k => le 2 (unsgn 16 (Config.gloBias k))))]

/-- A RTCM_READ gets whole frames and completes (R372). -/
def Mach.rtcmGive (m : Mach) (d : Desc) (pt : Nat) (frames : List (List Byte)) : Mach :=
  let fit := frames.foldl (fun (a : List Byte × Nat × Bool) f =>
    if a.2.2 || a.1.length + f.length > Descs.len d then (a.1, a.2.1, true) else (a.1 ++ f, a.2.1 + 1, false)) ([], 0, false)
  (m.bufWr d 0 fit.1).complete d stOK (le 2 fit.1.length ++ le 1 fit.2.1 ++ le 1 (b2n fit.2.2) ++ le 4 pt)

/-- COMPACT of a RTCM_READ. -/
def isCompact (d : Desc) : Bool := (Descs.fld d 18 1).testBit 0

/-- The oldest outstanding read with COMPACT gets a compact IE (R372). -/
def Mach.compactGive (m : Mach) (pt : Nat) (content : List Byte) : Mach :=
  match m.corr.reads.find? isCompact with
  | some d => ({ m with corr := { m.corr with reads := m.corr.reads.filter (fun e => e != d) } }).rtcmGive d pt [content]
  | none => m

/-- A read held for station messages completes with them. -/
def Mach.rtcmRelease (m : Mach) (more : List (List Byte)) : Mach :=
  match m.corr.held with
  | some (d, pt, fs) => ({ m with corr := { m.corr with held := none } }).rtcmGive d pt (fs ++ more)
  | none => m

/-- Station messages are due at a tick (R361). -/
def Mach.stationBy (m : Mach) (now : Nat) : Bool :=
  match m.corr.stationAt with
  | some t => t + 1000 * m.r CORR_RTCM_CFG_STATION_S ≤ now
  | none => true
def Mach.stationDue (m : Mach) : Bool := m.stationBy m.now

/-- Station messages will be built before the next MSM epoch (R363): they are due by the last measurement epoch before it. -/
def Mach.stationSoon (m : Mach) : Bool :=
  let e := 1000 / max 1 (m.r GNSS_EPOCH_CFG_RATE_HZ)
  e < m.msmPeriod && m.stationBy (m.now + m.msmPeriod - e)

/-- The oldest outstanding read gets the frames of an MSM epoch, with the station messages built before the next one; an epoch
that finds none is counted (R372). -/
def Mach.rtcmEpoch (m : Mach) (pt : Nat) (frames : List (List Byte)) : Mach :=
  let m := m.rtcmRelease []
  match m.corr.reads.find? (fun d => !isCompact d) with
  | none => m.inc CORR_RTCM_MISSED_ALL
  | some d =>
    let m := { m with corr := { m.corr with reads := m.corr.reads.filter (fun e => e != d) } }
    if m.stationSoon then { m with corr := { m.corr with held := some (d, pt, frames) } } else m.rtcmGive d pt frames

/-- The record made in the tick before. -/
def Mach.lastRecord (m : Mach) : Option EpochRec :=
  (m.gnss.last.filter (fun e => e.2 + 1 == m.now)).map (fun e => e.1)

/-- The encoder may build (R359, R363). The condition of R359 on the last compact IE is left out: an IE needs an MSM epoch
first (log entry 53). -/
def Mach.corrMay (m : Mach) : Bool :=
  m.takes .corr && m.b GNSS_CTRL_ENABLE && m.posOk && m.stepped && m.r INTC_BLK_FAULT_STATE 3 != 3
def Mach.corrBuilds (m : Mach) : Option EpochRec := m.lastRecord.filter (fun _ => m.corrMay)

/-- A record of an MSM epoch (R362): its tick index is a multiple of the period, which divides a second. -/
def Mach.isMsm (m : Mach) (r : EpochRec) : Bool := r.ns / 1000000 % m.msmPeriod == 0 && !r.hflags.testBit 0

/-- The present tick began with an MSM epoch (R362). -/
def Mach.msmTick (m : Mach) : Bool := m.stepped && m.time.stepTick != some m.now && m.msInt % m.msmPeriod == 0

/-- A position or an antenna that waited for this MSM epoch takes effect, and a 1005 or 1006 goes with it (R356, R358). -/
def Mach.corrEpoch (m : Mach) : Mach :=
  let m := match m.corr.newPos with
    | some b => (({ m with corr := { m.corr with newPos := none, force1005 := true } }).setBase b).posEvent b
    | none => m
  let ant := m.r CORR_CTRL_REF_ANT
  if ant == m.corr.refAnt then m else { m with corr := { m.corr with refAnt := ant, force1005 := true } }

/-- MSM_BUILD (R362 to R365, R372). While the site is SPOOF_SUSPECT only a 1005 or 1006 that goes with this epoch is sent (R356,
R358, R359). -/
def msmBuild (m : Mach) : Mach :=
  match m.corrBuilds with
  | none => m
  | some r =>
    if !m.isMsm r || m.corr.msmAt == some m.now then m
    else
      let m := { m with corr := { m.corr with msmAt := some m.now } }
      if m.b GNSS_DA_STATUS_SPOOF then
        if m.corr.force1005 then
          let m := { m with corr := { m.corr with force1005 := false } }
          (m.rtcmQueue [m.arpFrame] false).1.rtcmRelease [m.arpFrame]
        else m
      else
        let m := m.corrQualify
        let n := m.corr.msmCount + 1
        let iods := n % 8
        let groups := m.msmGroups r
        let arp := if m.corr.force1005 then [m.arpFrame] else []
        let msm := m.msmFrames r iods groups
        let cells := (groups.flatMap (fun g => g.2)).map (fun e => ⟨e.sig, e.svid, e.gloK, e.cp, e.dop, e.flags.testBit 4⟩)
        let (m, ies) := m.rtcmQueue (arp ++ msm) true
        let m := { m with corr := { m.corr with msmCount := n, force1005 := false, cand := some (⟨r.pt, m.corr.refAnt, iods, cells⟩, ies) } }
        m.rtcmEpoch r.pt (arp ++ msm)

def execMsmBuild (s : State) : Res := s.on msmBuild

/-- STATION_MESSAGE_BUILD (R361, R363): after a measurement epoch that is not an MSM epoch. -/
def stationMessageBuild (m : Mach) : Mach :=
  match m.corrBuilds with
  | none => m
  | some r =>
    if m.isMsm r || !m.stationDue then m
    else
      let fs := m.stationFrames
      let m := { m with corr := { m.corr with stationAt := some m.now } }
      ((m.rtcmQueue fs false).1).rtcmRelease fs

def execStationMessageBuild (s : State) : Res := s.on stationMessageBuild

/-! ### The compact IE (R365 to R369) -/

/-- A 10-bit value's bits, most significant first. -/
def bits10 (v : Nat) : List Bool := (List.range 10).map (fun k => v.testBit (9 - k))

/-- Bits packed into bytes, most significant first, padded with 0. -/
def packBits : Nat → List Bool → List Byte
  | 0, _ => []
  | fuel + 1, l =>
    if l.isEmpty then []
    else
      let h := l.take 8
      let b := ((List.range 8).map (fun k => if h.getD k false then 2 ^ (7 - k) else 0)).sum
      BitVec.ofNat 8 b :: packBits fuel (l.drop 8)

/-- A cell's residual (R360, R368): -512 when not available, as after a change of antenna, which is another ambiguity. -/
def Mach.residual (m : Mach) (r : EpochRec) (e : MsmEpoch) (k : MsmCell) : Int :=
  match (m.corrEnts r).find? (fun x => x.sig == k.sig && x.svid == k.svid) with
  | some x =>
    if k.bad || x.flags.testBit 4 || e.ant != m.corr.refAnt then -512
    else
      let dt := diff32 r.pt e.pt
      let v := Config.phaseMm k.sig k.gloK ((x.cp - k.cp) * 1000000 + k.dop * dt * 65536)
      if v < -511 || 511 < v then -512 else v
  | none => -512

/-- The content of an IE for a reference epoch, from a cell on. -/
def Mach.compactContent (m : Mach) (r : EpochRec) (e : MsmEpoch) (first n : Nat) : List Byte :=
  let t := e.cells.length
  let rs := (List.range n).map (fun j => match e.cells[(first + j) % max 1 t]? with
    | some k => m.residual r e k
    | none => -512)
  le 1 1 ++ le 1 m.corr.refAnt ++ le 2 (m.r CORR_STATION_ID + 4096 * e.iods) ++ le 4 r.pt ++ le 4 e.pt ++ le 2 first ++
    le 1 n ++ le 1 0 ++ packBits (10 * n) (rs.flatMap (fun v => bits10 (unsgn 10 v)))

/-- COMPACT_IE_BUILD (R365 to R368): an epoch without one is noted (R359). -/
def compactIeBuild (m : Mach) : Mach :=
  match m.lastRecord with
  | none => m
  | some r =>
    if m.corr.ieAt == some m.now then m
    else
      let m := ({ m with corr := { m.corr with ieAt := some m.now } }).corrQualify
      if m.b GNSS_DA_STATUS_SPOOF || !m.corrMay then ({ m with corr := { m.corr with lastIe := false } }).corrRefresh
      else match m.corr.ref with
        | some (e, t) =>
          if t + 2500 < m.now then (({ m with corr := { m.corr with lastIe := false } }).inc CORR_SKIPPED_ALL).corrRefresh
          else
            let total := e.cells.length
            let n := min total 131
            let first := if total ≤ 131 then 0 else m.corr.nextCell
            let content := m.compactContent r e first n
            let next := if total ≤ 131 then 0 else (first + n) % total
            let m := { m with corr := { m.corr with
              nextCell := next, lastIe := true, ie := some ⟨content, r.pt, m.now + 1⟩ } }
            (m.compactGive r.pt content).corrRefresh
        | none => (({ m with corr := { m.corr with lastIe := false } }).inc CORR_SKIPPED_ALL).corrRefresh

def execCompactIeBuild (s : State) : Res := s.on compactIeBuild

/-- The compact IE of an epoch is in flight on a lane. -/
def Mach.corrFlying (m : Mach) (x epoch : Nat) : Bool :=
  (m.air.ended ++ m.air.inFlight).any (fun f => match f.what with
    | .bcast _ (some e) _ => f.lane == x && e == epoch
    | _ => false)

/-- The waiting compact IE leaves the queue; each open lane that has not sent it counts (R369). -/
def Mach.dropIe (m : Mach) : Mach :=
  match m.air.corr with
  | none => m
  | some c =>
    let n := (m.openLanes.filter (fun x => !m.air.corrSent.contains x && !m.corrFlying x c.epoch)).length
    ({ m with air := { m.air with corr := none, corrSent := [] } }).incBy CORR_IE_DISCARD_ALL n

/-- COMPACT_IE_ENQUEUE (R369): at the start of the tick after its build. -/
def compactIeEnqueue (m : Mach) : Mach :=
  match m.corr.ie with
  | none => m
  | some c =>
    if m.now < c.tick then m
    else
      let m := { m with corr := { m.corr with ie := none } }
      if !m.isActive then m
      else
        let m := m.dropIe
        { m with air := { m.air with corr := some { c with tick := m.now }, corrSent := [] } }

def execCompactIeEnqueue (s : State) : Res := s.on compactIeEnqueue

/-- COMPACT_IE_DEADLINE (R369): no slot may take it that begins later than 17.5 ms after the epoch. -/
def compactIeDeadline (m : Mach) : Mach :=
  match m.air.corr with
  | some c => if 18 ≤ diff32 m.pt c.epoch then m.dropIe else m
  | none => m

def execCompactIeDeadline (s : State) : Res := s.on compactIeDeadline

/-! ### Descriptors and drain (R371 to R374) -/

/-- RTCM_READ. -/
def rtcmRead (d : Desc) (m : Mach) : Mach :=
  m.desc 0x0412 d (fun d m =>
    match firstOf (m.corrShared (!Descs.buf d || Descs.len d < 64) true) with
    | some st => m.complete d st
    | none => { m with corr := { m.corr with reads := m.corr.reads ++ [d] } })

def execRtcmRead (d : Desc) (s : State) : Res := s.on (rtcmRead d)

/-- `n` strings, each a length byte of at most 31 and its characters, and what follows them. -/
def parseStrings : Nat → List Byte → Option (List (List Byte) × List Byte)
  | 0, l => some ([], l)
  | n + 1, l =>
    match l with
    | [] => none
    | k :: t =>
      if k.toNat > 31 || t.length < k.toNat then none
      else (parseStrings n (t.drop k.toNat)).map (fun r => (t.take k.toNat :: r.1, r.2))

/-- SET_DESCRIPTORS (R371); a buffer that holds no five strings and a setup ID completes with RANGE. -/
def setDescriptors (d : Desc) (m : Mach) : Mach :=
  m.desc 0x0413 d (fun d m =>
    let p := (parseStrings 5 (m.bufRd d)).filter (fun r => !r.2.isEmpty)
    match firstOf (m.corrShared (!Descs.buf d || p.isNone) false) with
    | some st => m.complete d st
    | none => match p with
      | some (l, rest) =>
        let set := { m.nv.set with descs := l, setup := leAt rest 0 1 }
        ({ m with nv := { m.nv with set := set } }).complete d stOK (le 1 0)
      | none => m)

def execSetDescriptors (d : Desc) (s : State) : Res := s.on (setDescriptors d)

/-- The stored MSM_HZ of a written one (R362): the written value where it is allowed and its period a multiple of the epoch
period, else the largest allowed one. -/
def msmHzOf (v rate : Nat) : Nat :=
  let ok := fun hz => (hz == 1 || hz == 2 || hz == 5) && 1000 / max 1 hz % (1000 / max 1 rate) == 0
  if ok v then v else if ok 5 then 5 else if ok 2 then 2 else 1

/-- CORR_CTRL.ENABLE written 0 (R374). -/
def Mach.corrDrain (m : Mach) : Mach :=
  let m := m.surveyCancel
  let l := m.corr.held.toList.map (fun h => h.1) ++ m.corr.reads
  let m := { m with
    corr := { m.corr with reads := [], ie := none, lastIe := false, held := none, cand := none }
    air := { m.air with corr := none, corrSent := [], rtcm := [] } }
  let m := m.each l (fun m d => m.complete d stFLUSHED)
  (m.flushDelivered (fun d => ([0x0410, 0x0411, 0x0412, 0x0413] : List Nat).contains d.op) stFLUSHED).corrRefresh

end Sys2Proof.Machine
end

