-- ==== Sys2Proof/Machine/Damper.lean ====
section
/-! DEFINITION. Damper: stop inputs, sources, releases, self-test (06). -/

namespace Sys2Proof.Machine

open Sys2Proof

/-! ### Stop inputs (R202 to R204) -/

/-- The scope of stop input `n`: its zone set, or the site. -/
def Mach.inputScope (m : Mach) (n : Nat) : Stops :=
  let z := m.r DAMP_IN_ZONE_LO_ALL n + 2 ^ 32 * m.r DAMP_IN_ZONE_HI_ALL n
  if m.b DAMP_IN_CFG_SCOPE n && z != 0 then ⟨false, BitVec.ofNat 64 z, 0⟩ else Stops.ofSite

def Mach.stopIn (m : Mach) (n : Nat) : StopIn := Tabs.val m.dam.ins {} n
def Mach.setStopIn (m : Mach) (n : Nat) (x : StopIn) : Mach :=
  { m with dam := { m.dam with ins := Tabs.put m.dam.ins n x } }

/-- Bit `n` of a field set to a value. -/
def Mach.wBit (m : Mach) (f : Field) (n : Nat) (v : Bool) : Mach :=
  let old := m.r f
  m.w f (old - (bits old n 1 <<< n) + (b2n v <<< n))

/-- The levels of input `n`'s channels become `a` and `b` (true: high); time high counts from the end of boot phase 1 on. -/
def Mach.setInput (m : Mach) (n : Nat) (a b : Bool) : Mach :=
  let oa := (m.r DAMP_IN_LEVEL_LEVEL_A).testBit n
  let ob := (m.r DAMP_IN_LEVEL_LEVEL_B).testBit n
  let x := m.stopIn n
  let changed := oa != a || ob != b
  let x := { x with lastChange := if changed then m.now else x.lastChange,
                    highSince := if a && b && decide (2 ≤ m.r PWR_BOOT_STATUS_PHASE) then
                      (if x.highSince.isSome then x.highSince else some m.now) else none,
                    lowSeen := x.lowSeen || (!a && !b) }
  let m := ((m.setStopIn n x).wBit DAMP_IN_LEVEL_LEVEL_A n a).wBit DAMP_IN_LEVEL_LEVEL_B n b
  m.when (!(a && b)) (fun m => m.wBit DAMP_IN_LEVEL_CLEAR n false)

/-- A used input with a low channel asserts its source. -/
def Mach.inputAssert (m : Mach) (n : Nat) : Mach :=
  let high := (m.r DAMP_IN_LEVEL_LEVEL_A).testBit n && (m.r DAMP_IN_LEVEL_LEVEL_B).testBit n
  if m.b DAMP_IN_CFG_USE n && !high then m.levelAssert n n (m.inputScope n) else m

/-- STOP_INPUT_ASSERT (R202): the channels of input `n` take these levels. -/
def stopInputAssert (n : Nat) (a b : Bool) (m : Mach) : Mach := (m.setInput n a b).inputAssert n

def execStopInputAssert (n : Fin 4) (a b : Bool) (s : State) : Res := s.on (stopInputAssert n a b)

/-- Boot phase 1 ends: the inputs that are high count their 20 ms from here (R202). -/
def Mach.inputsBegin (m : Mach) : Mach :=
  m.each (List.range 4) (fun m n =>
    m.setInput n ((m.r DAMP_IN_LEVEL_LEVEL_A).testBit n) ((m.r DAMP_IN_LEVEL_LEVEL_B).testBit n))

/-- Both channels have been high for 20 ms without a break. -/
def Mach.highLong (m : Mach) (n : Nat) : Bool :=
  match (m.stopIn n).highSince with
  | some t => t + 20 ≤ m.now
  | none => false

/-- STOP_INPUT_CLEAR (R202). -/
def stopInputClear (n : Nat) (m : Mach) : Mach :=
  if m.highLong n then (m.wBit DAMP_IN_LEVEL_CLEAR n true).setSrc n false else m

def execStopInputClear (n : Fin 4) (s : State) : Res := s.on (stopInputClear n)

/-- Source 4 ends once no used input holds its discrepancy latch (R203, R204). -/
def Mach.discRest (m : Mach) : Mach :=
  m.when (!(List.range 4).any (fun n => m.b DAMP_IN_CFG_USE n && (m.r DAMP_IN_LEVEL_DISC).testBit n)) (fun m => m.setSrc 4 false)

/-- What the inputs assert after their use or scope is written (R202, R204): an unused one asserts nothing. DESIGN CHOICE: an
input that asserts already latches nothing new where its scope is rewritten (log entry 61). -/
def Mach.inputsUse (m : Mach) : Mach :=
  (m.each (List.range 4) (fun m n =>
    if m.b DAMP_IN_CFG_USE n then
      (m.inputAssert n).when ((m.r DAMP_IN_LEVEL_DISC).testBit n) (fun m => m.levelAssert 4 n Stops.ofSite)
    else m.setSrc n false)).discRest

/-- DISCREPANCY_SET (R203): the channels of a used input have differed for 10 ms. -/
def discrepancySet (n : Nat) (m : Mach) : Mach :=
  let a := (m.r DAMP_IN_LEVEL_LEVEL_A).testBit n
  let b := (m.r DAMP_IN_LEVEL_LEVEL_B).testBit n
  if m.b DAMP_IN_CFG_USE n && a != b && (m.stopIn n).lastChange + 10 ≤ m.now && !(m.r DAMP_IN_LEVEL_DISC).testBit n then
    let m := m.setStopIn n { m.stopIn n with lowSeen := false }
    let m := (m.wBit DAMP_IN_LEVEL_DISC n true).inc DAMP_DISC_CNT_ALL
    let m := { m with dam := { m.dam with forward := true } }
    (m.levelAssert 4 n Stops.ofSite).event 0x0204 3 17 (le 1 n ++ le 1 1)
  else m

def execDiscrepancySet (n : Fin 4) (s : State) : Res := s.on (discrepancySet n)

/-- DISCREPANCY_CLEAR (R203): both channels low together, then both high for 20 ms. -/
def discrepancyClear (n : Nat) (m : Mach) : Mach :=
  if (m.r DAMP_IN_LEVEL_DISC).testBit n && (m.stopIn n).lowSeen && m.highLong n then
    let m := m.wBit DAMP_IN_LEVEL_DISC n false
    m.discRest.event 0x0204 3 17 (le 1 n ++ le 1 0)
  else m

def execDiscrepancyClear (n : Fin 4) (s : State) : Res := s.on (discrepancyClear n)

/-! ### Watchdog and safety requests (R189, R190) -/

/-- A standby's source that is forwarded to its mate (R217). -/
def Mach.gatherForward (m : Mach) : Mach := { m with dam := { m.dam with forward := true } }

/-- WATCHDOG_EXPIRY (R189): it re-arms at the next kick. -/
def watchdogExpiry (m : Mach) : Mach :=
  match m.dam.wdog with
  | some t =>
    if t ≤ m.now then
      ({ m with dam := { m.dam with wdog := none } }).gatherForward.assertSource 6 0 Stops.ofSite
    else m
  | none => m

def execWatchdogExpiry (s : State) : Res := s.on watchdogExpiry

/-- The watchdog starts to run as it is armed. -/
def Mach.armWatchdog (m : Mach) : Mach :=
  let on := m.b DAMP_WDOG_CFG_EN && m.b DAMP_CTRL_ENABLE
  let due := if on then some (m.now + m.r DAMP_WDOG_CFG_TIMEOUT_MS) else none
  { m with dam := { m.dam with wdog := due } }

/-- A write of DAMP_S0_REQ or DAMP_S1_REQ (R190): only its own master's; SITE is a level, AGENT_SET and ZONE_SET are
momentary. One that does not reach the block is no access (R566). -/
def Mach.safetyWrite (m : Mach) (master : Nat) (s1 : Bool) (v : Nat) : Mach :=
  let src := if s1 then 8 else 7
  let f := if s1 then DAMP_S1_REQ_SITE else DAMP_S0_REQ_SITE
  if !m.hears master then m
  else if master != (if s1 then 7 else 6) then m.inc DAMP_REQ_REFUSED_ALL
  else
    let site := v.testBit 0
    let m := m.wb f site
    let m := if site then m.gatherForward.levelAssert src 0 Stops.ofSite else m.setSrc src false
    let m := m.when (v.testBit 1) (fun m => m.assertSource src 0 ⟨false, 0, 1#512 <<< bits v 16 9⟩)
    m.when (v.testBit 2) (fun m => m.assertSource src 0 ⟨false, 1#64 <<< bits v 8 6, 0⟩)

/-- SAFETY_SITE_REQUEST. -/
def execSafetySiteRequest (a : Fin 16) (s1 : Bool) (v : BitVec 32) (s : State) : Res :=
  s.on (fun m => m.safetyWrite a s1 v.toNat)

/-- SAFETY_AGENT_STOP_REQUEST. -/
def execSafetyAgentStopRequest (a : Fin 16) (s1 : Bool) (v : BitVec 32) (s : State) : Res :=
  s.on (fun m => m.safetyWrite a s1 v.toNat)

/-- SAFETY_ZONE_STOP_REQUEST. -/
def execSafetyZoneStopRequest (a : Fin 16) (s1 : Bool) (v : BitVec 32) (s : State) : Res :=
  s.on (fun m => m.safetyWrite a s1 v.toNat)

/-! ### Descriptors (R220 to R222) -/

/-- The inline agent references of a STOP or RELEASE_ARM. -/
def stopRefs (d : Desc) : List Nat := (List.range (Descs.fld d 19 1)).map (fun k => Descs.fld d (24 + 2 * k) 2)

/-- The stops a STOP or RELEASE_ARM names; `none` where its body breaks R220 or R221. -/
def Mach.stopsOf (m : Mach) (d : Desc) : Option Stops :=
  match Descs.fld d 18 1 with
  | 0 => some Stops.ofSite
  | 1 => if Descs.fld d 24 8 == 0 then none else some ⟨false, BitVec.ofNat 64 (Descs.fld d 24 8), 0⟩
  | 2 =>
    if Descs.buf d then
      let bm := unle ((m.bufRd d).take 64)
      if Descs.len d < 64 || bm == 0 then none else some ⟨false, 0, BitVec.ofNat 512 bm⟩
    else
      let n := Descs.fld d 19 1
      if n == 0 || n > 12 || !(stopRefs d).all refOk then none
      else some ⟨false, 0, ((stopRefs d).map (fun r => 1#512 <<< refIdx r)).foldl (fun a b => a ||| b) 0⟩
  | _ => none

/-- An inline reference carries another generation than Kiln's. -/
def Mach.stopStale (m : Mach) (d : Desc) : Bool :=
  Descs.fld d 18 1 == 2 && !Descs.buf d && (stopRefs d).any m.stale

/-- RESULT of STOP. -/
def Mach.stopRes (m : Mach) (gained : Bool) : List Byte :=
  le 1 (b2n m.siteLatched) ++ le 1 (b2n gained) ++ le 6 0 ++ le 8 m.zoneLatches

/-- STOP (R220, R424): its completion waits for the LATCH frame's acknowledgement while the standby is SYNC. -/
def stop (d : Desc) (m : Mach) : Mach :=
  m.desc 0x0200 d (fun d m =>
    let site := Descs.fld d 18 1 == 0
    match m.stopsOf d with
    | none => m.complete d stRANGE
    | some what =>
      match firstOf [(!site && !m.takes .damper, stNOT_ENABLED), (!site && !m.isActive, stNOT_ACTIVE_ROLE),
          (m.stopStale d, stSTALE_GENERATION)] with
      | some st => m.complete d st
      | none =>
        let gained := m.latched.gains what
        let seq := m.red.seqOut
        let m := (m.when site Mach.gatherForward).assertSource 5 0 what
        if gained && m.isActive && m.mirror == 3 then
          { m with dam := { m.dam with stops := m.dam.stops ++ [(d, seq, gained)] } }
        else m.complete d stOK (m.stopRes gained))

def execStop (d : Desc) (s : State) : Res := s.on (stop d)

/-- A level source that covers a scope asserts (R205): for the site every site-scope level source, for zones the
zone-scope inputs whose sets meet them, for agents none. -/
def Mach.covering (m : Mach) (what : Stops) : Bool :=
  let src := m.r DAMP_SRC_SRC
  let ins := (List.range 4).filter (fun n => src.testBit n)
  if what.site then
    ins.any (fun n => (m.inputScope n).site) || ([4, 7, 8, 9, 11, 12] : List Nat).any (fun b => src.testBit b)
  else ins.any (fun n => (m.inputScope n).zones &&& what.zones != 0)

/-- RELEASE_ARM (R205, R220). -/
def releaseArm (d : Desc) (m : Mach) : Mach :=
  m.desc 0x0201 d (fun d m =>
    match m.stopsOf d with
    | none => m.complete d stRANGE
    | some what =>
      match firstOf [(!m.takes .damper, stNOT_ENABLED), (!m.isActive, stNOT_ACTIVE_ROLE),
          (m.stopStale d, stSTALE_GENERATION), (m.latched.gains what, 0x10), (m.covering what, 0x11),
          (m.dam.arm.isSome, 0x12)] with
      | some st => m.complete d st
      | none =>
        let t := (m.dam.ticket + 1) % 2 ^ 16
        let sc := Descs.fld d 18 1
        let m := { m with dam := { m.dam with arm := some ⟨sc, what, t, m.now⟩, ended := none, ticket := t } }
        let m := ((m.w DAMP_STATUS_ARMED 1).w DAMP_STATUS_ARM_SCOPE sc).w DAMP_STATUS_TICKET t
        m.complete d stOK (le 2 t ++ le 2 0 ++ le 4 m.pt))

def execReleaseArm (d : Desc) (s : State) : Res := s.on (releaseArm d)

/-- What a ticket that is not the arm's answers (R222): the case in which its arm ended. DESIGN CHOICE: the ticket of an arm
whose release was accepted, and on a new active unit one that ended at its mate, of which the rule says nothing, answers
NOT_ARMED (log entry 61). -/
def endedStatus (ended : Option (Nat × Nat)) (t : Nat) : Nat :=
  match ended with
  | some (u, why) => if u == t then (if why == 3 then 0x16 else 0x14) else 0x13
  | none => 0x13

/-- RELEASE_CONFIRM (R205, R206). -/
def releaseConfirm (d : Desc) (m : Mach) : Mach :=
  m.desc 0x0202 d (fun d m =>
    let t := Descs.fld d 20 2
    match firstOf [(!m.takes .damper, stNOT_ENABLED), (!m.isActive, stNOT_ACTIVE_ROLE)] with
    | some st => m.complete d st
    | none => match m.dam.arm with
      | none => m.complete d (endedStatus m.dam.ended t)
      | some a =>
        if a.ticket != t then m.complete d (endedStatus m.dam.ended t)
        else if m.now < a.tick + 500 then (m.armEnd 2).complete d 0x15
        else if a.tick + 10000 < m.now then (m.armEnd 3).complete d 0x16
        else
          let m := { m with dam := { m.dam with arm := none, release := some { a with tick := m.now } } }
          (m.w DAMP_STATUS_ARMED 0).complete d stOK (le 1 a.scope ++ le 3 0 ++ le 4 ((m.pt + 1) % 2 ^ 32)))

def execReleaseConfirm (d : Desc) (s : State) : Res := s.on (releaseConfirm d)

/-- RELEASE_ABANDON (R206, R220). -/
def releaseAbandon (d : Desc) (m : Mach) : Mach :=
  m.desc 0x0203 d (fun d m =>
    if !m.takes .damper then m.complete d stNOT_ENABLED
    else if m.dam.arm.isSome then (m.armEnd 4).complete d stOK (le 1 0)
    else m.complete d stOK (le 1 1))

def execReleaseAbandon (d : Desc) (s : State) : Res := s.on (releaseAbandon d)

/-- WDOG_KICK (R189, R220). -/
def wdogKick (d : Desc) (m : Mach) : Mach :=
  m.desc 0x0204 d (fun d m =>
    if !m.takes .damper then m.complete d stNOT_ENABLED
    else
      let left := match m.dam.wdog with
        | some t => t - m.now
        | none => 0
      m.armWatchdog.complete d stOK (le 4 left))

def execWdogKick (d : Desc) (s : State) : Res := s.on (wdogKick d)

/-! ### Releases and delays (R205 to R207, R214) -/

/-- A source that asserted after the confirm is applied again at the boundary (R205). -/
def Mach.reapply (m : Mach) (r : Reassert) : Mach :=
  let fresh := r.what.site && !m.siteLatched
  let m := m.when fresh (fun m => m.setCause r.src r.detail)
  let m := m.gainStops r.what
  m.when fresh (fun m => m.event 0x0201 3 17 (le 1 r.src ++ le 1 r.detail ++ le 4 (m.r DAMP_CAUSE_PT_ALL)))

/-- LATCH_RELEASE: at the tick boundary after an accepted confirm the named latches clear; outputs return to run where the
unit holds grant. -/
def latchRelease (m : Mach) : Mach :=
  match m.dam.release with
  | none => m
  | some a =>
    if m.now ≤ a.tick then m
    else
      let again := m.dam.again
      let m := { m with dam := { m.dam with release := none, again := [] } }
      let m := (m.setLatches (m.latched.minus a.what)).quickStop
      let m := m.event 0x0202 1 17 (le 1 a.scope ++ le 2 a.ticket)
      let m := m.each again Mach.reapply
      if a.what.site then m.driveOutputs else m

def execLatchRelease (s : State) : Res := s.on latchRelease

/-- ARM_LAPSE (R206): no confirm by 10,000 ticks. -/
def armLapse (m : Mach) : Mach :=
  match m.dam.arm with
  | some a => if a.tick + 10000 < m.now then m.armEnd 3 else m
  | none => m

def execArmLapse (s : State) : Res := s.on armLapse

/-- FIX_EN_DELAY_EXPIRY (R214). -/
def fixEnDelayExpiry (m : Mach) : Mach :=
  match m.dam.fixDue with
  | some t => if t ≤ m.now then m.setFixEn false else m
  | none => m

def execFixEnDelayExpiry (s : State) : Res := s.on fixEnDelayExpiry

/-! ### Self-test (R208 to R212) -/

/-- SELF_TEST_FAILURE (R212): source 12, and the loss of Damper brings the chip safe state. -/
def Mach.selfTestFail (m : Mach) (where_ kind : Nat) : Mach :=
  let m := ((m.w DAMP_TEST_STATUS_FAILED 1).w DAMP_TEST_STATUS_WHERE where_).w DAMP_TEST_STATUS_KIND kind
  let m := (m.levelAssert 12 where_ Stops.ofSite).event 0x0205 4 17 (le 1 where_ ++ le 1 kind)
  (m.blkState 17 3 1).enterSafe 1 17

/-- A cycle without a failure: counted, and a pass of test 5 (R570). -/
def Mach.selfTestPass (m : Mach) : Mach :=
  (m.inc DAMP_TEST_CYCLES_ALL).when (m.istRuns 5) (fun m => m.istPass 5 0)

/-- DAMPER_SELF_TEST: once at each tick index 50, 150, … 950 after boot phase 1; a step of an unused input is skipped. -/
def damperSelfTest (fail : Option (Nat × Nat)) (m : Mach) : Mach :=
  if m.time.ns / 1000000 % 100 != 50 || m.r PWR_BOOT_STATUS_PHASE < 2 || m.dam.testTick == some m.now then m
  else
    let m := { m with dam := { m.dam with testTick := some m.now } }
    match fail with
    | some (k, kind) =>
      if k < 8 && !m.b DAMP_IN_CFG_USE (k / 2) then m.selfTestPass
      else (m.when (m.istRuns 5) (fun m => m.istFail 5 (k + 1) kind)).selfTestFail (k + 1) kind
    | none => m.selfTestPass

def execDamperSelfTest (fail : Option (Fin 10 × Fin 3)) (s : State) : Res :=
  s.on (damperSelfTest (fail.map (fun f => (f.1.val, f.2.val))))

/-- OUTPUT_PIN_MISMATCH (R211): pin 0 STOP_OUT_A, 1 STOP_OUT_B, 2 FIX_EN_N, while the unit holds grant; its ball then
shows the level against the drive: high at an open driver, low at a short. -/
def outputPinMismatch (pin : Nat) (m : Mach) : Mach :=
  if !m.b REDUN_STATUS_GRANTED then m
  else
    let ball := if pin ≤ 1 then m.dam.run else m.dam.fixRun
    let m := m.selfTestFail (11 + pin) 3
    match pin with
    | 0 => m.wb DAMP_STATUS_OUT_A ball
    | 1 => m.wb DAMP_STATUS_OUT_B ball
    | _ => m.wb DAMP_STATUS_FIX_EN_N ball

def execOutputPinMismatch (pin : Fin 3) (s : State) : Res := s.on (outputPinMismatch pin)

/-! ### Enable (R206, R223) -/

/-- Descriptors Damper holds. -/
def Mach.damperHolds (m : Mach) : List Desc := m.dam.stops.map (fun e => e.1)

/-- DAMP_CTRL.ENABLE written 0 while the site is latched: the arm is cancelled. The watchdog runs until the bit falls (R42,
R189). -/
def Mach.damperDrain (m : Mach) : Mach :=
  let held := m.damperHolds
  (m.armEnd 5).flushDelivered (fun d => d.target == 2 && !held.contains d && !(d.op == 0x0200 && Descs.fld d 18 1 == 0))
    stFLUSHED

/-- The watchdog is disarmed as ENABLE falls. -/
def Mach.disarmWatchdog (m : Mach) : Mach := { m with dam := { m.dam with wdog := none } }

end Sys2Proof.Machine
end

