-- ==== Sys2Proof/Machine/Shard.lean ====
section
/-! DEFINITION. The Shard log (17): records written, read, cleared and scanned. Its slots are MRAM (`nv`); the next SEQ and the
oldest SEQ kept stand beside them and are found anew by the scan at start-up. -/

namespace Sys2Proof.Machine

open Sys2Proof

/-- Slots of the log. -/
def shardSlots : Nat := 65536

/-- The 64 bytes of a record (R527). -/
def recordBytes (seq : Nat) (body : List Byte) (orig : Nat) : List Byte :=
  let l := le 4 seq ++ body.take 52 ++ List.replicate (52 - body.length) 0 ++ le 4 orig
  l ++ le 4 (crc32c l)

/-- A slot holds a record whose CRC is good and whose SEQ is this (R531). -/
def recordValid (l : List Byte) (seq : Nat) : Bool :=
  l.length == 64 && crc32c (l.take 60) == leAt l 60 4 && leAt l 0 4 == seq

/-- A record goes to its slot, the oldest one's place when the log is full (R529). -/
def Mach.shardStore (m : Mach) (e : ShardEv) : Mach :=
  let seq := m.nv.shardNext
  let oldest := if seq + 1 - m.nv.shardOldest > shardSlots then seq + 1 - shardSlots else m.nv.shardOldest
  let slots := Tabs.put m.nv.shard (seq % shardSlots) (recordBytes seq e.bytes e.orig)
  let m := { m with nv := { m.nv with shard := slots, shardNext := seq + 1, shardOldest := oldest } }
  let m := if m.isActive then { m with shard := { m.shard with mate := m.shard.mate ++ [{ e with orig := seq }] } } else m
  (m.w SHARD_NEWEST_ALL seq).w SHARD_OLDEST_ALL oldest

/-- The block runs. -/
def Mach.shardUp (m : Mach) : Bool := m.r INTC_BLK_FAULT_STATE 30 != 3

/-- The record at the head of the queue is written; then a LOST record enters it where records were lost (R526, R529). -/
def Mach.shardWrite (m : Mach) : Mach :=
  match m.shard.queue with
  | [] => m
  | e :: rest =>
    let m := ({ m with shard := { m.shard with queue := rest } }).w SHARD_STATUS_QUEUED rest.length
    let m := m.shardStore e
    let lost := m.shard.lostPending
    if lost == 0 then m
    else ({ m with shard := { m.shard with lostPending := 0 } }).event 0x0902 3 30 (le 4 lost)

/-- The record at the head may leave the queue: the log is scanned, its tick is over, so that the order of its tick is settled
(R526, R530), and it does not go before the CLEARED record or into step 2 of a clear (R534). -/
def Mach.shardFree (m : Mach) : Bool :=
  m.shardUp && m.shard.scanned && m.shard.queue.head?.any (fun e => e.tick < m.now) &&
  m.shard.clear.all (fun e => m.now ≤ e.2) && !m.b SHARD_STATUS_CLEARING

/-- SHARD_RECORD_WRITE. -/
def shardRecordWrite (m : Mach) : Mach := if m.shardFree then m.shardWrite else m

/-- Every record that waits is written, before a reset that its event precedes (R554). -/
def Mach.shardFlush (m : Mach) : Mach := m.each (List.range m.shard.queue.length) (fun m _ => m.shardWrite)

def execShardRecordWrite (s : State) : Res := s.on shardRecordWrite

/-- A record of the mate enters the queue with MATE set and the mate's SEQ (R525). -/
def Mach.shardMate (m : Mach) (e : ShardEv) : Mach :=
  m.shardPush { e with bytes := modAt e.bytes 7 (fun b => b ||| 0x10#8), tick := m.now }

/-- The SEQs of the slots that hold a valid record in its place, of those a property picks (R530). -/
def NvSt.shardSeqs (nv : NvSt) (p : List Byte → Bool) : List Nat :=
  (nv.shard.filter (fun e => recordValid e.2 (leAt e.2 0 4) && leAt e.2 0 4 % shardSlots == e.1 && p e.2)).map
    (fun e => leAt e.2 0 4)

/-- What the scan finds: the next SEQ, after the highest one; whether its slot is neither erased nor a valid record, the write to
it torn; the oldest SEQ kept, no older than the newest CLEARED record of this log; one of the mate's clears nothing here (R530,
R534). -/
def NvSt.scanNext (nv : NvSt) : Nat := match (nv.shardSeqs (fun _ => true)).max? with
  | some n => n + 1
  | none => 0
def NvSt.scanTorn (nv : NvSt) : Bool :=
  (Tabs.look nv.shard (nv.scanNext % shardSlots)).any (fun l =>
    !(recordValid l (leAt l 0 4) && leAt l 0 4 % shardSlots == nv.scanNext % shardSlots))
def NvSt.scanOldest (nv : NvSt) : Nat :=
  max ((nv.shardSeqs (fun l => leAt l 16 2 == 0x0901 && !(leAt l 11 1).testBit 4)).max?.getD 0) (nv.scanNext + b2n nv.scanTorn - shardSlots)

/-- The start-up scan (R530): numbering goes on from the highest SEQ, a torn write is recorded. -/
def Mach.shardScan (m : Mach) : Mach :=
  let next := m.nv.scanNext
  let oldest := m.nv.scanOldest
  let torn := m.nv.scanTorn
  let m := { m with nv := { m.nv with shardNext := next, shardOldest := oldest }, shard := { m.shard with scanned := true } }
  ((m.w SHARD_NEWEST_ALL (next - 1)).w SHARD_OLDEST_ALL oldest).when torn
    (fun m => m.event 0x0903 3 30 (le 4 (next % shardSlots)))

/-! ### Reading (R531, R532) -/

def Mach.shardWin (m : Mach) (master : Nat) : ShardWin := Tabs.val m.shard.wins {} master
def Mach.setShardWin (m : Mach) (master : Nat) (w : ShardWin) : Mach :=
  { m with shard := { m.shard with wins := Tabs.put m.shard.wins master w } }

/-- A master's window loaded with a copy of its cursor's slot. -/
def Mach.shardLoad (m : Mach) (master seq : Nat) : Mach :=
  let w := m.shardWin master
  let zero := List.replicate 64 (0 : Byte)
  if m.nv.shardNext ≤ seq then m.setShardWin master { w with cursor := seq, status := 3, window := zero }
  else if seq < m.nv.shardOldest then m.setShardWin master { w with cursor := seq, status := 2, window := zero }
  else
    let l := Tabs.val m.nv.shard zero (seq % shardSlots)
    let ok := recordValid l seq
    (m.setShardWin master { w with cursor := seq, status := if ok then 0 else 1, window := l }).when (!ok)
      (fun m => m.inc SHARD_BAD_CRC_ALL)

/-- CURSOR_WRITE (R531). -/
def cursorWrite (master v : Nat) (m : Mach) : Mach := if m.hears master then m.shardLoad master v else m

def execCursorWrite (m : Fin 16) (v : BitVec 32) (s : State) : Res := s.on (cursorWrite m v.toNat)

/-- WINDOW_READ_ADVANCE (R532): a read of SHARD_WINDOW_15. -/
def windowReadAdvance (master : Nat) (m : Mach) : Mach :=
  let off := SHARD_WINDOW_ALL.off 15 0
  if !m.hears master then m.deafRead master off
  else
    let w := m.shardWin master
    let m := m.emit (.read master off (BitVec.ofNat 32 (leAt w.window 60 4)))
    if w.adv then m.shardLoad master ((w.cursor + 1) % 2 ^ 32) else m

def execWindowReadAdvance (m : Fin 16) (s : State) : Res := s.on (windowReadAdvance m)

/-- WIN_STATUS_READ_RELOAD (R532): a read of SHARD_WIN_STATUS. -/
def winStatusReadReload (master : Nat) (m : Mach) : Mach :=
  let off := SHARD_WIN_STATUS_STATUS.off 0 0
  if !m.hears master then m.deafRead master off
  else
    let w := m.shardWin master
    let m := if w.status == 3 then m.shardLoad master w.cursor else m
    m.emit (.read master off (BitVec.ofNat 32 (m.shardWin master).status))

def execWinStatusReadReload (m : Fin 16) (s : State) : Res := s.on (winStatusReadReload m)

/-! ### Clearing (R533, R534) -/

/-- The RESPONSE that opens a clear (R533); a challenge and the serial are 8 bytes each, in order. -/
def clearResponse (mkey challenge : Nat) : Nat :=
  aes128 mkey (challenge + 2 ^ 64 * Config.serial.toNat) % 2 ^ 64

def Mach.setShardArm (m : Mach) (a : Option ShardArm) : Mach :=
  ({ m with shard := { m.shard with arm := a } }).wb SHARD_STATUS_ARMED a.isSome

/-- CLEAR_ARM (R533): a new arm replaces the old one. -/
def clearArm (d : Desc) (m : Mach) : Mach :=
  m.desc 0x0900 d (fun d m =>
    let (c, m) := m.draw
    let (t, m) := m.draw
    let a : ShardArm := ⟨c % 2 ^ 64, t % 2 ^ 16, m.now + 10000⟩
    (m.setShardArm (some a)).complete d stOK (le 8 a.challenge ++ le 2 a.ticket))

def execClearArm (d : Desc) (s : State) : Res := s.on (clearArm d)

/-- CLEAR_CONFIRM (R533, R535): completes as the clear takes effect, since RESULT names the CLEARED record. -/
def clearConfirm (d : Desc) (m : Mach) : Mach :=
  m.desc 0x0901 d (fun d m =>
    match m.shard.arm with
    | none => m.complete d 0x10
    | some a =>
      if a.ticket != Descs.fld d 16 2 then m.complete d 0x10
      else if a.deadline < m.now then (m.setShardArm none).complete d 0x11
      else if m.nv.mkey.any (fun k => clearResponse k a.challenge == Descs.fld d 20 8) then
        let m := m.setShardArm none
        { m with shard := { m.shard with clear := m.shard.clear ++ [(d, m.now)] } }
      else (m.setShardArm none).complete d stAUTH_FAIL)

def execClearConfirm (d : Desc) (s : State) : Res := s.on (clearConfirm d)

/-- SHARD_CLEAR (R534), at the boundary after the confirm: the CLEARED record is written ahead of those that wait, and every
other slot is erased. DESIGN CHOICE: step 2, whose length the spec does not give, ends with the tick; CLEARING reads 1 until then
(log entry 56). -/
def shardClear (m : Mach) : Mach :=
  match m.shard.clear with
  | [] => m
  | (d, t) :: more =>
    if m.now ≤ t || !m.shardUp || !m.shard.scanned then m
    else
      let seq := m.nv.shardNext
      let args := le 4 m.nv.shardOldest ++ le 4 (seq - 1) ++ le 1 1
      let m := ({ m with shard := { m.shard with clear := more } }).w SHARD_STATUS_CLEARING 1
      let m := m.shardStore ⟨m.shardBytes 0x0901 4 30 args, 0, m.now, 30⟩
      let m := { m with nv := { m.nv with
        shard := m.nv.shard.filter (fun e => e.1 == seq % shardSlots), shardOldest := seq } }
      let m := m.w SHARD_OLDEST_ALL seq
      (m.offer 0x0901 4 30 args).complete d stOK (le 4 seq)

def execShardClear (s : State) : Res := s.on shardClear

end Sys2Proof.Machine
end

