-- ==== Sys2Proof/Machine/Time.lean ====
section
/-! DEFINITION. The time unit: clock, sources, step, holdover, captures, compares, PTP (12). -/

namespace Sys2Proof.Machine

open Sys2Proof

/-! ### The local clock (R377 to R379) -/

/-- A value saturated to 32 bits. -/
def sat32 (v : Int) : Int := max (-(2 ^ 31)) (min (2 ^ 31 - 1) v)

/-- A value limited to ± `lim`. -/
def clampInt (lim v : Int) : Int := max (-lim) (min lim v)

/-- ADDEND within R378. -/
def clampAddend (v : Int) : Int := clampInt 1717986 v

/-- The clock in 2^-32 ns since the epoch of ST80. -/
def TimeSt.fine (t : TimeSt) : Nat := (t.sec * 1000000000 + t.ns) * 2 ^ 32 + t.frac

/-- The clock set to a time in 2^-32 ns. -/
def TimeSt.setFine (t : TimeSt) (v : Nat) : TimeSt :=
  { t with sec := v / 2 ^ 32 / 1000000000 % 2 ^ 48, ns := v / 2 ^ 32 % 1000000000, frac := v % 2 ^ 32 }

/-- What one cycle of the TIME domain adds, in 2^-32 ns. -/
def cycleStep (addend : Int) : Nat := (4 * 2 ^ 32 + addend).toNat

/-- The clock at the first cycle at which it reaches the next whole millisecond (R25, R377); a waiting ADDEND then takes
effect (R386, R390). -/
def Mach.clockTick (m : Mach) : Mach :=
  let step := cycleStep (m.ri TIME_ADDEND_ADDEND)
  let now := m.time.fine
  let next := ((m.time.sec * 1000000000 + m.time.ns) / 1000000 + 1) * 1000000 * 2 ^ 32
  let cycles := (next - now + step - 1) / step
  let m := { m with time := m.time.setFine (now + cycles * step) }
  match m.time.addendNext with
  | some a => ({ m with time := { m.time with addendNext := none } }).wi TIME_ADDEND_ADDEND a
  | none => m

/-- The real-time clock runs on by itself, by ticks of 1 ms (DESIGN CHOICE: its own rate the spec does not give, log entry 61). -/
def rtcRun (t : Nat × Nat) (ms : Nat) : Nat × Nat :=
  let n := t.1 * 1000000000 + t.2 + 1000000 * ms
  (n / 1000000000, n % 1000000000)
def Mach.rtcOn (m : Mach) : Mach := { m with nv := { m.nv with rtc := m.nv.rtc.map (fun t => rtcRun t 1) } }

/-- After the step the real-time clock is written once per second (R379). -/
def Mach.rtcTick (m : Mach) : Mach :=
  if m.stepped && m.time.ns / 1000000 == 0 then { m with nv := { m.nv with rtc := some (m.time.sec, m.time.ns) } } else m.rtcOn

/-! ### Status (R380, R398) -/

/-- STATE of R380. -/
def Mach.timeState (m : Mach) : Nat := m.timeStatus % 8
def sUNSTEPPED : Nat := 0
def sFREE : Nat := 1
def sLOCKED : Nat := 2
def sHOLDOVER : Nat := 3
def sHOLDOVER_LIMIT : Nat := 4
def sRECOVERING : Nat := 5

/-- The smallest clockAccuracy class of IEEE 1588 not below an uncertainty in ns. -/
def accClass (u : Nat) : Nat :=
  let l := [(25, 0x20), (100, 0x21), (250, 0x22), (1000, 0x23), (2500, 0x24), (10000, 0x25), (25000, 0x26), (100000, 0x27),
    (250000, 0x28), (1000000, 0x29), (2500000, 0x2A), (10000000, 0x2B), (25000000, 0x2C), (100000000, 0x2D),
    (250000000, 0x2E), (1000000000, 0x2F), (10000000000, 0x30)]
  match l.find? (fun e => u ≤ e.1) with
  | some e => e.2
  | none => 0x31

/-- Transports enabled: bit 0 Ethernet, bit 1 IPv4, bit 2 IPv6 (R399). -/
def Mach.transports (m : Mach) : Nat :=
  b2n (m.b TIME_PTP_CFG_L2) + 2 * b2n (m.b TIME_PTP_CFG_IP4 && m.r TIME_PTP_IP4_ALL != 0) + 4 * b2n (m.b TIME_PTP_CFG_IP6)

/-- Every condition of R398 holds. -/
def Mach.ptpSending (m : Mach) : Bool :=
  m.isActive && m.stepped && m.transports != 0 && m.r INTC_BLK_FAULT_STATE 23 != 3

/-- The row of R398 in force: clockClass, clockAccuracy, timeSource. -/
def Mach.ptpRow (m : Mach) : Nat × Nat × Nat :=
  let st := m.timeState
  let src := if m.time.lastUsed == 2 then 0x90 else 0x20
  let u := m.r TIME_UNCERT_ALL
  if m.b TIME_CTRL_MANUAL || st == sFREE then (248, 0xFE, 0xA0)
  else if st == sLOCKED then (6, 0x21, src)
  else if st == sHOLDOVER || (st == sRECOVERING && u ≤ 1000 * m.r TIME_HOLD_CFG_LIMIT_US) then (7, accClass u, src)
  else (187, 0xFE, src)

/-- An announced leap second: LEAP61 or LEAP59 from 12 h before it until it (R398); with it the offset of UTC changes (DEDUCED,
log entry 61). -/
def Mach.leapShow (m : Mach) : Mach :=
  let past := m.stepped && m.time.leap.any (fun e => e.2 + b2n e.1 ≤ m.time.sec)
  let off := m.r TIME_UTC_OFFSET
  let m := match past, m.time.leap with
    | true, some (ins, _) =>
      ({ m with time := { m.time with leap := none } }).w TIME_UTC_OFFSET (if ins then off + 1 else off - 1)
    | _, _ => m
  let soon := fun (ins : Bool) =>
    m.stepped && m.time.leap.any (fun e => e.1 == ins && m.time.sec < e.2 && e.2 ≤ m.time.sec + 43200)
  (m.wb TIME_UTC_LEAP61 (soon true)).wb TIME_UTC_LEAP59 (soon false)

/-- TIME_STATUS, TIME_UTC and TIME_PTP_STATUS follow the state. -/
def Mach.timeShow (m : Mach) : Mach :=
  let m := m.leapShow
  let st := m.timeState + 8 * b2n (m.b TIME_CTRL_MANUAL) + 16 * b2n (m.b TIME_UTC_UTC_VALID)
  let m := m.w TIME_STATUS_STATUS st
  let src := if m.timeState == sFREE then 4 else m.time.used
  let m := m.w TIME_SRC_STATUS_SOURCE src
  let (cls, acc, ts) := if m.ptpSending then m.ptpRow else (0, 0, 0)
  ((m.w TIME_PTP_STATUS_CLASS cls).w TIME_PTP_STATUS_ACCURACY acc).w TIME_PTP_STATUS_SOURCE ts |>.wb
    TIME_PTP_STATUS_SENDING m.ptpSending

/-- TIME_UNCERT, saturating. -/
def Mach.setUncert (m : Mach) (u : Nat) : Mach := m.w TIME_UNCERT_ALL (min u 0xFFFFFFFF)

/-- STATE changes, with its event. -/
def Mach.setTimeState (m : Mach) (st : Nat) : Mach :=
  let old := m.timeStatus
  if old % 8 == st then m.timeShow
  else
    let m := (m.w TIME_STATUS_STATUS (old - old % 8 + st)).timeShow
    m.event 0x0501 1 29 (le 1 old ++ le 1 m.timeStatus ++ le 4 (m.r TIME_UNCERT_ALL))

/-! ### Compare channels (R393 to R395) -/

def Mach.cmp (m : Mach) (k : Nat) : CmpChan := Tabs.val m.time.cmps {} k

/-- The pin a channel drives (R393, R405): PPS_OUT, PPS_OUT2, a GPIO, or none. -/
def Mach.cmpPin (m : Mach) (k : Nat) : Option Nat :=
  if k < 2 then some k else if m.r TIME_CMP_CFG_OUT k == 0 then none else some (m.r TIME_CMP_CFG_OUT k + 1)

/-- A channel's output goes to its active or inactive level (R394, R405). -/
def Mach.cmpDrive (m : Mach) (k : Nat) (active : Bool) : Mach :=
  match m.cmpPin k with
  | some p => m.emit (.compareOut p (active != m.b TIME_CMP_CFG_POL k))
  | none => m

def Mach.setCmp (m : Mach) (k : Nat) (c : CmpChan) : Mach :=
  let drive := (m.cmp k).active != c.active
  let m := { m with time := { m.time with cmps := Tabs.put m.time.cmps k c } }
  ((m.wb TIME_CMP_STATUS_ARMED c.armed.isSome k).wb TIME_CMP_STATUS_RUNNING (c.active && c.periodic) k).when drive
    (fun m => m.cmpDrive k c.active)

/-- A channel is periodic: a change of PERIODIC takes effect when it is idle (R405). -/
def Mach.cmpPeriodic (m : Mach) (k : Nat) : Bool :=
  if (m.cmp k).active then (m.cmp k).periodic
  else if (m.cmp k).armed.isSome then false
  else m.b TIME_CMP_CFG_PERIODIC k

/-- The output of a one-shot compare goes active at a time and its descriptor completes. -/
def Mach.cmpFire (m : Mach) (k : Nat) (d : Desc) (at_ st : Nat) : Mach :=
  let c := m.cmp k
  (m.setCmp k { c with armed := none, active := true, periodic := false, endAt := at_ + 1000 * m.r TIME_CMP_WIDTH_WIDTH_US k }).complete d st
    (st80 at_)

/-- R44 decides a target accepted or waiting: armed until its time, run at once with LATE, or EXPIRED. -/
def Mach.cmpDecide (m : Mach) (k : Nat) (d : Desc) (target : Nat) (lateness : Int) : Mach :=
  match dueOf lateness (1000000 * (m.r TIME_CMP_CFG_LATE_WIN k : Int)) with
  | .onTime => m.setCmp k { m.cmp k with armed := some (d, target) }
  | .late => m.cmpFire k d m.totalNs stLATE
  | .expired => (m.setCmp k { m.cmp k with armed := none }).complete d stEXPIRED

/-- LATE_COMPARE_EVALUATION (R384): every compare armed before the step. -/
def Mach.cmpsAtStep (m : Mach) : Mach :=
  m.each (List.range 16) (fun m k => match (m.cmp k).armed with
    | some (d, t) => m.cmpDecide k d t ((m.totalNs : Int) - t)
    | none => m)

/-- COMPARE_SET. -/
def compareSet (d : Desc) (m : Mach) : Mach :=
  m.desc 0x0502 d (fun d m =>
    let k := Descs.fld d 18 1
    let wrap := m.b TIME_CMP_CFG_MODE k
    let ns := Descs.fld d 26 4
    let c := m.cmp k
    match firstOf [(k > 15 || (!wrap && ns ≥ 1000000000), stRANGE), (!m.takes .time, stNOT_ENABLED),
        (wrap && !m.stepped, stNO_TIME), (m.cmpPeriodic k || c.armed.isSome, 0x12)] with
    | some st => m.complete d st
    | none =>
      if wrap then
        let late := diff32 m.st32 (Descs.fld d 20 4)
        m.cmpDecide k d ((m.totalNs : Int) - late).toNat late
      else
        let t := Descs.fld d 20 6 * 1000000000 + ns
        if m.stepped then m.cmpDecide k d t ((m.totalNs : Int) - t) else m.setCmp k { c with armed := some (d, t) })

def execCompareSet (d : Desc) (s : State) : Res := s.on (compareSet d)

/-- COMPARE_CANCEL. -/
def compareCancel (d : Desc) (m : Mach) : Mach :=
  m.desc 0x0503 d (fun d m =>
    let k := Descs.fld d 18 1
    match firstOf [(k > 15, stRANGE), (!m.takes .time, stNOT_ENABLED)] with
    | some st => m.complete d st
    | none => match (m.cmp k).armed with
      | some (e, _) => ((m.setCmp k { m.cmp k with armed := none }).complete e 0x13).complete d stOK (le 1 0)
      | none => m.complete d stOK (le 1 1))

def execCompareCancel (d : Desc) (s : State) : Res := s.on (compareCancel d)

/-- A time in ns falls before the end of the tick in progress. -/
def Mach.byTickEnd (m : Mach) (t : Nat) : Bool := t / 1000000 ≤ m.totalNs / 1000000

/-- COMPARE_MATCH: the clock reaches an armed target in this tick; outputs stay inactive until the step (R395). -/
def compareMatch (k : Nat) (m : Mach) : Mach :=
  match (m.cmp k).armed with
  | some (d, t) => if m.stepped && m.byTickEnd t then m.cmpFire k d t stOK else m
  | none => m

def execCompareMatch (k : Fin 16) (s : State) : Res := s.on (compareMatch k)

/-- A compare channel's output is wired anew (R405): a pin it no longer drives goes to its inactive level, the one it drives takes
the level of its state. -/
def Mach.cmpRewired (m b : Mach) (k : Nat) : Mach :=
  let pol := b.b TIME_CMP_CFG_POL k
  if b.cmpPin k == m.cmpPin k && pol == m.b TIME_CMP_CFG_POL k then m
  else
    let m := match b.cmpPin k with
      | some p => m.when (m.cmpPin k != some p) (fun m => m.emit (.compareOut p pol))
      | none => m
    m.cmpDrive k (m.cmp k).active

/-- COMPARE_PERIODIC_PULSE: at a site time whose total nanoseconds are a multiple of the period, in the step's own tick one not
before the step. A width not below the period is treated as half of it. -/
def comparePeriodicPulse (k : Nat) (m : Mach) : Mach :=
  let c := m.cmp k
  let ms := m.totalNs / 1000000
  let p := m.r TIME_CMP_PERIOD_PERIOD_MS k
  if m.stepped && m.takes .time && m.cmpPeriodic k && ms % p == 0 && c.pulseMs != some ms &&
      (m.time.stepTick != some m.now || m.totalNs == ms * 1000000) then
    let w := 1000 * m.r TIME_CMP_WIDTH_WIDTH_US k
    let w := if w ≥ 1000000 * p then 500000 * p else w
    m.setCmp k { c with active := true, periodic := true, endAt := ms * 1000000 + w, pulseMs := some ms }
  else m

def execComparePeriodicPulse (k : Fin 16) (s : State) : Res := s.on (comparePeriodicPulse k)

/-- COMPARE_PULSE_END. -/
def comparePulseEnd (k : Nat) (m : Mach) : Mach :=
  let c := m.cmp k
  if c.active && m.byTickEnd c.endAt then m.setCmp k { c with active := false } else m

def execComparePulseEnd (k : Fin 16) (s : State) : Res := s.on (comparePulseEnd k)

/-! ### The one step (R382 to R384) -/

/-- A time before the origin of R11. -/
def beforeOrigin (sec : Nat) : Bool := sec < originSec

/-- TIME_STEP: the clock takes a time in ns; the tick in progress ends (R27), TX_OK may rise (R241), armed compares are
judged again, the offsets measured are those from the new time. It is made at the local time `at_`, the tick's own or that of an
edge within it. Source 4 is the host-forced free start. -/
def Mach.timeStep (m : Mach) (src at_ ns err : Nat) : Mach :=
  let delta : Int := (ns : Int) - at_
  let t := m.time.setFine (ns * 2 ^ 32)
  let used := if src == 4 then 0 else src
  let m := { m with time := { t with
    stepTick := some m.now, used := used, lastUsed := used, within := 0, u0 := err + 50
    gnssOff := t.gnssOff.map (fun o => o - delta), extOff := t.extOff.map (fun o => o - delta)
    lastPps := t.lastPps.map (fun p => ((p : Int) + delta).toNat) },
                     red := { m.red with tt := m.red.tt + delta } }
  let m := ((m.w TIME_STATUS_STEP_LOCK 1).w TIME_STEP_PT_ALL m.pt).event 0x0502 1 29 (le 1 src ++ st80 ns)
  let m := m.setUncert (if src == 4 then 0xFFFFFFFF else err + 100)
  let m := m.setTimeState (if src == 4 then sFREE else sRECOVERING)
  m.airRefresh.cmpsAtStep.signShow

/-- A step from a source, EXTERNAL's at its edge, which leaves the clock within `tol` ns of it: the error is open. -/
def Mach.stepFrom (m : Mach) (src : Nat) (off : Int) (tol : Nat) : Mach :=
  let (f, m) := m.draw
  let e : Int := ((f % (2 * tol + 1) : Nat) : Int) - tol
  let at_ := if src == 2 then m.time.lastPps.getD m.totalNs else m.totalNs
  m.timeStep src at_ ((at_ : Int) + off + e).toNat e.natAbs

/-- SET_FREE_TIME (R382, R383, R402). -/
def setFreeTime (d : Desc) (m : Mach) : Mach :=
  m.desc 0x0500 d (fun d m =>
    let sec := Descs.fld d 16 6
    let ns := Descs.fld d 22 4
    match firstOf [(beforeOrigin sec || ns ≥ 1000000000, stRANGE), (!m.isActive, stNOT_ACTIVE_ROLE)] with
    | some st => m.complete d st
    | none =>
      if m.stepped then (m.inc TIME_STEP_REFUSED_ALL).complete d 0x10
      else if !m.b TIME_SRC_CFG_FREE_EN then m.complete d 0x11
      else
        let m := m.timeStep 4 m.totalNs (sec * 1000000000 + ns) 0
        m.complete d stOK (le 6 sec ++ le 4 ns ++ le 1 m.timeStatus))

def execSetFreeTime (d : Desc) (s : State) : Res := s.on (setFreeTime d)

/-! ### Sources (R381, R385, R387) -/

/-- A source's bit of QUALIFIED, and whether it is set. -/
def Mach.qual (m : Mach) (src : Nat) : Bool := (m.r TIME_SRC_STATUS_QUALIFIED).testBit (src - 1)
def Mach.setQual (m : Mach) (src : Nat) (v : Bool) : Mach :=
  let old := m.r TIME_SRC_STATUS_QUALIFIED
  m.w TIME_SRC_STATUS_QUALIFIED (old - (bits old (src - 1) 1 <<< (src - 1)) + (b2n v <<< (src - 1)))

/-- The first qualified source in the role's order (R381). -/
def Mach.timeCand (m : Mach) : Option Nat :=
  (if m.isStandby then [3, 1, 2] else [1, 2]).find? m.qual

/-- The offset last measured of a source: the source's time minus the local clock. -/
def Mach.srcOffset (m : Mach) (src : Nat) : Int :=
  if src == 1 then m.time.gnssOff.getD 0 else if src == 2 then m.time.extOff.getD 0 else -m.red.tt

/-- The offset lies within the acceptance limit of R385. -/
def Mach.near (m : Mach) (src : Nat) : Bool := (m.srcOffset src).natAbs ≤ 1000000 * m.r TIME_SLEW_CFG_RECOVER_MAX_MS

/-- The mean of the frequency terms kept. -/
def freqMean (l : List Int) : Int := if l.isEmpty then 0 else l.sum / l.length

/-- SOURCE_LOST (R387): HOLDOVER with the frequency term frozen and the slew term 0. -/
def Mach.timeLost (m : Mach) : Mach :=
  let mean := freqMean m.time.freqHist
  let m := { m with time := { m.time with used := 0, within := 0, frozen := some mean } }
  let m := if m.b TIME_CTRL_MANUAL then m else { m with time := { m.time with addendNext := some (clampAddend mean) } }
  m.setTimeState sHOLDOVER

/-- A source taken into use. -/
def Mach.useSource (m : Mach) (src st : Nat) : Mach :=
  let m := { m with time := { m.time with used := src, lastUsed := src, within := 0 } }
  let m := m.setUncert ((m.srcOffset src).natAbs + (if st == sLOCKED then 50 else 100))
  (m.w TIME_SRC_STATUS_FAR 0).setTimeState st

/-- A qualified source that cannot be accepted yet: SOURCE_FAR, unless only MANUAL holds it back. -/
def Mach.notAccepted (m : Mach) (src : Nat) : Mach :=
  if m.near src then m.w TIME_SRC_STATUS_FAR 0
  else if m.b TIME_SRC_STATUS_FAR then m
  else (m.w TIME_SRC_STATUS_FAR 1).event 0x0503 2 29 (le 1 src ++ le 8 (unsgn 64 (m.srcOffset src)))

/-- Acceptance of a qualified source when none is in use (R385). -/
def Mach.tryAccept (m : Mach) (src : Nat) : Mach :=
  if !m.b TIME_CTRL_MANUAL && m.near src then m.useSource src sRECOVERING else m.notAccepted src

/-- A unit steps from a source now: EXTERNAL only at an edge; a standby only from MATE while the link is up (R383,
R428). -/
def Mach.mayStep (m : Mach) (src : Nat) (edge : Bool) : Bool :=
  (src != 2 || edge) && (src == 3 || !m.isStandby || m.mirror == 0)

/-- A qualified source taken in use in place of another qualified one (R381): no source is lost, so STATE stays, and the ten
seconds of R380 run on (DEDUCED, log entry 43). -/
def Mach.changeSource (m : Mach) (c : Nat) : Mach :=
  let n := m.time.within
  let m := m.useSource c m.timeState
  { m with time := { m.time with within := n } }

/-- The source that a unit which takes over uses in place of MATE: LOCKED within 100 ns, else RECOVERING (R429). -/
def Mach.succeedMate (m : Mach) (c : Nat) : Mach := m.useSource c (if (m.srcOffset c).natAbs ≤ 100 then sLOCKED else sRECOVERING)

/-- The source in use follows qualification (R381 to R387): one that is lost gives HOLDOVER, whatever is accepted then. -/
def Mach.timeEval (m : Mach) (edge : Bool) : Mach :=
  let u := m.time.used
  match m.timeCand with
  | none => let m := m.w TIME_SRC_STATUS_FAR 0
            if m.stepped && u != 0 then m.timeLost else m
  | some c =>
    if !m.stepped then (if m.mayStep c edge then m.stepFrom c (m.srcOffset c) (if c == 2 then 50 else 200) else m)
    else if u == 0 then m.tryAccept c
    else if u == c then m
    else if !m.qual u then m.timeLost.tryAccept c
    else if !m.b TIME_CTRL_MANUAL && m.near c then m.changeSource c
    else m.notAccepted c

/-- A source whose enable reads 0 is not qualified (R381). -/
def Mach.sourcesEnabled (m : Mach) : Mach :=
  let m := m.when (!m.b TIME_SRC_CFG_GNSS_EN) (fun m => m.setQual 1 false)
  let m := m.when (!m.b TIME_SRC_CFG_EXT_EN) (fun m => m.setQual 2 false)
  let m := m.when (!m.b TIME_SRC_CFG_MATE_EN) (fun m => ({ m with time := { m.time with mateRun := 0 } }).setQual 3 false)
  (m.timeEval false).timeShow

/-! ### TIME_MEASUREMENT (R386, R387, R596) -/

/-- GNSS holds its condition at this measurement. -/
def Mach.gnssOk (m : Mach) (i : TimeMeas) : Bool :=
  i.gnss.isSome && 5 ≤ i.sats && !i.integ && !m.b GNSS_DA_STATUS_SPOOF && m.b TIME_SRC_CFG_GNSS_EN

/-- Qualification of GNSS: 10 s of its condition; lost 3 s after the last qualified solution. -/
def Mach.gnssMeasure (m : Mach) (i : TimeMeas) : Mach :=
  let ok := m.gnssOk i
  let run := if ok then m.time.gnssRun + 1 else 0
  let miss := if ok then 0 else m.time.gnssMiss + 1
  let q := if m.qual 1 then decide (miss < 3) else decide (11 ≤ run)
  let off := if ok then i.gnss else m.time.gnssOff
  ({ m with time := { m.time with gnssRun := min run 11, gnssMiss := min miss 3, gnssOff := off } }).setQual 1 q

/-- EXTERNAL holds its condition at this measurement: its edges come 1 s ± 1 ms apart. -/
def Mach.extOk (m : Mach) : Bool := m.time.ppsGood && m.b TIME_SRC_CFG_EXT_EN

/-- Qualification of EXTERNAL: 5 s of its condition, and SET_EXT_TOD has named the seconds of an edge; it is lost at an edge
or for want of one (R381, R596). -/
def Mach.extMeasure (m : Mach) : Mach :=
  let run := if m.extOk then min (m.time.ppsRun + 1) 6 else 0
  ({ m with time := { m.time with ppsRun := run } }).setQual 2 (m.extOk && m.time.extSec.isSome && (m.qual 2 || run == 6))

/-- The numerator of U(t), in 10^-6 ns (R387). -/
def Mach.uncertAt (m : Mach) (t : Nat) : Nat :=
  1000000 * m.time.u0 + 10000 * m.r TIME_HOLD_Y_HOLD_Y * t + m.r TIME_HOLD_D_HOLD_D * t * t

/-- ADDEND as the sum of the frequency term and the limited slew term (R386); after holdover or manual mode the frequency term starts
from the one then in force (R389, R390). -/
def Mach.steer (m : Mach) (i : TimeMeas) : Mach :=
  let lim : Int := (m.r TIME_SLEW_CFG_RATE_PPM * 17179869184 / 1000000 : Nat)
  let freq := m.time.frozen.getD i.freq
  let hist := m.time.freqHist ++ [freq]
  let m := { m with time := { m.time with freqHist := hist.drop (hist.length - 100) } }
  if m.b TIME_CTRL_MANUAL then m
  else { m with time := { m.time with addendNext := some (clampAddend (freq + clampInt lim i.slew)), frozen := none } }

/-- A measurement of the source in use: U0, TIME_UNCERT, the ten seconds within 100 ns. -/
def Mach.usedMeasure (m : Mach) (i : TimeMeas) : Mach :=
  let off := (m.srcOffset m.time.used).natAbs
  let within := if off ≤ 100 then min (m.time.within + 1) 11 else 0
  let m := { m with time := { m.time with u0 := off + 50, within := within } }
  let m := (m.steer i).w TIME_HOLD_S_ALL 0
  let lock := m.timeState == sRECOVERING && within == 11
  let m := m.setUncert (if lock || m.timeState == sLOCKED then off + 50 else off + 100)
  if lock then m.setTimeState sLOCKED else m

/-- A second without a measurement of the source in use: holdover is evaluated. -/
def Mach.holdMeasure (m : Mach) : Mach :=
  let m := m.incBy TIME_HOLD_S_ALL 1
  let st := m.timeState
  if st == sHOLDOVER || st == sHOLDOVER_LIMIT then
    let u := m.uncertAt (m.r TIME_HOLD_S_ALL)
    let m := m.setUncert (u / 1000000)
    if st == sHOLDOVER && u > 1000000000 * m.r TIME_HOLD_CFG_LIMIT_US then m.setTimeState sHOLDOVER_LIMIT else m
  else m

/-- The source in use has been measured at this measurement. -/
def Mach.wasMeasured (m : Mach) (i : TimeMeas) : Bool :=
  let u := m.time.used
  u != 0 && m.qual u && (u != 1 || m.gnssOk i)

/-- TIME_MEASUREMENT: once per second. -/
def timeMeasurement (i : TimeMeas) (m : Mach) : Mach :=
  if m.time.measAt.any (fun t => decide (m.now < t + 1000)) then m
  else
    let m := { m with time := { m.time with measAt := some m.now } }
    let m := match i.utc with
      | some (o, leap) =>
        ({ m with time := { m.time with leap := leap } }).w TIME_UTC_OFFSET o.toNat |>.w TIME_UTC_UTC_VALID 1
      | none => m
    let stepped := m.stepped
    let m := (m.gnssMeasure i).extMeasure
    let m := match m.timeCand with
      | some c => m.wi TIME_OFFSET_ALL (sat32 (m.srcOffset c))
      | none => m
    let m := m.timeEval false
    let m := if stepped then (if m.wasMeasured i then m.usedMeasure i
      else if m.timeState == sFREE then m else m.holdMeasure) else m
    m.timeShow

def execTimeMeasurement (i : TimeMeas) (s : State) : Res := s.on (timeMeasurement i)

/-- TIME_ADDEND_WRITE (R378, R390): only in manual mode; it takes effect at the next tick boundary. -/
def timeAddendWrite (master : Nat) (v : Int) (m : Mach) : Mach :=
  if m.hears master && m.b TIME_CTRL_MANUAL then { m with time := { m.time with addendNext := some (clampAddend v) } } else m

def execTimeAddendWrite (a : Fin 16) (v : BitVec 32) (s : State) : Res := s.on (timeAddendWrite a v.toInt)

/-- A high word captured for a master (R6). -/
def Mach.capture (m : Mach) (master off : Nat) (v : Nat) : Mach :=
  { m with hif := { m.hif with wide := Tabs.put m.hif.wide (16 * off + master) (BitVec.ofNat 32 v) } }

/-- TIME_NOW_READ (R404): the nanoseconds; the seconds are captured for the master's next reads. The host reads 0
before READY (R566). -/
def timeNowRead (master : Nat) (m : Mach) : Mach :=
  if !m.hears master then m.deafRead master 0x100008
  else
    let m := (m.capture master 0x10000C m.time.sec).capture master 0x100010 (m.time.sec / 2 ^ 32)
    m.emit (.read master 0x100008 (BitVec.ofNat 32 m.time.ns))

def execTimeNowRead (a : Fin 16) (s : State) : Res := s.on (timeNowRead a)

/-- SET_EXT_TOD: it waits for the next PPS_IN edge; a second one meanwhile is BUSY. -/
def setExtTod (d : Desc) (m : Mach) : Mach :=
  m.desc 0x0501 d (fun d m =>
    let sec := Descs.fld d 16 6
    match firstOf [(beforeOrigin sec, stRANGE), (!m.isActive, stNOT_ACTIVE_ROLE), (!m.b TIME_SRC_CFG_EXT_EN, 0x11),
        (m.time.extTod.isSome, stBUSY)] with
    | some st => m.complete d st
    | none => { m with time := { m.time with extTod := some (d, sec) } })

def execSetExtTod (d : Desc) (s : State) : Res := s.on (setExtTod d)

/-- PPS_IN_EDGE_TIMEOUT (R381). -/
def ppsInEdgeTimeout (m : Mach) : Mach :=
  match m.time.lastPps with
  | some t =>
    if t + 1500000000 ≤ m.totalNs then
      (({ m with time := { m.time with lastPps := none, ppsRun := 0, ppsGood := false, extSec := none } }).setQual 2
        false).timeEval false
    else m
  | none => m

def execPpsInEdgeTimeout (s : State) : Res := s.on ppsInEdgeTimeout

/-! ### Captures (R391, R392) -/

def Mach.fifo (m : Mach) (k : Nat) : CapFifo := Tabs.val m.time.caps {} k
def Mach.setFifo (m : Mach) (k : Nat) (f : CapFifo) : Mach :=
  ({ m with time := { m.time with caps := Tabs.put m.time.caps k f } }).w TIME_CAP_STATUS_LEVEL f.entries.length k

/-- The 16 bytes of an entry (R392). -/
def CapEntry.bytes (e : CapEntry) : List Byte := le 1 e.chan ++ le 1 e.flags ++ le 6 e.sec ++ le 4 e.ns ++ le 4 0

/-- Entries held on the channels of a mask, oldest first. -/
def Mach.capHeld (m : Mach) (mask : Nat) : List CapEntry :=
  sortBy (fun a b => a.order < b.order) (((List.range 16).filter mask.testBit).flatMap (fun k => (m.fifo k).entries))

/-- A CAPTURE_READ with entries held writes them and completes. -/
def Mach.capServe (m : Mach) (d : Desc) : Mach :=
  let mask := Descs.fld d 20 2
  let held := m.capHeld mask
  let l := held.take (Descs.len d / 16)
  let m := m.each l (fun m e => m.setFifo e.chan { m.fifo e.chan with
    entries := (m.fifo e.chan).entries.filter (fun g => g.order != e.order) })
  (m.bufWr d 0 (l.flatMap CapEntry.bytes)).complete d stOK (le 2 l.length ++ le 2 (held.length - l.length))

/-- CAPTURE_READ. -/
def captureRead (d : Desc) (m : Mach) : Mach :=
  m.desc 0x0504 d (fun d m =>
    match firstOf [(!Descs.buf d || Descs.len d < 16, stRANGE), (!m.takes .time, stNOT_ENABLED)] with
    | some st => m.complete d st
    | none =>
      if (m.capHeld (Descs.fld d 20 2)).isEmpty then
        { m with time := { m.time with capReads := m.time.capReads ++ [d] } }
      else m.capServe d)

def execCaptureRead (d : Desc) (s : State) : Res := s.on (captureRead d)

/-- Waiting CAPTURE_READs whose mask holds an entry are served, oldest first. -/
def Mach.capWake (m : Mach) : Mach :=
  let l := m.time.capReads
  m.each l (fun m d =>
    if (m.capHeld (Descs.fld d 20 2)).isEmpty then m
    else ({ m with time := { m.time with capReads := m.time.capReads.filter (fun e => e != d) } }).capServe d)

/-- The edge is one that the channel's EDGE selects; channels 5 to 15 take every SFD. -/
def Mach.edgeOk (m : Mach) (k : Nat) (falling : Bool) : Bool :=
  k > 4 || m.r TIME_CAP_CFG_EDGE k == 2 || m.r TIME_CAP_CFG_EDGE k == b2n falling

/-- An edge stored in its channel's FIFO, its entry passing stream queue 22 as one message (R456, log entry 49), or dropped where
that is full. -/
def Mach.capStore (m : Mach) (k t : Nat) (half falling : Bool) : Mach :=
  let f := m.fifo k
  if f.entries.length ≥ 16 then
    let m := m.setFifo k { f with overflow := true }
    (m.incBy TIME_CAP_STATUS_DROPS 1 k).event 0x0505 2 29 (le 1 k)
  else
    let fl := b2n (!m.stepped) + 2 * b2n falling + 4 * b2n f.overflow + 8 * b2n half
    let e : CapEntry := ⟨k, fl, t / 1000000000, t % 1000000000, m.time.capOrder⟩
    let m := ((m.setFifo k { entries := f.entries ++ [e], overflow := false }).streamWrite 22 e.bytes).streamEnd 22 true
    ({ m with time := { m.time with capOrder := m.time.capOrder + 1 } }).capWake

/-- A PPS_IN edge as EXTERNAL takes it (R381): its spacing, the second it names, its offset; an edge away from its instant ends
its qualification, and a step from EXTERNAL is made at an edge (R383). -/
def Mach.ppsEdge (m : Mach) (t : Nat) : Mach :=
  let good := m.time.lastPps.any (fun p => (((t : Int) - p - 1000000000).natAbs ≤ 1000000 : Bool))
  let (m, sec) := match m.time.extTod with
    | some (d, s) =>
      let m := { m with time := { m.time with extTod := none } }
      (m.complete d stOK (le 6 s ++ le 4 (t % 1000000000)), some s)
    | none => (m, if good then m.time.extSec.map (fun s => s + 1) else none)
  let off := sec.map (fun s => ((s * 1000000000 : Nat) : Int) - t)
  let m := { m with time := { m.time with lastPps := some t, ppsGood := good, extSec := sec, extOff := off } }
  let m := if good then m else ({ m with time := { m.time with ppsRun := 0 } }).setQual 2 false
  m.timeEval true

/-- CAPTURE_INPUT_EDGE: an edge at a place within the tick. Channel 0 feeds EXTERNAL whether or not it captures. -/
def captureInputEdge (k ns : Nat) (half falling : Bool) (m : Mach) : Mach :=
  if !m.edgeOk k falling then m
  else
    let t := m.totalNs / 1000000 * 1000000 + ns
    let m := if m.b TIME_CAP_CFG_EN k && m.takes .time then m.capStore k t half falling else m
    if k == 0 then m.ppsEdge t else m

def execCaptureInputEdge (k : Fin 16) (ns : Fin 1000000) (half falling : Bool) (s : State) : Res :=
  s.on (captureInputEdge k ns half falling)

/-! ### PTP (R397 to R401) -/

/-- The EUI-64 of the clock. -/
def Mach.clockId (m : Mach) : Nat := m.r TIME_PTP_CLKID_LO_ALL + 2 ^ 32 * m.r TIME_PTP_CLKID_HI_ALL

/-- A peer delay message, and an event message, which IEEE 1588 sends to UDP port 319 (PRESUMED, log entry 45). -/
def PtpMsg.peer : PtpMsg → Bool
  | .pdelayReq _ _ | .pdelayResp _ _ _ _ => true
  | _ => false
def PtpMsg.isEvent : PtpMsg → Bool
  | .announce _ _ _ _ _ _ _ _ _ _ _ _ _ | .delayResp _ _ _ _ => false
  | _ => true

/-- portNumber of the one PTP port (R397), and announceReceiptTimeout (R399), which no message carries and a clock that is
masterOnly never waits for. -/
def ptpPortNumber : Nat := 1
def announceReceiptTimeout : Nat := 3

/-- How a message leaves on a transport (R399). -/
def Mach.ptpVia (m : Mach) (t : Nat) (p : PtpMsg) : PtpVia :=
  let port := if p.isEvent then 319 else 320
  let domain := m.r TIME_PTP_CFG_DOMAIN
  match t with
  | 0 => ⟨0, 0x88F7, if p.peer then 0x0180C200000E else 0x011B19000000, 0, 0, false, m.clockId, ptpPortNumber, domain⟩
  | 1 => ⟨1, 0x0800, if p.peer then 0xE000006B else 0xE0000181, m.r TIME_PTP_IP4_ALL, port, false, m.clockId, ptpPortNumber, domain⟩
  | _ => ⟨2, 0x86DD, (if p.peer then 0xFF02 else 0xFF0E) * 2 ^ 112 + (if p.peer then 0x6B else 0x181),
      0xFE80 * 2 ^ 112 + m.clockId, port, true, m.clockId, ptpPortNumber, domain⟩

/-- A message of the ordinary clock or of a port of the switch: on every transport enabled. -/
def Mach.ptpSend (m : Mach) (p : PtpMsg) : Mach :=
  { m with out := m.out ++ ((List.range 3).filter m.transports.testBit).map (fun t => .ptp (m.ptpVia t p) p) }

/-- The interval of a message, 2 to the power `log` seconds, has gone by since the last one of its kind (R399). -/
def Mach.ptpDue (m : Mach) (kind : Nat) (log : Int) : Bool :=
  match Tabs.look m.time.ptpAt kind with
  | none => true
  | some t => decide (16 * t + 1000 * 2 ^ (log + 4).toNat ≤ 16 * m.now)

/-- A message of a kind has been sent in this tick. -/
def Mach.ptpSent (m : Mach) (kind : Nat) : Mach := { m with time := { m.time with ptpAt := Tabs.put m.time.ptpAt kind m.now } }

/-- PTP_SYNC_SEND, once in its interval. -/
def ptpSyncSend (m : Mach) : Mach :=
  if m.ptpSending && m.ptpDue 0 (m.ri TIME_PTP_INTV_LOG_SYNC) then
    let m := (m.ptpSend (.sync m.time.seqSync (2 * m.totalNs))).ptpSent 0
    { m with time := { m.time with seqSync := (m.time.seqSync + 1) % 2 ^ 16 } }
  else m

def execPtpSyncSend (s : State) : Res := s.on ptpSyncSend

/-- PTP_ANNOUNCE_SEND (R398), once in its interval; offsetScaledLogVariance is 0x4E5D (R397). -/
def ptpAnnounceSend (m : Mach) : Mach :=
  if m.ptpSending && m.ptpDue 1 (m.r TIME_PTP_INTV_LOG_ANN) then
    let (cls, acc, src) := m.ptpRow
    let m := (m.ptpSend (.announce m.time.seqAnn (m.r TIME_PTP_CFG_PRIO1) (m.r TIME_PTP_CFG_PRIO2)
      0x4E5D cls acc src (cls == 6 || cls == 7) (m.r TIME_UTC_OFFSET) (m.b TIME_UTC_UTC_VALID) (m.b TIME_UTC_LEAP61)
      (m.b TIME_UTC_LEAP59) true)).ptpSent 1
    { m with time := { m.time with seqAnn := (m.time.seqAnn + 1) % 2 ^ 16 } }
  else m

def execPtpAnnounceSend (s : State) : Res := s.on ptpAnnounceSend

/-- DELAY_REQ_RECEIVED: answered in E2E mode. -/
def delayReqReceived (f : PtpReq) (m : Mach) : Mach :=
  if m.ptpSending && !m.b TIME_PTP_CFG_DELAY then
    m.ptpSend (.delayResp f.seq.toNat f.clk.toNat f.port.toNat f.rx)
  else m

def execDelayReqReceived (f : PtpReq) (s : State) : Res := s.on (delayReqReceived f)

/-- PDELAY_REQ_SEND: in P2P mode, once in its interval, with the SFD stamp of its transmission. -/
def pdelayReqSend (p tx : Nat) (m : Mach) : Mach :=
  if m.b TIME_PTP_CFG_DELAY && m.r INTC_BLK_FAULT_STATE 23 != 3 && m.ptpDue (2 + p) (m.ri TIME_PTP_INTV_LOG_PDELAY) then
    let n := Tabs.val m.time.seqPd 0 p
    let m := (m.ptpSend (.pdelayReq p n)).ptpSent (2 + p)
    { m with time := { m.time with seqPd := Tabs.put m.time.seqPd p ((n + 1) % 2 ^ 16), pdOut := Tabs.put m.time.pdOut p (n, tx) } }
  else m

def execPdelayReqSend (p : Fin 2) (tx : Nat) (s : State) : Res := s.on (pdelayReqSend p tx)

/-- PDELAY_REQ_RECEIVED: answered in P2P mode. -/
def pdelayReqReceived (p : Nat) (f : PtpReq) (m : Mach) : Mach :=
  if m.b TIME_PTP_CFG_DELAY && m.r INTC_BLK_FAULT_STATE 23 != 3 then m.ptpSend (.pdelayResp p f.seq.toNat f.clk.toNat f.port.toNat) else m

def execPdelayReqReceived (p : Fin 2) (f : PtpReq) (s : State) : Res := s.on (pdelayReqReceived p f)

/-- PDELAY_RESP_RECEIVED: the answer to the port's own request gives its meanLinkDelay. -/
def pdelayRespReceived (p : Nat) (r : PtpResp) (m : Mach) : Mach :=
  match Tabs.look m.time.pdOut p with
  | some (n, tx) =>
    if m.b TIME_PTP_CFG_DELAY && n == r.seq.toNat then
      let q := r.rx - tx - r.turn
      let m := { m with time := { m.time with pdOut := Tabs.del m.time.pdOut p, links := Tabs.put m.time.links p q } }
      if p == 0 then m.w TIME_PTP_LINK_A_ALL (q / 4) else m.w TIME_PTP_LINK_B_ALL (q / 4)
    else m
  | none => m

def execPdelayRespReceived (p : Fin 2) (f : PtpResp) (s : State) : Res := s.on (pdelayRespReceived p f)

/-- FOREIGN_ANNOUNCE_RECEIVED (R397). -/
def foreignAnnounceReceived (p clk : Nat) (m : Mach) : Mach :=
  (m.inc TIME_PTP_FOREIGN_ALL).event 0x0504 2 29 (le 8 clk ++ le 1 p)

def execForeignAnnounceReceived (p : Fin 2) (clk : BitVec 64) (s : State) : Res := s.on (foreignAnnounceReceived p clk.toNat)

/-- A number of `n` bytes at a place of a frame, high byte first, and a frame with other bytes at a place. -/
def beAt (l : List Byte) (off n : Nat) : Nat := unle ((l.drop off).take n).reverse
def putAt (l : List Byte) (off : Nat) (new : List Byte) : List Byte := l.take off ++ new ++ l.drop (off + new.length)

/-- The frame's transport by its EtherType: 0 Ethernet, 1 UDP/IPv4, 2 UDP/IPv6; where the PTP message begins in it. PRESUMED from
the standards: no VLAN tag and no IP options, the message's fields where IEEE 1588 has them (log entry 45). -/
def PtpFwd.transport (f : PtpFwd) : Nat :=
  let t := beAt f.frame 12 2
  if t == 0x0800 then 1 else if t == 0x86DD then 2 else 0
def PtpFwd.start (f : PtpFwd) : Nat := match f.transport with
  | 0 => 14
  | 1 => 42
  | _ => 62

/-- messageType: a Sync, or a peer delay message. -/
def PtpFwd.sync (f : PtpFwd) : Bool := beAt f.frame f.start 1 % 16 == 0
def PtpFwd.peer (f : PtpFwd) : Bool := beAt f.frame f.start 1 % 16 == 2 || beAt f.frame f.start 1 % 16 == 3

/-- correctionField, in 2^-16 ns. -/
def PtpFwd.corr (f : PtpFwd) : Int := sgn 64 (beAt f.frame (f.start + 8) 8)

/-- The UDP payload holds at least 2 bytes beyond messageLength; where they stand. -/
def PtpFwd.suffixAt (f : PtpFwd) : Nat := f.start + beAt f.frame (f.start + 2) 2
def PtpFwd.suffix (f : PtpFwd) : Bool := beAt f.frame (f.start + 2) 2 + 10 ≤ beAt f.frame (f.start - 4) 2

/-- What the switch adds to correctionField, in 2^-16 ns (R400). -/
def Mach.tcAdd (m : Mach) (f : PtpFwd) : Int :=
  ((f.tx : Int) - f.rx) * 32768 +
  (if m.b TIME_PTP_CFG_DELAY && f.sync && f.inp.val < 2 then ((Tabs.val m.time.links 0 f.inp.val * 16384 : Nat) : Int) else 0)

/-- The sum of the four 16-bit words of a 64-bit number. -/
def wordSum (v : Nat) : Nat := v % 65536 + v / 2 ^ 16 % 65536 + v / 2 ^ 32 % 65536 + v / 2 ^ 48 % 65536

/-- The frame with another correctionField, kept valid but for its FCS (R401): over IPv4 the UDP checksum is 0, over IPv6 the suffix
takes up the change of the one's complement sum. -/
def PtpFwd.corrected (f : PtpFwd) (corr : Int) : List Byte :=
  let old := beAt f.frame (f.start + 8) 8
  let new := unsgn 64 corr
  let l := putAt f.frame (f.start + 8) (le 8 new).reverse
  match f.transport with
  | 0 => l
  | 1 => putAt l (f.start - 2) (le 2 0)
  | _ =>
    let s : Int := (beAt f.frame f.suffixAt 2 : Int) + wordSum old - wordSum new
    putAt l f.suffixAt (le 2 (s % 65535).toNat).reverse

/-- The FCS of a frame: CRC-32 of IEEE 802.3 (PRESUMED, log entry 45). -/
def fcsBits : Nat → Nat → Nat
  | 0, c => c
  | n + 1, c => fcsBits n (if c % 2 = 1 then (c / 2) ^^^ 0xEDB88320 else c / 2)
def withEthFcs (l : List Byte) : List Byte :=
  l ++ le 4 (l.foldl (fun c b => fcsBits 8 (c ^^^ b.toNat)) 0xFFFFFFFF ^^^ 0xFFFFFFFF)

/-- PTP_EVENT_FORWARD (R400, R401): peer delay messages are not forwarded; an IPv6 message without its suffix passes
unchanged. -/
def ptpEventForward (f : PtpFwd) (m : Mach) : Mach :=
  if f.peer || m.r INTC_BLK_FAULT_STATE 23 == 3 then m
  else if f.transport == 2 && !f.suffix then (m.inc TIME_TC_UNCORR_ALL).emit (.ptpFwd f.outp (withEthFcs f.frame))
  else (m.inc TIME_TC_FRAMES_ALL).emit (.ptpFwd f.outp (withEthFcs (f.corrected (f.corr + m.tcAdd f))))

def execPtpEventForward (f : PtpFwd) (s : State) : Res := s.on (ptpEventForward f)

/-! ### Draining (R396) -/

/-- TIME_CTRL.ENABLE written 0. -/
def Mach.timeDrain (m : Mach) : Mach :=
  let armed := (List.range 16).filterMap (fun k => (m.cmp k).armed.map (fun e => (k, e.1)))
  let m := m.each armed (fun m e => (m.setCmp e.1 { m.cmp e.1 with armed := none }).complete e.2 stFLUSHED)
  let reads := m.time.capReads
  let m := { m with time := { m.time with capReads := [] } }
  let m := m.each reads (fun m d => m.complete d stFLUSHED)
  m.flushDelivered (fun d => ([0x0502, 0x0503, 0x0504] : List Nat).contains d.op) stFLUSHED

/-- No pulse is under way. -/
def Mach.timeIdle (m : Mach) : Bool := (List.range 16).all (fun k => !(m.cmp k).active)

/-- R429: a unit that takes over loses MATE at that moment. -/
def Mach.timeTakeover (m : Mach) : Mach :=
  let m := m.setQual 3 false
  let m := { m with time := { m.time with mateRun := 0, mateMiss := 0 } }
  let ready := fun (c : Nat) => !m.b TIME_CTRL_MANUAL && m.near c
  match m.time.used == 3, m.timeCand.filter ready with
  | true, some c => (m.succeedMate c).timeShow
  | _, _ => (m.timeEval false).timeShow

end Sys2Proof.Machine
end

