-- ==== Sys2Proof/Machine/Redundancy.lean ====
section
/-! DEFINITION. Redundancy: the role of the unit, the mate link, mirroring, permit watch and swaps (13). -/

namespace Sys2Proof.Machine

open Sys2Proof

/-! ### Mirror state and synchronisation (R425, R427) -/

/-- ALIVE shows a synchronised standby: SYNC or PERMIT_LOSS (R407). -/
def Mach.drivesSync (m : Mach) : Bool := m.r REDUN_STATUS_ALIVE_CODE == 1 || m.r REDUN_STATUS_ALIVE_CODE == 4

/-- The standby is synchronised (R425); after a planned swap also until MATE qualifies (R413). -/
def Mach.synced (m : Mach) : Bool :=
  m.isStandby && m.mirror == 3 && m.r REDUN_CFG_MISMATCH_ITEMS == 0 &&
    (m.red.carried || (m.time.used == 3 && m.red.tt.natAbs ≤ 200))

/-- ALIVE and WARM of a standby follow its synchronisation (R407, R427). -/
def Mach.syncEval (m : Mach) : Mach :=
  if !m.isStandby then m
  else
    let carried := m.red.carried && m.time.used != 3 && m.mirror == 3
    let m := { m with red := { m.red with carried := carried } }
    if m.synced then
      let m := { m with red := { m.red with warmEnd := none } }
      (m.when (!m.drivesSync) (fun m => (m.setAlive 1).xchkStart)).w REDUN_STATUS_WARM 1
    else
      let m := m.wb REDUN_STATUS_WARM m.red.warmEnd.isSome
      if m.drivesSync then ({ m with red := { m.red with permitMiss := 0 } }).setAlive 2 else m

/-- A bulk transfer begins (R426). -/
def Mach.bulkStart (m : Mach) (want : Bool) : Mach :=
  let m := { m with red := { m.red with bulk := 0, want := want, bulkSeq := none } }
  ((m.setMirror 2).w REDUN_STATUS_BULK_PCT 0).inc REDUN_RESYNCS_ALL

/-- Whether the active unit sees a synchronised standby (R431, R432). -/
def Mach.standbyThere (m : Mach) : Bool := m.mirror == 3 && m.red.mateWarm

/-! ### The mirrored state (R421) -/

/-- The registers mirrored whole, by field, index and word. -/
def mirrorRegs : List (Field × Nat × Nat) :=
  (KILN_AUTH_SITE_CAP_CAP, 0, 0) :: (List.range 64).map (fun z => (KILN_AUTH_ZONE_CAP_CAP, z, 0)) ++
  (List.range 313).map (fun k => (AIR_SF_KIND_A_KINDS, k, 0)) ++ (List.range 313).map (fun k => (AIR_SF_KIND_B_KINDS, k, 0)) ++
  [(AIR_SF_CTRL_BANK, 0, 0), (AIR_JOIN_CTRL_JOIN_OPEN, 0, 0)] ++ (List.range 8).map (fun x => (AIR_LANE_PWR_PWR, x, 0)) ++
  [(TIME_UTC_OFFSET, 0, 0)] ++
  (List.range 8).flatMap (fun a => [(MOT_AX_POS_ALL, a, 0), (MOT_AX_REMAIN_ALL, a, 0)] ++
    (List.range 64).map (fun k => (MOT_TBL_ENTRIES, a, k)))

/-- The mirror region of a register: 0 Kiln, 1 Air, 2 the rest (R426). -/
def mirrorRegion (off : Nat) : Nat :=
  if 0x400000 ≤ off && off < 0x480000 then 0 else if 0x300000 ≤ off && off < 0x400000 then 1 else 2

/-- A key wrapped for the mate under the pair key, and unwrapped (R421): the two units have one pair key, or no stream runs
(R418). -/
def Mach.mateWrap (m : Mach) (k : Nat) : Nat := keyWrap (m.nv.set.pairKey.getD 0) k
def Mach.mateUnwrap (m : Mach) (w : Nat) : Nat := (keyUnwrap (m.nv.set.pairKey.getD 0) w).getD 0

/-- The Air tables with their keys wrapped or unwrapped. -/
def AirTab.wrapped (t : AirTab) (f : Nat → Nat) : AirTab :=
  { t with
    members := t.members.map (fun e => (e.1, { e.2 with key := f e.2.key }))
    resps := t.resps.map (fun e => (e.1, e.2.map (fun r => { r with jkey := f r.jkey, skey := f r.skey }))) }

/-- The credential table with its join keys wrapped or unwrapped. -/
def credsWrapped (t : Tab Cred) (f : Nat → Nat) : Tab Cred := t.map (fun e => (e.1, { e.2 with key := f e.2.key }))

/-- The state an active unit mirrors. -/
def Mach.mirrorOf (m : Mach) : Mirror where
  now := m.now
  store := m.kiln.store.foreign
  map := m.kiln.map
  stage := m.kiln.stage
  stageSt := m.stage
  staged := m.kiln.staged
  mapImage := m.nv.mapImage
  key := m.kiln.key.map m.mateWrap
  keyId := m.r KILN_AUTH_STATUS_KEY_ID
  latches := m.latched
  sample := m.dam.sample
  arm := m.dam.arm
  bursts := m.r DAMP_STATUS_BURSTS_LEFT
  air := m.air.tab.foreign.wrapped m.mateWrap
  served := (m.air.servedPermit, m.air.servedOther)
  bkey := m.air.bkey.map m.mateWrap
  bkId := m.r AIR_KEY_STATUS_BK_ID
  creds := credsWrapped m.nv.set.creds m.mateWrap
  switchAt := m.air.switchAt
  base := m.nv.set.base
  descs := m.nv.set.descs
  setup := m.nv.set.setup
  met := m.metCapture
  mot := m.mot.map (fun e => (e.1, e.2.foreign))
  axStatus := (List.range 8).map (fun a => m.word MOT_AX_STATUS_STATE a)
  shard := m.shard.mate
  txOk := m.b AIR_STATUS_TX_OK
  stepped := m.stepped
  timeState := m.timeStatus % 8
  regs := mirrorRegs.map (fun f => (f.1.off f.2.1 f.2.2, m.word f.1 f.2.1 f.2.2))

/-- The mirrored registers of a region. -/
def Mach.applyRegs (m : Mach) (s : Mirror) (region : Nat) : Mach :=
  m.each (s.regs.filter (fun e => mirrorRegion e.1 == region))
    (fun m e => { m with regs := Tabs.put m.regs e.1 (BitVec.ofNat 32 e.2) })

/-! Times of the stream count the sender's ticks; what is applied counts this unit's own (R150, R313, R318). -/

/-- This unit's tick less the sender's, for state of the tick `pt`: where both clocks have stepped, PT tells how long ago that
tick was; else the frame's own tick stands for it (DESIGN CHOICE, log entry 61). -/
def Mach.tickShift (m : Mach) (s : Mirror) (pt : Nat) : Int :=
  let back := if m.stepped && s.stepped then (diff32 m.pt pt).toNat else 0
  (m.now : Int) - back - s.now

/-- Kiln's store with its ticks moved by `k`. -/
def KilnStore.shift (t : KilnStore) (k : Int) : KilnStore :=
  { t with
    agents := t.agents.map (fun e => (e.1, { e.2 with silentAt := e.2.silentAt + k }))
    park := t.park.map (fun p => { p with tick := p.tick + k }) }

/-- A ledger entry with its ticks moved. -/
def Task.shift (t : Task) (k : Int) : Task :=
  { t with offerDue := t.offerDue + k, doneDue := t.doneDue.map (fun d => d + k), since := t.since + k, leftOffer := t.leftOffer + k }

/-- The Air tables with their ticks moved. -/
def AirTab.shift (t : AirTab) (k : Int) : AirTab :=
  { t with
    members := t.members.map (fun e => (e.1, { e.2 with joined := e.2.joined + k }))
    resps := t.resps.map (fun e => (e.1, e.2.map (fun r => { r with firstAt := r.firstAt.map (fun a => a + k) })))
    auth := t.auth.map (fun e => (e.1, { e.2 with tick := e.2.tick + k }))
    ledger := t.ledger.map (fun e => (e.1, e.2.shift k))
    freeAt := t.freeAt.map (fun e => (e.1, e.2 + k))
    quarAt := t.quarAt.map (fun e => (e.1, e.2 + k)) }

/-- An axis with its ticks moved. -/
def Axis.shift (x : Axis) (k : Int) : Axis :=
  { x with stop := x.stop.map (fun (s : AxisStop) => { s with due := s.due + k }), restAt := x.restAt.map (fun a => a + k) }

/-- Region 0: Kiln's store, maps and authority key (R159, R175). DESIGN CHOICE: the stored image is mirrored itself, none while
the active unit's write runs; KILN_MAP_COMMIT_PT is the PT at which this unit takes the map, and its AREA is its own (log
entry 61). -/
def Mach.applyKiln (m : Mach) (s : Mirror) (pt : Nat) : Mach :=
  let fresh := m.kiln.map != s.map
  let m := m.setStore (s.store.shift (m.tickShift s pt))
  let m := { m with kiln := { m.kiln with map := s.map }, nv := { m.nv with mapImage := s.mapImage } }
  let m := (m.setStage s.stageSt s.stage s.staged).applyRegs s 0
  let m := match s.map with
    | some mp => if fresh then (m.w KILN_MAP_STATUS_AREA m.stagingArea).showMap mp else m
    | none => m.hideMap
  match s.key with
  | some k => m.setAuthKey (m.mateUnwrap k) s.keyId
  | none => m

/-- Region 1: the Air tables, credentials, slot-kind banks, beacon key; the registers that show the tables follow. -/
def Mach.applyAir (m : Mach) (s : Mirror) (pt : Nat) : Mach :=
  let m := (m.setTab ((s.air.wrapped m.mateUnwrap).shift (m.tickShift s pt))).applyRegs s 1
  let m := { m with air := { m.air with switchAt := s.switchAt, wipe := false, servedPermit := s.served.1, servedOther := s.served.2 },
                    nv := { m.nv with set := { m.nv.set with creds := credsWrapped s.creds m.mateUnwrap } } }
  match s.bkey with
  | some k => (m.setBeaconKey (m.mateUnwrap k) s.bkId).airShow
  | none => m.airShow

/-- The stops of this unit's own level sources and of its own assertions in this tick (R216). -/
def Mach.ownStops (m : Mach) : Stops :=
  let src := m.r DAMP_SRC_SRC
  let site := ([4, 7, 8, 9, 11, 12] : List Nat).any (fun b => src.testBit b)
  ((List.range 4).filter (fun n => src.testBit n)).foldl (fun t n => t.join (m.inputScope n))
    (m.dam.own.join (if site then Stops.ofSite else Stops.empty))

/-- Damper's latches and arm as mirrored, this unit's own sources on top (R216). DESIGN CHOICE: the ticket of an arm that has
ended is not mirrored (R421 names the arm state only), so a unit that takes over does not remember it (log entry 61). -/
def Mach.applyDamper (m : Mach) (s : Mirror) (pt : Nat) : Mach :=
  let k := m.tickShift s pt
  let m := (m.setLatches (s.latches.join m.ownStops)).w DAMP_STATUS_BURSTS_LEFT s.bursts
  let t := match s.arm with
    | some a => a.ticket
    | none => m.dam.ticket
  let m := { m with dam := { m.dam with arm := s.arm.map (fun (a : DamArm) => { a with tick := a.tick + k }), sample := s.sample, ticket := t } }
  let m := m.wb DAMP_STATUS_ARMED s.arm.isSome
  match s.arm with
  | some a => (m.w DAMP_STATUS_ARM_SCOPE a.scope).w DAMP_STATUS_TICKET a.ticket
  | none => m

/-- An axis as mirrored; its switches and their faults stay this unit's own (R520). -/
def Mach.applyAxis (m : Mach) (s : Mirror) (k : Int) (a : Nat) : Mach :=
  let w := s.axStatus.getD a 0
  let x := (Tabs.val s.mot {} a).shift k
  let m := { m with mot := Tabs.put m.mot a { x with sw := (m.axis a).sw } }
  let put := fun (m : Mach) (f : Field) => m.w f (bits w f.lo f.width) a
  [MOT_AX_STATUS_STATE, MOT_AX_STATUS_HOMED, MOT_AX_STATUS_UNCERTAIN, MOT_AX_STATUS_BRIDGE, MOT_AX_STATUS_QUEUE].foldl put m

/-- Region 2: every other section. -/
def Mach.applyRest (m : Mach) (s : Mirror) (pt : Nat) : Mach :=
  let k := m.tickShift s pt
  let m := (m.applyDamper s pt).applyRegs s 2
  let m := m.each (List.range 8) (fun m a => m.applyAxis s k a)
  let m := { m with nv := { m.nv with set := { m.nv.set with descs := s.descs, setup := s.setup } } }
  let m := (m.setBase s.base).metMirror pt s.met
  let m := m.each s.shard Mach.shardMate
  { m with red := { m.red with txOk := s.txOk, mateStepped := s.stepped, mateState := s.timeState } }

/-- The sections of the regions received (R426): all of them in SYNC. -/
def Mach.applyMirror (m : Mach) (s : Mirror) (pt : Nat) : Mach :=
  let n := if m.mirror == 3 then 3 else m.red.bulk
  ((m.when (n ≥ 1) (fun m => m.applyKiln s pt)).when (n ≥ 2) (fun m => m.applyAir s pt)).when (n ≥ 3) (fun m => m.applyRest s pt)

/-- What an unsynchronised unit keeps of mirrored state (R413, R435): every index FREE with the generation it has, the park
list empty, no memberships, the ledger empty, no keys. DESIGN CHOICE: AUTH_SEQ of every index is 0 after it, as after a
reset; R177, R413 and R435 do not name it (log entry 61). -/
def Mach.mirrorDiscard (m : Mach) : Mach :=
  let k := m.kiln.store
  let m := m.setStore { agents := k.agents.map (fun e => (e.1, { gen := e.2.gen })), parkCtr := k.parkCtr }
  let m := m.setTab {}
  let m := { m with kiln := { m.kiln with key := none, build := [], signed := [], reports := [] },
                    air := { m.air with bkey := none } }
  ((((m.w KILN_AUTH_STATUS_KEY_VALID 0).w KILN_AUTH_STATUS_KEY_ID 0).w AIR_KEY_STATUS_BK_VALID 0).w
    AIR_KEY_STATUS_BK_ID 0).signShow.airShow

/-- The same as grant is lost inside a slot that the unit served: the Air region's tables stand until that slot ends, for the
frames it still receives (R242). -/
def Mach.discardLate (m : Mach) : Mach :=
  let t := m.air.tab
  let m := m.mirrorDiscard
  if m.inSlot && m.air.held && m.air.on then
    let m := m.setTab t
    ({ m with air := { m.air with wipe := true } }).airShow
  else m

/-! ### The configuration digest (R422) -/

/-- The registers of each item, in order. -/
def digestItems : List (List (Field × Nat)) :=
  [[(AIR_PAN_ID_PAN_ID, 0), (AIR_SLOT_CFG_SF_LEN, 0)],
   (List.range 8).map (fun n => (AIR_LANE_CFG_OFFSET, n)),
   [(AIR_TX_CFG_RETRY_MAX, 0), (AIR_TASK_CFG_OFFER_S, 0)],
   [(AIR_QUAR_CFG_QUAR_S, 0), (AIR_JOIN_CFG_ADMIT_S, 0)],
   [(KILN_AUTH_CFG_EXPIRY_MS, 0), (KILN_SILENT_CFG_AUTOREL_S, 0)],
   (List.range 4).map (fun n => (DAMP_IN_CFG_USE, n)) ++ (List.range 4).map (fun n => (DAMP_IN_ZONE_LO_ALL, n)) ++
     (List.range 4).map (fun n => (DAMP_IN_ZONE_HI_ALL, n)),
   [(DAMP_FIX_CFG_DELAY_MS, 0), (DAMP_WDOG_CFG_EN, 0)],
   [(CORR_RTCM_CFG_MSM_HZ, 0), (CORR_STATION_ID, 0)]]

/-- The values of an item as bytes, in order. -/
def Mach.itemBytes (m : Mach) (l : List (Field × Nat)) : List Byte := l.flatMap (fun f => le 4 (m.word f.1 f.2))

/-- The digest: CRC-32C over all the values, in order; and that of each item. -/
def Mach.digest (m : Mach) : Nat := crc32c (digestItems.flatMap m.itemBytes)
def Mach.itemDigests (m : Mach) : List Nat := digestItems.map (fun l => crc32c (m.itemBytes l))

/-- The items in which the two units differ, none where the digests are one; CFG_MISMATCH is posted on each change. -/
def Mach.checkDigest (m : Mach) (digest : Nat) (items : List Nat) : Mach :=
  let own := m.itemDigests
  let bad := if digest == m.digest then [] else
    ((List.range 8).filter (fun k => own.getD k 0 != items.getD k 0)).map (fun k => 2 ^ k)
  if bad.sum == m.r REDUN_CFG_MISMATCH_ITEMS then m
  else (m.w REDUN_CFG_MISMATCH_ITEMS bad.sum).event 0x0804 2 24 (le 1 bad.sum)

/-! ### Frames of a tick (R417) -/

/-- A frame with the PT of the tick whose state it carries. -/
def Mach.mateSendPt (m : Mach) (final : Bool) (pt : Nat) (body : MateBody) : Mach :=
  if m.mateOn then
    let f := { m.mateFrame final body with pt := pt }
    let kept := m.red.kept ++ [f]
    ({ m with red := { m.red with seqOut := (m.red.seqOut + 1) % 2 ^ 32, kept := kept.drop (kept.length - 512) } }).mateOut f
  else m

/-- The frames of a tick (R417, R426): TICK, in BULK the regions once, TICK_END with its own SFD stamp, whose place in
the tick the spec leaves open. -/
def Mach.tickFrames (m : Mach) (pt : Nat) (final : Bool) : Mach :=
  let s := m.mirrorOf
  let m := m.mateSendPt false pt (.tick s)
  let bulk := m.mirror == 2 && m.red.bulkSeq.isNone
  let m := m.when bulk (fun m =>
    let m := ((m.mateSendPt false pt (.bulk 0 false s)).mateSendPt false pt (.bulk 1 false s)).mateSendPt false pt
      (.bulk 2 true s)
    { m with red := { m.red with bulkSeq := some ((m.red.seqOut + 2 ^ 32 - 1) % 2 ^ 32) } })
  let (v, m) := m.draw
  let stamp := m.totalNs + v % 1000000
  let ackRx := m.red.ackRx
  let m := m.mateSendPt final pt (.tickEnd (if bulk then 5 else 2) m.digest m.itemDigests ackRx stamp)
  let ends := m.red.ends ++ [((m.red.seqOut + 2 ^ 32 - 1) % 2 ^ 32, pt)]
  { m with red := { m.red with ackRx := none, ends := ends.drop (ends.length - 512) }, shard := { m.shard with mate := [] } }

/-- MATE_TICK_SEND: an active unit paired with a mate, once per tick; FINAL stays set until the swap ends (R433). -/
def Mach.mateTick (m : Mach) : Mach :=
  if m.isActive && 2 ≤ m.mirror && m.mirror ≤ 5 && !m.red.lost then
    m.tickFrames m.pt (m.red.run.any (fun r => r.final.isSome))
  else m

/-- REDUN_SWAP_STATUS (R431, R443): whole minutes begun until the next periodic swap. -/
def Mach.swapShow (m : Mach) : Mach :=
  let off := !(m.isActive && m.standbyThere)
  let due := match m.red.periodFrom with
    | some t => t + 3600000 * m.r REDUN_SWAP_CFG_PERIOD_H
    | none => 0
  let left := if off || m.r REDUN_SWAP_CFG_PERIOD_H == 0 then 0 else (due - m.now + 59999) / 60000
  (m.w REDUN_SWAP_STATUS_MIN_LEFT left).wb REDUN_SWAP_STATUS_SUSPENDED (m.isActive && !m.standbyThere)

/-! ### HELLO (R417, R418) -/

/-- Each unit has accepted a HELLO: the two are compared; a pair starts with bulk resynchronisation. -/
def Mach.matePair (m : Mach) : Mach :=
  match m.red.mate with
  | none => m
  | some (_, prof, lo, hi) =>
    if !m.red.helloSent then m
    else if prof != m.r ID_PROFILE_ALL || hi < m.r REDUN_VER_OWN_MIN || m.r REDUN_VER_OWN_MAX < lo then
      (m.setMirror 6).event 0x0806 3 24 (le 1 lo ++ le 1 hi ++ le 4 prof)
    else
      let m := { m with red := { m.red with lost := false, ackAt := m.now, ackSeq := none } }
      ((m.w REDUN_VER_IN_USE (min hi (m.r REDUN_VER_OWN_MAX))).bulkStart m.isStandby).syncEval

/-- MATE_HELLO_SEND: every 10 ms while the link is down or HELLO is being exchanged. -/
def mateHelloSend (m : Mach) : Mach :=
  if m.mateOn && m.ready && !m.recovery && (m.mirror ≤ 1 || m.red.lost) && (m.red.helloAt.all (fun t => t + 10 ≤ m.now)) then
    let (v, m) := m.draw
    let hi := m.r REDUN_VER_OWN_MAX
    let lo := m.r REDUN_VER_OWN_MIN
    let prof := m.r ID_PROFILE_ALL
    let serial := m.r ID_SERIAL_LO_ALL + 2 ^ 32 * m.r ID_SERIAL_HI_ALL
    let body := MateBody.hello serial prof lo hi (v % 2 ^ 32)
      (m.nv.set.pairKey.map (helloMic serial prof lo hi (v % 2 ^ 32)))
    let m := m.mateOut { m.mateFrame false body with version := hi }
    let m := { m with red := { m.red with seqOut := 0, kept := [], ends := [], helloSent := true, helloAt := some m.now } }
    if m.mirror == 1 || m.red.lost then m.matePair else m
  else m

def execMateHelloSend (s : State) : Res := s.on mateHelloSend

/-- The mate source of an active unit follows the standby's forward bit (R217). -/
def Mach.takeForward (m : Mach) (f : Bool) : Mach :=
  if m.isActive then (if f then m.levelAssert 9 0 Stops.ofSite else m.setSrc 9 false) else m

/-- MATE_HELLO_RECEIVED. A HELLO after other frames of the mate starts the exchange again; one whose MIC does not verify under this
unit's pair key is counted (R418). -/
def mateHello (x : MateRx) (m : Mach) : Mach :=
  if !m.mateOn || !m.ready || m.recovery then m
  else if !x.crcOk then m.inc REDUN_CRC_ERR_ALL
  else match x.f.body with
    | .hello serial prof lo hi nonce mic =>
      if mic.isNone || mic != m.nv.set.pairKey.map (helloMic serial prof lo hi nonce) then m.inc REDUN_HELLO_BAD_ALL
      else
        let again := m.mirror ≤ 1 || m.mirror == 6 || m.red.lost || m.red.seqIn != 0
        let sent := m.red.helloSent && (m.mirror ≤ 1 || m.red.lost)
        let m := ({ m with red := { m.red with lastRx := some m.now } }).takeForward x.f.forward
        if !again then m
        else
          let m := { m with red := { m.red with
            mate := some (serial, prof, lo, hi), seqIn := 0, gapAt := none, mateActive := false, mateWarm := false,
            stamps := none, helloSent := sent } }
          ((m.setMirror 1).syncEval).matePair
    | _ => m

def execMateHelloReceived (x : MateRx) (s : State) : Res := s.on (mateHello x)

/-! ### Received frames (R416, R419) -/

/-- A unit in the start-up state whose mate is ACTIVE becomes its standby (R408, R437). -/
def Mach.mateIsActive (m : Mach) : Mach :=
  let m := { m with red := { m.red with mateActive := true } }
  if m.r REDUN_STATUS_ROLE_STATE == 0 then
    ({ m with red := { m.red with prefEnd := none } }).w REDUN_STATUS_ROLE 0 |>.setRole 2
  else m

/-- A frame of a paired mate arrives: a bad one is counted (R416), the forward bit of a good one is taken (R217). -/
def Mach.mateHeard (m : Mach) (x : MateRx) (f : Mach → Mach) : Mach :=
  if !m.mateOn || !m.ready then m
  else if !x.crcOk then m.inc REDUN_CRC_ERR_ALL
  else f (({ m with red := { m.red with lastRx := some m.now } }).takeForward x.f.forward)

/-- A frame with a SEQ: the standby applies frames in order, asks again for the first one missing, and once it waits for a
new transfer takes the stream as it comes; an active unit takes acknowledgements as they come. -/
def Mach.mateSeq (m : Mach) (x : MateRx) (apply : MateFrame → Mach → Mach) : Mach :=
  let ahead := diff32 x.f.seq m.red.seqIn
  if m.mirror < 2 || m.mirror == 6 || ahead < 0 then m
  else if ahead == 0 || m.isActive || m.red.want then
    apply x.f { m with red := { m.red with seqIn := (x.f.seq + 1) % 2 ^ 32, gapAt := none } }
  else if m.red.gapAt.isSome then m
  else ({ m with red := { m.red with gapAt := some m.now } }).mateOut (m.mateFrame false (.retx m.red.seqIn))

/-- A frame only an active unit sends, taken by a unit that is not active. -/
def Mach.fromActive (m : Mach) (x : MateRx) (apply : MateFrame → Mach → Mach) : Mach :=
  m.mateHeard x (fun m =>
    if m.isActive || m.isSafe then m else m.mateSeq x (fun f m => apply f m.mateIsActive))

/-- MATE_ACK_SEND: the last SEQ applied, its TICK_PT, the reception of the last TICK_END, health with the request for a
transfer in bit 1. It gives its own SFD stamp. -/
def Mach.mateAck (m : Mach) (pt rx : Nat) : Nat × Mach :=
  let (v, m) := m.draw
  let stamp := m.totalNs + v % 1000000
  (stamp, m.mateSend false (.ack ((m.red.seqIn + 2 ^ 32 - 1) % 2 ^ 32) pt rx (1 + 2 * b2n m.red.want) stamp))

/-- MATE_TICK_RECEIVED (R421). -/
def mateTickReceived (x : MateRx) (m : Mach) : Mach :=
  match x.f.body with
  | .tick s => m.fromActive x (fun f m => m.applyMirror s f.pt)
  | _ => m

def execMateTickReceived (x : MateRx) (s : State) : Res := s.on (mateTickReceived x)

/-- A measurement of MATE counts for or against its qualification (R428). -/
def Mach.mateCount (m : Mach) (good : Bool) : Mach :=
  let t := m.time
  if good then
    let m := { m with time := { t with mateRun := t.mateRun + 1, mateMiss := 0 } }
    m.when (t.mateRun + 1 ≥ 1000 && m.b TIME_SRC_CFG_MATE_EN) (fun m => m.setQual 3 true)
  else
    let m := { m with time := { t with mateRun := 0, mateMiss := t.mateMiss + 1 } }
    m.when (t.mateMiss + 1 ≥ 10) (fun m => m.setQual 3 false)

/-- MATE_TIME_MEASURE (R428): from t1 to t3 of the exchange before and t4 of this TICK_END. -/
def Mach.mateMeasure (m : Mach) (t4 : Option Nat) : Mach :=
  let m := match m.red.stamps, t4 with
    | some (t1, t2, t3), some t4 =>
      let off : Int := (((t2 : Int) - t1) - ((t4 : Int) - t3)) / 2
      let rtt : Int := ((t4 : Int) - t1) - ((t3 : Int) - t2)
      let m := { m with red := { m.red with tt := off } }
      let m := (m.wi REDUN_TT_OFFSET_ALL (clampInt (2 ^ 31 - 1) off)).w REDUN_TT_RTT_ALL rtt.toNat
      m.mateCount (rtt ≤ 10000 && m.red.mateStepped)
    | _, _ => m.mateCount false
  (m.timeEval false).timeShow

/-- MATE_TICK_END_RECEIVED (R422, R428). -/
def mateTickEndReceived (x : MateRx) (m : Mach) : Mach :=
  match x.f.body with
  | .tickEnd _ digest items t4 t1 => m.fromActive x (fun f m =>
      let m := (m.checkDigest digest items).mateMeasure t4
      let m := { m with red := { m.red with finalIn := f.final } }
      let m := m.w REDUN_LAST_PT_ALL f.pt
      let m := m.syncEval
      let (t3, m) := m.mateAck f.pt x.sfd
      { m with red := { m.red with stamps := some (t1, x.sfd, t3) } })
  | _ => m

def execMateTickEndReceived (x : MateRx) (s : State) : Res := s.on (mateTickEndReceived x)

/-- MATE_LATCH_RECEIVED (R216, R417). -/
def mateLatchReceived (x : MateRx) (m : Mach) : Mach :=
  match x.f.body with
  | .latch s => m.fromActive x (fun f m =>
      let m := m.setLatches (m.latched.join s)
      (m.mateAck f.pt ((m.red.stamps.map (fun t => t.2.1)).getD 0)).2)
  | _ => m

def execMateLatchReceived (x : MateRx) (s : State) : Res := s.on (mateLatchReceived x)

/-- MATE_BULK_RECEIVED (R426): regions come in order, the first one beginning a transfer. -/
def mateBulkReceived (x : MateRx) (m : Mach) : Mach :=
  match x.f.body with
  | .bulk region _ s => m.fromActive x (fun f m =>
      let m := if region == 0 && m.mirror != 2 then m.bulkStart true else m
      if region != 0 && region != m.red.bulk then m
      else
        let m := match region with
          | 0 => m.applyKiln s f.pt
          | 1 => m.applyAir s f.pt
          | _ => m.applyRest s f.pt
        let m := { m with red := { m.red with bulk := region + 1, want := false } }
        (m.w REDUN_STATUS_BULK_PCT (100 * (region + 1) / 3)).syncEval)
  | _ => m

def execMateBulkReceived (x : MateRx) (s : State) : Res := s.on (mateBulkReceived x)

/-- BULK_RESYNC_COMPLETE (R426): the last BULK frame has been applied. -/
def bulkResyncComplete (m : Mach) : Mach :=
  if m.isStandby && m.mirror == 2 && m.red.bulk == 3 && !m.red.want then
    ((m.setMirror 3).w REDUN_STATUS_BULK_PCT 100).syncEval
  else m

def execBulkResyncComplete (s : State) : Res := s.on bulkResyncComplete

/-- STOP completions whose LATCH frame has been acknowledged are written (R424). -/
def Mach.stopsAcked (m : Mach) (seq : Nat) : Mach :=
  let due := m.dam.stops.filter (fun e => diff32 seq e.2.1 ≥ 0)
  let m := { m with dam := { m.dam with stops := m.dam.stops.filter (fun e => diff32 seq e.2.1 < 0) } }
  m.each due (fun m e => m.complete e.1 stOK (m.stopRes e.2.2))

/-- SWAP_RELINQUISH (R433): FINAL acknowledged. -/
def Mach.relinquish (m : Mach) (seq : Nat) : Mach :=
  match m.red.run with
  | some r =>
    if r.relinq.isNone && r.final.any (fun n => diff32 seq n ≥ 0) then
      ({ m with red := { m.red with run := some { r with relinq := some m.now } } }).setAlive 3
    else m
  | none => m

/-- TICK_END frames up to a SEQ are acknowledged: REDUN_LAST_PT is the tick of the last one (R423, R442). -/
def Mach.endsAcked (m : Mach) (seq : Nat) : Mach :=
  let done := m.red.ends.filter (fun e => diff32 seq e.1 ≥ 0)
  match done.getLast? with
  | some e =>
    let left := m.red.ends.filter (fun e => diff32 seq e.1 < 0)
    ({ m with red := { m.red with ends := left, ackPt := some e.2 } }).w REDUN_LAST_PT_ALL e.2
  | none => m

/-- MATE_ACK_RECEIVED (R423 to R426). -/
def mateAckReceived (x : MateRx) (m : Mach) : Mach :=
  match x.f.body with
  | .ack seq _ _ health _ =>
    m.mateHeard x (fun m => if !m.isActive then m else m.mateSeq x (fun f m =>
      let warm := f.warm && !m.red.mateWarm
      let m := { m with red := { m.red with
        ackSeq := some seq, ackAt := m.now, ackRx := some x.sfd, mateWarm := f.warm } }
      let m := (m.endsAcked seq).stopsAcked seq
      let m := if health / 2 % 2 == 1 then m.bulkStart false
        else if m.mirror == 2 then
          (if m.red.bulkSeq.any (fun b => diff32 seq b ≥ 0) then (m.setMirror 3).w REDUN_STATUS_BULK_PCT 100 else m)
        else m.setMirror 3
      let m := if warm then { m with red := { m.red with periodFrom := some m.now } } else m
      (m.relinquish seq).swapShow))
  | _ => m

def execMateAckReceived (x : MateRx) (s : State) : Res := s.on (mateAckReceived x)

/-- STOP_COMPLETION_TIMEOUT (R424): 100 µs after its LATCH frame the oldest completion held is written. -/
def stopCompletionTimeout (m : Mach) : Mach :=
  match m.dam.stops with
  | [] => m
  | e :: l => ({ m with dam := { m.dam with stops := l } }).complete e.1 stOK (m.stopRes e.2.2)

def execStopCompletionTimeout (s : State) : Res := s.on stopCompletionTimeout

/-- MATE_RETX_REQ_RECEIVED (R419). -/
def mateRetxReqReceived (x : MateRx) (m : Mach) : Mach :=
  m.mateHeard x (fun m => match x.f.body with
    | .retx seq =>
      if !m.isActive || m.red.kept.all (fun f => f.seq != seq) then m
      else
        let l := m.red.kept.filter (fun f => diff32 f.seq seq ≥ 0)
        (m.each l Mach.mateOut).incBy REDUN_RETX_ALL l.length
    | _ => m)

def execMateRetxReqReceived (x : MateRx) (s : State) : Res := s.on (mateRetxReqReceived x)

/-- RETX_GAP_TIMEOUT (R419): the standby leaves SYNC for bulk resynchronisation. -/
def retxGapTimeout (m : Mach) : Mach :=
  if !m.isActive && m.red.gapAt.any (fun t => t + 2 ≤ m.now) then
    (({ m with red := { m.red with gapAt := none } }).bulkStart true).syncEval
  else m

def execRetxGapTimeout (s : State) : Res := s.on retxGapTimeout

/-! ### Link loss (R420, R423, R427, R436) -/

/-- MATE is no longer qualified. -/
def Mach.mateTimeLost (m : Mach) : Mach :=
  let m := { m with time := { m.time with mateRun := 0, mateMiss := 0 }, red := { m.red with stamps := none } }
  ((m.setQual 3 false).timeEval false).timeShow

/-- The link is down: the mate source clears, HELLO begins again. An active unit that held records for its standby goes on
doing so (R423, R436). -/
def Mach.linkDown (m : Mach) : Mach :=
  let warm := m.synced && m.red.gapAt.isNone
  let keep := m.isActive && (m.mirror == 3 || m.mirror == 4 || m.mirror == 5)
  let end_ := if warm then m.red.lastRx.map (fun t => t + 20) else m.red.warmEnd
  let m := { m with red := { m.red with
    warmEnd := end_, gapAt := none, mate := none, helloSent := false, helloAt := none, mateActive := false,
    mateWarm := false, lost := keep, bulk := 0, want := false, bulkSeq := none, carried := false, ackRx := none } }
  let m := (m.setSrc 9 false).setMirror (if keep then (if m.mirror == 5 then 5 else 4) else 0)
  ((m.w REDUN_VER_IN_USE 0).mateTimeLost.syncEval).swapShow

/-- MATE_LINK_LOSS (R420): no valid frame for three ticks. -/
def mateLinkLoss (m : Mach) : Mach :=
  if 2 ≤ m.mirror && m.mirror ≤ 5 && !m.red.lost && m.red.lastRx.all (fun t => t + 3 ≤ m.now) then
    let old := m.mirror
    (m.linkDown.inc REDUN_LINK_LOSS_ALL).event 0x0803 2 24 (le 1 old)
  else m

def execMateLinkLoss (s : State) : Res := s.on mateLinkLoss

/-- MATE_EN written 0: MIRROR is DOWN (R425). -/
def Mach.mateOff (m : Mach) : Mach :=
  if m.mirror == 6 then m
  else
    let m := m.linkDown
    ({ m with red := { m.red with lost := false, lastRx := none } }).setMirror 0

/-- MATE_ACK_LATE (R423): the ACK of a tick is 2 ticks late. -/
def mateAckLate (m : Mach) : Mach :=
  if m.isActive && m.mirror == 3 && m.red.ackAt + 3 ≤ m.now then (m.setMirror 4).swapShow else m

def execMateAckLate (s : State) : Res := s.on mateAckLate

/-- MATE_ACK_STALE (R423): no ACK for 25 ticks. -/
def mateAckStale (m : Mach) : Mach :=
  if m.isActive && m.mirror == 4 && m.red.ackAt + 25 ≤ m.now then (m.setMirror 5).swapShow else m

def execMateAckStale (s : State) : Res := s.on mateAckStale

/-- WARM_ELIGIBILITY_EXPIRY (R427). -/
def warmEligibilityExpiry (m : Mach) : Mach :=
  if m.red.warmEnd.any (fun t => t ≤ m.now) then ({ m with red := { m.red with warmEnd := none } }).syncEval else m

def execWarmEligibilityExpiry (s : State) : Res := s.on warmEligibilityExpiry

/-! ### Permit watch (R430) -/

/-- A lane's permit passes the test of R270, items 1 to 7, as the standby makes it: frame control, PAN, addresses, security
control, key index and headers; FORMAT, reserved bits, LANE and ASN of its content; the MIC under the mirrored beacon key. -/
def Mach.permitPasses (m : Mach) (rx : AirRx) : Bool :=
  let x := rx.lane.val
  let c := rx.bytes.drop 13
  rx.bytes.take 13 == m.permitHead x && c.length == 41 && leAt c 0 1 == 1 && leAt c 1 1 / 16 == 0 && leAt c 2 1 == x &&
    leAt c 4 5 == m.asn && (List.range 4).all (fun k => leAt c (9 + 2 * k) 2 / 4096 == 0) &&
    (match m.air.bkey with
     | some key => m.micOk rx key (baseAddr x) 0
     | none => false)

/-- A permit shows every stop of the mirrored sample (R430). -/
def Mach.permitShows (m : Mach) (rx : AirRx) : Bool :=
  let s := m.dam.sample
  let c := rx.bytes.drop 13
  let zones := leAt c 17 8
  let seats := leAt c 25 16
  (!s.site || (leAt c 1 1).testBit 0) && (List.range 64).all (fun z => !s.zones.getLsbD z || zones.testBit z) &&
    (m.seatStops rx.lane).all seats.testBit

/-- A lane yields a permit that passes: one copy at least was received whole. -/
def Mach.permitGood (m : Mach) (rx : AirRx) : Bool :=
  (rx.a.any (fun c => c.fcsOk) || rx.b.any (fun c => c.fcsOk)) && m.permitPasses rx && m.permitShows rx

/-- PERMIT_WATCH_SLOT: the permits received on the lanes in a permit slot, of the lanes served in it (R251). -/
def permitWatchSlot (l : List AirRx) (m : Mach) : Mach :=
  if !m.synced || !m.red.txOk || m.asn % 5 != 0 || m.red.watched == some m.asn then m
  else
    let m := { m with red := { m.red with watched := some m.asn } }
    let served := (List.range 8).filter m.laneServed
    let good := served.filter (fun x => l.any (fun rx => rx.lane.val == x && m.permitGood rx))
    if 2 * good.length < served.length then
      let n := m.red.permitMiss + 1
      let m := ({ m with red := { m.red with permitMiss := n } }).inc REDUN_PERMIT_MISS_ALL
      if n == 3 then (m.setAlive 4).event 0x0805 3 24 (le 2 n) else m
    else ({ m with red := { m.red with permitMiss := 0 } }).setAlive 1

def execPermitWatchSlot (l : List AirRx) (s : State) : Res := s.on (permitWatchSlot l)

/-! ### Planned swaps (R431 to R433, R440) -/

/-- A swap waits for a quiet point. -/
def Mach.setSwap (m : Mach) (q : Option SwapReq) : Mach :=
  ({ m with red := { m.red with swap := q } }).wb REDUN_STATUS_SWAP_PENDING q.isSome

/-- PERIODIC_SWAP_DUE. -/
def periodicSwapDue (m : Mach) : Mach :=
  let p := m.r REDUN_SWAP_CFG_PERIOD_H
  if m.isActive && m.standbyThere && p != 0 && m.red.swap.isNone && m.red.run.isNone &&
      m.red.periodFrom.any (fun t => t + 3600000 * p ≤ m.now) then
    m.setSwap (some ⟨none, m.now, 0, false⟩)
  else m

def execPeriodicSwapDue (s : State) : Res := s.on periodicSwapDue

/-- SWAP_PERIOD_WRITE (R443). -/
def swapPeriodWrite (v : Nat) (m : Mach) : Mach :=
  if m.ready then (periodicSwapDue (m.w REDUN_SWAP_CFG_PERIOD_H (min (v % 256) 168))).swapShow else m

def execSwapPeriodWrite (v : BitVec 32) (s : State) : Res := s.on (swapPeriodWrite v.toNat)

/-- A descriptor for a block is fetched and not complete. -/
def Mach.fetchedFor (m : Mach) (blk : Nat) : Bool :=
  m.hif.rings.any (fun e => e.2.paused.any (fun d => d.target == blk)) || m.allDelivered.any (fun d => d.target == blk)

/-- A quiet point (R432). -/
def Mach.quiet (m : Mach) : Bool :=
  m.standbyThere && !m.fetchedFor 1 && m.kiln.store.agents.all (fun e => e.2.held.isNone) &&
  m.r MOT_STATUS_MOVING == 0 && (List.range 8).all (fun a => (m.axis a).queue.isEmpty && (m.axis a).run.isNone) &&
  !m.b DAMP_STATUS_ARMED && m.r DAMP_STATUS_BURSTS_LEFT == 0 && m.air.tab.members.all (fun e => !e.2.move.any (fun v => v.open_))

/-- The first permit slot that begins at least 6 ms from now (R433). -/
def Mach.slotH (m : Mach) : Nat := ((m.msInt.toNat + 6 + 3) / 4 + 4) / 5 * 5

/-- SWAP_QUIET_POINT. -/
def swapQuietPoint (m : Mach) : Mach :=
  match m.red.swap with
  | none => m
  | some q =>
    if m.isActive && m.red.run.isNone && m.quiet then
      let h := m.slotH
      let m := { m with red := { m.red with run := some ⟨q.d, h, none, none⟩, swapH := some h } }
      (m.setSwap none).w REDUN_STATUS_SWAPPING 1
    else m

def execSwapQuietPoint (s : State) : Res := s.on swapQuietPoint

/-- SWAP_WAIT_NOTICE (R432): a periodic swap without a quiet point for 1 h. -/
def swapWaitNotice (m : Mach) : Mach :=
  match m.red.swap with
  | some q =>
    if q.d.isNone && !q.noticed && q.since + 3600000 ≤ m.now then
      (m.setSwap (some { q with noticed := true })).event 0x0807 2 24 (le 1 0)
    else m
  | none => m

def execSwapWaitNotice (s : State) : Res := s.on swapWaitNotice

/-- SWAP_WAIT_EXPIRY (R440): no quiet point within WAIT_S. -/
def swapWaitExpiry (m : Mach) : Mach :=
  match m.red.swap with
  | some ⟨some d, since, wait, _⟩ =>
    if since + 1000 * wait ≤ m.now then (m.setSwap none).complete d 0x11 else m
  | _ => m

def execSwapWaitExpiry (s : State) : Res := s.on swapWaitExpiry

/-- Milliseconds of site time from now to slot H. -/
def Mach.msToH (m : Mach) (h : Nat) : Int := 4 * (h : Int) - m.msInt

/-- SWAP_FINAL: from H − 3 ms nothing is admitted; the frames of the tick that has ended go with FINAL. -/
def swapFinal (m : Mach) : Mach :=
  match m.red.run with
  | some r =>
    if r.final.isNone && m.msToH r.asn ≤ 3 then
      let m := { m with red := { m.red with hold := true } }
      let m := m.tickFrames ((m.pt + 2 ^ 32 - 1) % 2 ^ 32) true
      { m with red := { m.red with run := some { r with final := some ((m.red.seqOut + 2 ^ 32 - 1) % 2 ^ 32) } } }
    else m
  | none => m

def execSwapFinal (s : State) : Res := s.on swapFinal

/-- SWAP_ABANDON: FINAL not acknowledged by H − 2 ms, or grant not moved 20 ms after RELINQUISH began. -/
def swapAbandon (m : Mach) : Mach :=
  match m.red.run with
  | some r =>
    let late := match r.relinq with
      | none => decide (m.msToH r.asn ≤ 2)
      | some t => decide (t + 20 ≤ m.now)
    if late then
      let m := { m with red := { m.red with run := none, swapH := none, hold := false } }
      let m := ((m.w REDUN_STATUS_SWAPPING 0).setAlive 1).event 0x0807 2 24 (le 1 1)
      m.each r.d.toList (fun m d => m.complete d 0x12)
    else m
  | none => m

def execSwapAbandon (s : State) : Res := s.on swapAbandon

/-- SWAP (R440, R441): one asked for while another has been is BUSY. -/
def swap (d : Desc) (m : Mach) : Mach :=
  m.desc 0x0800 d (fun d m =>
    let w := Descs.fld d 16 2
    match firstOf [(w > 3600, stRANGE), (!m.isActive, stNOT_ACTIVE_ROLE), (!m.standbyThere, 0x10),
        (m.red.run.isSome || m.red.swap.any (fun q => q.d.isSome), stBUSY)] with
    | some st => m.complete d st
    | none => m.setSwap (some ⟨some d, m.now, if w == 0 then 600 else w, false⟩))

def execSwap (d : Desc) (s : State) : Res := s.on (swap d)

/-- RESYNC (R440). -/
def resync (d : Desc) (m : Mach) : Mach :=
  m.desc 0x0801 d (fun d m =>
    match firstOf [(!m.isStandby, 0x14), (m.mirror != 2 && m.mirror != 3, 0x15)] with
    | some st => m.complete d st
    | none => ((m.bulkStart true).syncEval).complete d stOK)

def execResync (d : Desc) (s : State) : Res := s.on (resync d)

/-- PAIR_SET (R418, R440). -/
def pairSet (d : Desc) (m : Mach) : Mach :=
  m.desc 0x0802 d (fun d m =>
    if m.b REDUN_CTRL_MATE_EN then m.complete d 0x13
    else
      let set := { m.nv.set with pairKey := some (Descs.fld d 16 16) }
      ({ m with nv := { m.nv with set := set } }).complete d stOK)

def execPairSet (d : Desc) (s : State) : Res := s.on (pairSet d)

/-! ### Health and start-up (R407, R408) -/

/-- HEALTH_WORD_TIMEOUT: 0 device firmware, 1 the S0 pair, 2 the S1 pair; block 25, 18 or 14. -/
def healthWordTimeout (w : Nat) (m : Mach) : Mach :=
  if m.ready then m.enterSafe 1 (if w == 0 then 25 else if w == 1 then 18 else 14) else m

def execHealthWordTimeout (w : Fin 3) (s : State) : Res := s.on (healthWordTimeout w)

/-- RELINQUISH_HOLD_END: 100 ms of RELINQUISH in the chip safe state. -/
def relinquishHoldEnd (m : Mach) : Mach :=
  if m.isSafe && m.r REDUN_STATUS_ALIVE_CODE == 3 && m.red.aliveAt + 100 ≤ m.now then m.setAlive 0 else m

def execRelinquishHoldEnd (s : State) : Res := s.on relinquishHoldEnd

/-- ROLE_PREF_WINDOW_END: granted, the mate ACTIVE, or 1 s passed. -/
def rolePrefWindowEnd (m : Mach) : Mach :=
  match m.red.prefEnd with
  | some t =>
    if m.isActive || m.red.mateActive || t ≤ m.now then
      ({ m with red := { m.red with prefEnd := none } }).wb REDUN_STATUS_ROLE m.isActive
    else m
  | none => m

def execRolePrefWindowEnd (s : State) : Res := s.on rolePrefWindowEnd

/-! ### Grant (R413, R414, R434, R435) -/

/-- An axis of the new active unit after a planned swap: a bridge that was on is energised with IHOLD (R520). -/
def Mach.axisHeld (m : Mach) (a : Nat) : Mach := (m.setAxis a { m.axis a with hold := true }).chopStart a

/-- An axis of the new active unit after a failure swap: one that was moving is at standstill and uncertain. -/
def Mach.axisTaken (m : Mach) (a : Nat) : Mach :=
  let x := m.axis a
  match x.run, x.home with
  | none, none => m.axisHeld a
  | r, _ =>
    let m := m.setAxis a { x with run := none, home := none, stop := none, remain := r }
    let m := ((m.w MOT_AX_STATUS_UNCERTAIN 1 a).w MOT_AX_STATUS_HOMED 0 a).w MOT_AX_STATUS_BRIDGE 0 a
    (m.setVel a 0).setAxState a 5

/-- Every axis after a cold takeover. -/
def Mach.axisCold (m : Mach) (a : Nat) : Mach :=
  let m := m.setAxis a { sw := (m.axis a).sw }
  let m := ((m.w MOT_AX_STATUS_UNCERTAIN 1 a).w MOT_AX_STATUS_HOMED 0 a).w MOT_AX_STATUS_BRIDGE 0 a
  (m.setVel a 0).setAxState a (if m.b MOT_AX_CTRL_EN a then 5 else 0)

/-- FAILURE_SWAP_TAKEOVER. -/
def Mach.takeWarm (m : Mach) : Mach :=
  let m := (m.each (List.range 8) Mach.axisTaken).metTakeover
  ((m.newKeys false).inc REDUN_TAKEOVERS_ALL).event 0x0802 3 24 (le 1 1 ++ le 4 (m.r REDUN_LAST_PT_ALL))

/-- COLD_TAKEOVER (R218, R435). -/
def Mach.takeCold (m : Mach) : Mach :=
  let m := (m.mirrorDiscard.each (List.range 8) Mach.axisCold).metCold
  let m := (m.setLatches { Stops.empty with site := m.siteLatched }).assertSource 14 0 Stops.ofSite
  ((m.newKeys true).inc REDUN_TAKEOVERS_ALL).event 0x0802 3 24 (le 1 2 ++ le 4 (m.r REDUN_LAST_PT_ALL))

/-- The unit becomes ACTIVE: from the start-up state, by a planned swap, by a failure swap or by a cold takeover. -/
def Mach.takeRole (m : Mach) : Mach :=
  let start := m.r REDUN_STATUS_ROLE_STATE == 0
  let planned := m.red.finalIn && m.mirror == 3 && m.isStandby
  let warm := m.b REDUN_STATUS_WARM
  let m := (m.airWipe.corrForget.setRole 1).w REDUN_STATUS_ROLE 1
  let m := { m with red := { m.red with
    prefEnd := none, finalIn := false, carried := false, warmEnd := none, permitMiss := 0, watched := none, gapAt := none,
    want := false, ackSeq := none, ackAt := m.now, ends := [], ackPt := none, mateWarm := planned, periodFrom := some m.now } }
  let m := (m.w REDUN_STATUS_WARM 0).timeTakeover
  let m := if start then m.newKeys false
    else if planned then ((m.each (List.range 8) Mach.axisHeld).metTakeover.newKeys false).inc REDUN_SWAPS_ALL
    else if warm then m.takeWarm
    else m.takeCold
  let m := m.when (!planned && 2 ≤ m.mirror && m.mirror ≤ 5) (fun m => m.bulkStart false)
  let m := ((m.setAlive 1).xchkClear).driveOutputs
  ((m.quickStop.dockOutputs).airRefresh).signShow.swapShow

/-- GRANT_ACQUIRED: GRANT_N low for 10 µs. A unit still in boot takes the role once it is READY; one in the chip safe state
gets no part of it (R21). -/
def grantAcquired (m : Mach) : Mach :=
  if m.b REDUN_STATUS_GRANTED then m
  else
    let m := m.w REDUN_STATUS_GRANTED 1
    if m.ready && !m.recovery && !m.isSafe && !m.isActive then m.takeRole else m.airRefresh

def execGrantAcquired (s : State) : Res := s.on grantAcquired

/-- Grant has left after a planned swap: SWAP completes, the unit is a synchronised standby. -/
def Mach.swapDone (m : Mach) (r : SwapRun) : Mach :=
  let pt := m.pt
  let m := { m with red := { m.red with run := none, swapH := none, hold := false } }
  let m := m.w REDUN_STATUS_SWAPPING 0
  let m := (m.leaveActive 2).inc REDUN_SWAPS_ALL
  let m := { m with red := { m.red with carried := true, stamps := none } }
  let m := ((m.setSrc 9 false).setMirror 3).timeShow.syncEval
  m.each r.d.toList (fun m d => m.complete d stOK (le 5 r.asn ++ le 3 0 ++ le 4 pt))

/-- GRANT_REMOVED: GRANT_N high. -/
def grantRemoved (m : Mach) : Mach :=
  if !m.b REDUN_STATUS_GRANTED then m
  else
    let m := m.w REDUN_STATUS_GRANTED 0
    if !m.isActive then ((m.setStopOut false).setFixEn false).airRefresh
    else
      let relinquishing := m.r REDUN_STATUS_ALIVE_CODE == 3
      match relinquishing, m.red.run with
      | true, some r => m.swapDone r
      | _, _ =>
        let m := m.when (!relinquishing) (fun m => m.assertSource 10 0 Stops.ofSite)
        let m := (m.leaveActive 2).discardLate
        let m := (m.setSrc 9 false).setAlive 2
        let m := m.when (2 ≤ m.mirror && m.mirror ≤ 5) (fun m => m.bulkStart true)
        (m.timeShow.syncEval).swapShow

def execGrantRemoved (s : State) : Res := s.on grantRemoved

end Sys2Proof.Machine
end

