-- ==== Sys2Proof/Machine/Update.lean ====
section
/-! DEFINITION. Update: Fialmino containers, activation, trial, commit (18). -/

namespace Sys2Proof.Machine

open Sys2Proof

/-! ### Banks and registers (R560, R561) -/

def NvSt.bank (nv : NvSt) (b : Nat) : Bank := Tabs.val nv.banks {} b
def NvSt.setBank (nv : NvSt) (b : Nat) (x : Bank) : NvSt := { nv with banks := Tabs.put nv.banks b x }
def Mach.bank (m : Mach) (b : Nat) : Bank := m.nv.bank b
def Mach.setBank (m : Mach) (b : Nat) (x : Bank) : Mach := { m with nv := m.nv.setBank b x }

/-- The bank that runs, and the inactive one, which is the staging area (R544). -/
def Mach.runBank (m : Mach) : Nat := m.r UPD_STATUS_RUN_BANK
def Mach.idleBank (m : Mach) : Nat := 1 - m.runBank

/-- The registers that show banks, fuses, the boot configuration word and reverts. -/
def Mach.updShow (m : Mach) : Mach :=
  let a := m.bank 0
  let b := m.bank 1
  let m := ((m.wb UPD_BANK_A_VALID a.valid).wb UPD_BANK_A_BOOTABLE a.bootable).w UPD_BANK_A_ARB a.arb
  let m := ((m.wb UPD_BANK_B_VALID b.valid).wb UPD_BANK_B_BOOTABLE b.bootable).w UPD_BANK_B_ARB b.arb
  let m := (m.w UPD_VER_A_ALL (if a.valid then a.version else 0)).w UPD_VER_B_ALL (if b.valid then b.version else 0)
  let m := (m.w UPD_ARB_COUNTER m.nv.arb).w UPD_ARB_KEYS_REVOKED m.nv.revoked
  let m := (m.wb UPD_STATUS_MKEY_SET m.nv.mkey.isSome).w UPD_STATUS_REF_NEXT m.nv.refNext
  (m.w UPD_REVERT_CAUSE m.nv.revertCause).w UPD_REVERT_REVERTS m.nv.reverts

/-! ### The container (R539 to R543) -/

def ctrParts (l : List Byte) : Nat := leAt l 40 1
def ctrTotal (l : List Byte) : Nat := leAt l 32 4

/-- Every byte of a range is 0. -/
def zeroAt (l : List Byte) (off n : Nat) : Bool := ((l.drop off).take n).all (fun b => b == 0)

/-- The header checks in their order (R545): UCODE and status of the first that fails. -/
def Mach.headerCheck (m : Mach) (l : List Byte) : Option (Nat × Nat) :=
  let n := ctrParts l
  let key := leAt l 41 1
  let unit_ := leAt l 16 8
  let layout := ctrTotal l > 67108864 || leAt l 36 4 != 64 * n || n < 10 || n > 16 || leAt l 28 4 > 255 ||
    ctrTotal l < 512 + 64 * n || !zeroAt l 42 2 || !zeroAt l 76 372
  let fail := firstOf [(l.length < 512, 1),
    (leAt l 0 4 != 0x4E4D4C46 || leAt l 4 2 != 1 || leAt l 6 2 != 512, 2),
    (leAt l 8 4 != m.r ID_PART_ALL, 3),
    (!(leAt l 12 4).testBit (m.r ID_REV_ALL), 4),
    (unit_ != 0 && unit_ != m.r ID_SERIAL_LO_ALL + 2 ^ 32 * m.r ID_SERIAL_HI_ALL, 5),
    (layout, 6),
    (m.nv.revoked.testBit key, 7),
    (key > 3 || !Config.ecdsaOk (Config.pubKey key) (Config.sha256 (l.take 448)) (leAt l 448 64), 8),
    (leAt l 28 4 < m.nv.arb, 9)]
  fail.map (fun c => (c, if c == 8 then stAUTH_FAIL else 0x10))

/-- A manifest entry (R542). -/
def ctrEntry (l : List Byte) (k : Nat) : List Byte := (l.drop (512 + 64 * k)).take 64
def entType (e : List Byte) : Nat := leAt e 0 1
def entOff (e : List Byte) : Nat := leAt e 4 4
def entLen (e : List Byte) : Nat := leAt e 8 4
/-- A range entry. -/
def entRange (e : List Byte) : Bool := entType e == 9 || entType e == 10

/-- R542 for one entry, with R539 for the part it names. -/
def entryBad (l e : List Byte) : Bool :=
  !zeroAt e 1 3 || !zeroAt e 20 12 ||
  (if entRange e then entOff e != 0 || entLen e != 0 || !zeroAt e 32 32
   else !zeroAt e 12 8 || entOff e % 4096 != 0 || entOff e < 512 + 64 * ctrParts l || entOff e + entLen e > ctrTotal l)

/-- Two parts share a byte. -/
def partsOverlap (a b : List Byte) : Bool := entOff a < entOff b + entLen b && entOff b < entOff a + entLen a

/-- No two parts of a list overlap. -/
def overlapIn : List (List Byte) → Bool
  | [] => false
  | e :: t => t.any (partsOverlap e) || overlapIn t

/-- The manifest check (R546). -/
def manifestFail (l : List Byte) : Option Nat :=
  let es := (List.range (ctrParts l)).map (ctrEntry l)
  let count := fun t => (es.filter (fun e => entType e == t)).length
  firstOf [(Config.sha256 ((l.drop 512).take (64 * ctrParts l)) != leAt l 44 32, 0x10),
    (es.any (entryBad l) || (List.range 10).any (fun t => count (t + 1) != 1) || count 0x20 > 6 ||
      es.any (fun e => entType e == 0 || (entType e > 10 && entType e != 0x20)) ||
      overlapIn (es.filter (fun e => !entRange e)), 0x11)]

/-- The first part whose hash differs on read-back. -/
def partFail (l : List Byte) : Option Nat :=
  (List.range (ctrParts l)).find? (fun k =>
    let e := ctrEntry l k
    !entRange e && Config.sha256 ((l.drop (entOff e)).take (entLen e)) != leAt e 32 32)

/-- The parts of the types that `p` picks hash right. -/
def partsOk (l : List Byte) (p : Nat → Bool) : Bool :=
  (List.range (ctrParts l)).all (fun k =>
    let e := ctrEntry l k
    entRange e || !p (entType e) || Config.sha256 ((l.drop (entOff e)).take (entLen e)) == leAt e 32 32)

/-- The bank a whole container makes. -/
def ctrBank (l : List Byte) : Bank :=
  let es := (List.range (ctrParts l)).map (ctrEntry l)
  let ent := fun t => (es.find? (fun e => entType e == t)).getD []
  let boot := ent 8
  { image := l, valid := true, arb := leAt l 28 4, version := leAt l 24 4,
    schemaLo := leAt (ent 9) 12 4, schemaHi := leAt (ent 9) 16 4, mirLo := leAt (ent 10) 12 4, mirHi := leAt (ent 10) 16 4,
    revoke := Config.revocationMask ((l.drop (entOff boot)).take (entLen boot)) }

/-! ### STAGE_WRITE (R544 to R547) -/

/-- The staging area's state and the bytes received. -/
def Mach.setUpdStage (m : Mach) (st : Nat) (l : List Byte) : Mach :=
  (({ m with upd := { m.upd with recv := l } }).w UPD_STATUS_STAGE st).w UPD_STAGE_BYTES_ALL l.length

/-- STAGE_WRITE's completion; a refusal with a UCODE is kept in LAST_UCODE. -/
def Mach.stageDone (m : Mach) (d : Desc) (st ucode part : Nat) : Mach :=
  (m.when (ucode != 0) (fun m => m.w UPD_STATUS_LAST_UCODE ucode)).complete d st
    (le 4 m.upd.recv.length ++ le 1 (m.r UPD_STATUS_STAGE) ++ le 1 0 ++ le 2 ucode ++ le 1 part)

/-- A scheduled activation is cancelled: it completes with FLUSHED. -/
def Mach.cancelSched (m : Mach) : Mach :=
  match m.upd.sched with
  | none => m
  | some a =>
    let m := ({ m with upd := { m.upd with sched := none } }).w UPD_STATUS_SCHED 0
    (m.w UPD_SCHED_PT_ALL 0).complete a.d stFLUSHED

/-- The bytes of an accepted chunk have been taken into staging. -/
def Mach.stageTake (m : Mach) (d : Desc) (l : List Byte) (old : Nat) : Mach :=
  let mEnd := 512 + 64 * ctrParts l
  let mf := if old < mEnd && mEnd ≤ l.length then manifestFail l else none
  if l.length > ctrTotal l then (m.setUpdStage 3 m.upd.recv).stageDone d stRANGE 0 0xFF
  else match mf with
    | some u => (m.setUpdStage 3 l).stageDone d 0x11 u 0xFF
    | none =>
      if l.length < ctrTotal l then (m.setUpdStage 1 l).stageDone d stOK 0 0xFF
      else match partFail l with
        | some k => (m.setUpdStage 3 l).stageDone d 0x11 0x12 k
        | none => (((m.setUpdStage 2 l).setBank m.idleBank (ctrBank l)).updShow).stageDone d stOK 0 0xFF

/-- STAGE_WRITE. -/
def stageWrite (d : Desc) (m : Mach) : Mach :=
  m.desc 0x0A00 d (fun d m =>
    let off := Descs.fld d 16 4
    let chunk := m.bufRd d
    if !Descs.buf d then m.stageDone d stRANGE 0 0xFF
    else if m.r UPD_STATUS_TRIAL != 0 then m.stageDone d stBUSY 0 0xFF
    else if off != 0 then
      if m.r UPD_STATUS_STAGE != 1 || off != m.upd.recv.length then m.stageDone d 0x12 0 0xFF
      else m.stageTake d (m.upd.recv ++ chunk) m.upd.recv.length
    else
      let m := m.cancelSched.setUpdStage 1 []
      match m.headerCheck chunk with
      | some (u, st) => (m.setUpdStage 3 chunk).stageDone d st u 0xFF
      | none => ((m.setBank m.idleBank {}).updShow).stageTake d chunk 0)

def execStageWrite (d : Desc) (s : State) : Res := s.on (stageWrite d)

/-! ### Activation (R548) -/

/-- The final metering save before a reset that device firmware commands (R491); accumulation stops. Whether its read-back fails is
free (log entry 50). -/
def Mach.metLast (m : Mach) : Mach :=
  let (v, m) := m.draw
  let m := m.metFinal (v % 2 == 0)
  { m with met := { m.met with stopped := true } }

/-- An activation: the boot record names the staged bank, the unit resets 50 ms later, or as grant leaves it. -/
def Mach.activate (m : Mach) (d : Desc) (set : TrialSet) (force : Bool) (st : Nat) : Mach :=
  let b := m.idleBank
  let v := (m.bank b).version
  let leave := force && m.isActive
  let plan : PlannedReset := ⟨m.now + (if leave then 100 else 50), none, leave⟩
  let m := { m with nv := { m.nv with bootBank := b, onTrial := some set }, upd := { m.upd with reset := some plan } }
  let m := (m.complete d st (le 4 v ++ le 1 b)).event 0x0A01 1 31 (le 4 v ++ le 1 b)
  m.metLast.when leave (fun m => m.setAlive 3)

/-- The trial settings an ACTIVATE asks for. -/
def Mach.trialOf (m : Mach) (d : Desc) : TrialSet :=
  let t := Descs.fld d 16 2
  let f := Descs.fld d 18 1
  { seconds := if t == 0 then 300 else t, auto := f.testBit 0, keep := f.testBit 1, prev := m.runBank }

/-- The version ranges of the staged container and of the mate do not overlap. -/
def Mach.mirrorApart (m : Mach) : Bool :=
  let b := m.bank m.idleBank
  match m.red.mate with
  | some (_, _, lo, hi) => hi < b.mirLo || b.mirHi < lo
  | none => false

/-- ACTIVATE. A second one while one waits or the unit is about to reset is BUSY. -/
def activateCmd (d : Desc) (m : Mach) : Mach :=
  m.desc 0x0A01 d (fun d m =>
    let t := Descs.fld d 16 2
    let f := Descs.fld d 18 1
    let start := Descs.fld d 20 4
    let b := m.bank m.idleBank
    let schemaBad := m.nv.set.schema < b.schemaLo || b.schemaHi < m.nv.set.schema
    match firstOf [(t != 0 && (t < 60 || t > 3600), stRANGE), (f.testBit 2 && !m.stepped, stNO_TIME),
        (m.r UPD_STATUS_STAGE != 2, 0x13), (m.isActive && !f.testBit 3, 0x15), (m.mirrorApart, 0x16),
        (schemaBad && !f.testBit 1, 0x17), (m.upd.sched.isSome || m.upd.reset.isSome, stBUSY)] with
    | some st => m.complete d st
    | none =>
      if !f.testBit 2 then m.activate d (m.trialOf d) (f.testBit 3) stOK
      else
        let late := diff32 m.pt start
        if late < 0 then
          let a : Activation := ⟨d, m.trialOf d, f.testBit 3, start, m.now⟩
          (({ m with upd := { m.upd with sched := some a } }).w UPD_STATUS_SCHED 1).w UPD_SCHED_PT_ALL start
        else match dueOf late (m.r UPD_CFG_LATE_WIN) with
          | .onTime => m.activate d (m.trialOf d) (f.testBit 3) stOK
          | .late => m.activate d (m.trialOf d) (f.testBit 3) stLATE
          | .expired => m.complete d stEXPIRED)

def execActivate (d : Desc) (s : State) : Res := s.on (activateCmd d)

/-- SCHEDULED_ACTIVATION: PT has reached START_PT. -/
def scheduledActivation (m : Mach) : Mach :=
  match m.upd.sched with
  | none => m
  | some a =>
    if diff32 m.pt a.startPt < 0 then m
    else
      let m := ({ m with upd := { m.upd with sched := none } }).w UPD_STATUS_SCHED 0
      (m.w UPD_SCHED_PT_ALL 0).activate a.d a.set a.force stOK

def execScheduledActivation (s : State) : Res := s.on scheduledActivation

/-! ### Trial, commit, revert (R549 to R551) -/

/-- The trial bank is kept: counter, revoked keys, the other bank's bootability. A container cannot revoke the key that
signed it (R541, R550). -/
def Mach.commitBank (m : Mach) : Mach :=
  let b := m.runBank
  let x := m.bank b
  let arb := max m.nv.arb x.arb
  let own := 2 ^ leAt x.image 41 1
  let mask := x.revoke % 16
  let revoked := m.nv.revoked ||| (if x.image.isEmpty then mask else mask - (mask &&& own))
  let o := m.bank (1 - b)
  let o := { o with bootable := o.bootable && arb ≤ o.arb }
  let m := { m with nv := { (m.nv.setBank (1 - b) o) with arb := arb, revoked := revoked, onTrial := none },
                    boot := { m.boot with trial := false }, upd := { m.upd with trial := none, trialEnd := none } }
  ((m.w UPD_STATUS_TRIAL 0).updShow).event 0x0A03 1 31 (le 4 x.version ++ le 4 arb)

/-- COMMIT. -/
def commitCmd (d : Desc) (m : Mach) : Mach :=
  m.desc 0x0A02 d (fun d m =>
    if m.r UPD_STATUS_TRIAL != 2 then m.complete d 0x14
    else
      let m := m.commitBank
      m.complete d stOK (le 4 (m.bank m.runBank).version ++ le 4 m.nv.arb))

def execCommit (d : Desc) (s : State) : Res := s.on (commitCmd d)

/-- The unit will reset as a revert, `ms` ms from now. -/
def Mach.planRevert (m : Mach) (cause ms : Nat) : Mach :=
  let plan : PlannedReset := ⟨m.now + ms, some cause, false⟩
  ({ m with upd := { m.upd with reset := some plan } }).metLast

/-- REVERT. -/
def revertCmd (d : Desc) (m : Mach) : Mach :=
  m.desc 0x0A03 d (fun d m =>
    if m.r UPD_STATUS_TRIAL != 2 then m.complete d 0x14 else (m.planRevert 6 50).complete d stOK)

def execRevert (d : Desc) (s : State) : Res := s.on (revertCmd d)

/-- ABORT. -/
def abortCmd (d : Desc) (m : Mach) : Mach :=
  m.desc 0x0A04 d (fun d m => (m.cancelSched).complete d stOK (le 1 (b2n m.upd.sched.isSome)))

def execAbort (d : Desc) (s : State) : Res := s.on (abortCmd d)

/-- BOOTCFG_SET (R555). -/
def bootcfgSet (d : Desc) (m : Mach) : Mach :=
  m.desc 0x0A05 d (fun d m =>
    let v := Descs.fld d 16 1
    if v > 1 then m.complete d stRANGE
    else (({ m with nv := { m.nv with refNext := v } }).updShow).complete d stOK)

def execBootcfgSet (d : Desc) (s : State) : Res := s.on (bootcfgSet d)

/-- MKEY_SET (R556). -/
def mkeySet (d : Desc) (m : Mach) : Mach :=
  m.desc 0x0A06 d (fun d m =>
    let key := Descs.fld d 16 16
    let bad := match m.nv.mkey with
      | none => false
      | some old => Descs.fld d 32 8 != aes128 old key % 2 ^ 64
    if bad then m.complete d stAUTH_FAIL
    else (({ m with nv := { m.nv with mkey := some key } }).updShow).complete d stOK (le 1 (b2n m.nv.mkey.isSome)))

def execMkeySet (d : Desc) (s : State) : Res := s.on (mkeySet d)

/-- Every microcode block has left RESTARTING: GNSS sequencer, lanes, Kiln, metering DSP (R543, R549). -/
def Mach.microcodeUp (m : Mach) : Bool :=
  ([2, 4, 5, 6, 7, 8, 9, 10, 11, 15, 20] : List Nat).all (fun b => m.r INTC_BLK_FAULT_STATE b != 2)

/-- TRIAL_SUCCESS (R549): both pairs have passed a run of their self-test libraries and refresh the health word (a missed one is
the chip safe state), the microcode runs, the settings are read. -/
def trialSuccess (m : Mach) : Mach :=
  if m.r UPD_STATUS_TRIAL == 1 && m.ready && !m.isSafe && ([8, 9] : List Nat).all m.ist.pairs.contains && m.upd.settingsRead && m.microcodeUp &&
      m.upd.trialEnd.all (fun t => m.now ≤ t) then
    let m := (m.w UPD_STATUS_TRIAL 2).w UPD_TRIAL_LEFT_ALL 0
    if m.upd.trial.any (fun t => t.auto) then m.commitBank else m
  else m

def execTrialSuccess (s : State) : Res := s.on trialSuccess

/-- TRIAL_TIMEOUT (R551). -/
def trialTimeout (m : Mach) : Mach :=
  if m.r UPD_STATUS_TRIAL == 1 && m.upd.reset.isNone && m.upd.trialEnd.any (fun t => t ≤ m.now) then m.planRevert 2 0 else m

def execTrialTimeout (s : State) : Res := s.on trialTimeout

/-- UPD_TRIAL_LEFT: seconds begun (R560). -/
def Mach.trialShow (m : Mach) : Mach :=
  if m.r UPD_STATUS_TRIAL == 1 then
    m.w UPD_TRIAL_LEFT_ALL (((m.upd.trialEnd.getD 0) - m.now + 999) / 1000)
  else m

end Sys2Proof.Machine
end

