-- ==== Sys2Proof/Machine/Startup.lean ====
section
/-! DEFINITION. Resets and boot phases (19, and 18 on what the boot ROM does). -/

namespace Sys2Proof.Machine

open Sys2Proof

/-! ### Resets (R562, R563) -/

/-- The previous bank runs again, the trial bank is not valid (R551). -/
def NvSt.revert (nv : NvSt) (cause : Nat) : NvSt :=
  match nv.onTrial with
  | none => nv
  | some t =>
    let b := nv.bootBank
    { (nv.setBank b { nv.bank b with valid := false }) with
      bootBank := t.prev, onTrial := none, reverts := min 255 (nv.reverts + 1), revertCause := cause }

/-- A Shard record was being written as the reset came: its slot holds no valid record (R529, R530). DESIGN CHOICE: what it holds
instead reads as zeros (log entry 56). -/
def Mach.tearShard (m : Mach) : NvSt :=
  let nv := m.nv
  if m.shard.queue.isEmpty || !m.shard.scanned then nv
  else { nv with shard := Tabs.put nv.shard (nv.shardNext % shardSlots) [] }

/-- What MRAM, flash and fuses hold after a reset: the settings in their bank's area, a trial reverted (R551, cause 5
unless another is given). -/
def Mach.nvAfter (m : Mach) (torn : Bool) (revert : Option Nat) : NvSt :=
  let nv := if torn then m.tearShard else m.nv
  let nv := if m.upd.settingsRead then { nv with areas := Tabs.put nv.areas m.runBank nv.set } else nv
  if m.boot.trial || revert.isSome then nv.revert (revert.getD 5) else nv

/-- The revert a reset makes, for its event: the trial bank's version, and the cause. -/
def Mach.revertOf (m : Mach) (revert : Option Nat) : Option (Nat × Nat) :=
  if m.nv.onTrial.isSome && (m.boot.trial || revert.isSome) then
    some ((m.bank m.nv.bootBank).version, revert.getD 5)
  else m.boot.reverted

/-- UNIT_RESET_EFFECTS: every block at its reset values, the site stop latched, the clock from the real-time clock (R379);
what is outside the unit stays. A reset of another cause ends a run of boot timeouts (R565). -/
def Mach.rebooted (m : Mach) (cause : Nat) (torn : Bool) (revert : Option Nat) (held : Bool) : Mach :=
  let nv := m.nvAfter torn revert
  let nv := { nv with timeouts := if cause == 6 then nv.timeouts else 0 }
  let t := nv.rtc.getD (0, 0)
  let m := { resetMach with
    nv := nv, hostMem := m.hostMem, out := m.out, freeCtr := m.freeCtr, time := { sec := t.1, ns := t.2 },
    boot := { jtag := m.boot.jtag, held := held, trial := nv.onTrial.isSome, reverted := m.revertOf revert } }
  m.w PWR_RESET_CAUSE_CAUSE cause

/-- A reset of the unit: mailboxes and locks too. -/
def State.reboot (s : State) (cause : Nat) (torn : Bool := false) (revert : Option Nat := none) (held : Bool := false) : Res :=
  .next { s with mb := {}, m := s.m.rebooted cause torn revert held }

/-- POWER_ON_RESET: the real-time clock has run on while VBAT_RTC supplied it (R563); else it is lost. -/
def execPowerOnReset (p : PowerUp) (s : State) : Res :=
  let rtc := if p.vbat then s.m.nv.rtc.map (fun t => rtcRun t p.away) else none
  ({ s with m := { s.m with nv := { s.m.nv with rtc := rtc } } }).reboot 1 p.torn

/-- RESET_PIN. -/
def execResetPin (torn : Bool) (s : State) : Res := if s.m.boot.held then .next s else s.reboot 2 torn

/-- VIN_FALL_HOLD_IN_RESET (R580): the unit is held in reset until VIN rises through the power-on threshold. -/
def execVinFallHoldInReset (s : State) : Res := s.reboot 1 (held := true)

/-- POWER_FAIL_RESTART: VIN above the restart threshold for 10 ms in power-fail mode, VIN as PWR_VIN shows it tick by tick. -/
def execPowerFailRestart (s : State) : Res :=
  if s.m.boot.powerFail && !s.m.boot.held && 10 ≤ s.m.boot.above then s.reboot 3 else .next s

/-- UNIT_RESET_COMMAND: any other value is ignored; the save of R491 comes first. -/
def execUnitResetCommand (v : BitVec 32) (s : State) : Res :=
  if v.toNat == 0xC1A70001 && !s.m.boot.held then ({ s with m := s.m.metLast }).reboot 4 else .next s

/-- The update's reset falls due: at its tick, or with FORCE_ACTIVE as grant leaves. -/
def Mach.resetDue (m : Mach) : Bool :=
  m.upd.reset.any (fun r => r.due ≤ m.now || (r.force && !m.b REDUN_STATUS_GRANTED))

/-- ACTIVATION_RESET; a revert from the chip safe state saves as it resets (R563). -/
def execActivationReset (s : State) : Res :=
  if s.m.resetDue then ({ s with m := s.m.metLast }).reboot 5 (revert := s.m.upd.reset.bind (fun r => r.revert)) else .next s

/-! ### Boot phases (R565) -/

def Mach.phase (m : Mach) : Nat := m.r PWR_BOOT_STATUS_PHASE

/-- A phase ends: PHASE and PWR_PHASE_MS. -/
def Mach.endPhase (m : Mach) (p : Nat) : Mach :=
  let m := { m with boot := { m.boot with phaseStart := m.now } }
  (m.w PWR_PHASE_MS_ALL (m.now - m.boot.start) p).w PWR_BOOT_STATUS_PHASE (p + 1)

/-- BOOT_TIMEOUT: phase 3 or 4 takes more than twice its own duration. -/
def Mach.bootLate (m : Mach) : Bool :=
  (m.phase == 3 && m.boot.phaseStart + 800 < m.now) || (m.phase == 4 && m.boot.phaseStart + 3000 < m.now)

def execBootTimeout (s : State) : Res :=
  if s.m.bootLate then
    let nv := { s.m.nv with timeouts := min 3 (s.m.nv.timeouts + 1) }
    ({ s with m := { s.m with nv := nv } }).reboot 6
  else .next s

/-- PMIC_PHASE_DONE (R564): the straps as ID_STRAPS shows them. -/
def pmicPhaseDone (straps : Nat) (m : Mach) : Mach :=
  if m.phase == 1 && !m.boot.held then
    let m := (m.w ID_STRAPS_ALL straps).w REDUN_STATUS_ROLE_PREF (straps % 2)
    ((m.endPhase 1).inputsBegin).w PWR_BOOT_STATUS_TIMEOUTS m.nv.timeouts
  else m

def execPmicPhaseDone (straps : BitVec 7) (s : State) : Res := s.on (pmicPhaseDone straps.toNat)

/-- Recovery mode (R552): no bank runs. -/
def Mach.recover_ (m : Mach) : Mach := (m.w UPD_STATUS_RECOVERY 1).w PWR_BOOT_STATUS_PHASE 5

/-- The other bank runs, with revert cause 1, if it is valid and bootable and has not been tried; else recovery (R552). -/
def Mach.fallBack (m : Mach) (failed : Nat) (ok : Bool) : Mach :=
  let o := 1 - failed
  let x := m.bank o
  if ok && x.valid && x.bootable && !m.boot.tried then
    let nv := { m.nv with bootBank := o, revertCause := 1, reverts := min 255 (m.nv.reverts + 1) }
    let m := { m with nv := nv, boot := { m.boot with tried := true, reverted := some ((m.bank failed).version, 1) } }
    (m.w UPD_STATUS_RUN_BANK o).updShow
  else m.recover_

/-- The bank that has been chosen runs: its version and mirror range; on trial the window begins (R549). -/
def Mach.startBank (m : Mach) (b : Nat) : Mach :=
  let x := m.bank b
  let m := ((m.w UPD_STATUS_RUN_BANK b).w ID_FW_VERSION_ALL x.version).w REDUN_VER_OWN_MIN x.mirLo
  let m := (m.w REDUN_VER_OWN_MAX x.mirHi).updShow
  match m.nv.onTrial with
  | some t =>
    if b == m.nv.bootBank then
      let m := { m with upd := { m.upd with trial := some t, trialEnd := some (m.now + 1000 * t.seconds) } }
      (m.w UPD_STATUS_TRIAL 1).trialShow
    else m
  | none => m

/-- A bank passes the boot ROM's header checks (R545, R549): it is read back well, and its container passes. DESIGN CHOICE: of the
factory's firmware the spec gives no bytes; a bank that holds none passes where it is read back well (log entry 59). -/
def Mach.bankPasses (m : Mach) (b : Nat) (readOk : Bool) : Bool :=
  let l := (m.bank b).image
  readOk && (l.isEmpty || (m.headerCheck l).isNone)

/-- The parts of the running bank that a phase loads hash right (R549). -/
def Mach.partsPass (m : Mach) (readOk : Bool) (p : Nat → Bool) : Bool :=
  let l := (m.bank m.runBank).image
  readOk && (l.isEmpty || partsOk l p)

/-- The bank choice of the straps: 0 as the boot record says. -/
def Mach.bootSrc (m : Mach) : Nat := m.r ID_STRAPS_ALL / 2 % 4

/-- The trial's bank is to be booted and fails its checks: a revert (R551), which is a reset (R562). -/
def Mach.trialFails (m : Mach) (ok : Nat → Bool) : Bool :=
  m.nv.onTrial.isSome && m.nv.timeouts < 3 && m.bootSrc == 0 && !(ok m.nv.bootBank && (m.bank m.nv.bootBank).valid)

/-- The boot ROM's choice (R552, R564): `ok b` says whether bank `b` passes the checks of R545. -/
def Mach.chooseBank (m : Mach) (ok : Nat → Bool) : Mach :=
  let good := fun b => ok b && (m.bank b).valid
  let src := m.bootSrc
  if m.nv.timeouts ≥ 3 || src == 3 then m.recover_
  else if src != 0 then
    let b := src - 1
    if good b && (m.bank b).bootable then m.startBank b else m.recover_
  else
    let b := m.nv.bootBank
    if good b then m.startBank b
    else
      let m := m.fallBack b (ok (1 - b))
      if m.recovery then m else m.startBank (1 - b)

/-- The end of phase 2: the link, where it comes up, and the banks that are read back well. -/
def bootRomPhaseDone (link : Option (Nat × Nat)) (okA okB : Bool) (m : Mach) : Mach :=
  let ok := fun b => m.bankPasses b (if b == 0 then okA else okB)
  let m := (m.endPhase 2).w TIME_SRC_CFG_REF_SEL m.nv.refNext
  let m := match link with
    | none => m
    | some (g, w) => m.linkUp g w
  m.updShow.chooseBank ok

/-- BOOT_ROM_PHASE_DONE. -/
def execBootRomPhaseDone (link : Option (Fin 4 × Fin 5)) (okA okB : Bool) (s : State) : Res :=
  if s.m.phase != 2 then .next s
  else if s.m.trialFails (fun b => s.m.bankPasses b (if b == 0 then okA else okB)) then s.reboot 5 (revert := some 1)
  else s.on (bootRomPhaseDone (link.map (fun p => (p.1.val, p.2.val))) okA okB)

/-- A part of the bank fails its hash as it is loaded: a trial reverts with cause 1 (R551), else the other bank is booted
(R552) unless the straps name the bank (R564). -/
def State.partBad (s : State) : Res :=
  if s.m.boot.trial then s.reboot 5 (revert := some 1)
  else s.on (fun m =>
    let b := m.runBank
    let m := if m.bootSrc == 0 then m.fallBack b (m.bankPasses (1 - b) true) else m.recover_
    if m.recovery then m else ({ m with boot := { m.boot with phaseStart := m.now } }.startBank (1 - b)).w PWR_BOOT_STATUS_PHASE 3)

/-- SAFETY_PAIRS_PHASE_DONE: the S0 and S1 images are loaded and hashed (R543, R565); `ok` says whether they are read back well. -/
def execSafetyPairsPhaseDone (ok : Bool) (s : State) : Res :=
  if s.m.phase != 3 then .next s
  else if s.m.partsPass ok (fun t => t ≤ 2) then s.on (fun m => m.endPhase 3)
  else s.partBad

/-- The settings a boot takes (R554): on trial those of the bank it was activated from, migrated, or defaults; `none` where
they cannot be read. -/
def Mach.bootSettings (m : Mach) : Option Settings :=
  let x := m.bank m.runBank
  match m.upd.trial with
  | none => some ((Tabs.look m.nv.areas m.runBank).getD (if m.nv.areas.isEmpty then m.nv.set else { schema := x.schemaHi }))
  | some t =>
    let old := (Tabs.look m.nv.areas t.prev).getD m.nv.set
    if t.keep then some { schema := x.schemaHi }
    else if x.schemaLo ≤ old.schema && old.schema ≤ x.schemaHi then some { old with schema := x.schemaHi }
    else none

/-- READY (R408, R437, R565, R566): restores, ALIVE UNSYNC, ROLE shows the strap. A grant already there is taken. A unit that
boot has left in the chip safe state goes on with its RELINQUISH and takes no role (R407, R414). -/
def Mach.makeReady (m : Mach) (set : Settings) : Mach :=
  let nv := { m.nv with set := set, areas := Tabs.put m.nv.areas m.runBank set, timeouts := 0 }
  let m := { m with nv := nv, upd := { m.upd with settingsRead := true }, ist := { m.ist with start := m.now } }
  let m := ((m.mapRestore).metRestore).shardScan
  let m := (m.posRestore.when (!m.isSafe) (fun m => m.setAlive 2)).w PWR_BOOT_STATUS_TIMEOUTS 0
  let m := { m with red := { m.red with prefEnd := some (m.now + 1000) } }
  let m := (m.w REDUN_STATUS_ROLE (m.r REDUN_STATUS_ROLE_PREF)).endPhase 4
  let m := match m.boot.reverted with
    | some (v, c) => ({ m with boot := { m.boot with reverted := none } }).event 0x0A02 3 31 (le 4 v ++ le 1 c)
    | none => m
  m.when (m.b REDUN_STATUS_GRANTED && !m.isSafe) Mach.takeRole

/-- The identifier records whose check fails read as none (R175, R261). -/
def Mach.idRecords (m : Mach) (keyOk bkOk : Bool) : Mach :=
  { m with nv := { m.nv with keyId := if keyOk then m.nv.keyId else none, bkId := if bkOk then m.nv.bkId else none } }

/-- APP_CORE_PHASE_DONE: the remaining parts are loaded and hashed, `ok` as in phase 3; whether the MRAM records of KEY_ID and BK_ID
pass their checks. Settings that cannot be read are reported in the Shard log before the revert resets the unit (R554). -/
def execAppCorePhaseDone (ok keyOk bkOk : Bool) (s : State) : Res :=
  if s.m.phase != 4 then .next s
  else if !s.m.partsPass ok (fun t => 2 < t) then s.partBad
  else
    let s := { s with m := s.m.idRecords keyOk bkOk }
    match s.m.bootSettings with
    | some set => s.on (fun m => m.makeReady set)
    | none =>
      let m := s.m.shardScan.event 0x0A04 3 31 (le 4 (s.m.bank s.m.runBank).version)
      ({ s with m := m.shardFlush }).reboot 5 (revert := some 4)

end Sys2Proof.Machine
end

