-- ==== Sys2Proof/Machine/InServiceTest.lean ====
section
/-! DEFINITION. The in-service test controller: rotation of SRAM banks, GNSS spares, lane loopbacks, metering references, MRAM
scrub, the safety cores' self-test library, overdue coverage (19). -/

namespace Sys2Proof.Machine

open Sys2Proof

/-- KILN_ROTATION_STEP (test 1, R117, R118): one step every KILN_S seconds while a spare is left and no copy runs. DESIGN
CHOICE: the step that a Kiln restart abandoned starts again KILN_S seconds after it began (log entry 61). -/
def istKiln (ok : Bool) (m : Mach) : Mach :=
  let sp := m.r KILN_ROT_STATUS_SPARE
  if !m.istRuns 1 || !m.istDue 1 0 (1000 * m.r IST_PERIOD_SRAM_KILN_S) || sp > 16 || m.b KILN_ROT_STATUS_COPYING then m
  else
    let m := kilnRotationStep ok (m.istMark 1 0)
    if ok then m.istPass 1 sp else m.istFail 1 sp 0

def execKilnRotationStep (ok : Bool) (s : State) : Res := s.on (istKiln ok)

/-- Test 2 is due. -/
def Mach.sharedDue (m : Mach) : Bool :=
  m.istRuns 2 && m.ist.sharedSpare.isSome && m.ist.sharedCopy.isNone && m.istDue 2 0 (1000 * m.r IST_PERIOD_SRAM_SHARED_S)

/-- SHARED_SRAM_ROTATION_STEP (test 2): the spare is march-tested and the next bank copied into it; a spare that fails is RETIRED,
block 28 DEGRADED, and rotation stops. -/
def sharedSramRotationStep (ok : Bool) (m : Mach) : Mach :=
  match m.ist.sharedSpare with
  | none => m
  | some sp =>
    if !m.sharedDue then m
    else
      let m := m.istMark 2 0
      if ok then ({ m with ist := { m.ist with sharedCopy := some m.now } }).istPass 2 sp
      else (({ m with ist := { m.ist with sharedSpare := none } }).raise 28 .degraded).istFail 2 sp 0

/-- The rename at the tick boundary after the copy (R117, R570): the spare serves the logical bank, and the old bank is the spare. -/
def Mach.sharedRename (m : Mach) : Mach :=
  match m.ist.sharedSpare, m.ist.sharedCopy with
  | some sp, some _ =>
    let k := m.ist.sharedNext
    { m with ist := { m.ist with
        sharedSpare := some (m.ist.sharedMap.getD k 0), sharedMap := m.ist.sharedMap.set k sp, sharedNext := (k + 1) % 16,
        sharedCopy := none } }
  | _, _ => m

def execSharedSramRotationStep (ok : Bool) (s : State) : Res := s.on (sharedSramRotationStep ok)

/-- The SPARE channel tested next: one this cycle has not covered, else the lowest. -/
def Mach.spareToTest (m : Mach) : Option Nat :=
  let l := (List.range 456).filter (fun c => m.chState c == 3)
  match l.find? (fun c => !(m.istDone 3).contains c) with
  | some c => some c
  | none => l.head?

/-- GNSS_SPARE_TEST_START (test 3): one SPARE moves to TEST every SPARE_S seconds. -/
def gnssSpareTestStart (m : Mach) : Mach :=
  match m.spareToTest with
  | none => m
  | some c =>
    if !m.istRuns 3 || !m.istDue 3 0 (1000 * m.r IST_PERIOD_GNSS_SPARE_S) || m.gnss.test.isSome then m
    else
      let m := m.istMark 3 0
      ({ m with gnss := { m.gnss with test := some (c, m.now + 2000) } }).setChState c 4

def execGnssSpareTestStart (s : State) : Res := s.on gnssSpareTestStart

/-- GNSS_SPARE_TEST_END (R570): after 2 s in TEST; `ok` says that every tap and the data prompt agreed. -/
def gnssSpareTestEnd (ok : Bool) (m : Mach) : Mach :=
  match m.gnss.test with
  | none => m
  | some (c, due) =>
    if m.now < due then m
    else
      let m := { m with gnss := { m.gnss with test := none } }
      if ok then (m.setChState c 3).istPass 3 c
      else ((m.chFail c).raise 0 .degraded).istFail 3 c 0

def execGnssSpareTestEnd (ok : Bool) (s : State) : Res := s.on (gnssSpareTestEnd ok)

/-- The lane that lane modem `n` serves in this slot. -/
def Mach.laneOfModem (m : Mach) (n : Nat) : Option Nat :=
  (List.range 8).find? (fun x => m.laneServed x && m.r AIR_LANE_STATUS_MODEM x == n)

/-- The lane's plan gives the slot in progress to no seat: SEAT_VALID is 0 (R267). -/
def Mach.noSeat (m : Mach) (x : Nat) : Bool :=
  (Tabs.val m.air.plans [] x).any (fun p => p.asn == m.asn && p.kind == kUP && p.seat.isNone)

/-- A lane neither sends nor expects a frame in this slot (R571): an IDLE slot, an UP slot its plan gives to no seat, a DOWN
or BCAST slot in which it sends nothing; never a burst slot. -/
def Mach.laneIdle (m : Mach) (x : Nat) : Bool :=
  let k := m.slotKind
  !m.dam.burst && !m.air.sentOn.contains x && !(m.air.acks.any (fun a => a.lane == x)) &&
    (k == kIDLE || (k == kUP && m.noSeat x) || ((k == kDOWN || k == kBCAST) && 3 ≤ m.air.phase))

/-- LANE_LOOPBACK_TEST (test 4): lane modem `n` every 10 s, in a slot its lane leaves free; a frame passes with a good FCS and
an RSSI within 3 dB of −40 dBm. Two failures in sequence are an uncorrectable error of block 4 + n. -/
def laneLoopbackTest (n : Nat) (fcsOk : Bool) (rssi : Int) (m : Mach) : Mach :=
  let free := match m.laneOfModem n with
    | some x => m.laneIdle x
    | none => m.slotKind != kPERMIT && m.slotKind != kJOIN && !m.dam.burst
  if !m.istRuns 4 || !m.istDue 4 n 10000 || !m.inSlot || m.air.phase == 0 || !free ||
      (m.r AIR_STATUS_MODEM_FAIL).testBit n then m
  else
    let m := m.istMark 4 n
    let m := { m with ist := { m.ist with mcs := (m.ist.mcs + 1) % 4 } }
    if fcsOk && -43 ≤ rssi && rssi ≤ -37 then
      ({ m with ist := { m.ist with laneFail := Tabs.put m.ist.laneFail n 0 } }).istPass 4 n
    else
      let f := Tabs.val m.ist.laneFail 0 n + 1
      let m := { m with ist := { m.ist with laneFail := Tabs.put m.ist.laneFail n (if f ≥ 2 then 0 else f) } }
      (m.when (decide (2 ≤ f)) (fun m => m.uncorrectable (4 + n) none false)).istFail 4 n 0

def execLaneLoopbackTest (x : Fin 8) (fcsOk : Bool) (rssi : BitVec 8) (s : State) : Res :=
  s.on (laneLoopbackTest x fcsOk rssi.toInt)

/-- METER_REFERENCE_TEST (test 6): the drift of each reference in ppm, every 10 s; one beyond ±0.05 % is an uncorrectable error
of block 19, and every element becomes FAILED; each that drifts is a failure. -/
def meterReferenceTest (drifts : List Int) (m : Mach) : Mach :=
  if !m.istRuns 6 || !m.istDue 6 0 10000 then m
  else
    let m := m.istMark 6 0
    match drifts.zipIdx.filter (fun e => e.1 < -500 || 500 < e.1) with
    | [] => m.istPass 6 0
    | bad => ((m.uncorrectable 19 none false).metFailAll).each bad (fun m e => m.istFail 6 e.2 (unsgn 32 e.1))

def execMeterReferenceTest (drifts : List Int) (s : State) : Res := s.on (meterReferenceTest drifts)

/-- MRAM_SCRUB (test 7): one 64 KB block each second; corrected words are rewritten and counted, an uncorrectable word posts
TEST_FAIL. Of the tests that wait on one block the lower number goes first (R569): DEDUCED, tests 2 and 7 both wait on the memory
controllers, and no other two tests of R570 share a block (log entry 58). -/
def mramScrub (fixed : Nat) (bad : Bool) (m : Mach) : Mach :=
  if !m.istRuns 7 || !m.istDue 7 0 1000 || m.sharedDue then m
  else
    let m := (m.istMark 7 0).incBy IST_SCRUB_FIXED_ALL fixed
    let k := m.ist.scrub
    let m := { m with ist := { m.ist with scrub := if k + 1 < Config.mramBlocks then k + 1 else 0 } }
    if bad then m.istFail 7 k 0 else m.istPass 7 k

def execMramScrub (fixed : Nat) (bad : Bool) (s : State) : Res := s.on (mramScrub fixed bad)

/-- SAFETY_SELF_TEST_SEGMENT (tests 8 and 9): one segment per tick of a safety core pair; a failure loses block 18 (S0) or 14
(S1), of class S (R22), as the tick ends (R20); the last segment of a pass without failure is a pass. -/
def safetySelfTestSegment (s1 last ok : Bool) (m : Mach) : Mach :=
  let t := if s1 then 9 else 8
  let blk := if s1 then 14 else 18
  if !m.istRuns t || !m.istDue t 0 1 || m.r INTC_BLK_FAULT_STATE blk == 3 then m
  else
    let m := m.istMark t 0
    if ok then m.when last (fun m =>
      ({ m with ist := { m.ist with pairs := if m.ist.pairs.contains t then m.ist.pairs else m.ist.pairs ++ [t] } }).istPass t 0)
    else (m.istFail t 0 0).raise blk .lost

def execSafetySelfTestSegment (s1 last ok : Bool) (s : State) : Res := s.on (safetySelfTestSegment s1 last ok)

/-- COVERAGE_OVERDUE (R572): a cycle not complete after 24 h. -/
def coverageOverdue (m : Mach) : Mach :=
  if m.ready && !m.recovery && !m.b IST_STATUS_OVERDUE && m.ist.start + 86400000 ≤ m.now then
    (m.w IST_STATUS_OVERDUE 1).event 0x0D01 3 32 (le 1 15 ++ le 2 0 ++ le 4 0)
  else m

def execCoverageOverdue (s : State) : Res := s.on coverageOverdue

end Sys2Proof.Machine
end

