-- ==== Sys2Proof/Machine/Intc.lean ====
section
/-! DEFINITION. Faults of the hardware blocks: overruns, cell faults, fault injection, and their evaluation at the end of a
tick (01). -/

namespace Sys2Proof.Machine

open Sys2Proof

/-- Class S of R22. -/
def classS (b : Nat) : Bool := 12 ≤ b && b ≤ 18
/-- Class R of R22. -/
def classR (b : Nat) : Bool := b == 22 || b == 28 || b == 29

/-- The block has overrun in this tick: one tick counts once (R17, R28), the tick that ended at the time step not at all (R27).
A block of class S asserts the site stop (R29). -/
def Mach.overrun (m : Mach) (b : Nat) : Mach :=
  let l := Tabs.val m.intc.overruns [] b
  if l.contains m.now || m.time.stepTick == some m.now then m
  else
    let l := (l.filter (fun t => m.now ≤ t + 15)) ++ [m.now]
    let m := { m with intc := { m.intc with overruns := Tabs.put m.intc.overruns b l } }
    let m := (m.w INTC_BLK_FAULT_OVERRUN 1 b).inc INTC_BLK_FAULT_OVERRUN_CNT b
    m.when (classS b) (fun m => m.assertSource 13 b Stops.ofSite)

/-- GUARD_POINT_OVERRUN; the tick that ended at the time step is exempt (R27). -/
def guardPointOverrun (b : Nat) (m : Mach) : Mach :=
  if m.time.stepTick == some m.now then m else (m.overrun b).raise b .overrun

def execGuardPointOverrun (b : Fin 33) (s : State) : Res := s.on (guardPointOverrun b)

/-- A corrected error is counted and never escalates (R21, R50). -/
def Mach.corrected (m : Mach) (b : Nat) : Mach :=
  let m := (m.w INTC_BLK_FAULT_CORR_SEEN 1 b).inc INTC_BLK_FAULT_CORR_CNT b
  let st := m.r INTC_BLK_FAULT_STATE b
  m.blkEvent b st st 3

/-- CELL_FAULT_DETECTED: corrected by ECC or by the retry, else an uncorrectable error of a cell; `spare` says whether
a spare cell stands ready. Index 33 is the interconnect, which has no fault register (R48, R50). -/
def cellFaultDetected (b : Nat) (corrected spare : Bool) (cell : Nat) (m : Mach) : Mach :=
  if b == interconnect then
    if corrected then m.interEvent 3 else m.raise interconnect (.uncorrectable (some cell) spare)
  else if corrected then m.corrected b
  else m.uncorrectable b (some cell) spare

def execCellFaultDetected (b : Fin 34) (corrected spare : Bool) (cell : Nat) (s : State) : Res :=
  s.on (cellFaultDetected b corrected spare cell)

/-- INTC_INJECT (R47): a parity error the retry mends, an uncorrectable error, an overrun. -/
def intcInject (v : Nat) (m : Mach) : Mach :=
  let b := v % 64
  if !m.ready then m
  else if !m.siteLatched then m.inc INTC_INJECT_REFUSED_ALL
  else if 32 < b then m
  else match bits v 8 2 with
    | 0 => m.corrected b
    | 1 => m.uncorrectable b none false
    | 2 => guardPointOverrun b m
    | _ => m

def execIntcInject (v : BitVec 32) (s : State) : Res := s.on (intcInject v.toNat)

/-! ### Evaluation at the end of a tick (R16 to R23) -/

/-- Blocks that raised a fault in this tick, ascending. -/
def Mach.faulty (m : Mach) : List Nat := (List.range 33).filter (fun b => m.intc.faults.any (fun f => f.1 == b))

/-- A block's uncorrectable errors of this tick: cell and spare. -/
def Mach.uncorrOf (m : Mach) (b : Nat) : List (Option Nat × Bool) :=
  m.intc.faults.filterMap (fun f => match f with
    | (k, .uncorrectable c s) => if k == b then some (c, s) else none
    | (k, .lost) => if k == b then some (none, false) else none
    | (_, .overrun) => none
    | (_, .degraded) => none)

/-- An error of Kiln's SRAM outside the banks in service does not lose Kiln (R118). -/
def Mach.kilnBankUsed (m : Mach) (cell : Option Nat) : Bool :=
  match cell with
  | some n => 16 < n || m.r KILN_BANK_ROLE n == 0
  | none => true

/-- The block is lost: its restart fails, it overran in two ticks of 16, or its error cannot be repaired (R16, R118, R570). A
second difference that the check of R170 finds in one tick meets the builder as it restarts (R18). -/
def Mach.blockLost (m : Mach) (fails : List Nat) (b : Nat) : Bool :=
  let l := m.uncorrOf b
  decide (2 ≤ (Tabs.val m.intc.overruns [] b).length) || (!l.isEmpty && fails.contains b) || m.intc.faults.contains (b, .lost) ||
    (b == 15 && l.any (fun e => m.kilnBankUsed e.1)) || (b == 28 && !l.isEmpty) || (b == 16 && decide (2 ≤ l.length))

/-- The failing cell is isolated: a channel's signal moves to a spare (R326), an engine's search goes back to its queue (R333),
a metering element fails, an axis makes a category 0 stop (R23). -/
def Mach.isolate (m : Mach) (b : Nat) (cell : Option Nat) : Mach :=
  match b, cell with
  | 0, some c => m.when (c < 456) (fun m => m.chFail c)
  | 1, some e =>
    let lost := if m.gnss.engLost.contains e then m.gnss.engLost else m.gnss.engLost ++ [e]
    let m := { m with gnss := { m.gnss with engLost := lost } }
    match Tabs.look m.gnss.engines e with
    | none => m
    | some r =>
      let m := m.freeEngine e
      if r.req.d.isSome then { m with gnss := { m.gnss with hostQ := r.req :: m.gnss.hostQ } }
      else { m with gnss := { m.gnss with fwQ := r.req :: m.gnss.fwQ } }
  | 15, some n => m.when (n < 17 && m.r KILN_BANK_ROLE n != 0) (fun m =>
      ((m.w KILN_BANK_ROLE 3 n).w KILN_BANK_LOGICAL 0 n).when (m.r KILN_ROT_STATUS_SPARE == n) (fun m =>
        m.w KILN_ROT_STATUS_SPARE 31))
  | 19, some d => m.when (d < 16) (fun m => m.metFail d)
  | 21, some a => m.when (a < 8 && m.b MOT_AX_CTRL_EN a && m.isActive) (fun m => m.stopNow a 0x18)
  | _, _ => m

/-- The searches on the engines begin their dwells anew with the next tick. -/
def Mach.dwellsAnew (m : Mach) : Mach :=
  { m with gnss := { m.gnss with engines := m.gnss.engines.map (fun e => (e.1, { e.2 with start := m.now + 1 })) } }

/-- The work of the tick that a block's restart abandons (R17); what it keeps in memory cells stays. DESIGN CHOICE: which work
that is, R17 does not list: dwells in progress (block 1), records signed and not released (16), frames and ACKs not ended (4 to
12), dumps not processed (2), a correction built and not queued (3); at the boundary Kiln exchanges and settles nothing (15), the mate
link sends no mirror frame (24), the front end's samples are lost (19), the metering block's wait for the next boundary (20), Motion
plans no segment (21: `restarted`). A channel of block 0 loses only what its cell held, and what blocks 17 and 26 to 31 do is done
with the command that asks for it (log entry 61). -/
def Mach.abandonWork (m : Mach) (b : Nat) : Mach :=
  let m := { m with intc := { m.intc with restarted := m.intc.restarted ++ [b] } }
  if b == 1 then m.dwellsAnew
  else if b == 16 then { m with kiln := { m.kiln with signed := [] } }
  else if b == 12 then
    m.cutFlights (fun _ => true)
  else if 4 ≤ b && b ≤ 11 then m.modemCut (b - 4)
  else if b == 2 then { m with gnss := { m.gnss with backlog := [] } }
  else if b == 3 then { m with corr := { m.corr with ie := none } }
  else m

/-- A block restarts within the tick (R16, R17): its tick counts as an overrun, the failing cells are isolated, and it resumes
DEGRADED. A Kiln restart abandons a bank copy (R118). -/
def Mach.restartBlock (m : Mach) (b : Nat) : Mach :=
  let l := m.uncorrOf b
  let m := (((m.overrun b).abandonWork b).inc INTC_BLK_FAULT_RESTART_CNT b).blkState b 2 1
  let spare := l.any (fun e => if b == 0 then m.chSpare.isSome else e.2)
  let m := m.when spare (fun m => m.w INTC_BLK_FAULT_SPARE_USED 1 b)
  let m := m.when (b == 15) (fun m =>
    let sp := m.r KILN_ROT_STATUS_SPARE
    let m := { m with kiln := { m.kiln with copyDone := none } }
    (m.w KILN_ROT_STATUS_COPYING 0).when (sp < 17 && m.r KILN_BANK_ROLE sp == 2) (fun m =>
      (m.w KILN_BANK_ROLE 1 sp).w KILN_BANK_LOGICAL 0 sp))
  (m.each (l.map (fun e => e.1)) (fun m c => m.isolate b c)).blkState b 1 2

/-- The blocks of a region (R22). -/
def regionBlocks (r : Nat) : List Nat :=
  match r with
  | 0 => [0, 1, 2, 3]
  | 1 => [4, 5, 6, 7, 8, 9, 10, 11, 12, 13, 14]
  | 2 => [15, 16, 17, 18]
  | 3 => [19, 20, 21]
  | 4 => [22, 23, 24]
  | _ => [25, 26, 27, 28, 29, 30, 31, 32]

/-- The cells that failed in a block; every one of `n` where none is named. -/
def Mach.cellsOr (m : Mach) (b n : Nat) : List Nat :=
  let l := (m.uncorrOf b).filterMap (fun e => e.1)
  if l.isEmpty then List.range n else l.dedup

/-- What a block's function does once the block is lost (R23): failed channels move to spares, searches go on on the remaining
engines, elements fail, axes stop, the modem's lane goes to another. -/
def Mach.failOver (m : Mach) (b : Nat) : Mach :=
  if b == 0 || b == 1 then m.each ((m.uncorrOf b).filterMap (fun e => e.1)).dedup (fun m c => m.isolate b (some c))
  else if 4 ≤ b && b ≤ 11 then
    (m.modemCut (b - 4)).w AIR_STATUS_MODEM_FAIL (m.r AIR_STATUS_MODEM_FAIL ||| (1 <<< (b - 4)))
  else if b == 19 then m.each (m.cellsOr 19 16) (fun m d => m.isolate 19 (some d))
  else if b == 20 then m.metFailAll
  else if b == 21 then m.each (m.cellsOr 21 8) (fun m a => m.isolate 21 (some a))
  else m

/-- A block is lost: STATE is FAILED and its function fails over. -/
def Mach.loseBlock (m : Mach) (b : Nat) : Mach :=
  let cause := if (m.uncorrOf b).isEmpty then 0 else 1
  (m.blkState b 3 cause).failOver b

/-- A region of which every block is lost is fenced; a fenced Plant region stops the axes and releases FIX_EN_N (R23). -/
def Mach.fenceRegions (m : Mach) : Mach :=
  m.each (List.range 6) (fun m r =>
    let f := m.r INTC_STATUS_FENCED
    if f.testBit r || !(regionBlocks r).all (fun b => m.r INTC_BLK_FAULT_STATE b == 3) then m
    else
      let m := m.w INTC_STATUS_FENCED (f ||| (1 <<< r))
      m.when (r == 3) (fun m => (m.motionFault.metFailAll).setFixEn false))

/-- The Air region cannot contain the loss of a lane modem (R253). -/
def Mach.airUncontained (m : Mach) : Bool := decide (2 * m.modems.length < m.openLanes.length)

/-- The blocks newly lost escalate to the chip (R16, R20). -/
def Mach.escalate (m : Mach) (lost : List Nat) : Mach :=
  match lost.find? (fun b => classS b || classR b) with
  | some b => m.enterSafe 1 b
  | none =>
    match lost.find? (fun b => 4 ≤ b && b ≤ 11) with
    | some b => m.when m.airUncontained (fun m => m.enterSafe 2 b)
    | none => m

/-- The blocks with a fault in this tick that are not lost already. -/
def Mach.failing (m : Mach) : List Nat := m.faulty.filter (fun b => m.r INTC_BLK_FAULT_STATE b != 3)

/-- Of these, the blocks that restart: an uncorrectable error, and not lost by it (R16). -/
def Mach.restarts (m : Mach) (fails : List Nat) : List Nat :=
  m.failing.filter (fun b => !m.blockLost fails b && !(m.uncorrOf b).isEmpty)

/-- A cell out of use without an error leaves its block DEGRADED (R49). -/
def Mach.degrade (m : Mach) : Mach :=
  m.each ((List.range 33).filter (fun b => m.intc.faults.contains (b, .degraded))) (fun m b =>
    if m.r INTC_BLK_FAULT_STATE b == 0 then m.blkState b 1 1 else m)

/-- An uncorrectable error of the interconnect is the chip's (R48, R50). BLOCK then holds the low bits of the index 0xFF
(DEDUCED, log entry 61). -/
def Mach.interFault (m : Mach) : Mach :=
  if (m.uncorrOf interconnect).isEmpty then m else (m.interEvent 1).enterSafe 3 0x3F

/-- Faults raised in a tick are evaluated at its end, cell, block, region, chip (R20); a restart may be a block's second overrun
within 16 ticks. -/
def Mach.faultEval (m : Mach) (fails : List Nat) : Mach :=
  let l := m.failing
  let lost := l.filter (m.blockLost fails)
  let restart := m.restarts fails
  let m := m.each restart Mach.restartBlock
  let more := restart.filter (fun b => decide (2 ≤ (Tabs.val m.intc.overruns [] b).length))
  let all := l.filter (fun b => lost.contains b || more.contains b)
  let m := ((m.each all Mach.loseBlock).degrade.fenceRegions.escalate all).interFault
  { m with intc := { m.intc with faults := [] } }

end Sys2Proof.Machine
end

