-- ==== Sys2Proof/Machine/Saggar.lean ====
section
/-! DEFINITION. Saggar's cell queues with their watermarks and idle-read timeouts (14). -/

namespace Sys2Proof.Machine

open Sys2Proof

def Mach.sagQ (m : Mach) (q : Nat) : SagQ := Tabs.val m.sag.queues {} q
def Mach.setSagQ (m : Mach) (q : Nat) (x : SagQ) : Mach :=
  { m with sag := { m.sag with queues := Tabs.put m.sag.queues q x } }

/-- A queue of host software (R444). -/
def hostQueue (q : Nat) : Bool := 512 ≤ q && q < 1024

/-- The watermarks are in effect (R447). -/
def Mach.wmOn (m : Mach) (q : Nat) : Bool := 0 < m.r SAG_Q_WM_LO q && m.r SAG_Q_WM_LO q < m.r SAG_Q_WM_HI q

/-- WATERMARK (R447): counted, seen, posted. -/
def Mach.crossing (m : Mach) (q : Nat) (hi : Bool) (level : Nat) : Mach :=
  let m := m.setSagQ q { m.sagQ q with armedLo := hi }
  let m := m.w (if hi then SAG_Q_STATUS_HI_SEEN else SAG_Q_STATUS_LO_SEEN) 1 q
  (m.inc SAG_Q_STATUS_CROSS_CNT q).event 0x0B01 0 26 (le 2 q ++ le 1 (b2n hi) ++ le 4 level)

/-- The status registers of a queue and ABOVE_HI, WM_OFF follow. -/
def Mach.showQueue (m : Mach) (q : Nat) : Mach :=
  let level := (m.sagQ q).cells.length
  let m := (m.w SAG_Q_STATUS_LEVEL level q).wb SAG_Q_STATUS_WM_OFF (!m.wmOn q) q
  m.wb SAG_Q_STATUS_ABOVE_HI (level ≥ m.r SAG_Q_WM_HI q) q

/-- A queue's cells changed by one operation: levels, pool, host share, and the watermark crossing in the operation's own
direction (R445 to R447). `retired` of the cells removed leave the pool (R454). -/
def Mach.setCells (m : Mach) (q : Nat) (cells : List (BitVec 512)) (retired : Nat := 0) : Mach :=
  let x := m.sagQ q
  let old := x.cells.length
  let new := cells.length
  let start := if old = 0 ∧ new ≠ 0 then true else false
  let m := m.setSagQ q { x with cells := cells, since := if start then m.now else x.since,
                                fired := if start then false else x.fired }
  let m := m.w SAG_POOL_FREE_FREE (m.r SAG_POOL_FREE_FREE + old - new - retired)
  let m := m.w SAG_POOL_RETIRED_RETIRED (m.r SAG_POOL_RETIRED_RETIRED + retired)
  let m := if hostQueue q then m.w SAG_POOL_HOST_HOST_USED (m.r SAG_POOL_HOST_HOST_USED + new - old) else m
  let m := m.showQueue q
  let hi := m.r SAG_Q_WM_HI q
  let lo := m.r SAG_Q_WM_LO q
  if m.wmOn q && !x.armedLo && old < hi && hi ≤ new then m.crossing q true new
  else if m.wmOn q && x.armedLo && lo < old && new ≤ lo then m.crossing q false new
  else m

/-- The checks of an enqueue of `n` cells other than the enable (R445). -/
def Mach.sagRoom (m : Mach) (q n : Nat) : Bool :=
  let level := (m.sagQ q).cells.length
  let limit := m.r SAG_Q_LIMIT_LIMIT q
  n ≤ m.r SAG_POOL_FREE_FREE &&
    (!hostQueue q || m.r SAG_POOL_HOST_HOST_USED + n ≤ m.r SAG_POOL_CFG_HOST_MAX) &&
    (limit == 0 || level + n ≤ limit)

/-- A cell as the 64 bytes of a buffer spell it, and back. -/
def cellOf (l : List Byte) : BitVec 512 := BitVec.ofNat 512 (unle l)
def cellBytes (c : BitVec 512) : List Byte := le 64 c.toNat

/-- The cells of `n` times 64 bytes. -/
def cellsOf : Nat → List Byte → List (BitVec 512)
  | 0, _ => []
  | n + 1, l => cellOf (l.take 64) :: cellsOf n (l.drop 64)

/-- The cells a dequeue of up to `n` gives, and those it removes: the first cell with an uncorrectable error ends it and is
retired (R454). `bad` are the places of such cells in the queue. -/
def cellsGiven (bad : List Nat) (n : Nat) : Nat × Nat :=
  match (bad.filter (fun k => k < n)).min? with
  | some k => (k, k + 1)
  | none => (n, n)

/-- A dequeue removes cells from the head and starts the queue's timer again (R445, R449, R454). -/
def Mach.cellsTake (m : Mach) (q : Nat) (g : Nat × Nat) : Mach :=
  let cells := (m.sagQ q).cells
  (m.setSagQ q { m.sagQ q with since := m.now, fired := false }).setCells q (cells.drop g.2) (g.2 - g.1)

/-- What a DEQUEUE may take now. -/
def Mach.dequeueRoom (m : Mach) (d : Desc) : Nat :=
  min (min (Descs.fld d 18 2) (m.sagQ (Descs.fld d 16 2)).cells.length) (Descs.len d / 64)

/-- A DEQUEUE takes its cells and completes (R453, R454); RESULT of a CELL_ERROR is 0 (R68). -/
def Mach.dequeueNow (m : Mach) (d : Desc) (bad : List Nat) : Mach :=
  let q := Descs.fld d 16 2
  let g := cellsGiven bad (m.dequeueRoom d)
  let m := (m.bufWr d 0 (((m.sagQ q).cells.take g.1).flatMap cellBytes)).cellsTake q g
  if g.1 == g.2 then m.complete d stOK (le 2 g.1 ++ le 4 (m.sagQ q).cells.length) else m.complete d 0x12

/-- Pending DEQUEUEs, and SAG_STATUS.PENDING. -/
def Mach.setSagPend (m : Mach) (l : List (Desc × Nat)) : Mach :=
  ({ m with sag := { m.sag with pend := l } }).w SAG_STATUS_PENDING l.length

/-- The pending DEQUEUEs of a queue are served in the order received while it holds a cell. -/
def Mach.servePend (m : Mach) (q : Nat) (bad : List Nat) : List (Desc × Nat) → Mach
  | [] => m
  | e :: l =>
    if Descs.fld e.1 16 2 == q && !(m.sagQ q).cells.isEmpty then
      let gone := (cellsGiven bad (m.dequeueRoom e.1)).2
      let rest := (bad.filter (fun k => gone ≤ k)).map (fun k => k - gone)
      ((m.setSagPend (m.sag.pend.erase e)).dequeueNow e.1 bad).servePend q rest l
    else m.servePend q bad l

/-- The checks every Saggar descriptor shares (R43, R444, R451). -/
def Mach.sagShared (m : Mach) (d : Desc) (bad : Bool) : List (Bool × Nat) :=
  [(!hostQueue (Descs.fld d 16 2) || bad, stRANGE), (!m.takes .saggar, stNOT_ENABLED)]

/-- ENQUEUE (R445, R452, R455); `bad` are the places in the queue of the cells in which a pending DEQUEUE meets an uncorrectable
error (R454). -/
def enqueue (d : Desc) (bad : List Nat) (m : Mach) : Mach :=
  m.desc 0x0B00 d (fun d m =>
    let q := Descs.fld d 16 2
    let n := Descs.fld d 18 2
    let wrong := n == 0 || 1024 < n || !Descs.buf d || Descs.len d < 64 * n
    match firstOf (m.sagShared d wrong ++
        [(!m.b SAG_Q_STATUS_ENABLED q, 0x10), (!m.sagRoom q n, stQUEUE_FULL)]) with
    | some st => m.complete d st
    | none =>
      let m := m.setCells q ((m.sagQ q).cells ++ cellsOf n (m.bufRd d))
      let m := m.complete d stOK (le 4 (m.sagQ q).cells.length ++ le 4 (m.r SAG_POOL_FREE_FREE))
      m.servePend q bad m.sag.pend)

def execEnqueue (d : Desc) (bad : List (Fin 1024)) (s : State) : Res := s.on (enqueue d (bad.map (fun k => k.val)))

/-- DEQUEUE (R452, R453). -/
def dequeue (d : Desc) (bad : List Nat) (m : Mach) : Mach :=
  m.desc 0x0B01 d (fun d m =>
    let q := Descs.fld d 16 2
    let n := Descs.fld d 18 2
    match firstOf (m.sagShared d (n == 0 || 1024 < n || !Descs.buf d || Descs.len d < 64)) with
    | some st => m.complete d st
    | none =>
      if !(m.sagQ q).cells.isEmpty then m.dequeueNow d bad
      else if Descs.fld d 20 2 == 0 then m.complete d 0x11 (le 2 0 ++ le 4 0)
      else m.setSagPend (m.sag.pend ++ [(d, m.now + Descs.fld d 20 2)]))

def execDequeue (d : Desc) (bad : List (Fin 1024)) (s : State) : Res := s.on (dequeue d (bad.map (fun k => k.val)))

/-- DEQUEUE_WAIT_EXPIRY (R453): the oldest DEQUEUE of the queue whose wait has ended completes with EMPTY. -/
def dequeueWaitExpiry (q : Nat) (m : Mach) : Mach :=
  match m.sag.pend.find? (fun e => Descs.fld e.1 16 2 == q && e.2 ≤ m.now) with
  | some e => (m.setSagPend (m.sag.pend.erase e)).complete e.1 0x11 (le 2 0 ++ le 4 0)
  | none => m

def execDequeueWaitExpiry (q : Fin 1024) (s : State) : Res := s.on (dequeueWaitExpiry q)

/-- The pending DEQUEUEs that `p` takes complete with FLUSHED. -/
def Mach.flushPend (m : Mach) (p : Desc → Bool) : Mach :=
  let l := m.sag.pend.filter (fun e => p e.1)
  let m := m.setSagPend (m.sag.pend.filter (fun e => !p e.1))
  m.each l (fun m e => m.complete e.1 stFLUSHED)

/-- QUEUE_SET (R450). -/
def queueSet (d : Desc) (m : Mach) : Mach :=
  m.desc 0x0B02 d (fun d m =>
    let q := Descs.fld d 16 2
    let act := Descs.fld d 18 1
    match firstOf (m.sagShared d (act > 3)) with
    | some st => m.complete d st
    | none =>
      let freed := if 2 ≤ act then (m.sagQ q).cells.length else 0
      let m := if act == 0 then m.w SAG_Q_STATUS_ENABLED 1 q
        else if act == 1 || act == 3 then m.w SAG_Q_STATUS_ENABLED 0 q else m
      let m := if 2 ≤ act then
          let m := m.setCells q []
          (m.setSagQ q { m.sagQ q with armedLo := false }).flushPend (fun e => Descs.fld e 16 2 == q)
        else m
      m.complete d stOK (le 4 freed ++ le 1 (m.r SAG_Q_STATUS_ENABLED q)))

def execQueueSet (d : Desc) (s : State) : Res := s.on (queueSet d)

/-- Device firmware or a device block dequeues from a device queue (R444, R445, R454). -/
def Mach.deviceTake (m : Mach) (q n : Nat) (bad : List Nat) : Mach :=
  if n == 0 || (m.sagQ q).cells.isEmpty then m else m.cellsTake q (cellsGiven bad (min n (m.sagQ q).cells.length))

/-- DEVICE_ENQUEUE (R444, R445): of a device queue, which takes cells whatever SAG_CTRL.ENABLE holds (R451), after the cells that
its owner has dequeued since; which those are no command of the table says, and they come with this one (log entry 49). -/
def deviceEnqueue (q : Nat) (x : DeviceCells) (m : Mach) : Mach :=
  let m := m.deviceTake q x.taken (x.bad.map (fun k => k.val))
  if x.cells.isEmpty then m
  else if m.sagRoom q x.cells.length then m.setCells q ((m.sagQ q).cells ++ x.cells)
  else m.inc SAG_INT_REFUSED_ALL

def execDeviceEnqueue (q : Fin 512) (x : DeviceCells) (s : State) : Res := s.on (deviceEnqueue q x)

/-- QUEUE_IDLE_TIMEOUT (R449): non-empty for TIMEOUT ticks without a dequeue, once per start of the timer. -/
def queueIdleTimeout (q : Nat) (m : Mach) : Mach :=
  let x := m.sagQ q
  let t := m.r SAG_Q_TMO_TIMEOUT q
  if t != 0 && !x.cells.isEmpty && !x.fired && x.since + t ≤ m.now then
    ((m.setSagQ q { x with fired := true }).w SAG_Q_STATUS_TMO_SEEN 1 q).event 0x0B02 1 26 (le 2 q)
  else m

def execQueueIdleTimeout (q : Fin 1024) (s : State) : Res := s.on (queueIdleTimeout q)

/-- A write to SAG_Q_WM arms the queue for HI (R447). -/
def Mach.wmWritten (m : Mach) (q : Nat) : Mach := (m.setSagQ q { m.sagQ q with armedLo := false }).showQueue q

/-- SAG_CTRL.ENABLE written 0 (R451). -/
def Mach.saggarDrain (m : Mach) : Mach :=
  (m.flushPend (fun _ => true)).flushDelivered (fun d => d.target == 0x0B) stFLUSHED

end Sys2Proof.Machine
end

