-- ==== Sys2Proof/Machine/RegAccess.lean ====
section
/-! DEFINITION. Register accesses by their access codes (00, 02): the write of a register without a row of its own, the read of
an RC register, the read of a low word. -/

namespace Sys2Proof.Machine

open Sys2Proof

/-! ### Finding a register (R55) -/

/-- The index of a register of a bank at an offset. -/
def Reg.find (r : Reg) (off : Nat) : Option (Nat × Nat) :=
  (List.range r.count2).findSome? (fun j =>
    let base := r.base + r.step2 * j
    if off < base then none
    else if r.step == 0 then (if off == base then some (0, j) else none)
    else
      let i := (off - base) / r.step
      if (off - base) % r.step == 0 && r.first ≤ i && i < r.count then some (i, j) else none)

/-- The register at an offset with its index; none at a reserved offset. -/
def regAt (off : Nat) : Option (Reg × Nat × Nat) :=
  regMap.findSome? (fun r => (r.find off).map (fun ij => (r, ij.1, ij.2)))

/-! ### Writes (R7 to R9) -/

/-- A written value as its field stores it. -/
def Lim.stored (l : Lim) (width v : Nat) : Nat :=
  match l with
  | .any => v
  | .nearer lo hi => max lo (min hi v)
  | .signedNearer lo hi => unsgn width (max lo (min hi (sgn width v)))
  | .over hi x => if hi < v then x else v
  | .oneOf ok x => if ok.contains v then v else x
  | .steps k lo hi => max lo (min hi (v / k * k))

/-- The window of a block with an enable bit (R55). -/
def blkAt (off : Nat) : Option Blk :=
  if off < 0x100000 then none
  else if off < 0x200000 then some .time
  else if off < 0x204000 then some .gnss
  else if off < 0x300000 then some .corr
  else if off < 0x400000 then some .air
  else if off < 0x480000 then some .kiln
  else if off < 0x500000 then some .damper
  else if off < 0x580000 then some .saggar
  else if off < 0x600000 then none
  else if off < 0x680000 then some .metering
  else if off < 0x700000 then some .motion
  else none

/-- The set-up phase of a register (R8): its block's enable bit is 0; for a ring's registers its ENABLE (R61), for an axis's its
EN (R523). -/
def Mach.setUp (m : Mach) (off i : Nat) : Bool :=
  if 0x41000 ≤ off && off < 0x42000 then !m.b HIF_RP_CTRL_ENABLE i
  else if 0x42000 ≤ off && off < 0x43000 then !m.b HIF_ER_CTRL_ENABLE i
  else if 0x681000 ≤ off && off < 0x688000 then !m.b MOT_AX_CTRL_EN i
  else match blkAt off with
    | some b => !m.b (blkEnable b)
    | none => true

/-- A field's value after a write of `v` to a register that holds `old`. -/
def Field.written (f : Field) (setUp : Bool) (old v : Nat) : Nat :=
  let o := bits old f.lo f.width
  let x := bits v f.lo f.width
  match f.acc with
  | .rw => f.lim.stored f.width x
  | .rws => if setUp then f.lim.stored f.width x else o
  | .w1c => (List.range f.width).foldl (fun a k => if x.testBit k && a.testBit k then a - 2 ^ k else a) o
  | .w1s => o ||| x
  | .ro | .wo | .rc | .own => o

/-- The register after a write. -/
def Reg.written (r : Reg) (setUp : Bool) (old v : Nat) : Nat :=
  r.fields.foldl (fun a f => putBits a f.lo f.width (f.written setUp old v)) old

/-- A write outside the set-up phase that would change an RWS field (R9). -/
def Reg.violates (r : Reg) (setUp : Bool) (old v : Nat) : Bool :=
  !setUp && r.fields.any (fun f => f.acc == .rws && f.lim.stored f.width (bits v f.lo f.width) != bits old f.lo f.width)

/-- A write that its register ignores: of the host to a queue below 512 (R444), to the active slot-kind bank (R236). -/
def Mach.ignoresWrite (m : Mach) (master off i : Nat) : Bool :=
  (master == 1 && 0x501000 ≤ off && off < 0x505000 && i < 512) || (off == 0x301000 + 4 * i && off < 0x3014E4 && m.r AIR_SF_CTRL_BANK == 0)
    || (off == 0x301800 + 4 * i && off < 0x301CE4 && m.r AIR_SF_CTRL_BANK == 1)

/-- A changed polarity turns the level its switch input counts as active (R511). -/
def Mach.swPolChanged (m : Mach) (a old new : Nat) : Mach :=
  m.each ((List.range 3).filter (fun k => old.testBit k != new.testBit k)) (fun m k =>
    let x := m.axis a
    let w := Tabs.val x.sw {} k
    m.setAxis a { x with sw := Tabs.put x.sw k { w with raw := !w.raw } })

/-- What follows from a write, beside the register itself; `b` is the part before it, `m` after. -/
def Mach.wrote (m b : Mach) (master : Nat) (r : Reg) (i v : Nat) : Mach :=
  let f := r.base
  if f == INTC_BLK_FAULT_reg.base then
    let m := m.when (v.testBit 2) (fun m => m.w INTC_BLK_FAULT_OVERRUN_CNT 0 i)
    m.when (v.testBit 3) (fun m => m.w INTC_BLK_FAULT_CORR_CNT 0 i)
  else if f == KILN_AUTH_SEL_reg.base then m.authShow
  else if f == AIR_LINK_SEL_reg.base then m.airShow
  else if f == DAMP_IN_CFG_reg.base then m.inputsUse
  else if f == TIME_CTRL_reg.base then
    let m := m.timeShow
    m.when (b.b TIME_CTRL_MANUAL && !m.b TIME_CTRL_MANUAL) (fun m =>
      ({ m with time := { m.time with frozen := some (m.ri TIME_ADDEND_ADDEND) } }).timeEval false)
  else if f == TIME_SRC_CFG_reg.base then m.sourcesEnabled
  else if f == TIME_CMP_CFG_reg.base then (m.cmpRewired b i).dockOutputs
  else if f == MET_DOCK_CFG_reg.base then m.dockOutputs
  else if f == TIME_SLEW_CFG_reg.base then m.timeEval false
  else if f == TIME_PTP_CFG_reg.base || f == TIME_HOLD_CFG_reg.base then m.timeShow
  else if f == GNSS_CTRL_reg.base then m.when (b.b GNSS_CTRL_AUTO && !m.b GNSS_CTRL_AUTO) Mach.autoOff
  else if f == GNSS_BASELINE_E_reg.base || f == GNSS_BASELINE_N_reg.base || f == GNSS_BASELINE_U_reg.base then m.showBaseline
  else if f == SAG_Q_WM_reg.base then m.wmWritten i
  else if f == SAG_Q_STATUS_reg.base then
    m.when (v.testBit 20 || v.testBit 21) (fun m => m.w SAG_Q_STATUS_CROSS_CNT 0 i)
  else if f == REDUN_CTRL_reg.base then m.when (b.b REDUN_CTRL_MATE_EN && !m.b REDUN_CTRL_MATE_EN) Mach.mateOff
  else if f == SHARD_WIN_CFG_reg.base then
    let w := Tabs.val m.shard.wins {} master
    { b with shard := { b.shard with wins := Tabs.put b.shard.wins master { w with adv := v.testBit 0 } } }
  else if f == MOT_AX_CFG_reg.base then m.swPolChanged i (b.r MOT_AX_CFG_SW_POL i) (m.r MOT_AX_CFG_SW_POL i)
  else m

/-- Before READY the host reaches Identity and straps, and Clocks and power, only (R566). -/
def Mach.regOpen (m : Mach) (master off : Nat) : Bool := m.ready || master != 1 || off < 0x20000

/-- A written word with the values that a register takes in their place: MSM_HZ becomes a rate that divides the epoch rate
(R362), DOWN_MCS_MIN no more than DOWN_MCS_MAX (R321). -/
def Mach.asTaken (m : Mach) (r : Reg) (v : Nat) : Nat :=
  if r.base == CORR_RTCM_CFG_reg.base then
    putBits v CORR_RTCM_CFG_MSM_HZ.lo CORR_RTCM_CFG_MSM_HZ.width
      (msmHzOf (bits v CORR_RTCM_CFG_MSM_HZ.lo CORR_RTCM_CFG_MSM_HZ.width) (m.r GNSS_EPOCH_CFG_RATE_HZ))
  else if r.base == AIR_TX_CFG_reg.base then
    putBits v AIR_TX_CFG_DOWN_MCS_MIN.lo AIR_TX_CFG_DOWN_MCS_MIN.width
      (min (bits v AIR_TX_CFG_DOWN_MCS_MIN.lo AIR_TX_CFG_DOWN_MCS_MIN.width)
        (max 2 (bits v AIR_TX_CFG_DOWN_MCS_MAX.lo AIR_TX_CFG_DOWN_MCS_MAX.width)))
  else v

/-- A write to a register of BAR0 (R7 to R9). -/
def Mach.writeReg (m : Mach) (master off v : Nat) : Mach :=
  if master == 0 || !m.regOpen master off then m
  else match regAt off with
    | none => m
    | some (r, i, _) =>
      if m.ignoresWrite master off i then m.when (0x300000 ≤ off && off < 0x400000) (fun m => m.inc AIR_SF_REFUSED_ALL)
      else
        let old := (Tabs.val m.regs (BitVec.ofNat 32 r.reset) off).toNat
        let up := m.setUp off i
        let x := m.asTaken r v
        let new := r.written up old x
        let a := { m with regs := Tabs.put m.regs off (BitVec.ofNat 32 new) }
        let a := if r.violates up old x then (a.inc INTC_RWS_VIOL_ALL).w INTC_RWS_VIOL_ADDR_ALL off else a
        a.wrote m master r i v

/-- A write to BAR4: an MSI-X table word; the vector control word's bit 0 masks the vector (R79). The pending bits are not
written. -/
def Mach.writeMsix (m : Mach) (off v : Nat) : Mach :=
  if 1024 ≤ off then m
  else
    let m := { m with hif := { m.hif with msix := Tabs.put m.hif.msix off (BitVec.ofNat 32 v) } }
    if off % 16 != 12 then m
    else if v.testBit 0 then m.setVec (off / 16) { m.vec (off / 16) with masked := true }
    else msixVectorUnmask (off / 16) m

/-- A write to BAR2: the low word of doorbell `k` stands at 8 × k, and its bits [15:0] count; a write of a high word alone is
ignored, so that a 64-bit write acts as its low word (R74). -/
def Mach.writeDoorbell (m : Mach) (off v : Nat) : Mach :=
  m.when (off % 8 == 0) (fun m => ringDoorbell (off / 8) (v % 2 ^ 16) m)

/-- An access of the spec: a word of BAR0, BAR2, BAR4 or configuration space (R6, R51, R52). -/
def accessOk (space : Space) (off : Nat) : Bool :=
  off % 4 == 0 && decide (off < match space with
    | .bar0 => 0x4000000
    | .bar2 => 0x1000
    | .bar4 => 0x2000
    | .config => 0x1000)

/-- REGISTER_WRITE. -/
def registerWrite (master : Nat) (space : Space) (off v : Nat) (m : Mach) : Mach :=
  match space with
  | .bar0 => m.writeReg master off v
  | .bar2 => m.when (master == 1) (fun m => m.writeDoorbell off v)
  | .bar4 => m.when (master == 1) (fun m => m.writeMsix off v)
  | .config => m.when (master == 1) (fun m => m.writeCfg off v)

def execRegisterWrite (a : Fin 16) (space : Space) (off : Nat) (v : BitVec 32) (s : State) : Res :=
  if accessOk space off then s.on (registerWrite a space off v.toNat) else .fault .badAddress

/-! ### Reads (R6, R8) -/

/-- The bits of a register that a read returns: WO fields read 0, and so do reserved bits. -/
def Reg.shown (r : Reg) (w : Nat) : Nat :=
  r.fields.foldl (fun a f => if f.acc == .wo then putBits a f.lo f.width 0 else a) w

/-- The registers of the Shard log's window, which each master has for itself (R531). -/
def Mach.shardWord (m : Mach) (master off : Nat) : Option Nat :=
  let w := m.shardWin master
  if off == SHARD_CURSOR_reg.base then some w.cursor
  else if off == SHARD_WIN_CFG_reg.base then some (b2n w.adv)
  else (SHARD_WINDOW_reg.find off).map (fun ij => leAt w.window (4 * ij.1) 4)

/-- What a read of an offset returns: 0 at a reserved offset, or where the host does not reach the window yet; the seconds of
the time now are the clock's. -/
def Mach.readWord (m : Mach) (master off : Nat) : Nat :=
  if !m.regOpen master off then 0
  else if off == TIME_NOW_S_LO_reg.base then m.time.sec % 2 ^ 32
  else if off == TIME_NOW_S_HI_reg.base then m.time.sec / 2 ^ 32 % 2 ^ 16
  else match m.shardWord master off, regAt off with
    | some v, _ => v
    | none, none => 0
    | none, some (r, _, _) => r.shown (Tabs.val m.regs (BitVec.ofNat 32 r.reset) off).toNat

/-- A read: a high word captured for the master is returned and used up (R6). -/
def Mach.readReg (m : Mach) (master off : Nat) : Mach :=
  match Tabs.look m.hif.wide (16 * off + master) with
  | some v => ({ m with hif := { m.hif with wide := Tabs.del m.hif.wide (16 * off + master) } }).emit (.read master off v)
  | none => m.emit (.read master off (BitVec.ofNat 32 (m.readWord master off)))

/-- The RC fields of a register are cleared. -/
def Mach.clearRc (m : Mach) (off : Nat) : Mach :=
  match regAt off with
  | none => m
  | some (r, _, _) =>
    if r.fields.any (fun f => f.acc == .rc) then
      let old := (Tabs.val m.regs (BitVec.ofNat 32 r.reset) off).toNat
      let new := r.fields.foldl (fun a f => if f.acc == .rc then putBits a f.lo f.width 0 else a) old
      { m with regs := Tabs.put m.regs off (BitVec.ofNat 32 new) }
    else m

/-- The low words of the 64-bit values of the register tables; the mailbox words have rows of their own. -/
def lowRegs : List Reg :=
  [ID_SERIAL_LO_reg, HIF_SQ_BASE_LO_reg, HIF_CQ_BASE_LO_reg, HIF_ER_BASE_LO_reg, DAMP_IN_ZONE_LO_reg, DAMP_ZONE_LO_reg,
   AIR_ASN_LO_reg, CORR_POS_X_LO_reg, CORR_POS_Y_LO_reg, CORR_POS_Z_LO_reg, TIME_NOW_S_LO_reg, TIME_PTP_CLKID_LO_reg,
   MB_EPOCH_LO_reg, MET_TOT_IMP_LO_reg, MET_TOT_EXP_LO_reg, MET_INT_IMP_LO_reg, MET_INT_EXP_LO_reg]

/-- An offset is that of a low word. -/
def isLowWord (off : Nat) : Bool := lowRegs.any (fun r => (r.find off).isSome)

/-- The read of a low word captures the high word for the master's next read of it; one captured with the low word stays
(R6, R404). -/
def Mach.captureHigh (m : Mach) (master off : Nat) : Mach :=
  m.when (isLowWord off && (Tabs.look m.hif.wide (16 * off + master)).isNone) (fun m =>
    m.capture master (off + 4) (m.readWord master (off + 4)))

/-- A read of BAR0 by a master: what it returns, captures and clears. -/
def Mach.readBar0 (m : Mach) (master off : Nat) : Mach :=
  if off == TIME_NOW_NS_reg.base then timeNowRead master m
  else if off == SHARD_WIN_STATUS_reg.base then winStatusReadReload master m
  else if off == SHARD_WINDOW_ALL.off 15 0 then windowReadAdvance master m
  else ((m.captureHigh master off).readReg master off).when (m.regOpen master off) (fun m => m.clearRc off)

/-- A read of BAR4: MSI-X table words, with bit 0 of the vector control word the mask; the pending bits (R52, R79). -/
def Mach.readMsix (m : Mach) (off : Nat) : Nat :=
  if off < 1024 then
    if off % 16 == 12 then b2n (m.vec (off / 16)).masked else (Tabs.val m.hif.msix 0 off).toNat
  else if off == 0x1000 || off == 0x1004 then
    (List.range 32).foldl (fun a k => a + 2 ^ k * b2n (m.vec (8 * (off - 0x1000) + k)).pend) 0
  else 0

/-- READ_CLEAR_REGISTER_READ: a read of BAR0; of the host, one of a doorbell (R77), of BAR4 or of configuration space too. -/
def readClearRegisterRead (master : Nat) (space : Space) (off : Nat) (m : Mach) : Mach :=
  let give (v : Nat) : Mach := m.when (master == 1) (fun m => m.emit (.hostRead space off (BitVec.ofNat 32 v)))
  match space with
  | .bar0 => m.when (master != 0) (fun m => m.readBar0 master off)
  | .bar2 => give (if off % 8 == 0 then m.doorbellRead (off / 8) else 0)
  | .bar4 => give (m.readMsix off)
  | .config => give (m.readCfg off)

/-- An offset of BAR0 whose read acts on a mailbox or a lock, or is another one for each master: MB_POP_LO, MB_POP_HI, LOCK, the
window of the Shard log. -/
def ownRead (off : Nat) : Bool :=
  [MB_POP_LO_reg, MB_POP_HI_reg, LOCK_reg, SHARD_CURSOR_reg, SHARD_WIN_STATUS_reg, SHARD_WIN_CFG_reg, SHARD_WINDOW_reg].any
    (fun r => (r.find off).isSome)

/-- What a read of BAR0 does to mailboxes and locks, where a channel's or a lock's register stands at the offset (R462, R465). -/
def mboxRead (space : Space) (master off : Nat) : Option (MbSt → Mach → MbSt × Mach) :=
  if space != .bar0 then none
  else match MB_POP_LO_reg.find off, MB_POP_HI_reg.find off, LOCK_reg.find off with
    | some (c, _), _, _ => some (pop master c)
    | none, some (c, _), _ => some (popHigh master c)
    | none, none, some (k, _) => some (lockRead master k)
    | none, none, none => none

def execReadClearRegisterRead (a : Fin 16) (space : Space) (off : Nat) (s : State) : Res :=
  if !accessOk space off then .fault .badAddress
  else match mboxRead space a off with
    | some f => s.mbox f
    | none => s.on (readClearRegisterRead a space off)

/-- WIDE_VALUE_LOW_WORD_READ: the low word is returned, the high word captured for the master's next read of it. -/
def wideValueLowWordRead (master off : Nat) (m : Mach) : Mach :=
  m.when (master != 0 && isLowWord off) (fun m => m.readBar0 master off)

def execWideValueLowWordRead (a : Fin 16) (off : Nat) (s : State) : Res :=
  if accessOk .bar0 off then s.on (wideValueLowWordRead a off) else .fault .badAddress

end Sys2Proof.Machine
end

