-- ==== Sys2Proof/Machine/BlockEnable.lean ====
section
/-! DEFINITION. Enable bits: a write of 1 or 0, and the end of a drain (01, R41 and R42). -/

namespace Sys2Proof.Machine

open Sys2Proof

/-- What begins as a block's enable bit rises. -/
def Mach.blockStarts (m : Mach) (b : Blk) : Mach :=
  match b with
  | .damper => m.armWatchdog
  | .metering => m.metEnable
  | .corr => m.corrRefresh
  | .kiln => m.signShow
  | .air | .gnss | .time | .motion | .saggar => m

/-- BLOCK_ENABLE: 1 written to an enable bit; without effect during a drain (R42) and, as every write to these windows, before
READY (R566). The Air region checks its configuration (R230). -/
def blockEnable (b : Blk) (m : Mach) : Mach :=
  if !m.ready || m.b (blkEnable b) then m
  else match b with
    | .air => airEnable m
    | .kiln | .damper | .gnss | .corr | .time | .metering | .motion | .saggar => (m.w (blkEnable b) 1).blockStarts b

def execBlockEnable (b : Blk) (s : State) : Res := s.on (blockEnable b)

/-- What a block does at once as a drain begins (R41, R159, R206, R244, R352, R374, R396, R451, R496, R517). A metering block of
which no element runs makes its save now; else it waits for the boundary. The fixture interlocks fall at the write, as R159 has
it; R182 says in the tick after (DESIGN CHOICE, log entry 61). -/
def Mach.drainStarts (m : Mach) (b : Blk) : Mach :=
  match b with
  | .kiln => m.kilnDrain.signShow.interlocks.dockOutputs
  | .damper => m.damperDrain
  | .air => m.airDrain
  | .gnss => m.gnssDrain
  | .corr => m.corrDrain
  | .time => m.timeDrain
  | .metering => if m.metRunning then m else m.metStop
  | .motion => m.motionDrain
  | .saggar => m.saggarDrain

/-- BLOCK_DISABLE: 0 written to an enable bit. Damper takes it only while the site is latched (R223). -/
def blockDisable (b : Blk) (m : Mach) : Mach :=
  if !m.ready then m
  else if b == .damper && !m.siteLatched then m.inc DAMP_REQ_REFUSED_ALL
  else if !m.takes b then m
  else (m.w (blkDraining b) 1).drainStarts b

def execBlockDisable (b : Blk) (s : State) : Res := s.on (blockDisable b)

/-- A draining block has no started work left. -/
def Mach.blockIdle (m : Mach) (b : Blk) : Bool :=
  match b with
  | .kiln => m.kilnHolds.isEmpty && m.kiln.store.agents.all (fun e => e.2.held.isNone)
  | .damper => m.dam.stops.isEmpty && m.dam.release.isNone
  | .air => m.airIdle
  | .gnss => m.gnssIdle
  | .corr => m.corr.survey.isNone
  | .time => m.timeIdle
  | .metering => m.metIdle
  | .motion => m.motionIdle
  | .saggar => m.sag.pend.isEmpty

/-- What ends as the enable bit falls. -/
def Mach.drainEnds (m : Mach) (b : Blk) : Mach :=
  match b with
  | .air => m.airRefresh
  | .damper => m.disarmWatchdog
  | .kiln | .gnss | .corr | .time | .metering | .motion | .saggar => m

/-- DRAIN_COMPLETE (R42): the enable bit falls to 0 and the set-up phase begins. -/
def drainComplete (b : Blk) (m : Mach) : Mach :=
  if m.b (blkDraining b) && m.blockIdle b then
    ((m.w (blkDraining b) 0).w (blkEnable b) 0).drainEnds b
  else m

def execDrainComplete (b : Blk) (s : State) : Res := s.on (drainComplete b)

end Sys2Proof.Machine
end

