-- ==== Sys2Proof/Machine/Jtag.lean ====
section
/-! DEFINITION. The test access port: IEEE 1149.1 boundary scan with the mandatory instructions (R5). The spec names the standard
and gives no codes, lengths or cells; controller and instructions are as the standard has them (PRESUMED, log entry 65). -/

namespace Sys2Proof.Machine

open Sys2Proof

/-- The controller's next state, by TMS. -/
def TapState.next (t : TapState) (tms : Bool) : TapState :=
  match t, tms with
  | .reset, true => .reset
  | .reset, false => .idle
  | .idle, true => .selDr
  | .idle, false => .idle
  | .selDr, true => .selIr
  | .selDr, false => .capDr
  | .capDr, true => .ex1Dr
  | .capDr, false => .shDr
  | .shDr, true => .ex1Dr
  | .shDr, false => .shDr
  | .ex1Dr, true => .upDr
  | .ex1Dr, false => .pauDr
  | .pauDr, true => .ex2Dr
  | .pauDr, false => .pauDr
  | .ex2Dr, true => .upDr
  | .ex2Dr, false => .shDr
  | .upDr, true => .selDr
  | .upDr, false => .idle
  | .selIr, true => .reset
  | .selIr, false => .capIr
  | .capIr, true => .ex1Ir
  | .capIr, false => .shIr
  | .shIr, true => .ex1Ir
  | .shIr, false => .shIr
  | .ex1Ir, true => .upIr
  | .ex1Ir, false => .pauIr
  | .pauIr, true => .ex2Ir
  | .pauIr, false => .pauIr
  | .ex2Ir, true => .upIr
  | .ex2Ir, false => .shIr
  | .upIr, true => .selDr
  | .upIr, false => .idle

/-- An instruction that selects the boundary register; every other code selects the bypass register. -/
def scansPins (inst : Option Nat) : Bool :=
  inst.any (fun c => c == Config.jtagSample || c == Config.jtagPreload || c == Config.jtagExtest)

/-- A shift by one place: TDI enters at the end, the head has gone to TDO. -/
def shiftIn (l : List Bool) (tdi : Bool) : List Bool := (l ++ [tdi]).drop 1

/-- The number that bits spell, least significant first. -/
def bitsNat (l : List Bool) : Nat := l.foldr (fun b n => b2n b + 2 * n) 0

/-- What an edge does in the state it meets; in Test-Logic-Reset BYPASS is the instruction, as without an identification
register. -/
def JtagSt.act (j : JtagSt) (e : TapEdge) : JtagSt :=
  match j.tap with
  | .reset => { j with inst := none }
  | .capIr => { j with ir := true :: List.replicate (Config.jtagIrLen - 1) false }
  | .shIr => { j with tdo := j.ir.headD false, ir := shiftIn j.ir e.tdi }
  | .upIr => { j with inst := some (bitsNat j.ir) }
  | .capDr => { j with dr := if scansPins j.inst then e.pins else [false] }
  | .shDr => { j with tdo := j.dr.headD false, dr := shiftIn j.dr e.tdi }
  | .upDr => { j with hold := if scansPins j.inst then j.dr else j.hold }
  | _ => j

/-- A rising edge of TCK; TRST_N low resets the port. -/
def JtagSt.edge (j : JtagSt) (e : TapEdge) : JtagSt :=
  if e.trstN then { j.act e with tap := j.tap.next e.tms } else {}

/-- The levels EXTEST drives the pins to; none while the part's own logic drives them. -/
def JtagSt.drive (j : JtagSt) : Option (List Bool) := if j.inst == some Config.jtagExtest then some j.hold else none

/-- The edges of a tick. Nothing else of the part sees the port: it has no way to a key (R173, R259). -/
def Mach.jtagTick (m : Mach) (l : List TapEdge) : Mach :=
  { m with boot := { m.boot with jtag := l.foldl JtagSt.edge m.boot.jtag } }

end Sys2Proof.Machine
end

