-- ==== Sys2Proof/Machine/Tick.lean ====
section
/-! DEFINITION. The tick: what ends with a tick, the clock's step to the next whole millisecond, what begins with it (01, R25). -/

namespace Sys2Proof.Machine

open Sys2Proof

/-- The levels of the stop inputs as a tick begins (R202). -/
def Mach.stopLevels (m : Mach) (i : TickIn) : Mach :=
  m.each (List.range 4) (fun m n => stopInputAssert n (i.stopA.getLsbD n) (i.stopB.getLsbD n) m)

/-- TJ in 0.25 °C, and HOT from 110 °C on (R582). -/
def Mach.temperature (m : Mach) (tj : BitVec 12) : Mach :=
  let m := m.w PWR_TEMP_TJ tj.toNat
  m.when (440 ≤ tj.toInt) (fun m => m.w PWR_TEMP_HOT 1)

/-- VIN of the last tick, and V_W: the higher of 2.60 V and 0.9 times the mean of VIN over the last second, frozen from
the warning on, when the ticks above the restart threshold, V_W + 50 mV, are counted (R562, R580, R582). -/
def Mach.supply (m : Mach) (vin : Nat) : Mach :=
  let m := m.w PWR_VIN_VIN_MV vin
  if m.boot.powerFail then
    { m with boot := { m.boot with above := if m.r PWR_VIN_VW_MV + 50 < vin then m.boot.above + 1 else 0 } }
  else
    let l := (vin :: m.boot.vin).take 1000
    let m := { m with boot := { m.boot with vin := l } }
    m.w PWR_VIN_VW_MV (max 2600 (9 * l.sum / (10 * l.length)))

/-- The TCXO calibration kept in MRAM: the mean frequency term of a clock that a source steers, each second from 10 minutes
after reset on (R335). -/
def Mach.calibrate (m : Mach) : Mach :=
  if m.time.ns / 1000000 == 0 && m.time.used != 0 && 600000 ≤ m.now then
    { m with nv := { m.nv with set := { m.nv.set with tcxo := some (freqMean m.time.freqHist) } } }
  else m

/-- The blocks with tick work (R30). -/
def tickBlocks : List Nat := [2, 3, 12, 14, 15, 16, 17, 18, 20, 21, 24, 26]

/-- INTC_BLK_LOAD: the cycles a block has used in a tick are free (log entry 57). -/
def Mach.loads (m : Mach) : Mach :=
  m.each tickBlocks (fun m b => let (v, m) := m.draw; m.maxTo INTC_BLK_LOAD_ALL (v % 2 ^ 32) b)

/-- What Kiln does as a tick ends: the map exchange, snapshots, the settled store (R109, R153, R162); after a restart in that
tick it waits for the next boundary (R17). -/
def Mach.kilnTickEnd (m : Mach) : Mach := m.when (!m.restartedNow 15) (fun m => m.commitExchange.writeSnaps.kilnSettle)

/-- A tick ends: the signed records are checked, faults evaluated and the records left released, a map exchanged, snapshots
written and settled, reports passed to Kiln, the tick's mirror frames sent (R109, R162, R170, R20, R309, R421). -/
def Mach.tickEnd (m : Mach) (i : TickIn) : Mach :=
  let m := ((m.builderCheck i.authBad).loads.faultEval i.restartFails).builderRelease
  let m := m.kilnTickEnd.quickStop.signShow.airTake
  let m := m.when (!m.red.hold) Mach.passReports
  (m.when (!m.restartedNow 24) Mach.mateTick).heldShow

/-- Before the first step the local clock's slots stand for the slots of R193 and R197: a gate closed for the rest of one opens at
the next boundary, and a burst owed for one is not sent (R241, log entry 59). -/
def Mach.gateTick (m : Mach) : Mach :=
  m.when (!m.stepped && m.msInt % 4 == 0) (fun m =>
    (m.w DAMP_STATUS_BURSTS_LEFT (m.r DAMP_STATUS_BURSTS_LEFT - 1)).when (!m.isSafe) (fun m =>
      (m.w DAMP_STATUS_GATE 0).w AIR_STATUS_GATE 0))

/-- The clock reaches the next whole millisecond, and what counts ticks follows (R11, R25, R31, R140). -/
def Mach.tickClock (m : Mach) : Mach :=
  let m := m.clockTick.sharedRename.w SHARD_STATUS_CLEARING 0
  let m := { m with
    intc := { m.intc with ticks := m.intc.ticks + 1 }
    kiln := { m.kiln with ops := 0, closed := false, stepEnd := false, parkAgain := !m.parkDone, parkPos := if m.parkDone then 0 else m.kiln.parkPos }
    dam := { m.dam with forward := false, own := Stops.empty } }
  (((m.w INTC_TICK_ALL (m.time.ns / 1000000 % 1000)).rtcTick).calibrate).gateTick

/-- A slot begins with this tick, after the step. -/
def Mach.slotTick (m : Mach) : Bool := m.stepped && m.msInt % 4 == 0 && m.time.stepTick != some m.now

/-- The work of the tick that begins: builder, interlocks, metering, motion, GNSS, Saggar's streams. -/
def Mach.tickWork (m : Mach) (i : TickIn) : Mach :=
  let m := (m.when m.slotTick Mach.builderSlot).builderTick.interlocks.dockOutputs
  let m := m.metTick i.met
  let m := m.when (m.b MET_STATUS_DRAINING && m.metRunning) Mach.metStop
  let m := m.metBound
  let m := m.when (!m.restartedNow 21) (fun m => m.motionTick.chopTick m i.chop)
  (((m.biasTick i.maA.toNat i.maB.toNat).gnssTick i.dumps).streamsTick)

/-- What the registers show of the time, corrections, swap, trial and test as a tick begins. -/
def Mach.tickShow (m : Mach) : Mach :=
  let m := m.when m.msmTick Mach.corrEpoch
  let m := (m.timeShow.corrQualify.corrRefresh.swapShow.trialShow)
  m.when (m.ready && !m.recovery) (fun m => m.w IST_CYCLE_AGE_S_ALL ((m.now - m.ist.start) / 1000))

/-- A tick begins. -/
def Mach.tickBegin (m : Mach) (i : TickIn) : Mach :=
  let m := ((((m.tickClock.stopLevels i).temperature i.tj).supply i.vin.toNat).tickWork i).tickShow
  { m with intc := { m.intc with restarted := [] } }

/-- The masters that the restart of a block resets (R22, R463); of the application cores, those whose cell failed. -/
def Mach.mastersOf (m : Mach) (b : Nat) : List Nat :=
  match b with
  | 2 => [9]
  | 12 => [11]
  | 14 => [7]
  | 15 => [10]
  | 18 => [6]
  | 20 => [8]
  | 23 => [15]
  | 24 => [12]
  | 25 =>
    let cores := (m.uncorrOf 25).filterMap (fun e => e.1.bind (fun k => if k < 4 then some (2 + k) else none))
    if cores.isEmpty then [2, 3, 4, 5] else cores.eraseDups
  | 26 => [13]
  | 32 => [14]
  | _ => []

/-- TICK: nothing but the test port and the real-time clock while the unit is held in reset (R563, R580). -/
def tick (i : TickIn) (x : MbSt) (m : Mach) : MbSt × Mach :=
  let m := m.jtagTick i.jtag
  if m.boot.held then (x, m.rtcOn)
  else
    let masters := (m.restarts i.restartFails).flatMap m.mastersOf
    let r := masters.foldl (fun r k => resetMaster k r.1 r.2) (x, m.tickEnd i)
    (r.1, r.2.tickBegin i)

def execTick (i : TickIn) (s : State) : Res := s.mbox (tick i)

end Sys2Proof.Machine
end

