-- ==== Sys2Proof/Machine/Dispatch.lean ====
section
/-! DEFINITION. One arm for each command. -/

namespace Sys2Proof.Machine

open Sys2Proof

def exec (i : Instr) (s : State) : Host.Outcome State Fault Refusal :=
  match i with
  | .tick inp => Sys2Proof.Machine.execTick inp s
  | .guardPointOverrun b => Sys2Proof.Machine.execGuardPointOverrun b s
  | .cellFaultDetected b corrected spare cell => Sys2Proof.Machine.execCellFaultDetected b corrected spare cell s
  | .intcInject v => Sys2Proof.Machine.execIntcInject v s
  | .registerWrite m space off v => Sys2Proof.Machine.execRegisterWrite m space off v s
  | .readClearRegisterRead m space off => Sys2Proof.Machine.execReadClearRegisterRead m space off s
  | .wideValueLowWordRead m off => Sys2Proof.Machine.execWideValueLowWordRead m off s
  | .blockEnable b => Sys2Proof.Machine.execBlockEnable b s
  | .blockDisable b => Sys2Proof.Machine.execBlockDisable b s
  | .drainComplete b => Sys2Proof.Machine.execDrainComplete b s
  | .ringPairEnable r => Sys2Proof.Machine.execRingPairEnable r s
  | .eventRingEnable e => Sys2Proof.Machine.execEventRingEnable e s
  | .ringDisable r => Sys2Proof.Machine.execRingDisable r s
  | .submissionDoorbell r v => Sys2Proof.Machine.execSubmissionDoorbell r v s
  | .completionDoorbell r v => Sys2Proof.Machine.execCompletionDoorbell r v s
  | .eventRingDoorbell e v => Sys2Proof.Machine.execEventRingDoorbell e v s
  | .descriptorFetch r n err lat => Sys2Proof.Machine.execDescriptorFetch r n err lat s
  | .interruptCoalesceTimeout v => Sys2Proof.Machine.execInterruptCoalesceTimeout v s
  | .msixVectorUnmask v => Sys2Proof.Machine.execMsixVectorUnmask v s
  | .pcieLinkDown after => Sys2Proof.Machine.execPcieLinkDown after s
  | .busMasterDisable d3 => Sys2Proof.Machine.execBusMasterDisable d3 s
  | .busMasterEnable => Sys2Proof.Machine.execBusMasterEnable s
  | .nop d => Sys2Proof.Machine.execNop d s
  | .getTime d => Sys2Proof.Machine.execGetTime d s
  | .loadMap d => Sys2Proof.Machine.execLoadMap d s
  | .commitMap d => Sys2Proof.Machine.execCommitMap d s
  | .mapPersistDone => Sys2Proof.Machine.execMapPersistDone s
  | .kilnRotationStep ok => Sys2Proof.Machine.execKilnRotationStep ok s
  | .bankRename => Sys2Proof.Machine.execBankRename s
  | .admitAgent d => Sys2Proof.Machine.execAdmitAgent d s
  | .reservePath d => Sys2Proof.Machine.execReservePath d s
  | .releaseBehind d => Sys2Proof.Machine.execReleaseBehind d s
  | .truncate d => Sys2Proof.Machine.execTruncate d s
  | .cancel d => Sys2Proof.Machine.execCancel d s
  | .recover d => Sys2Proof.Machine.execRecover d s
  | .retire d => Sys2Proof.Machine.execRetire d s
  | .queryAgent d => Sys2Proof.Machine.execQueryAgent d s
  | .queryResource d => Sys2Proof.Machine.execQueryResource d s
  | .snapshot d => Sys2Proof.Machine.execSnapshot d s
  | .parkEvaluation => Sys2Proof.Machine.execParkEvaluation s
  | .parkLimitExpiry a => Sys2Proof.Machine.execParkLimitExpiry a s
  | .kilnProgressReport => Sys2Proof.Machine.execKilnProgressReport s
  | .heldOperationEffect a => Sys2Proof.Machine.execHeldOperationEffect a s
  | .autoRelease a => Sys2Proof.Machine.execAutoRelease a s
  | .quarantineEnd a => Sys2Proof.Machine.execQuarantineEnd a s
  | .authorityExpiry a => Sys2Proof.Machine.execAuthorityExpiry a s
  | .stopInputAssert n a b => Sys2Proof.Machine.execStopInputAssert n a b s
  | .stopInputClear n => Sys2Proof.Machine.execStopInputClear n s
  | .discrepancySet n => Sys2Proof.Machine.execDiscrepancySet n s
  | .discrepancyClear n => Sys2Proof.Machine.execDiscrepancyClear n s
  | .watchdogExpiry => Sys2Proof.Machine.execWatchdogExpiry s
  | .safetySiteRequest m s1 v => Sys2Proof.Machine.execSafetySiteRequest m s1 v s
  | .safetyAgentStopRequest m s1 v => Sys2Proof.Machine.execSafetyAgentStopRequest m s1 v s
  | .safetyZoneStopRequest m s1 v => Sys2Proof.Machine.execSafetyZoneStopRequest m s1 v s
  | .stop d => Sys2Proof.Machine.execStop d s
  | .releaseArm d => Sys2Proof.Machine.execReleaseArm d s
  | .releaseConfirm d => Sys2Proof.Machine.execReleaseConfirm d s
  | .releaseAbandon d => Sys2Proof.Machine.execReleaseAbandon d s
  | .wdogKick d => Sys2Proof.Machine.execWdogKick d s
  | .latchRelease => Sys2Proof.Machine.execLatchRelease s
  | .armLapse => Sys2Proof.Machine.execArmLapse s
  | .fixEnDelayExpiry => Sys2Proof.Machine.execFixEnDelayExpiry s
  | .damperSelfTest fail => Sys2Proof.Machine.execDamperSelfTest fail s
  | .outputPinMismatch pin => Sys2Proof.Machine.execOutputPinMismatch pin s
  | .grantRemoved => Sys2Proof.Machine.execGrantRemoved s
  | .grantAcquired => Sys2Proof.Machine.execGrantAcquired s
  | .slotStart => Sys2Proof.Machine.execSlotStart s
  | .stopContentSample => Sys2Proof.Machine.execStopContentSample s
  | .transmitWindow => Sys2Proof.Machine.execTransmitWindow s
  | .ackWindow => Sys2Proof.Machine.execAckWindow s
  | .slotBankSwitchRequest => Sys2Proof.Machine.execSlotBankSwitchRequest s
  | .slotBankExchange => Sys2Proof.Machine.execSlotBankExchange s
  | .airEnable => Sys2Proof.Machine.execAirEnable s
  | .txLimitTrip x => Sys2Proof.Machine.execTxLimitTrip x s
  | .laneClose x => Sys2Proof.Machine.execLaneClose x s
  | .joinRequestReceived rx => Sys2Proof.Machine.execJoinRequestReceived rx s
  | .robotAckReceived rx => Sys2Proof.Machine.execRobotAckReceived rx s
  | .joinTimeout x eui => Sys2Proof.Machine.execJoinTimeout x eui s
  | .admissionTimeout a => Sys2Proof.Machine.execAdmissionTimeout a s
  | .uplinkMissed x => Sys2Proof.Machine.execUplinkMissed x s
  | .laneMoveEffective a => Sys2Proof.Machine.execLaneMoveEffective a s
  | .credWrite d => Sys2Proof.Machine.execCredWrite d s
  | .credRemove d => Sys2Proof.Machine.execCredRemove d s
  | .credQuery d => Sys2Proof.Machine.execCredQuery d s
  | .moveLane d => Sys2Proof.Machine.execMoveLane d s
  | .evict d => Sys2Proof.Machine.execEvict d s
  | .queryMember d => Sys2Proof.Machine.execQueryMember d s
  | .uplinkDataFrame rx => Sys2Proof.Machine.execUplinkDataFrame rx s
  | .ackMissing x => Sys2Proof.Machine.execAckMissing x s
  | .taskOffer d => Sys2Proof.Machine.execTaskOffer d s
  | .taskQuery d => Sys2Proof.Machine.execTaskQuery d s
  | .taskForget d => Sys2Proof.Machine.execTaskForget d s
  | .taskOfferTimeout e => Sys2Proof.Machine.execTaskOfferTimeout e s
  | .taskDoneTimeout e => Sys2Proof.Machine.execTaskDoneTimeout e s
  | .antennaOpen a ma => Sys2Proof.Machine.execAntennaOpen a ma s
  | .antennaShort a ma => Sys2Proof.Machine.execAntennaShort a ma s
  | .antennaBiasRetry a ma => Sys2Proof.Machine.execAntennaBiasRetry a ma s
  | .channelAssign sig svid path k elev alm => Sys2Proof.Machine.execChannelAssign sig svid path k elev alm s
  | .channelRelease c elev => Sys2Proof.Machine.execChannelRelease c elev s
  | .channelTapWrite m c mp v => Sys2Proof.Machine.execChannelTapWrite m c mp v s
  | .pullInLock c cn0 => Sys2Proof.Machine.execPullInLock c cn0 s
  | .lossOfLock c cn0 alm => Sys2Proof.Machine.execLossOfLock c cn0 alm s
  | .acqSearchStart e => Sys2Proof.Machine.execAcqSearchStart e s
  | .acqDwellComplete e metric cell dc dd => Sys2Proof.Machine.execAcqDwellComplete e metric cell dc dd s
  | .navUnitDecoded u => Sys2Proof.Machine.execNavUnitDecoded u s
  | .measurementEpoch l => Sys2Proof.Machine.execMeasurementEpoch l s
  | .measRead d => Sys2Proof.Machine.execMeasRead d s
  | .navRead d => Sys2Proof.Machine.execNavRead d s
  | .acqSearch d => Sys2Proof.Machine.execAcqSearch d s
  | .trackPin d => Sys2Proof.Machine.execTrackPin d s
  | .trackUnpin d => Sys2Proof.Machine.execTrackUnpin d s
  | .setBasePos d => Sys2Proof.Machine.execSetBasePos d s
  | .survey d => Sys2Proof.Machine.execSurvey d s
  | .surveyFix fix sats => Sys2Proof.Machine.execSurveyFix fix sats s
  | .surveyEnd => Sys2Proof.Machine.execSurveyEnd s
  | .rtcmRead d => Sys2Proof.Machine.execRtcmRead d s
  | .setDescriptors d => Sys2Proof.Machine.execSetDescriptors d s
  | .msmBuild => Sys2Proof.Machine.execMsmBuild s
  | .stationMessageBuild => Sys2Proof.Machine.execStationMessageBuild s
  | .compactIeBuild => Sys2Proof.Machine.execCompactIeBuild s
  | .compactIeEnqueue => Sys2Proof.Machine.execCompactIeEnqueue s
  | .compactIeDeadline => Sys2Proof.Machine.execCompactIeDeadline s
  | .timeMeasurement inp => Sys2Proof.Machine.execTimeMeasurement inp s
  | .timeAddendWrite m v => Sys2Proof.Machine.execTimeAddendWrite m v s
  | .timeNowRead m => Sys2Proof.Machine.execTimeNowRead m s
  | .setFreeTime d => Sys2Proof.Machine.execSetFreeTime d s
  | .setExtTod d => Sys2Proof.Machine.execSetExtTod d s
  | .compareSet d => Sys2Proof.Machine.execCompareSet d s
  | .compareCancel d => Sys2Proof.Machine.execCompareCancel d s
  | .captureRead d => Sys2Proof.Machine.execCaptureRead d s
  | .captureInputEdge k ns half falling => Sys2Proof.Machine.execCaptureInputEdge k ns half falling s
  | .compareMatch k => Sys2Proof.Machine.execCompareMatch k s
  | .comparePeriodicPulse k => Sys2Proof.Machine.execComparePeriodicPulse k s
  | .comparePulseEnd k => Sys2Proof.Machine.execComparePulseEnd k s
  | .ptpSyncSend => Sys2Proof.Machine.execPtpSyncSend s
  | .ptpAnnounceSend => Sys2Proof.Machine.execPtpAnnounceSend s
  | .delayReqReceived f => Sys2Proof.Machine.execDelayReqReceived f s
  | .pdelayReqSend p tx => Sys2Proof.Machine.execPdelayReqSend p tx s
  | .pdelayReqReceived p f => Sys2Proof.Machine.execPdelayReqReceived p f s
  | .foreignAnnounceReceived p clk => Sys2Proof.Machine.execForeignAnnounceReceived p clk s
  | .ptpEventForward f => Sys2Proof.Machine.execPtpEventForward f s
  | .healthWordTimeout w => Sys2Proof.Machine.execHealthWordTimeout w s
  | .relinquishHoldEnd => Sys2Proof.Machine.execRelinquishHoldEnd s
  | .rolePrefWindowEnd => Sys2Proof.Machine.execRolePrefWindowEnd s
  | .mateHelloSend => Sys2Proof.Machine.execMateHelloSend s
  | .mateHelloReceived x => Sys2Proof.Machine.execMateHelloReceived x s
  | .mateTickReceived x => Sys2Proof.Machine.execMateTickReceived x s
  | .mateTickEndReceived x => Sys2Proof.Machine.execMateTickEndReceived x s
  | .mateLatchReceived x => Sys2Proof.Machine.execMateLatchReceived x s
  | .mateBulkReceived x => Sys2Proof.Machine.execMateBulkReceived x s
  | .mateAckReceived x => Sys2Proof.Machine.execMateAckReceived x s
  | .stopCompletionTimeout => Sys2Proof.Machine.execStopCompletionTimeout s
  | .mateRetxReqReceived x => Sys2Proof.Machine.execMateRetxReqReceived x s
  | .retxGapTimeout => Sys2Proof.Machine.execRetxGapTimeout s
  | .mateLinkLoss => Sys2Proof.Machine.execMateLinkLoss s
  | .mateAckLate => Sys2Proof.Machine.execMateAckLate s
  | .mateAckStale => Sys2Proof.Machine.execMateAckStale s
  | .warmEligibilityExpiry => Sys2Proof.Machine.execWarmEligibilityExpiry s
  | .bulkResyncComplete => Sys2Proof.Machine.execBulkResyncComplete s
  | .permitWatchSlot l => Sys2Proof.Machine.execPermitWatchSlot l s
  | .periodicSwapDue => Sys2Proof.Machine.execPeriodicSwapDue s
  | .swapQuietPoint => Sys2Proof.Machine.execSwapQuietPoint s
  | .swapWaitNotice => Sys2Proof.Machine.execSwapWaitNotice s
  | .swapFinal => Sys2Proof.Machine.execSwapFinal s
  | .swapAbandon => Sys2Proof.Machine.execSwapAbandon s
  | .swap d => Sys2Proof.Machine.execSwap d s
  | .resync d => Sys2Proof.Machine.execResync d s
  | .pairSet d => Sys2Proof.Machine.execPairSet d s
  | .swapPeriodWrite v => Sys2Proof.Machine.execSwapPeriodWrite v s
  | .enqueue d bad => Sys2Proof.Machine.execEnqueue d bad s
  | .dequeue d bad => Sys2Proof.Machine.execDequeue d bad s
  | .dequeueWaitExpiry q => Sys2Proof.Machine.execDequeueWaitExpiry q s
  | .queueSet d => Sys2Proof.Machine.execQueueSet d s
  | .deviceEnqueue q x => Sys2Proof.Machine.execDeviceEnqueue q x s
  | .queueIdleTimeout q => Sys2Proof.Machine.execQueueIdleTimeout q s
  | .streamClose q data => Sys2Proof.Machine.execStreamClose q data s
  | .streamIdleTimeout q data => Sys2Proof.Machine.execStreamIdleTimeout q data s
  | .mailboxPostLow m v => Sys2Proof.Machine.execMailboxPostLow m v s
  | .mailboxPost m ch v => Sys2Proof.Machine.execMailboxPost m ch v s
  | .mailboxPop m ch => Sys2Proof.Machine.execMailboxPop m ch s
  | .masterReset m => Sys2Proof.Machine.execMasterReset m s
  | .lockAcquireRead m k => Sys2Proof.Machine.execLockAcquireRead m k s
  | .lockReleaseWrite m k v => Sys2Proof.Machine.execLockReleaseWrite m k v s
  | .zeroCrossing d rising l => Sys2Proof.Machine.execZeroCrossing d rising l s
  | .lineLost d => Sys2Proof.Machine.execLineLost d s
  | .pulseStart d => Sys2Proof.Machine.execPulseStart d s
  | .pulseEnd d => Sys2Proof.Machine.execPulseEnd d s
  | .meterSave ok => Sys2Proof.Machine.execMeterSave ok s
  | .powerFailWarning dip => Sys2Proof.Machine.execPowerFailWarning dip s
  | .meterCrossCheck => Sys2Proof.Machine.execMeterCrossCheck s
  | .meterPowerUpdate => Sys2Proof.Machine.execMeterPowerUpdate s
  | .meterRead d => Sys2Proof.Machine.execMeterRead d s
  | .move d => Sys2Proof.Machine.execMove d s
  | .home d => Sys2Proof.Machine.execHome d s
  | .halt d => Sys2Proof.Machine.execHalt d s
  | .resume d => Sys2Proof.Machine.execResume d s
  | .flush d => Sys2Proof.Machine.execFlush d s
  | .moveStart a => Sys2Proof.Machine.execMoveStart a s
  | .moveComplete a => Sys2Proof.Machine.execMoveComplete a s
  | .overcurrent a => Sys2Proof.Machine.execOvercurrent a s
  | .homingStall a => Sys2Proof.Machine.execHomingStall a s
  | .switchRawTransition a k => Sys2Proof.Machine.execSwitchRawTransition a k s
  | .switchDebounceChange a k => Sys2Proof.Machine.execSwitchDebounceChange a k s
  | .axisAtRest a => Sys2Proof.Machine.execAxisAtRest a s
  | .stopMsExpiry a => Sys2Proof.Machine.execStopMsExpiry a s
  | .holdCurrentSwitch a => Sys2Proof.Machine.execHoldCurrentSwitch a s
  | .sineTableWrite a w v => Sys2Proof.Machine.execSineTableWrite a w v s
  | .axisEnable a => Sys2Proof.Machine.execAxisEnable a s
  | .axisDisable a => Sys2Proof.Machine.execAxisDisable a s
  | .shardRecordWrite => Sys2Proof.Machine.execShardRecordWrite s
  | .cursorWrite m v => Sys2Proof.Machine.execCursorWrite m v s
  | .windowReadAdvance m => Sys2Proof.Machine.execWindowReadAdvance m s
  | .winStatusReadReload m => Sys2Proof.Machine.execWinStatusReadReload m s
  | .clearArm d => Sys2Proof.Machine.execClearArm d s
  | .clearConfirm d => Sys2Proof.Machine.execClearConfirm d s
  | .shardClear => Sys2Proof.Machine.execShardClear s
  | .stageWrite d => Sys2Proof.Machine.execStageWrite d s
  | .activate d => Sys2Proof.Machine.execActivate d s
  | .scheduledActivation => Sys2Proof.Machine.execScheduledActivation s
  | .activationReset => Sys2Proof.Machine.execActivationReset s
  | .commit d => Sys2Proof.Machine.execCommit d s
  | .revert d => Sys2Proof.Machine.execRevert d s
  | .abort d => Sys2Proof.Machine.execAbort d s
  | .bootcfgSet d => Sys2Proof.Machine.execBootcfgSet d s
  | .mkeySet d => Sys2Proof.Machine.execMkeySet d s
  | .trialSuccess => Sys2Proof.Machine.execTrialSuccess s
  | .trialTimeout => Sys2Proof.Machine.execTrialTimeout s
  | .powerOnReset up => Sys2Proof.Machine.execPowerOnReset up s
  | .resetPin torn => Sys2Proof.Machine.execResetPin torn s
  | .powerFailRestart => Sys2Proof.Machine.execPowerFailRestart s
  | .unitResetCommand v => Sys2Proof.Machine.execUnitResetCommand v s
  | .bootTimeout => Sys2Proof.Machine.execBootTimeout s
  | .pmicPhaseDone straps => Sys2Proof.Machine.execPmicPhaseDone straps s
  | .bootRomPhaseDone link okA okB => Sys2Proof.Machine.execBootRomPhaseDone link okA okB s
  | .safetyPairsPhaseDone ok => Sys2Proof.Machine.execSafetyPairsPhaseDone ok s
  | .appCorePhaseDone ok keyOk bkOk => Sys2Proof.Machine.execAppCorePhaseDone ok keyOk bkOk s
  | .sharedSramRotationStep ok => Sys2Proof.Machine.execSharedSramRotationStep ok s
  | .gnssSpareTestStart => Sys2Proof.Machine.execGnssSpareTestStart s
  | .gnssSpareTestEnd ok => Sys2Proof.Machine.execGnssSpareTestEnd ok s
  | .laneLoopbackTest x fcsOk rssi => Sys2Proof.Machine.execLaneLoopbackTest x fcsOk rssi s
  | .meterReferenceTest drifts => Sys2Proof.Machine.execMeterReferenceTest drifts s
  | .mramScrub fixed bad => Sys2Proof.Machine.execMramScrub fixed bad s
  | .safetySelfTestSegment s1 last ok => Sys2Proof.Machine.execSafetySelfTestSegment s1 last ok s
  | .coverageOverdue => Sys2Proof.Machine.execCoverageOverdue s
  | .swapWaitExpiry => Sys2Proof.Machine.execSwapWaitExpiry s
  | .pdelayRespReceived p f => Sys2Proof.Machine.execPdelayRespReceived p f s
  | .antennaNormal a ma => Sys2Proof.Machine.execAntennaNormal a ma s
  | .ppsInEdgeTimeout => Sys2Proof.Machine.execPpsInEdgeTimeout s
  | .vinFallHoldInReset => Sys2Proof.Machine.execVinFallHoldInReset s
  | .functionReturnToD0 => Sys2Proof.Machine.execFunctionReturnToD0 s

end Sys2Proof.Machine
end

