-- ==== Sys2Proof/WellFormed.lean ====
section
/-! DEFINITION. The operands that a command of the spec can have; the other operands are bounded by their types. -/

namespace Sys2Proof

open Sys2Proof.Machine

/-- A descriptor as fetched: one of 64 rings, fields of their widths (R58, R64). -/
def Machine.Desc.wf (d : Desc) : Bool :=
  decide (d.ring < 64) && decide (d.op < 65536) && decide (d.target < 256) && decide (d.flags < 256)

/-- Block indices of R22, agent indices (R121). -/
def Machine.TickIn.wf (i : TickIn) : Bool :=
  i.restartFails.all (fun b => decide (b < 33)) && i.authBad.all (fun a => decide (a < 512)) && i.met.all MetEdge.wf

/-- Each channel once (R341). -/
def epochOnce (l : List EpochIn) : Bool := (l.map (fun e => e.chan)).Nodup

/-- The command is one that the spec gives. -/
def Instr.wellFormed (i : Instr) : Bool :=
  match i with
  | .tick inp => inp.wf
  | .guardPointOverrun _ => true
  | .cellFaultDetected _ _ _ _ => true
  | .intcInject _ => true
  | .registerWrite _ space off _ => accessOk space off
  | .readClearRegisterRead _ space off => accessOk space off
  | .wideValueLowWordRead _ off => accessOk .bar0 off
  | .blockEnable _ => true
  | .blockDisable _ => true
  | .drainComplete _ => true
  | .ringPairEnable _ => true
  | .eventRingEnable _ => true
  | .ringDisable _ => true
  | .submissionDoorbell _ _ => true
  | .completionDoorbell _ _ => true
  | .eventRingDoorbell _ _ => true
  | .descriptorFetch _ _ _ _ => true
  | .interruptCoalesceTimeout _ => true
  | .msixVectorUnmask _ => true
  | .pcieLinkDown _ => true
  | .busMasterDisable _ => true
  | .busMasterEnable => true
  | .nop d => d.wf
  | .getTime d => d.wf
  | .loadMap d => d.wf
  | .commitMap d => d.wf
  | .mapPersistDone => true
  | .kilnRotationStep _ => true
  | .bankRename => true
  | .admitAgent d => d.wf
  | .reservePath d => d.wf
  | .releaseBehind d => d.wf
  | .truncate d => d.wf
  | .cancel d => d.wf
  | .recover d => d.wf
  | .retire d => d.wf
  | .queryAgent d => d.wf
  | .queryResource d => d.wf
  | .snapshot d => d.wf
  | .parkEvaluation => true
  | .parkLimitExpiry _ => true
  | .kilnProgressReport => true
  | .heldOperationEffect _ => true
  | .autoRelease _ => true
  | .quarantineEnd _ => true
  | .authorityExpiry _ => true
  | .stopInputAssert _ _ _ => true
  | .stopInputClear _ => true
  | .discrepancySet _ => true
  | .discrepancyClear _ => true
  | .watchdogExpiry => true
  | .safetySiteRequest _ _ _ => true
  | .safetyAgentStopRequest _ _ _ => true
  | .safetyZoneStopRequest _ _ _ => true
  | .stop d => d.wf
  | .releaseArm d => d.wf
  | .releaseConfirm d => d.wf
  | .releaseAbandon d => d.wf
  | .wdogKick d => d.wf
  | .latchRelease => true
  | .armLapse => true
  | .fixEnDelayExpiry => true
  | .damperSelfTest _ => true
  | .outputPinMismatch _ => true
  | .grantRemoved => true
  | .grantAcquired => true
  | .slotStart => true
  | .stopContentSample => true
  | .transmitWindow => true
  | .ackWindow => true
  | .slotBankSwitchRequest => true
  | .slotBankExchange => true
  | .airEnable => true
  | .txLimitTrip _ => true
  | .laneClose _ => true
  | .joinRequestReceived _ => true
  | .robotAckReceived _ => true
  | .joinTimeout _ _ => true
  | .admissionTimeout _ => true
  | .uplinkMissed _ => true
  | .laneMoveEffective _ => true
  | .credWrite d => d.wf
  | .credRemove d => d.wf
  | .credQuery d => d.wf
  | .moveLane d => d.wf
  | .evict d => d.wf
  | .queryMember d => d.wf
  | .uplinkDataFrame _ => true
  | .ackMissing _ => true
  | .taskOffer d => d.wf
  | .taskQuery d => d.wf
  | .taskForget d => d.wf
  | .taskOfferTimeout _ => true
  | .taskDoneTimeout _ => true
  | .antennaOpen _ _ => true
  | .antennaShort _ _ => true
  | .antennaBiasRetry _ _ => true
  | .channelAssign _ _ _ _ _ _ => true
  | .channelRelease _ _ => true
  | .channelTapWrite _ _ _ _ => true
  | .pullInLock _ _ => true
  | .lossOfLock _ _ _ => true
  | .acqSearchStart _ => true
  | .acqDwellComplete _ _ _ _ _ => true
  | .navUnitDecoded _ => true
  | .measurementEpoch l => epochOnce l
  | .measRead d => d.wf
  | .navRead d => d.wf
  | .acqSearch d => d.wf
  | .trackPin d => d.wf
  | .trackUnpin d => d.wf
  | .setBasePos d => d.wf
  | .survey d => d.wf
  | .surveyFix _ _ => true
  | .surveyEnd => true
  | .rtcmRead d => d.wf
  | .setDescriptors d => d.wf
  | .msmBuild => true
  | .stationMessageBuild => true
  | .compactIeBuild => true
  | .compactIeEnqueue => true
  | .compactIeDeadline => true
  | .timeMeasurement _ => true
  | .timeAddendWrite _ _ => true
  | .timeNowRead _ => true
  | .setFreeTime d => d.wf
  | .setExtTod d => d.wf
  | .compareSet d => d.wf
  | .compareCancel d => d.wf
  | .captureRead d => d.wf
  | .captureInputEdge _ _ _ _ => true
  | .compareMatch _ => true
  | .comparePeriodicPulse _ => true
  | .comparePulseEnd _ => true
  | .ptpSyncSend => true
  | .ptpAnnounceSend => true
  | .delayReqReceived _ => true
  | .pdelayReqSend _ _ => true
  | .pdelayReqReceived _ _ => true
  | .foreignAnnounceReceived _ _ => true
  | .ptpEventForward _ => true
  | .healthWordTimeout _ => true
  | .relinquishHoldEnd => true
  | .rolePrefWindowEnd => true
  | .mateHelloSend => true
  | .mateHelloReceived _ => true
  | .mateTickReceived _ => true
  | .mateTickEndReceived _ => true
  | .mateLatchReceived _ => true
  | .mateBulkReceived _ => true
  | .mateAckReceived _ => true
  | .stopCompletionTimeout => true
  | .mateRetxReqReceived _ => true
  | .retxGapTimeout => true
  | .mateLinkLoss => true
  | .mateAckLate => true
  | .mateAckStale => true
  | .warmEligibilityExpiry => true
  | .bulkResyncComplete => true
  | .permitWatchSlot _ => true
  | .periodicSwapDue => true
  | .swapQuietPoint => true
  | .swapWaitNotice => true
  | .swapFinal => true
  | .swapAbandon => true
  | .swap d => d.wf
  | .resync d => d.wf
  | .pairSet d => d.wf
  | .swapPeriodWrite _ => true
  | .enqueue d _ => d.wf
  | .dequeue d _ => d.wf
  | .dequeueWaitExpiry _ => true
  | .queueSet d => d.wf
  | .deviceEnqueue _ _ => true
  | .queueIdleTimeout _ => true
  | .streamClose _ _ => true
  | .streamIdleTimeout _ _ => true
  | .mailboxPostLow _ _ => true
  | .mailboxPost _ _ _ => true
  | .mailboxPop _ _ => true
  | .masterReset _ => true
  | .lockAcquireRead _ _ => true
  | .lockReleaseWrite _ _ _ => true
  | .zeroCrossing _ _ l => l.all MetEdge.wf
  | .lineLost _ => true
  | .pulseStart _ => true
  | .pulseEnd _ => true
  | .meterSave _ => true
  | .powerFailWarning _ => true
  | .meterCrossCheck => true
  | .meterPowerUpdate => true
  | .meterRead d => d.wf
  | .move d => d.wf
  | .home d => d.wf
  | .halt d => d.wf
  | .resume d => d.wf
  | .flush d => d.wf
  | .moveStart _ => true
  | .moveComplete _ => true
  | .overcurrent _ => true
  | .homingStall _ => true
  | .switchRawTransition _ _ => true
  | .switchDebounceChange _ _ => true
  | .axisAtRest _ => true
  | .stopMsExpiry _ => true
  | .holdCurrentSwitch _ => true
  | .sineTableWrite _ _ _ => true
  | .axisEnable _ => true
  | .axisDisable _ => true
  | .shardRecordWrite => true
  | .cursorWrite _ _ => true
  | .windowReadAdvance _ => true
  | .winStatusReadReload _ => true
  | .clearArm d => d.wf
  | .clearConfirm d => d.wf
  | .shardClear => true
  | .stageWrite d => d.wf
  | .activate d => d.wf
  | .scheduledActivation => true
  | .activationReset => true
  | .commit d => d.wf
  | .revert d => d.wf
  | .abort d => d.wf
  | .bootcfgSet d => d.wf
  | .mkeySet d => d.wf
  | .trialSuccess => true
  | .trialTimeout => true
  | .powerOnReset _ => true
  | .resetPin _ => true
  | .powerFailRestart => true
  | .unitResetCommand _ => true
  | .bootTimeout => true
  | .pmicPhaseDone _ => true
  | .bootRomPhaseDone _ _ _ => true
  | .safetyPairsPhaseDone _ => true
  | .appCorePhaseDone _ _ _ => true
  | .sharedSramRotationStep _ => true
  | .gnssSpareTestStart => true
  | .gnssSpareTestEnd _ => true
  | .laneLoopbackTest _ _ _ => true
  | .meterReferenceTest _ => true
  | .mramScrub _ _ => true
  | .safetySelfTestSegment _ _ _ => true
  | .coverageOverdue => true
  | .swapWaitExpiry => true
  | .pdelayRespReceived _ _ => true
  | .antennaNormal _ _ => true
  | .ppsInEdgeTimeout => true
  | .vinFallHoldInReset => true
  | .functionReturnToD0 => true

end Sys2Proof
end

