-- ==== Sys2Proof/Safety.lean ====
section
/-! DEFINITION. The terms claims are stated in: canonical forms, the mailboxes' invariant, what stays as it was, which commands
are descriptors of an opcode, when a descriptor starts. -/

namespace Sys2Proof.Machine

open Sys2Proof

/-- Host memory in canonical form: addresses strictly rising, no byte of the value an unlisted one reads as. -/
def Mach.memWf (m : Mach) : Bool := Tabs.rising none m.hostMem && m.hostMem.all (fun e => e.2 != 0)

/-- One byte of host memory. -/
def Mach.hostByte (m : Mach) (a : Nat) : Byte := Tabs.val m.hostMem 0 a

/-- The mailboxes and locks: tables in canonical form; at most 32 notices in a channel (R460); a lock's owner is a master number,
0 when free (R465); epochs of 4 bits (R463); numbers of channels, locks and masters in range. -/
def MbSt.wf (x : MbSt) : Bool :=
  Tabs.rising none x.chans && Tabs.rising none x.lowWord && Tabs.rising none x.highWord && Tabs.rising none x.epochs &&
    Tabs.rising none x.owners &&
    x.chans.all (fun e => decide (e.1 < 64) && decide (e.2.length ≤ 32)) &&
    x.owners.all (fun e => decide (e.1 < 64) && decide (e.2 < 16)) &&
    x.epochs.all (fun e => decide (e.1 < 16) && decide (e.2 < 16))

/-- The invariant of mailboxes and locks. -/
def State.Inv (s : State) : Prop := s.mb.wf = true

/-- Both stop networks and FIX_EN_N are released (R213). -/
def Mach.outputsReleased (m : Mach) : Prop := m.dam.run = false ∧ m.dam.fixRun = false

/-- The state with its part replaced: queue, mailboxes and locks as they are. -/
def State.having (s : State) (m : Mach) : State := { s with m := m }

/-- Every register of BAR0 whose offset is not in `l` holds what it held. -/
def regsKept (l : List Nat) (a b : Mach) : Prop := ∀ off, off ∉ l → Tabs.look b.regs off = Tabs.look a.regs off

/-- Nothing but Kiln's state and registers differs. -/
def kilnOnly (a b : Mach) : Prop := b = { a with kiln := b.kiln, regs := b.regs }

/-- Kiln's tick takes one more operation of a step now, a descriptor where none is named (R31, R109, R130, R433). -/
def Mach.kilnFree (m : Mach) (st : KilnStep := .desc) : Prop := m.kilnAdmits st = true

/-- The part with one more operation counted in Kiln's tick (R31, R160). -/
def Mach.kilnCounted (m : Mach) : Mach :=
  ((({ m with kiln := { m.kiln with ops := m.kiln.ops + 1 } }).inc KILN_OPS_ALL).maxTo KILN_TICK_OPS_MAX_ALL
    (m.kiln.ops + 1)).maxTo KILN_OP_CYCLES_MAX_ALL (Config.opCycles m.now (m.kiln.ops + 1))

/-- An operation of Kiln that needs the ACTIVE role passes the checks of a reference (R155): enabled, ACTIVE, a map committed,
the generation current. -/
def Mach.kilnTakes (m : Mach) (ref : Nat) : Prop :=
  refOk ref = true ∧ m.takes .kiln = true ∧ m.isActive = true ∧ m.kiln.map.isSome = true ∧ m.stale ref = false

/-- A descriptor as its block takes it: of an opcode's row, equal to the entry its ring keeps. -/
def Desc.as (d : Desc) (op : Nat) : Desc := { d with op := op, bufErr := false }

/-- The descriptor starts now: nothing of its ring holds it back (R67), and its buffer's transfer does not fail (R54, R81). -/
def Mach.starts (m : Mach) (op : Nat) (d : Desc) : Prop := m.waits (d.as op) = false ∧ m.bufFails d = false

/-- The descriptors of Kiln, each with its opcode (R86). -/
def descKiln : List (Nat × (Desc → Instr)) :=
  [(0x0110, Instr.queryAgent), (0x0111, Instr.queryResource), (0x0120, Instr.snapshot),
   (0x0140, Instr.loadMap), (0x0141, Instr.commitMap), (0x0100, Instr.admitAgent), (0x0101, Instr.reservePath),
   (0x0102, Instr.releaseBehind), (0x0103, Instr.truncate), (0x0104, Instr.cancel), (0x0105, Instr.recover),
   (0x0106, Instr.retire)]

/-- The descriptors of Damper and the Air region, each with its opcode (R86). -/
def descAir : List (Nat × (Desc → Instr)) :=
  [(0x0200, Instr.stop), (0x0201, Instr.releaseArm), (0x0202, Instr.releaseConfirm),
   (0x0203, Instr.releaseAbandon), (0x0204, Instr.wdogKick), (0x0300, Instr.credWrite),
   (0x0301, Instr.credRemove), (0x0302, Instr.credQuery), (0x0303, Instr.moveLane), (0x0304, Instr.evict),
   (0x0305, Instr.queryMember), (0x0310, Instr.taskOffer), (0x0311, Instr.taskQuery),
   (0x0312, Instr.taskForget)]

/-- The descriptors of GNSS, corrections and time, each with its opcode (R86). -/
def descGnss : List (Nat × (Desc → Instr)) :=
  [(0x0400, Instr.measRead), (0x0401, Instr.navRead), (0x0402, Instr.acqSearch), (0x0403, Instr.trackPin),
   (0x0404, Instr.trackUnpin), (0x0410, Instr.setBasePos), (0x0411, Instr.survey), (0x0412, Instr.rtcmRead),
   (0x0413, Instr.setDescriptors), (0x0500, Instr.setFreeTime), (0x0501, Instr.setExtTod),
   (0x0502, Instr.compareSet), (0x0503, Instr.compareCancel), (0x0504, Instr.captureRead)]

/-- The descriptors of the other blocks, each with its opcode (R86). -/
def descRest : List (Nat × (Desc → Instr)) :=
  [(0x0C00, Instr.nop), (0x0C01, Instr.getTime), (0x0600, Instr.meterRead), (0x0700, Instr.move),
   (0x0701, Instr.home), (0x0702, Instr.halt), (0x0703, Instr.resume), (0x0704, Instr.flush),
   (0x0800, Instr.swap), (0x0801, Instr.resync), (0x0802, Instr.pairSet), (0x0900, Instr.clearArm),
   (0x0901, Instr.clearConfirm), (0x0A00, Instr.stageWrite), (0x0A01, Instr.activate), (0x0A02, Instr.commit),
   (0x0A03, Instr.revert), (0x0A04, Instr.abort), (0x0A05, Instr.bootcfgSet), (0x0A06, Instr.mkeySet),
   (0x0B00, fun d => Instr.enqueue d []), (0x0B01, fun d => Instr.dequeue d []), (0x0B02, Instr.queueSet)]

/-- The commands that are descriptors, each with its opcode (R86). -/
def descCommands : List (Nat × (Desc → Instr)) := descKiln ++ descAir ++ descGnss ++ descRest

/-- The commands that may change mailboxes or locks: posts, pops, the read of a captured word, locks and the resets of masters;
what resets the unit (R463, R562). -/
def touchesMailboxes (c : Instr) : Bool :=
  match c with
  | .readClearRegisterRead _ _ _ | .mailboxPostLow _ _ | .mailboxPost _ _ _ | .mailboxPop _ _ | .masterReset _ | .lockAcquireRead _ _
  | .lockReleaseWrite _ _ _ | .pcieLinkDown _ | .tick _ | .powerOnReset _ | .resetPin _ | .vinFallHoldInReset
  | .powerFailRestart | .unitResetCommand _ | .bootTimeout | .activationReset | .safetyPairsPhaseDone _
  | .appCorePhaseDone _ _ _ => true
  | _ => false

end Sys2Proof.Machine
end

