-- ==== Sys2Proof/Certificates/Slice0/Obligations.lean ====
section
/-! DEFINITION. The statements for the provers. -/

open Sys2Proof Sys2Proof.Machine

/-- A step runs the command at the front of the queue; an empty queue leaves the part idle (log entry 1). -/
def Obligations.StepRunsTheFrontCommand : Prop :=
  (∀ (c : Instr) (rest : List Instr) (s : State),
    step { s with pending := c :: rest } = exec c { s with pending := rest }) ∧
  (∀ s : State, s.pending = [] → step s = .next s)

/-- Every step keeps the invariant of mailboxes and locks. -/
def Obligations.StepKeepsTheMailboxInvariant : Prop :=
  (∀ s s' : State, s.Inv → step s = .next s' → s'.Inv) ∧
  (∀ (c : Instr) (s s' : State), touchesMailboxes c = false → exec c s = .next s' → s'.mb = s.mb)

/-- The state after reset meets the invariant, its host memory is in canonical form and its queue is empty. -/
def Obligations.ResetMeetsTheInvariant : Prop :=
  State.reset.Inv ∧ State.reset.m.memWf = true ∧ State.reset.m.hostMem = [] ∧ State.reset.pending = []

/-- After reset the registers hold the reset values of the spec's tables. -/
def Obligations.ResetValuesOfRegisters : Prop :=
  (∀ r : Fin 64, State.reset.m.r HIF_RP_STATUS_STATE r = 0) ∧ (∀ e : Fin 8, State.reset.m.r HIF_ER_STATUS_STATE e = 0) ∧
  State.reset.m.siteLatched = true ∧ State.reset.m.outputsReleased ∧
  State.reset.m.b KILN_CTRL_ENABLE = false ∧ State.reset.m.b DAMP_CTRL_ENABLE = false ∧
  State.reset.m.b AIR_CTRL_ENABLE = false ∧ State.reset.m.stepped = false ∧ State.reset.m.isSafe = false ∧
  State.reset.m.ready = false ∧ State.reset.m.r AIR_SLOT_CFG_SF_LEN = 250 ∧ State.reset.m.r HIF_BAD_DB_ALL = 0

/-- No well-formed command stops: exec answers a next state, and the queue is as it was. -/
def Obligations.WellFormedCommandsComplete : Prop :=
  ∀ (c : Instr) (s : State), c.wellFormed = true → ∃ t, exec c s = .next t ∧ t.pending = s.pending

/-- A descriptor that FENCE or queue order holds back has no effect yet; a failing buffer transfer halts its ring.
The model's choices in it are those of log entries 10, 19, 61. -/
def Obligations.DescriptorsWaitInRingOrder : Prop :=
  ∀ e ∈ descCommands, ∀ (d : Desc) (s : State),
    (s.m.waits (d.as e.1) = true → exec (e.2 d) s = .next s) ∧
    (s.m.waits (d.as e.1) = false → Descs.buf d = true → d.bufErr = true ∨ s.m.canWrite = false →
      exec (e.2 d) s = .next (s.having (((s.m.when d.bufErr Mach.linkError).haltRing d.ring 4).complete (d.as e.1)
        stBAD_DESCRIPTOR (s.m.refusedRes (d.as e.1)))))

/-- A completion writes its 32-byte entry in the next slot of the ring, and no other byte of host memory. -/
def Obligations.CompletionEntryIsWritten : Prop :=
  ∀ (m : Mach) (d : Desc) (st : Nat) (res : List Byte), m.memWf = true → d.ring < 64 → m.canWrite = true → d.era = m.hif.era →
    m.r HIF_RP_STATUS_STATE d.ring = 1 ∨ m.r HIF_RP_STATUS_STATE d.ring = 2 →
    let x := m.ring d.ring
    let a := m.cqBase d.ring + 32 * x.cqWrite
    let t := m.complete d st res
    t.hostRd a 32 = le 2 d.tag.toNat ++ le 1 st ++ le 1 (b2n x.phase) ++ le 2 (m.r HIF_RP_STATUS_SQ_HEAD d.ring) ++
      le 2 d.op ++ le 4 d.req.toNat ++ le 4 m.st32 ++ (res ++ List.replicate 16 0).take 16 ∧
    (∀ b, b < a ∨ a + 32 ≤ b → t.hostByte b = m.hostByte b) ∧ t.memWf = true ∧
    (t.ring d.ring).cqWrite = (x.cqWrite + 1) % 2 ^ m.r HIF_RP_CFG_SIZE_LOG2 d.ring ∧
    (t.ring d.ring).phase = (if (x.cqWrite + 1) % 2 ^ m.r HIF_RP_CFG_SIZE_LOG2 d.ring = 0 then !x.phase else x.phase) ∧
    (t.ring d.ring).delivered = dropFirst (fun e => e == d) x.delivered

/-- A completion that the host cannot be written is discarded and counted; memory is unchanged.
The model's choices in it are those of log entry 61. -/
def Obligations.LostCompletionsAreCounted : Prop :=
  ∀ (m : Mach) (d : Desc) (st : Nat) (res : List Byte), d.ring < 64 →
    (m.canWrite = false ∨ d.era ≠ m.hif.era) ∧ m.r HIF_RP_STATUS_STATE d.ring = 1 ∨ m.r HIF_RP_STATUS_STATE d.ring = 0 →
    let t := m.complete d st res
    t.hostMem = m.hostMem ∧ t.out = m.out ∧ t.r HIF_LOST_CPL_ALL = min (m.r HIF_LOST_CPL_ALL + 1) (2 ^ 32 - 1) ∧
    (t.ring d.ring).delivered = dropFirst (fun e => e == d) (m.ring d.ring).delivered

/-- An event takes a sequence number of its ring; it is written with it, or dropped and counted. -/
def Obligations.EventEntryIsWritten : Prop :=
  ∀ (m : Mach) (e code sev src : Nat) (args : List Byte), e < 8 → m.memWf = true →
    let x := m.ering e
    let n := m.r HIF_ER_CFG_SIZE_LOG2 e
    let wr := m.r HIF_ER_STATUS_WR_INDEX e
    let full := decide (2 ^ n - 1 ≤ (wr + 2 ^ n - x.head) % 2 ^ n)
    let a := m.erBase e + 32 * wr
    let t := m.toRing e code sev src args
    (t.ering e).seq = (x.seq + 1) % 2 ^ 32 ∧ (t.ering e).head = x.head ∧
    (m.r HIF_ER_STATUS_STATE e = 1 → n ≤ 16 → full = false → m.canWrite = true →
      t.hostRd a 32 = le 2 code ++ le 1 sev ++ le 1 (m.r HIF_ER_STATUS_PHASE e) ++ le 4 x.seq ++ le 6 m.time.sec ++
        le 4 m.time.ns ++ le 1 src ++ le 1 (b2n m.stepped) ++ (args ++ List.replicate 12 0).take 12 ∧
      (∀ b, b < a ∨ a + 32 ≤ b → t.hostByte b = m.hostByte b) ∧
      t.r HIF_ER_STATUS_WR_INDEX e = (wr + 1) % 2 ^ n % 2 ^ HIF_ER_STATUS_WR_INDEX.width) ∧
    (m.r HIF_ER_STATUS_STATE e ≠ 1 ∨ full = true ∨ m.canWrite = false →
      t.hostMem = m.hostMem ∧ t.r HIF_ER_DROP_ALL e = min (m.r HIF_ER_DROP_ALL e + 1) (2 ^ HIF_ER_DROP_ALL.width - 1))

/-- What a write to a doorbell does, row by row. -/
def Obligations.DoorbellsMoveRingIndices : Prop :=
  (∀ (r : Fin 64) (v : BitVec 16) (s : State),
    let x := s.m.ring r
    let n := 2 ^ s.m.r HIF_RP_CFG_SIZE_LOG2 r
    let add := (v.toNat + n - x.tail) % n
    (s.m.r HIF_RP_STATUS_STATE r ≠ 1 → exec (.submissionDoorbell r v) s = .next (s.having (s.m.inc HIF_BAD_DB_ALL))) ∧
    (s.m.r HIF_RP_STATUS_STATE r = 1 → v.toNat = x.tail → exec (.submissionDoorbell r v) s = .next s) ∧
    (s.m.r HIF_RP_STATUS_STATE r = 1 → v.toNat ≠ x.tail → v.toNat < n → x.outstanding + add ≤ n - 1 →
      exec (.submissionDoorbell r v) s =
        .next (s.having (s.m.setRing r { x with tail := v.toNat, outstanding := x.outstanding + add }))) ∧
    (s.m.r HIF_RP_STATUS_STATE r = 1 → v.toNat ≠ x.tail → n ≤ v.toNat →
      exec (.submissionDoorbell r v) s = .next (s.having (s.m.haltRing r 1))) ∧
    (s.m.r HIF_RP_STATUS_STATE r = 1 → v.toNat ≠ x.tail → v.toNat < n → n - 1 < x.outstanding + add →
      exec (.submissionDoorbell r v) s = .next (s.having (s.m.haltRing r 6)))) ∧
  (∀ (r : Fin 64) (v : BitVec 16) (s : State),
    let x := s.m.ring r
    let n := 2 ^ s.m.r HIF_RP_CFG_SIZE_LOG2 r
    let freed := (v.toNat + n - x.cqHead) % n
    let written := (x.cqWrite + n - x.cqHead) % n
    (s.m.r HIF_RP_STATUS_STATE r ≠ 1 → exec (.completionDoorbell r v) s = .next (s.having (s.m.inc HIF_BAD_DB_ALL))) ∧
    (s.m.r HIF_RP_STATUS_STATE r = 1 → v.toNat = x.cqHead → exec (.completionDoorbell r v) s = .next s) ∧
    (s.m.r HIF_RP_STATUS_STATE r = 1 → v.toNat ≠ x.cqHead → v.toNat < n → freed ≤ written →
      exec (.completionDoorbell r v) s =
        .next (s.having (s.m.setRing r { x with cqHead := v.toNat, outstanding := x.outstanding - freed }))) ∧
    (s.m.r HIF_RP_STATUS_STATE r = 1 → v.toNat ≠ x.cqHead → n ≤ v.toNat ∨ written < freed →
      exec (.completionDoorbell r v) s = .next (s.having (s.m.haltRing r 2)))) ∧
  (∀ (e : Fin 8) (v : BitVec 16) (s : State),
    let x := s.m.ering e
    let n := 2 ^ s.m.r HIF_ER_CFG_SIZE_LOG2 e
    let freed := (v.toNat + n - x.head) % n
    let written := (s.m.r HIF_ER_STATUS_WR_INDEX e + n - x.head) % n
    (s.m.r HIF_ER_STATUS_STATE e ≠ 1 → exec (.eventRingDoorbell e v) s = .next (s.having (s.m.inc HIF_BAD_DB_ALL))) ∧
    (s.m.r HIF_ER_STATUS_STATE e = 1 → v.toNat = x.head → exec (.eventRingDoorbell e v) s = .next s) ∧
    (s.m.r HIF_ER_STATUS_STATE e = 1 → v.toNat ≠ x.head → v.toNat < n → freed ≤ written →
      exec (.eventRingDoorbell e v) s = .next (s.having (s.m.setERing e { x with head := v.toNat }))) ∧
    (s.m.r HIF_ER_STATUS_STATE e = 1 → v.toNat ≠ x.head → n ≤ v.toNat ∨ written < freed →
      exec (.eventRingDoorbell e v) s = .next (s.having (s.m.haltERing e 2))))

/-- A RUNNING ring that halts shows HALTED with its cause and posts one event; any other ring is left alone.
The model's choices in it are those of log entry 61. -/
def Obligations.RingsHaltWithTheirCause : Prop :=
  (∀ (m : Mach) (r : Fin 64) (cause : Nat), cause < 8 →
    (m.r HIF_RP_STATUS_STATE r = 1 →
      (m.haltRing r cause).r HIF_RP_STATUS_STATE r = 2 ∧ (m.haltRing r cause).r HIF_RP_STATUS_CAUSE r = cause ∧
      (∀ q : Fin 64, q ≠ r → (m.haltRing r cause).r HIF_RP_STATUS_STATE q = m.r HIF_RP_STATUS_STATE q) ∧
      (m.haltRing r cause).hif.rings = m.hif.rings) ∧
    (m.r HIF_RP_STATUS_STATE r ≠ 1 → m.haltRing r cause = m)) ∧
  (∀ (m : Mach) (e : Fin 8) (cause : Nat), cause < 8 →
    (m.r HIF_ER_STATUS_STATE e = 1 →
      (m.haltERing e cause).r HIF_ER_STATUS_STATE e = 2 ∧ (m.haltERing e cause).r HIF_ER_STATUS_CAUSE e = cause ∧
      (∀ q : Fin 8, q ≠ e → (m.haltERing e cause).r HIF_ER_STATUS_STATE q = m.r HIF_ER_STATUS_STATE q) ∧
      (m.haltERing e cause).hif.rings = m.hif.rings) ∧
    (m.r HIF_ER_STATUS_STATE e ≠ 1 → m.haltERing e cause = m))

/-- Enabling a ring checks its configuration and starts it at index 0; disabling one flushes, drains and resets it.
The model's choices in it are those of log entries 15, 16, 56, 61. -/
def Obligations.RingsAreEnabledAndDisabled : Prop :=
  (∀ (r : Fin 64) (s : State), s.m.ready = true → s.m.recovery = false ∨ r = 0 → s.m.r HIF_RP_STATUS_STATE r = 0 →
    (ringCfgOk (s.m.r HIF_RP_CFG_SIZE_LOG2 r) [s.m.sqBase r, s.m.cqBase r] = true →
      ∃ t : Mach, exec (.ringPairEnable r) s = .next (s.having ({ s.m with regs := t.regs, hif := t.hif })) ∧
        t.hif = { s.m.hif with rings := Tabs.put s.m.hif.rings r {} } ∧
        t.r HIF_RP_STATUS_STATE r = 1 ∧ t.r HIF_RP_STATUS_SQ_HEAD r = 0 ∧ t.b HIF_RP_CTRL_ENABLE r = true ∧
        t.b HIF_RP_CTRL_CFG_ERR r = false ∧
        regsKept [HIF_RP_STATUS_STATE.off r 0, HIF_RP_CTRL_ENABLE.off r 0] s.m t) ∧
    (ringCfgOk (s.m.r HIF_RP_CFG_SIZE_LOG2 r) [s.m.sqBase r, s.m.cqBase r] = false →
      exec (.ringPairEnable r) s = .next (s.having (s.m.w HIF_RP_CTRL_CFG_ERR 1 r)))) ∧
  (∀ (r : Fin 64) (s : State), s.m.recovery = true → r ≠ 0 → exec (.ringPairEnable r) s = .next s) ∧
  (∀ (e : Fin 8) (s : State), s.m.ready = true → s.m.r HIF_ER_STATUS_STATE e = 0 →
    (ringCfgOk (s.m.r HIF_ER_CFG_SIZE_LOG2 e) [s.m.erBase e] = true →
      ∃ t : Mach, exec (.eventRingEnable e) s = .next (s.having ({ s.m with regs := t.regs, hif := t.hif })) ∧
        t.hif = { s.m.hif with erings := Tabs.put s.m.hif.erings e { seq := (s.m.ering e).seq } } ∧
        t.r HIF_ER_STATUS_STATE e = 1 ∧ t.r HIF_ER_STATUS_WR_INDEX e = 0 ∧ t.r HIF_ER_STATUS_PHASE e = 1 ∧
        t.b HIF_ER_CTRL_ENABLE e = true ∧ t.b HIF_ER_CTRL_CFG_ERR e = false ∧
        regsKept [HIF_ER_STATUS_STATE.off e 0, HIF_ER_CTRL_ENABLE.off e 0] s.m t) ∧
    (ringCfgOk (s.m.r HIF_ER_CFG_SIZE_LOG2 e) [s.m.erBase e] = false →
      exec (.eventRingEnable e) s = .next (s.having (s.m.w HIF_ER_CTRL_CFG_ERR 1 e)))) ∧
  (∀ (r : Fin 64) (s : State), s.m.r HIF_RP_STATUS_STATE r = 1 ∨ s.m.r HIF_RP_STATUS_STATE r = 2 →
    (exec (.ringDisable (.pair r)) s = .next (s.having ((((s.m.w HIF_RP_STATUS_STATE 3 r).w HIF_RP_STATUS_CAUSE 0 r).each
        (s.m.ring r).paused (fun m d => m.dropPaused r d stFLUSHED)).settleRing r))) ∧
    ((s.m.ring r).paused = [] → (s.m.ring r).delivered = [] →
      ∃ t : Mach, exec (.ringDisable (.pair r)) s = .next (s.having ({ s.m with regs := t.regs, hif := t.hif })) ∧
        t.r HIF_RP_STATUS_STATE r = 0 ∧ t.b HIF_RP_CTRL_ENABLE r = false ∧ t.r HIF_RP_STATUS_SQ_HEAD r = 0 ∧ t.ring r = {})) ∧
  (∀ (e : Fin 8) (s : State), s.m.r HIF_ER_STATUS_STATE e = 1 ∨ s.m.r HIF_ER_STATUS_STATE e = 2 →
    ∃ t : Mach, exec (.ringDisable (.events e)) s = .next (s.having ({ s.m with regs := t.regs, hif := t.hif })) ∧
      t.r HIF_ER_STATUS_STATE e = 0 ∧ t.b HIF_ER_CTRL_ENABLE e = false ∧ t.r HIF_ER_STATUS_WR_INDEX e = 0 ∧
      t.ering e = { seq := (s.m.ering e).seq } ∧
      regsKept [HIF_ER_STATUS_STATE.off e 0, HIF_ER_CTRL_ENABLE.off e 0] s.m t)

/-- A fetched descriptor is delivered to its block, or completes at once where it fails the checks.
The model's choices in it are those of log entries 9, 56, 61. -/
def Obligations.DescriptorsAreFetchedAndChecked : Prop :=
  (∀ (r : Fin 64) (n : Fin 9) (lat : Nat) (s : State),
    exec (.descriptorFetch r n true lat) s =
      .next (s.having ((s.m.when (s.m.r HIF_RP_STATUS_STATE r == 1) Mach.linkError).haltRing r 3))) ∧
  (∀ (r : Fin 64) (n : Fin 9) (lat : Nat) (s : State), s.m.kiln.loadWait.any (fun d => d.ring == r) = true →
    exec (.descriptorFetch r n false lat) s = .next s) ∧
  (∀ (r : Fin 64) (lat : Nat) (s : State),
    let x := s.m.ring r
    let size := 2 ^ s.m.r HIF_RP_CFG_SIZE_LOG2 r
    let h := s.m.r HIF_RP_STATUS_SQ_HEAD r
    let d := parseDesc r s.m.hif.era (s.m.hostRd (s.m.sqBase r + 64 * h) 64)
    let got := (((s.m.countBurst r).setRing r { x with paused := [d] }).w HIF_RP_STATUS_SQ_HEAD ((h + 1) % size) r).maxTo
      HIF_FETCH_LAT_MAX_ALL lat
    s.m.kiln.loadWait = [] → s.m.r HIF_RP_STATUS_STATE r = 1 → s.m.canWrite = true → h ≠ x.tail → x.paused = [] →
    s.m.turnOf r = true →
    x.delivered.length + (x.cqWrite + size - x.cqHead) % size < size →
    (descOk d = true → opcodes.contains d.op = true → s.m.recovery = false → got.accepts d = true →
      exec (.descriptorFetch r 1 false lat) s =
        .next (s.having (((got.setRing r x).arrive d).showRing r)) ∧
      (((got.setRing r x).arrive d).ring r).delivered = x.delivered ++ [d]) ∧
    (descOk d = false →
      exec (.descriptorFetch r 1 false lat) s =
        .next (s.having (((got.setRing r x).finish d stBAD_DESCRIPTOR).showRing r))) ∧
    (descOk d = true → opcodes.contains d.op = false →
      exec (.descriptorFetch r 1 false lat) s =
        .next (s.having (((got.setRing r x).finish d stUNSUPPORTED).showRing r))))

/-- What a vector's timer, its mask bit, the bus master enable and the power state do to its messages.
The model's choices in it are those of log entries 8, 31, 63. -/
def Obligations.InterruptsAreSentOrKeptPending : Prop :=
  (∀ (v : Fin 64) (s : State), s.m.r HIF_VEC_COAL_TIME v ≠ 0 → 0 < (s.m.vec v).count →
    s.m.r HIF_VEC_COAL_TIME v < 1000 * (s.m.now - (s.m.vec v).first + 1) →
    (s.m.vecHeld v = false → s.m.canWrite = true → exec (.interruptCoalesceTimeout v) s =
      .next (s.having ((s.m.setVec v { s.m.vec v with count := 0 }).emit (.msix v)))) ∧
    (s.m.vecHeld v = true ∨ s.m.canWrite = false → exec (.interruptCoalesceTimeout v) s =
      .next (s.having (s.m.setVec v { s.m.vec v with count := 0, pend := true })))) ∧
  (∀ (v : Fin 64) (s : State),
    ((s.m.vec v).pend = true → s.m.canWrite = true → s.m.hif.cfg.msixOn = true → s.m.hif.cfg.msixMask = false →
      ∃ t : Mach, exec (.msixVectorUnmask v) s = .next (s.having ({ s.m with hif := t.hif, out := s.m.out ++ [.msix v] })) ∧
        t.vec v = { s.m.vec v with masked := false, pend := false } ∧ t.hif.rings = s.m.hif.rings) ∧
    ((s.m.vec v).pend = false ∨ s.m.canWrite = false ∨ s.m.hif.cfg.msixOn = false ∨ s.m.hif.cfg.msixMask = true →
      exec (.msixVectorUnmask v) s = .next (s.having (s.m.setVec v { s.m.vec v with masked := false })))) ∧
  (∀ s : State, s.m.r HIF_STATUS_D_STATE = 0 → (∀ v < 64, (s.m.vec v).pend = false) →
    exec .busMasterEnable s = .next (s.having (s.m.w HIF_STATUS_BME 1))) ∧
  (∀ s : State,
    (s.m.r HIF_STATUS_D_STATE = 0 → exec .busMasterEnable s =
      .next (s.having ((s.m.w HIF_STATUS_BME 1).each (List.range 64) Mach.sendPending))) ∧
    (s.m.r HIF_STATUS_D_STATE ≠ 0 → exec .busMasterEnable s = .next (s.having (s.m.w HIF_STATUS_BME 1)))) ∧
  (∀ s : State, exec .functionReturnToD0 s =
    .next (s.having ((s.m.w HIF_STATUS_D_STATE 0).each (List.range 64) Mach.sendPending))) ∧
  (∀ (d3 : Bool) (s : State),
    let off := if d3 then s.m.w HIF_STATUS_D_STATE 3 else s.m.w HIF_STATUS_BME 0
    exec (.busMasterDisable d3) s = .next (s.having ((off.each (List.range 8) (fun m e => m.haltERing e 5)).each (List.range 64) (fun m r => m.haltRing r 5)))) ∧
  (∀ (after : Option (Fin 4 × Fin 5)) (s : State), ∃ (mb' : MbSt) (m' : Mach), exec (.pcieLinkDown after) s = .next { s with mb := mb', m := m' } ∧
    m'.hif.rings = [] ∧ (∀ e, (m'.ering e).head = 0) ∧
    ((∀ k < 64, s.mb.owner k ≠ 1) → ∀ e, (m'.ering e).seq = (s.m.ering e).seq) ∧ m'.hostMem = s.m.hostMem ∧
    m'.r HIF_STATUS_LINK_UP = (if after.isSome then 1 else 0) ∧ m'.kiln = s.m.kiln ∧ m'.dam = s.m.dam)

/-- NOP echoes eight bytes; GET_TIME returns the time and its status byte. -/
def Obligations.NopAndGetTimeComplete : Prop :=
  (∀ (d : Desc) (s : State), s.m.starts 0x0C00 d →
    exec (.nop d) s = .next (s.having (s.m.complete (d.as 0x0C00) stOK (le 8 (Descs.fld d 16 8))))) ∧
  (∀ (d : Desc) (s : State), s.m.starts 0x0C01 d →
    exec (.getTime d) s = .next (s.having (s.m.complete (d.as 0x0C01) stOK
      (le 6 s.m.time.sec ++ le 4 s.m.time.ns ++ le 1 (s.m.r TIME_STATUS_STATUS)))))

/-- What a write stores in a field, by the field's access code. -/
def Obligations.RegisterAccessCodes : Prop :=
  ∀ (f : Field) (setUp : Bool) (old v : Nat),
    (f.acc = .rw ∨ f.acc = .rws ∧ setUp = true → f.lim = .any → f.written setUp old v = bits v f.lo f.width) ∧
    (f.acc = .rws ∧ setUp = false ∨ f.acc = .ro ∨ f.acc = .wo ∨ f.acc = .rc ∨ f.acc = .own →
      f.written setUp old v = bits old f.lo f.width) ∧
    (f.acc = .w1c → ∀ k < f.width, (f.written setUp old v).testBit k =
      (old.testBit (f.lo + k) && !v.testBit (f.lo + k))) ∧
    (f.acc = .w1s → ∀ k < f.width, (f.written setUp old v).testBit k =
      (old.testBit (f.lo + k) || v.testBit (f.lo + k)))

/-- Register writes and reads act on the register at their offset; an offset outside the BAR or not a multiple of 4 faults.
The model's choices in it are those of log entries 53, 59, 62. -/
def Obligations.RegisterCommandsReadAndWrite : Prop :=
  (∀ (a : Fin 16) (off i j : Nat) (v : BitVec 32) (g : Reg) (s : State), accessOk .bar0 off = true → a ≠ 0 →
    s.m.regOpen a off = true → regAt off = some (g, i, j) → s.m.ignoresWrite a off i = false →
    (∀ b : Mach, b.wrote s.m a g i v.toNat = b) →
    let old := (Tabs.val s.m.regs (BitVec.ofNat 32 g.reset) off).toNat
    let up := s.m.setUp off i
    let x := s.m.asTaken g v.toNat
    let m' := { s.m with regs := Tabs.put s.m.regs off (BitVec.ofNat 32 (g.written up old x)) }
    (g.violates up old x = false → exec (.registerWrite a .bar0 off v) s = .next (s.having (m'))) ∧
    (g.violates up old x = true → exec (.registerWrite a .bar0 off v) s =
      .next (s.having ((m'.inc INTC_RWS_VIOL_ALL).w INTC_RWS_VIOL_ADDR_ALL off)))) ∧
  (∀ (off : Nat) (v : BitVec 32) (s : State), accessOk .bar2 off = true → off % 8 = 0 → 1088 ≤ off →
    exec (.registerWrite 1 .bar2 off v) s = .next (s.having (s.m.inc HIF_BAD_DB_ALL))) ∧
  (∀ (r : Fin 64) (v : BitVec 32) (s : State),
    exec (.registerWrite 1 .bar2 (8 * r.val) v) s = exec (.submissionDoorbell r (v.setWidth 16)) s ∧
    exec (.registerWrite 1 .bar2 (512 + 8 * r.val) v) s = exec (.completionDoorbell r (v.setWidth 16)) s ∧
    exec (.registerWrite 1 .bar2 (8 * r.val + 4) v) s = .next s) ∧
  (∀ (off : Nat) (s : State), accessOk .bar2 off = true → off % 8 = 0 →
    exec (.readClearRegisterRead 1 .bar2 off) s =
      .next (s.having (s.m.emit (.hostRead .bar2 off (BitVec.ofNat 32 (s.m.doorbellRead (off / 8))))))) ∧
  (∀ (a : Fin 16) (off i j : Nat) (g : Reg) (s : State), accessOk .bar0 off = true → a ≠ 0 → s.m.regOpen a off = true →
    regAt off = some (g, i, j) → Tabs.look s.m.hif.wide (16 * off + a) = none → isLowWord off = false →
    ownRead off = false → off ≠ TIME_NOW_NS_reg.base → off ≠ TIME_NOW_S_HI_reg.base →
    let w := (Tabs.val s.m.regs (BitVec.ofNat 32 g.reset) off).toNat
    ∃ regs', exec (.readClearRegisterRead a .bar0 off) s =
        .next (s.having ({ s.m with out := s.m.out ++ [.read a off (BitVec.ofNat 32 (g.shown w))], regs := regs' })) ∧
      (∀ o, o ≠ off → Tabs.look regs' o = Tabs.look s.m.regs o) ∧
      (g.fields.any (fun f => f.acc == .rc) = true → (Tabs.val regs' (BitVec.ofNat 32 g.reset) off) =
        BitVec.ofNat 32 (g.fields.foldl (fun b f => if f.acc == .rc then putBits b f.lo f.width 0 else b) w)) ∧
      (g.fields.any (fun f => f.acc == .rc) = false → regs' = s.m.regs)) ∧
  (∀ (a : Fin 16) (off i j : Nat) (g : Reg) (s : State), accessOk .bar0 off = true → a ≠ 0 → s.m.regOpen a off = true →
    isLowWord off = true → regAt off = some (g, i, j) →
    Tabs.look s.m.hif.wide (16 * off + a) = none →
    exec (.wideValueLowWordRead a off) s = .next (s.having (((s.m.capture a (off + 4) (s.m.readWord a (off + 4))).emit (.read a off
        (BitVec.ofNat 32 (s.m.readWord a off)))).clearRc off)) ∧
    (off ≠ TIME_NOW_S_LO_reg.base → s.m.readWord a off = g.shown (Tabs.val s.m.regs (BitVec.ofNat 32 g.reset) off).toNat)) ∧
  (∀ (m : Fin 16) (c k : Fin 64) (v : BitVec 32) (s : State), s.m.hears m = false →
    exec (.mailboxPostLow m v) s = .next s ∧ exec (.mailboxPost m c v) s = .next s ∧
    exec (.lockReleaseWrite m k v) s = .next s ∧
    exec (.mailboxPop m c) s = .next (s.having (s.m.when (m == 1) (fun x => x.emit (.read 1 (MB_POP_LO_ALL.off c 0) 0)))) ∧
    exec (.lockAcquireRead m k) s = .next (s.having (s.m.when (m == 1) (fun x => x.emit (.read 1 (LOCK_OWNER.off k 0) 0))))) ∧
  (∀ s : State, exec (.masterReset 0) s = .next s) ∧
  (∀ (a : Fin 16) (space : Space) (off : Nat) (v : BitVec 32) (s : State),
    (accessOk space off = false → exec (.registerWrite a space off v) s = .fault .badAddress) ∧
    (accessOk space off = false → exec (.readClearRegisterRead a space off) s = .fault .badAddress) ∧
    (accessOk .bar0 off = false → exec (.wideValueLowWordRead a off) s = .fault .badAddress))

/-- Enable bits rise at once, fall through a drain, and return to 0 when the drain is complete.
The model's choices in it are those of log entries 15, 59. -/
def Obligations.BlocksAreEnabledAndDrained : Prop :=
  (∀ (b : Blk) (s : State), s.m.ready = true → s.m.b (blkEnable b) = false → b ≠ .air →
    exec (.blockEnable b) s = .next (s.having ((s.m.w (blkEnable b) 1).blockStarts b)) ∧
    (s.m.w (blkEnable b) 1).b (blkEnable b) = true ∧
    (b = .gnss ∨ b = .time ∨ b = .motion ∨ b = .saggar →
      (s.m.w (blkEnable b) 1).blockStarts b = s.m.w (blkEnable b) 1)) ∧
  (∀ (b : Blk) (s : State), s.m.b (blkEnable b) = true → exec (.blockEnable b) s = .next s) ∧
  (∀ (b : Blk) (s : State), s.m.ready = true → s.m.takes b = true →
    (b ≠ .damper ∨ s.m.siteLatched = true →
      exec (.blockDisable b) s = .next (s.having ((s.m.w (blkDraining b) 1).drainStarts b)) ∧
      (s.m.w (blkDraining b) 1).b (blkDraining b) = true) ∧
    (b = .damper → s.m.siteLatched = false →
      exec (.blockDisable b) s = .next (s.having (s.m.inc DAMP_REQ_REFUSED_ALL)))) ∧
  (∀ s : State, s.m.ready = true → s.m.siteLatched = false →
    exec (.blockDisable .damper) s = .next (s.having (s.m.inc DAMP_REQ_REFUSED_ALL))) ∧
  (∀ (b : Blk) (s : State), s.m.b (blkDraining b) = true → s.m.blockIdle b = true → b ≠ .air → b ≠ .damper →
    exec (.drainComplete b) s = .next (s.having ((s.m.w (blkDraining b) 0).w (blkEnable b) 0)) ∧
    ((s.m.w (blkDraining b) 0).w (blkEnable b) 0).b (blkEnable b) = false ∧
    ((s.m.w (blkDraining b) 0).w (blkEnable b) 0).b (blkDraining b) = false) ∧
  (∀ s : State, s.m.b DAMP_STATUS_DRAINING = true → s.m.blockIdle .damper = true → ∃ t : Mach,
    exec (.drainComplete .damper) s = .next (s.having t) ∧ t.b DAMP_CTRL_ENABLE = false ∧ t.b DAMP_STATUS_DRAINING = false ∧
    t.dam.wdog = none) ∧
  (∀ s : State, s.m.b AIR_STATUS_DRAINING = true → s.m.airIdle = true →
    exec (.drainComplete .air) s = .next (s.having (((s.m.w AIR_STATUS_DRAINING 0).w AIR_CTRL_ENABLE 0).airRefresh))) ∧
  (∀ s : State, s.m.ready = true → s.m.b AIR_CTRL_ENABLE = false →
    (s.m.airCfgOk = true →
      exec .airEnable s = .next (s.having (((s.m.w AIR_CTRL_ENABLE 1).w AIR_CTRL_CFG_ERR 0).airRefresh))) ∧
    (s.m.airCfgOk = false → exec .airEnable s = .next (s.having (s.m.w AIR_CTRL_CFG_ERR 1))))

/-- A tick moves the clock on one millisecond; faults of a tick are recorded for its end.
The model's choices in it are those of log entries 42, 57, 61, 65. -/
def Obligations.TicksAndFaultsAreCounted : Prop :=
  (∀ (i : TickIn) (s : State),
    let m := s.m.jtagTick i.jtag
    (s.m.boot.held = true → exec (.tick i) s = .next (s.having m.rtcOn)) ∧
    (s.m.boot.held = false →
      let r := ((m.restarts i.restartFails).flatMap m.mastersOf).foldl (fun r k => resetMaster k r.1 r.2) (s.mb, m.tickEnd i)
      exec (.tick i) s = .next { s with mb := r.1, m := r.2.tickBegin i })) ∧
  (∀ m : Mach, -1717986 ≤ m.ri TIME_ADDEND_ADDEND → m.ri TIME_ADDEND_ADDEND ≤ 1717986 →
    m.time.ns < 1000000000 → m.time.frac < 2 ^ 32 → m.time.sec + 1 < 2 ^ 48 →
    m.tickClock.now = m.now + 1 ∧ m.tickClock.msInt = m.msInt + 1) ∧
  (∀ (b : Fin 33) (s : State),
    (s.m.time.stepTick = some s.m.now → exec (.guardPointOverrun b) s = .next s) ∧
    (s.m.time.stepTick ≠ some s.m.now → classS b = false → (Tabs.val s.m.intc.overruns [] b).contains s.m.now = false →
      ∃ m' : Mach, exec (.guardPointOverrun b) s = .next (s.having ({ s.m with regs := m'.regs, intc := m'.intc })) ∧
        m'.r INTC_BLK_FAULT_OVERRUN b = 1 ∧
        m'.r INTC_BLK_FAULT_OVERRUN_CNT b =
          min (s.m.r INTC_BLK_FAULT_OVERRUN_CNT b + 1) (2 ^ INTC_BLK_FAULT_OVERRUN_CNT.width - 1) ∧
        m'.intc.faults = s.m.intc.faults ++ [(b.val, .overrun)] ∧ regsKept [INTC_BLK_FAULT_OVERRUN.off b 0] s.m m')) ∧
  (∀ (b : Fin 34) (spare : Bool) (cell : Nat) (s : State), b ≠ 33 →
    exec (.cellFaultDetected b false spare cell) s =
      .next (s.having ((s.m.w INTC_BLK_FAULT_UNCORR_SEEN 1 b).raise b (.uncorrectable (some cell) spare))) ∧
    (s.m.b INTC_CTRL_CORR_EVENT_EN = false → exec (.cellFaultDetected b true spare cell) s =
      .next (s.having ((s.m.w INTC_BLK_FAULT_CORR_SEEN 1 b).inc INTC_BLK_FAULT_CORR_CNT b)))) ∧
  (∀ (spare : Bool) (cell : Nat) (s : State),
    exec (.cellFaultDetected 33 false spare cell) s = .next (s.having (s.m.raise 33 (.uncorrectable (some cell) spare))) ∧
    (s.m.b INTC_CTRL_CORR_EVENT_EN = false → exec (.cellFaultDetected 33 true spare cell) s = .next s)) ∧
  (∀ (v : BitVec 32) (s : State), s.m.ready = true →
    (s.m.siteLatched = false → exec (.intcInject v) s = .next (s.having (s.m.inc INTC_INJECT_REFUSED_ALL))) ∧
    (s.m.siteLatched = true → v.toNat % 64 ≤ 32 → bits v.toNat 8 2 = 1 →
      exec (.intcInject v) s = .next (s.having ((s.m.w INTC_BLK_FAULT_UNCORR_SEEN 1 (v.toNat % 64)).raise (v.toNat % 64) (.uncorrectable none false)))) ∧
    (∀ h : v.toNat % 64 < 33, s.m.siteLatched = true →
      (bits v.toNat 8 2 = 0 → exec (.intcInject v) s = exec (.cellFaultDetected ⟨v.toNat % 64, Nat.lt_succ_of_lt h⟩ true false 0) s) ∧
      (bits v.toNat 8 2 = 2 → exec (.intcInject v) s = exec (.guardPointOverrun ⟨v.toNat % 64, h⟩) s)))

/-- Kiln takes up to 200 operations in a tick and none after a COMMIT_MAP of it or while a swap holds it.
The model's choices in it are those of log entries 19, 23. -/
def Obligations.KilnTakesTwoHundredOperations : Prop :=
  (∀ e ∈ descKiln, ∀ (d : Desc) (s : State), s.m.starts e.1 d → ¬ s.m.kilnFree → exec (e.2 d) s = .next s) ∧
  (∀ m : Mach, m.kilnCounted.kiln.ops = m.kiln.ops + 1 ∧
    m.kilnCounted.r KILN_OPS_ALL = min (m.r KILN_OPS_ALL + 1) (2 ^ KILN_OPS_ALL.width - 1) ∧
    m.kilnCounted.kiln.store = m.kiln.store ∧ m.kilnCounted.hostMem = m.hostMem)

/-- LOAD_MAP stages an image, COMMIT_MAP exchanges the areas at the end of its tick, the write to MRAM then ends.
The model's choices in it are those of log entries 17, 18, 19, 61. -/
def Obligations.MapsAreStagedAndCommitted : Prop :=
  (∀ (d : Desc) (s : State), s.m.starts 0x0140 d → s.m.kilnFree → s.m.kiln.loadWait.contains (d.as 0x0140) = false →
    let c := s.m.kilnCounted
    let e := d.as 0x0140
    let l := c.bufRd e
    (Descs.buf d = false → exec (.loadMap d) s = .next (s.having (c.loadKeep e (0x0006, 0)))) ∧
    (Descs.buf d = true → c.takes .kiln = true → c.isActive = true → c.loadWaits e = false → Descs.fld d 16 4 = 0 →
      64 ≤ l.length →
      (headerFail l = none → l.length = imgLen l → recordFail l = none → imagePass l = none →
        exec (.loadMap d) s = .next (s.having ((c.setStage 2 l (some (parseMap l))).loadDone e stOK (0, 0)))) ∧
      (∀ f, headerFail l = some f →
        exec (.loadMap d) s = .next (s.having (((c.setStage 3 l none).vfail f).loadDone e stRANGE f))))) ∧
  (∀ (d : Desc) (s : State), s.m.starts 0x0141 d → s.m.kilnFree →
    let c := { s.m.kilnCounted with kiln := { s.m.kilnCounted.kiln with closed := true } }
    let e := d.as 0x0141
    c.takes .kiln = true → c.isActive = true →
    (∀ new, c.stage = 2 → c.kiln.staged = some new → new.mapId = Descs.fld d 16 4 → new.rev = Descs.fld d 20 4 →
      c.claimedChanged new = none → c.axisRebound new = none →
      exec (.commitMap d) s = .next (s.having { c with kiln := { c.kiln with commit := some e } })) ∧
    (c.stage ≠ 2 → exec (.commitMap d) s =
      .next (s.having ((c.vfail (0x0050, 0)).commitDone e stRANGE (0x0050, 0))))) ∧
  (∀ (m : Mach) (mp : SiteMap),
    (m.exchangeMap mp).kiln.map = some mp ∧ (m.exchangeMap mp).kiln.staged = none ∧
    (m.exchangeMap mp).r KILN_MAP_ID_ALL = mp.mapId % 2 ^ 32 ∧ (m.exchangeMap mp).r KILN_MAP_REV_ALL = mp.rev % 2 ^ 32 ∧
    (m.exchangeMap mp).r KILN_MAP_STATUS_AREA = 1 - m.r KILN_MAP_STATUS_AREA ∧
    (m.exchangeMap mp).r KILN_MAP_STATUS_COMMITTED = 1 ∧ (m.exchangeMap mp).hostMem = m.hostMem) ∧
  (∀ (img : List Byte) (s : State), s.m.kiln.persist = some img → s.m.kiln.loadWait = [] →
    ∃ t : Mach, exec .mapPersistDone s = .next (s.having t) ∧ t.nv.mapImage = some img ∧ t.kiln.persist = none ∧
      t.b KILN_MAP_STATUS_PERSIST_BUSY = false ∧ t.kiln.map = s.m.kiln.map ∧ t.kiln.store = s.m.kiln.store ∧
      t.hostMem = s.m.hostMem ∧ regsKept [KILN_MAP_STATUS_PERSIST_BUSY.off 0 0] s.m t)

/-- A rotation step makes the tested spare a copy target; the rename puts it in service and makes the old bank the spare.
The model's choices in it are those of log entries 58, 61. -/
def Obligations.SpareBanksRotate : Prop :=
  (∀ (ok : Bool) (s : State), s.m.istRuns 1 = true → s.m.istDue 1 0 (1000 * s.m.r IST_PERIOD_SRAM_KILN_S) = true →
    s.m.r KILN_ROT_STATUS_SPARE ≤ 16 → s.m.b KILN_ROT_STATUS_COPYING = false →
    let sp := s.m.r KILN_ROT_STATUS_SPARE
    (ok = true → exec (.kilnRotationStep ok) s = .next (s.having ((kilnRotationStep true (s.m.istMark 1 0)).istPass 1 sp))) ∧
    (ok = false → exec (.kilnRotationStep ok) s = .next (s.having ((kilnRotationStep false (s.m.istMark 1 0)).istFail 1 sp 0)))) ∧
  (∀ m : Mach, m.r KILN_ROT_STATUS_SPARE ≤ 16 → m.b KILN_ROT_STATUS_COPYING = false →
    let sp := m.r KILN_ROT_STATUS_SPARE
    let t := kilnRotationStep true m
    let u := kilnRotationStep false m
    t.r KILN_BANK_ROLE sp = 2 ∧ t.r KILN_BANK_LOGICAL sp = m.kiln.nextLogical % 2 ^ KILN_BANK_LOGICAL.width ∧
    t.b KILN_ROT_STATUS_COPYING = true ∧ t.kiln.copyDone = some m.now ∧
    t.r KILN_BANK_PASSES sp = min (m.r KILN_BANK_PASSES sp + 1) 65535 ∧ t.hostMem = m.hostMem ∧
    u.r KILN_BANK_ROLE sp = 3 ∧ u.r KILN_ROT_STATUS_SPARE = 31 ∧
    u.intc.faults = m.intc.faults ++ [(15, .degraded)] ∧ u.r INTC_BLK_FAULT_STATE 15 = m.r INTC_BLK_FAULT_STATE 15) ∧
  (∀ (s : State) (old at_ : Nat), s.m.b KILN_ROT_STATUS_COPYING = true → s.m.kiln.copyDone = some at_ → at_ < s.m.now →
    s.m.r KILN_ROT_STATUS_SPARE ≤ 16 → s.m.r KILN_BANK_ROLE (s.m.r KILN_ROT_STATUS_SPARE) = 2 →
    s.m.bankOf s.m.kiln.nextLogical = some old →
    let sp := s.m.r KILN_ROT_STATUS_SPARE
    ∃ t : Mach, exec .bankRename s = .next (s.having t) ∧ t.r KILN_BANK_ROLE sp = 0 ∧ t.r KILN_BANK_ROLE old = 1 ∧
      t.r KILN_ROT_STATUS_SPARE = old ∧ t.b KILN_ROT_STATUS_COPYING = false ∧
      t.kiln.nextLogical = (s.m.kiln.nextLogical + 1) % 16 ∧ t.kiln.store = s.m.kiln.store ∧ t.hostMem = s.m.hostMem ∧
      regsKept [KILN_BANK_ROLE.off sp 0, KILN_BANK_ROLE.off old 0, KILN_ROT_STATUS_SPARE.off 0 0] s.m t)

/-- ADMIT makes a FREE index a fixture, or a JOINED one a robot agent whose chain is its anchor.
The model's choices in it are those of log entries 19, 59. -/
def Obligations.AdmissionTakesAnIndex : Prop :=
  ∀ (d : Desc) (s : State), s.m.starts 0x0100 d → s.m.kilnFree →
    let c := s.m.kilnCounted
    let e := d.as 0x0100
    let i := refIdx (kAgent d)
    (∀ st, c.admitCheck e = some st →
      exec (.admitAgent d) s = .next (s.having (c.kilnDone e st (le 2 (kAgent d) ++ le 1 (s.m.agent i).state)))) ∧
    (c.admitCheck e = none → Descs.fld d 18 1 = 1 →
      ∃ t : Mach, exec (.admitAgent d) s = .next (s.having (t.complete e stOK (le 2 (s.m.refOf i) ++ le 1 6))) ∧
        (t.agent i).state = 6 ∧ (t.agent i).fixture = Descs.fld d 19 1 ∧ (t.agent i).chain = [] ∧
        (t.agent i).gen = (s.m.agent i).gen ∧ (∀ j, j ≠ i → t.agent j = s.m.agent j) ∧ kilnOnly s.m t) ∧
    (c.admitCheck e = none → Descs.fld d 18 1 ≠ 1 →
      ∃ (t : Mach) (mp : SiteMap), exec (.admitAgent d) s = .next (s.having (t.complete e stOK (le 2 (s.m.refOf i) ++ le 1 2))) ∧
        s.m.kiln.map = some mp ∧ (t.agent i).state = 2 ∧ (t.agent i).chain = [kRes d] ∧
        (t.agent i).gen = (s.m.agent i).gen ∧ (∀ g ∈ mp.groupsOf (kRes d), i ∈ t.kiln.store.queue g) ∧
        (∀ j, j ≠ i → t.agent j = s.m.agent j) ∧ kilnOnly s.m t)

/-- RESERVE_PATH grants the whole path, parks the request, or denies it and changes no chain.
The model's choices in it are those of log entries 20, 23, 24. -/
def Obligations.PathsAreGrantedParkedOrDenied : Prop :=
  ∀ (d : Desc) (s : State), s.m.starts 0x0101 d → s.m.kilnFree →
    let c := s.m.kilnCounted
    let e := d.as 0x0101
    let i := refIdx (kAgent d)
    let path := c.pathOf e
    let k := s.m.kiln.store
    (∀ f, c.pathCheck e = some f →
      exec (.reservePath d) s =
        .next (s.having (c.kilnDone e f.st (pathRes 0xFF f path 0 (s.m.agent i).chain.length)))) ∧
    (∀ mp steps, c.pathCheck e = none → s.m.kiln.map = some mp → c.conflict mp i path k.park = (none, steps) →
      ∃ t : Mach, exec (.reservePath d) s = .next (s.having (t.complete e stOK
          (pathRes 0 ⟨stOK, 0, 0, none⟩ path 0 ((s.m.agent i).chain.length + path.length)))) ∧
        (t.agent i).chain = (s.m.agent i).chain ++ path ∧ (t.agent i).state = (s.m.agent i).state ∧
        (∀ g ∈ path.flatMap mp.groupsOf, i ∈ t.kiln.store.queue g) ∧
        (∀ g, g ∉ path.flatMap mp.groupsOf → t.kiln.store.queue g = k.queue g) ∧
        (∀ j, j ≠ i → t.agent j = s.m.agent j) ∧ t.kiln.store.park = k.park ∧ kilnOnly s.m t) ∧
    (∀ mp steps f, c.pathCheck e = none → s.m.kiln.map = some mp → c.conflict mp i path k.park = (some f, steps) →
      (Descs.fld d 18 1 % 2 = 1 → f.conflict ≠ 1 → k.park.length < 64 →
        ∃ t : Mach, exec (.reservePath d) s = .next (s.having (t.complete e stOK
            (pathRes 1 f path ((k.parkCtr + 1) % 2 ^ 16) (s.m.agent i).chain.length))) ∧
          t.kiln.store.park = k.park ++
            [⟨i, (k.parkCtr + 1) % 2 ^ 16, path, s.m.now, Descs.fld d 20 2, f.conflict⟩] ∧
          t.kiln.store.agents = k.agents ∧ t.kiln.store.queues = k.queues ∧ kilnOnly s.m t) ∧
      (Descs.fld d 18 1 % 2 = 0 ∨ f.conflict = 1 →
        ∃ t : Mach, exec (.reservePath d) s = .next (s.having (t.kilnDone e f.st
            (pathRes 0xFF f path 0 (s.m.agent i).chain.length))) ∧
          t.kiln.store = k ∧ kilnOnly s.m t))

/-- Park service grants the request it comes to when nothing conflicts, and withdraws one whose limit has passed.
The model's choices in it are those of log entry 19. -/
def Obligations.ParkServiceGrantsInOrder : Prop :=
  (∀ (s : State) (mp : SiteMap) (p : Parked) (steps : Nat), s.m.kiln.map = some mp → s.m.isActive = true → s.m.kilnFree .park →
    s.m.kiln.store.park[s.m.kiln.parkPos]? = some p → p.tick < s.m.now → s.m.parkSkipped mp s.m.kiln.parkPos = false →
    s.m.kilnCounted.conflict mp p.idx p.path (s.m.kiln.store.park.take s.m.kiln.parkPos) = (none, steps) →
    ∃ t : Mach, exec .parkEvaluation s = .next (s.having t) ∧
      (t.agent p.idx).chain = (s.m.agent p.idx).chain ++ p.path ∧ t.parkedOf p.idx = none ∧
      (∀ j, j ≠ p.idx → t.agent j = s.m.agent j) ∧ (∀ j, j ≠ p.idx → t.parkedOf j = s.m.parkedOf j) ∧
      t.mot = s.m.mot ∧ t.dam = s.m.dam) ∧
  (∀ (a : Fin 512) (s : State) (p : Parked), s.m.parkedOf a = some p → p.limit ≠ 0 → p.tick + p.limit ≤ s.m.now →
    s.m.parkDone = true →
    ∃ t : Mach, exec (.parkLimitExpiry a) s = .next (s.having t) ∧ t.parkedOf a = none ∧
      (∀ j, t.agent j = s.m.agent j) ∧ (∀ j, j ≠ a.val → t.parkedOf j = s.m.parkedOf j) ∧
      t.kiln.store.queues = s.m.kiln.store.queues ∧ t.mot = s.m.mot)

/-- Reports and RELEASE_BEHIND release a chain's rear, TRUNCATE its front, CANCEL the parked request.
The model's choices in it are those of log entries 19, 25, 61. -/
def Obligations.ChainsAreReleasedFromTheirEnds : Prop :=
  (∀ (d : Desc) (s : State) (p : Nat), s.m.starts 0x0102 d → s.m.kilnFree → s.m.kilnTakes (kAgent d) →
    let i := refIdx (kAgent d)
    let a := s.m.agent i
    a.state = 2 ∨ a.state = 3 ∨ a.state = 6 → a.held = none → Descs.fld d 18 1 % 2 = 0 → s.m.known (kRes d) = true →
    a.chain.findIdx? (fun x => x == kRes d) = some p →
    ∃ t : Mach, exec (.releaseBehind d) s =
        .next (s.having (t.complete (d.as 0x0102) stOK (le 2 p ++ le 2 (a.chain.length - p)))) ∧
      (t.agent i).chain = a.chain.drop p ∧ (t.agent i).state = a.state ∧ (∀ j, j ≠ i → t.agent j = s.m.agent j) ∧
      kilnOnly s.m t) ∧
  (∀ (d : Desc) (s : State), s.m.starts 0x0103 d → s.m.kilnFree → s.m.kilnTakes (kAgent d) →
    let i := refIdx (kAgent d)
    let a := s.m.agent i
    let p := (lastIdx a.chain (kRes d)).getD 0
    a.state = 2 → a.held = none → s.m.known (kRes d) = true → p ≠ 0 → s.m.isHolding (kRes d) = true →
    (s.m.reachOf i).length ≤ p + 1 →
    ∃ t : Mach, exec (.truncate d) s = .next (s.having (t.complete (d.as 0x0103) stOK
        (le 2 (a.chain.length - (p + 1)) ++ le 2 (p + 1) ++ le 1 (b2n (s.m.parkedOf i).isSome)))) ∧
      (t.agent i).chain = a.chain.take (p + 1) ∧ (t.agent i).state = 2 ∧ t.parkedOf i = none ∧
      (∀ j, j ≠ i → t.agent j = s.m.agent j) ∧ (s.m.parkedOf i = none → kilnOnly s.m t)) ∧
  (∀ (d : Desc) (s : State), s.m.starts 0x0104 d → s.m.kilnFree → s.m.kilnTakes (kAgent d) →
    let i := refIdx (kAgent d)
    let a := s.m.agent i
    a.state = 2 ∨ a.state = 3 ∨ a.state = 6 → a.held = none →
    (∀ p, s.m.parkedOf i = some p →
      ∃ t : Mach, exec (.cancel d) s = .next (s.having (t.complete (d.as 0x0104) stOK (le 2 0 ++ le 2 p.ticket))) ∧
        t.parkedOf i = none ∧ (∀ j, t.agent j = s.m.agent j) ∧ kilnOnly s.m t) ∧
    (s.m.parkedOf i = none →
      exec (.cancel d) s = .next (s.having (s.m.kilnCounted.complete (d.as 0x0104) stOK (le 1 1))))) ∧
  (∀ (s : State) (ref rear p : Nat) (rest : List (Nat × Nat)), s.m.kiln.reports = (ref, rear) :: rest → s.m.kilnFree .report →
    let i := refIdx ref
    let a := s.m.agent i
    a.state = 2 ∨ a.state = 3 → s.m.stale ref = false → a.chain.findIdx? (fun x => x == rear) = some p →
    a.beyond p = false →
    ∃ t : Mach, exec .kilnProgressReport s = .next (s.having t) ∧ t.kiln.reports = rest ∧
      (t.agent i).chain = a.chain.drop p ∧ (∀ j, j ≠ i → t.agent j = s.m.agent j) ∧ kilnOnly s.m t) ∧
  (∀ (s : State) (ref rear : Nat) (rest : List (Nat × Nat)), s.m.kiln.reports = (ref, rear) :: rest → s.m.kilnFree .report →
    s.m.stale ref = true →
    exec .kilnProgressReport s = .next (s.having
      ({ s.m.kilnCounted with kiln := { s.m.kilnCounted.kiln with reports := rest } }.inc KILN_REPORT_IGNORED_ALL)))

/-- RECOVER, RETIRE, held operations, automatic release, expiry and quarantine change an agent's state as their rules say.
The model's choices in it are those of log entries 19, 22. -/
def Obligations.AgentsAreRecoveredAndRetired : Prop :=
  (∀ (d : Desc) (s : State) (p : Nat), s.m.starts 0x0105 d → s.m.kilnFree → s.m.kilnTakes (kAgent d) →
    let i := refIdx (kAgent d)
    let a := s.m.agent i
    a.state = 3 → a.held = none → Descs.fld d 18 1 = 0 → s.m.known (kRes d) = true →
    a.chain.findIdx? (fun x => x == kRes d) = some p → s.m.parkedOf i = none →
    (s.m.reachOf i = [] →
      ∃ t : Mach, exec (.recover d) s =
          .next (s.having (t.complete (d.as 0x0105) stOK (le 2 p ++ le 2 (a.chain.length - p)))) ∧
        (t.agent i).state = 2 ∧ (t.agent i).chain = a.chain.drop p ∧ (t.agent i).held = none ∧
        (∀ j, j ≠ i → t.agent j = s.m.agent j) ∧ kilnOnly s.m t) ∧
    (s.m.reachOf i ≠ [] →
      ∃ t : Mach, exec (.recover d) s = .next (s.having t) ∧ (t.agent i) = { a with held := some (.recover (d.as 0x0105)) } ∧
        (∀ j, j ≠ i → t.agent j = s.m.agent j) ∧ kilnOnly s.m t)) ∧
  (∀ (d : Desc) (s : State), s.m.starts 0x0106 d → s.m.kilnFree → s.m.kilnTakes (kAgent d) →
    let i := refIdx (kAgent d)
    let a := s.m.agent i
    let c := s.m.kilnCounted
    a.state = 2 ∨ a.state = 3 ∨ a.state = 6 → a.held = none →
    (a.state = 6 ∨ s.m.reachOf i = [] → exec (.retire d) s = .next (s.having (((c.retireBegin i).quarantine i 0).complete
      (d.as 0x0106) stOK (le 2 a.chain.length ++ le 2 (mkRef i (a.gen + 1)))))) ∧
    (a.state ≠ 6 → s.m.reachOf i ≠ [] →
      ∃ t : Mach, exec (.retire d) s = .next (s.having t) ∧ (t.agent i).state = 4 ∧ (t.agent i).chain = a.chain ∧
        (t.agent i).held = some (.retire (d.as 0x0106)) ∧ (∀ j, j ≠ i → t.agent j = s.m.agent j))) ∧
  (∀ (a : Fin 512) (d : Desc) (s : State), s.m.reachOf a = [] → s.m.isActive = true → (s.m.agent a).held = some (.retire d) →
    exec (.heldOperationEffect a) s = .next (s.having ((s.m.quarantine a 0).complete d stOK (s.m.retireRes a)))) ∧
  (∀ (a : Fin 512) (s : State), s.m.b KILN_SILENT_CFG_AUTOREL_EN = true → (s.m.agent a).state = 3 → (s.m.agent a).held = none →
    s.m.isActive = true → (s.m.agent a).silentAt + 1000 * s.m.r KILN_SILENT_CFG_AUTOREL_S ≤ s.m.now → s.m.reachOf a = [] →
    exec (.autoRelease a) s = .next (s.having ((s.m.retireBegin a).autoDo a))) ∧
  (∀ (m : Mach) (i item : Nat), i < 512 →
    ((m.quarantine i item).agent i).state = 5 ∧ ((m.quarantine i item).agent i).gen = ((m.agent i).gen + 1) % 16 ∧
    ((m.quarantine i item).agent i).chain = [] ∧ ((m.quarantine i item).agent i).held = none ∧
    (m.quarantine i item).agentLatched i = false ∧ (∀ j, j ≠ i → (m.quarantine i item).agent j = m.agent j)) ∧
  (∀ (a : Fin 512) (s : State), (s.m.agent a).state = 5 →
    Tabs.val s.m.air.tab.quarAt 0 a + 1000 * s.m.r AIR_QUAR_CFG_QUAR_S ≤ s.m.now →
    ∃ t : Mach, exec (.quarantineEnd a) s = .next (s.having t) ∧ t.agent a = { s.m.agent a with state := 0 } ∧
      (∀ j, j ≠ a.val → t.agent j = s.m.agent j) ∧ Tabs.look t.air.tab.freeAt a = some s.m.now ∧ t.hostMem = s.m.hostMem) ∧
  (∀ (a : Fin 512) (s : State), ∃ t : Mach, exec (.authorityExpiry a) s = .next (s.having t) ∧
      (t.agent a).issued = (s.m.agent a).issued.filter (fun e => !decide (diff32 s.m.pt e.2 ≥ 0)) ∧
      (t.agent a).chain = (s.m.agent a).chain ∧ (t.agent a).state = (s.m.agent a).state ∧
      (∀ j, j ≠ a.val → t.agent j = s.m.agent j) ∧ t.hostMem = s.m.hostMem)

/-- QUERY_AGENT and QUERY_RESOURCE read the store as it stands; a SNAPSHOT is written at the end of its tick.
The model's choices in it are those of log entries 19, 23. -/
def Obligations.QueriesReadKilnsStore : Prop :=
  (∀ (d : Desc) (s : State), s.m.starts 0x0110 d → s.m.kilnFree → refOk (kAgent d) = true → s.m.takes .kiln = true →
    let i := refIdx (kAgent d)
    let c := s.m.kilnCounted
    (Descs.fld d 18 1 % 2 = 1 ∨ s.m.stale (kAgent d) = false →
      exec (.queryAgent d) s = .next (s.having (c.complete (d.as 0x0110) stOK (c.agentRow s.m.kiln.store i))) ∧
      (c.agentRow s.m.kiln.store i).take 3 = le 2 (s.m.refOf i) ++ le 1 (s.m.agent i).state) ∧
    (Descs.fld d 18 1 % 2 = 0 → s.m.stale (kAgent d) = true →
      exec (.queryAgent d) s = .next (s.having (c.kilnDone (d.as 0x0110) stSTALE_GENERATION (c.agentRow s.m.kiln.store i))))) ∧
  (∀ (d : Desc) (s : State) (mp : SiteMap) (n : NodeRec) (g : Nat), s.m.starts 0x0111 d → s.m.kilnFree →
    s.m.takes .kiln = true → s.m.kiln.map = some mp → mp.node (kRes d) = some n → Descs.fld d 18 1 ≤ 3 →
    n.groups[Descs.fld d 18 1]? = some g →
    let q := s.m.kiln.store.queue g
    let head := match q with
      | [] => 0
      | i :: _ => s.m.refOf i
    exec (.queryResource d) s = .next (s.having (s.m.kilnCounted.complete (d.as 0x0111) stOK
      (le 4 n.tag ++ le 1 n.zone ++ le 1 n.groups.length ++ le 1 0 ++ le 1 n.kind ++ le 4 g ++ le 1 q.length ++ le 2 head)))) ∧
  (∀ (d : Desc) (s : State) (l : List Byte), s.m.starts 0x0120 d → s.m.kilnFree → s.m.takes .kiln = true →
    Descs.buf d = true → Descs.fld d 18 1 ≤ 3 →
    s.m.kilnCounted.section_ (Descs.fld d 18 1) (kRes d) (Descs.fld d 24 4) = some l → l.length ≤ Descs.len d →
    let c := s.m.kilnCounted
    exec (.snapshot d) s = .next (s.having { c with kiln := { c.kiln with snaps := c.kiln.snaps ++
      [⟨d.as 0x0120, Descs.fld d 18 1, kRes d, Descs.fld d 24 4⟩] } })) ∧
  (∀ (m : Mach) (r : SnapReq) (l : List Byte), m.kiln.snaps = [r] → m.section_ r.sec r.first r.number = some l →
    l.length ≤ Descs.len r.d →
    m.writeSnaps = (({ m with kiln := { m.kiln with snaps := [] } }).bufWr r.d 0 l).complete r.d stOK)

/-- What an asserting stop source does: latches, gate, outputs, cause, counters, the release arm. -/
def Obligations.ASourceLatchesAtOnce : Prop :=
  ∀ (m : Mach) (src detail : Nat) (what : Stops), src < 15 → detail < 64 →
    let t := m.assertSource src detail what
    t.latched = m.latched.join what ∧
    (∀ k, (t.r DAMP_SRC_SEEN_SEEN).testBit k = ((m.r DAMP_SRC_SEEN_SEEN).testBit k || k == src)) ∧
    t.r DAMP_LATCH_COUNT_ALL = min (m.r DAMP_LATCH_COUNT_ALL + 1) 0xFFFFFFFF ∧
    t.r DAMP_STATUS_GATE = 1 ∧ t.r AIR_STATUS_GATE = 1 ∧ t.r AIR_STATUS_TX_OK = 0 ∧
    t.air.inFlight = [] ∧ t.air.acks = [] ∧ t.air.ended =
      m.air.ended ++ m.air.inFlight.filter (fun f => decide (f.start + f.us ≤ m.slotUs)) ∧
    t.r AIR_GATE_CUTS_ALL = min (m.r AIR_GATE_CUTS_ALL +
      (m.air.inFlight.filter (fun f => decide (m.slotUs < f.start + f.us))).length) 0xFFFFFFFF ∧ t.dam.arm = none ∧ (∀ j, t.agent j = m.agent j) ∧
    (what.site = true → m.siteLatched = false →
      t.dam.run = false ∧ (m.r DAMP_FIX_CFG_DELAY_MS = 0 → t.dam.fixRun = false) ∧
      (m.r DAMP_FIX_CFG_DELAY_MS ≠ 0 → m.dam.fixRun = true →
        t.dam.fixRun = true ∧ t.dam.fixDue = some (m.now + m.r DAMP_FIX_CFG_DELAY_MS)) ∧
      t.r DAMP_CAUSE_SOURCE = src ∧ t.r DAMP_CAUSE_DETAIL = detail ∧
      t.r DAMP_CAUSE_PT_ALL = (if m.stepped then m.pt else 0)) ∧
    (m.siteLatched = true → src ≠ 11 → src ≠ 12 →
      t.r DAMP_CAUSE_SOURCE = m.r DAMP_CAUSE_SOURCE ∧ t.r DAMP_CAUSE_PT_ALL = m.r DAMP_CAUSE_PT_ALL)

/-- Stop inputs, their clearing, and the discrepancy of their channels.
The model's choices in it are those of log entry 31. -/
def Obligations.StopInputsLatchAndClear : Prop :=
  (∀ (n : Fin 4) (a b : Bool) (s : State), ∃ t : Mach, exec (.stopInputAssert n a b) s = .next (s.having t) ∧
    (t.r DAMP_IN_LEVEL_LEVEL_A).testBit n = a ∧ (t.r DAMP_IN_LEVEL_LEVEL_B).testBit n = b ∧
    (s.m.b DAMP_IN_CFG_USE n = true → (a && b) = false →
      (t.r DAMP_IN_LEVEL_CLEAR).testBit n = false ∧ (t.r DAMP_SRC_SRC).testBit n = true ∧
      ((s.m.r DAMP_SRC_SRC).testBit n = false → t.latched = s.m.latched.join (s.m.inputScope n)) ∧
      ((s.m.r DAMP_SRC_SRC).testBit n = true → t.latched = s.m.latched)) ∧
    (s.m.b DAMP_IN_CFG_USE n = false ∨ (a && b) = true →
      t.latched = s.m.latched ∧ t.r DAMP_SRC_SRC = s.m.r DAMP_SRC_SRC ∧ t.hostMem = s.m.hostMem)) ∧
  (∀ (n : Fin 4) (s : State),
    (s.m.highLong n = true → ∃ t : Mach, exec (.stopInputClear n) s = .next (s.having { s.m with regs := t.regs }) ∧
      (t.r DAMP_IN_LEVEL_CLEAR).testBit n = true ∧ (t.r DAMP_SRC_SRC).testBit n = false ∧
      (∀ k, k ≠ n.val → (t.r DAMP_SRC_SRC).testBit k = (s.m.r DAMP_SRC_SRC).testBit k) ∧
      regsKept [DAMP_IN_LEVEL_CLEAR.off 0 0, DAMP_SRC_SRC.off 0 0] s.m t) ∧
    (s.m.highLong n = false → exec (.stopInputClear n) s = .next s)) ∧
  (∀ (n : Fin 4) (s : State),
    let due := s.m.b DAMP_IN_CFG_USE n = true ∧
      (s.m.r DAMP_IN_LEVEL_LEVEL_A).testBit n ≠ (s.m.r DAMP_IN_LEVEL_LEVEL_B).testBit n ∧
      (s.m.stopIn n).lastChange + 10 ≤ s.m.now ∧ (s.m.r DAMP_IN_LEVEL_DISC).testBit n = false
    (due → ∃ t : Mach, exec (.discrepancySet n) s = .next (s.having t) ∧ (t.r DAMP_IN_LEVEL_DISC).testBit n = true ∧
      t.r DAMP_DISC_CNT_ALL = min (s.m.r DAMP_DISC_CNT_ALL + 1) 0xFFFFFFFF ∧ (t.r DAMP_SRC_SRC).testBit 4 = true ∧
      ((s.m.r DAMP_SRC_SRC).testBit 4 = false → t.siteLatched = true) ∧ t.dam.forward = true) ∧
    (¬ due → exec (.discrepancySet n) s = .next s)) ∧
  (∀ (n : Fin 4) (s : State),
    let due := (s.m.r DAMP_IN_LEVEL_DISC).testBit n = true ∧ (s.m.stopIn n).lowSeen = true ∧ s.m.highLong n = true
    (due → ∃ t : Mach, exec (.discrepancyClear n) s = .next (s.having t) ∧
      (t.r DAMP_IN_LEVEL_DISC).testBit n = false ∧
      (∀ k, k ≠ n.val → (t.r DAMP_IN_LEVEL_DISC).testBit k = (s.m.r DAMP_IN_LEVEL_DISC).testBit k) ∧
      let more := (List.range 4).any (fun j => s.m.b DAMP_IN_CFG_USE j && (t.r DAMP_IN_LEVEL_DISC).testBit j)
      (more = false → (t.r DAMP_SRC_SRC).testBit 4 = false) ∧
      (more = true → t.r DAMP_SRC_SRC = s.m.r DAMP_SRC_SRC) ∧ t.latched = s.m.latched) ∧
    (¬ due → exec (.discrepancyClear n) s = .next s))

/-- Requests of the safety core pairs, the host watchdog and its kick.
The model's choices in it are those of log entries 25, 53. -/
def Obligations.SafetyPairsAndWatchdogStop : Prop :=
  (∀ (a : Fin 16) (s1 : Bool) (v : BitVec 32) (s : State), a.val ≠ (if s1 then 7 else 6) →
    let refused := Host.Outcome.next (s.having (if s.m.hears a then s.m.inc DAMP_REQ_REFUSED_ALL else s.m))
    exec (.safetySiteRequest a s1 v) s = refused ∧ exec (.safetyAgentStopRequest a s1 v) s = refused ∧
    exec (.safetyZoneStopRequest a s1 v) s = refused) ∧
  (∀ (a : Fin 16) (s1 : Bool) (v : BitVec 32) (s : State), a.val = (if s1 then 7 else 6) →
    let src := if s1 then 8 else 7
    let done := fun t : Mach =>
      t.b (if s1 then DAMP_S1_REQ_SITE else DAMP_S0_REQ_SITE) = v.getLsbD 0 ∧
      (t.r DAMP_SRC_SRC).testBit src = v.getLsbD 0 ∧
      (v.getLsbD 0 = true → (s.m.r DAMP_SRC_SRC).testBit src = false → t.siteLatched = true) ∧
      (v.getLsbD 1 = true → t.agentLatched (bits v.toNat 16 9) = true) ∧
      (v.getLsbD 2 = true → t.zoneLatches.testBit (bits v.toNat 8 6) = true) ∧
      (v.toNat % 8 = 0 → t.latched = s.m.latched ∧ t.hostMem = s.m.hostMem)
    (∃ t : Mach, exec (.safetySiteRequest a s1 v) s = .next (s.having t) ∧ done t) ∧
    (∃ t : Mach, exec (.safetyAgentStopRequest a s1 v) s = .next (s.having t) ∧ done t) ∧
    (∃ t : Mach, exec (.safetyZoneStopRequest a s1 v) s = .next (s.having t) ∧ done t)) ∧
  (∀ (s1 : Bool) (i : Fin 512) (z : Fin 64) (s : State),
    let own : Fin 16 := if s1 then 7 else 6
    (s.m.siteLatched = false → (s.m.r DAMP_SRC_SRC).testBit (if s1 then 8 else 7) = false →
      ∃ t : Mach, exec (.safetySiteRequest own s1 1) s = .next (s.having t) ∧
        t.latched = { s.m.latched with site := true } ∧ t.dam.run = false ∧ t.r DAMP_CAUSE_SOURCE = (if s1 then 8 else 7)) ∧
    (∃ t : Mach, exec (.safetyAgentStopRequest own s1 (2 + 65536 * BitVec.ofNat 32 i)) s = .next (s.having t) ∧
      t.latched = { s.m.latched with agents := s.m.latched.agents ||| 1#512 <<< i.val }) ∧
    (∃ t : Mach, exec (.safetyZoneStopRequest own s1 (4 + 256 * BitVec.ofNat 32 z)) s = .next (s.having t) ∧
      t.latched = { s.m.latched with zones := s.m.latched.zones ||| 1#64 <<< z.val })) ∧
  (∀ (u : Nat) (s : State), s.m.dam.wdog = some u → u ≤ s.m.now →
    ∃ t : Mach, exec .watchdogExpiry s = .next (s.having t) ∧ t.latched = { s.m.latched with site := true } ∧
      (t.r DAMP_SRC_SEEN_SEEN).testBit 6 = true ∧ t.dam.wdog = none ∧ t.dam.forward = true) ∧
  (∀ s : State, (∀ u, s.m.dam.wdog = some u → s.m.now < u) → exec .watchdogExpiry s = .next s) ∧
  (∀ (d : Desc) (s : State), s.m.starts 0x0204 d →
    (s.m.takes .damper = false → exec (.wdogKick d) s = .next (s.having (s.m.complete (d.as 0x0204) stNOT_ENABLED))) ∧
    (s.m.takes .damper = true →
      let t := s.m.armWatchdog
      (∀ u, s.m.dam.wdog = some u → exec (.wdogKick d) s =
        .next (s.having (t.complete (d.as 0x0204) stOK (le 4 (u - s.m.now))))) ∧
      (s.m.dam.wdog = none → exec (.wdogKick d) s = .next (s.having (t.complete (d.as 0x0204) stOK (le 4 0)))) ∧
      (s.m.b DAMP_WDOG_CFG_EN = true → t.dam.wdog = some (s.m.now + s.m.r DAMP_WDOG_CFG_TIMEOUT_MS)) ∧ t.regs = s.m.regs))

/-- STOP, the two-step release with its time limits, abandonment, lapse and the clearing at the boundary.
The model's choices in it are those of log entries 25, 61. -/
def Obligations.StopsAreLatchedAndReleasedInTwoSteps : Prop :=
  (∀ (d : Desc) (s : State), s.m.starts 0x0200 d → s.m.stopsOf (d.as 0x0200) = none →
    exec (.stop d) s = .next (s.having (s.m.complete (d.as 0x0200) stRANGE))) ∧
  (∀ (d : Desc) (s : State) (what : Stops), s.m.starts 0x0200 d → s.m.stopsOf (d.as 0x0200) = some what →
    Descs.fld d 18 1 = 0 ∨ s.m.takes .damper = true ∧ s.m.isActive = true → s.m.stopStale (d.as 0x0200) = false →
    ∃ t : Mach, t.latched = s.m.latched.join what ∧ (t.r DAMP_SRC_SEEN_SEEN).testBit 5 = true ∧
      (s.m.isActive = false ∨ s.m.mirror ≠ 3 ∨ s.m.latched.gains what = false →
        exec (.stop d) s = .next (s.having (t.complete (d.as 0x0200) stOK (t.stopRes (s.m.latched.gains what))))) ∧
      (s.m.isActive = true → s.m.mirror = 3 → s.m.latched.gains what = true → exec (.stop d) s = .next (s.having t) ∧
        t.dam.stops = s.m.dam.stops ++ [(d.as 0x0200, s.m.red.seqOut, true)])) ∧
  (∀ (d : Desc) (s : State) (what : Stops), s.m.starts 0x0201 d → s.m.stopsOf (d.as 0x0201) = some what →
    s.m.takes .damper = true → s.m.isActive = true → s.m.stopStale (d.as 0x0201) = false →
    let e := d.as 0x0201
    (s.m.latched.gains what = true → exec (.releaseArm d) s = .next (s.having (s.m.complete e 0x10))) ∧
    (s.m.latched.gains what = false → s.m.covering what = true →
      exec (.releaseArm d) s = .next (s.having (s.m.complete e 0x11))) ∧
    (s.m.latched.gains what = false → s.m.covering what = false → s.m.dam.arm.isSome = true →
      exec (.releaseArm d) s = .next (s.having (s.m.complete e 0x12))) ∧
    (s.m.latched.gains what = false → s.m.covering what = false → s.m.dam.arm = none →
      let k := (s.m.dam.ticket + 1) % 2 ^ 16
      ∃ t : Mach, exec (.releaseArm d) s = .next (s.having (t.complete e stOK (le 2 k ++ le 2 0 ++ le 4 s.m.pt))) ∧
        t.dam = { s.m.dam with arm := some ⟨Descs.fld d 18 1, what, k, s.m.now⟩, ended := none, ticket := k } ∧
        t.b DAMP_STATUS_ARMED = true ∧ t.r DAMP_STATUS_TICKET = k ∧ t.latched = s.m.latched ∧
        regsKept [DAMP_STATUS_ARMED.off 0 0] s.m t)) ∧
  (∀ (d : Desc) (s : State) (a : DamArm), s.m.starts 0x0202 d → s.m.takes .damper = true → s.m.isActive = true →
    let e := d.as 0x0202
    (s.m.dam.arm = none → exec (.releaseConfirm d) s =
      .next (s.having (s.m.complete e (endedStatus s.m.dam.ended (Descs.fld d 20 2))))) ∧
    (s.m.dam.arm = some a → a.ticket = Descs.fld d 20 2 →
      (s.m.now < a.tick + 500 → exec (.releaseConfirm d) s = .next (s.having ((s.m.armEnd 2).complete e 0x15))) ∧
      (a.tick + 10000 < s.m.now → exec (.releaseConfirm d) s = .next (s.having ((s.m.armEnd 3).complete e 0x16))) ∧
      (a.tick + 500 ≤ s.m.now → s.m.now ≤ a.tick + 10000 →
        ∃ t : Mach, exec (.releaseConfirm d) s = .next (s.having (t.complete e stOK
            (le 1 a.scope ++ le 3 0 ++ le 4 ((s.m.pt + 1) % 2 ^ 32)))) ∧
          t.dam = { s.m.dam with arm := none, release := some { a with tick := s.m.now } } ∧
          t.b DAMP_STATUS_ARMED = false ∧ t.latched = s.m.latched ∧ regsKept [DAMP_STATUS_ARMED.off 0 0] s.m t))) ∧
  (∀ (d : Desc) (s : State), s.m.starts 0x0203 d → s.m.takes .damper = true →
    (s.m.dam.arm.isSome = true → exec (.releaseAbandon d) s =
      .next (s.having ((s.m.armEnd 4).complete (d.as 0x0203) stOK (le 1 0)))) ∧
    (s.m.dam.arm = none → exec (.releaseAbandon d) s =
      .next (s.having (s.m.complete (d.as 0x0203) stOK (le 1 1))))) ∧
  (∀ (s : State) (a : DamArm), s.m.dam.arm = some a →
    (a.tick + 10000 < s.m.now → exec .armLapse s = .next (s.having (s.m.armEnd 3))) ∧
    (s.m.now ≤ a.tick + 10000 → exec .armLapse s = .next s)) ∧
  (∀ (m : Mach) (a : DamArm) (why : Nat), m.dam.arm = some a →
    (m.armEnd why).dam = { m.dam with arm := none, ended := some (a.ticket, why) } ∧
    (m.armEnd why).b DAMP_STATUS_ARMED = false ∧
    (m.armEnd why).r DAMP_ARM_ENDED_ALL = min (m.r DAMP_ARM_ENDED_ALL + 1) 0xFFFFFFFF ∧ (m.armEnd why).latched = m.latched) ∧
  (∀ (s : State) (a : DamArm), s.m.dam.release = some a →
    (s.m.now ≤ a.tick → exec .latchRelease s = .next s) ∧
    (a.tick < s.m.now →
      ∃ t : Mach, exec .latchRelease s = .next (s.having t) ∧
        t.latched = s.m.dam.again.foldl (fun l r => l.join r.what) (s.m.latched.minus a.what) ∧
        t.dam.release = none ∧ t.dam.again = [] ∧ t.dam.arm = s.m.dam.arm ∧ (∀ j, t.agent j = s.m.agent j) ∧
        (a.what.site = true → t.dam.run = (s.m.b REDUN_STATUS_GRANTED && !t.siteLatched))))

/-- FIX_EN_N after its delay, the self-test cycle, and what a failure or a pin mismatch does.
The model's choices in it are those of log entry 31. -/
def Obligations.DamperTestsItsPath : Prop :=
  (∀ s : State,
    (∀ u, s.m.dam.fixDue = some u → u ≤ s.m.now → exec .fixEnDelayExpiry s = .next (s.having (s.m.setFixEn false)) ∧
      (s.m.setFixEn false).dam.fixRun = false ∧ (s.m.setFixEn false).r DAMP_STATUS_FIX_EN_N = 1 ∧
      (s.m.setFixEn false).dam.fixDue = none ∧ (s.m.setFixEn false).latched = s.m.latched) ∧
    (∀ u, s.m.dam.fixDue = some u → s.m.now < u → exec .fixEnDelayExpiry s = .next s) ∧
    (s.m.dam.fixDue = none → exec .fixEnDelayExpiry s = .next s)) ∧
  (∀ (fail : Option (Fin 10 × Fin 3)) (s : State),
    let due := s.m.time.ns / 1000000 % 100 = 50 ∧ 2 ≤ s.m.r PWR_BOOT_STATUS_PHASE ∧ s.m.dam.testTick ≠ some s.m.now
    let m := { s.m with dam := { s.m.dam with testTick := some s.m.now } }
    (¬ due → exec (.damperSelfTest fail) s = .next s) ∧
    (due → fail = none → exec (.damperSelfTest fail) s = .next (s.having m.selfTestPass) ∧
      m.selfTestPass.r DAMP_TEST_CYCLES_ALL = min (s.m.r DAMP_TEST_CYCLES_ALL + 1) 0xFFFFFFFF ∧
      m.selfTestPass.latched = s.m.latched ∧ m.selfTestPass.r DAMP_SRC_SRC = s.m.r DAMP_SRC_SRC ∧
      m.selfTestPass.r DAMP_SRC_SEEN_SEEN = s.m.r DAMP_SRC_SEEN_SEEN ∧
      m.selfTestPass.word DAMP_IN_LEVEL_LEVEL_A = s.m.word DAMP_IN_LEVEL_LEVEL_A ∧
      m.selfTestPass.r DAMP_LATCH_COUNT_ALL = s.m.r DAMP_LATCH_COUNT_ALL ∧ m.selfTestPass.dam.arm = s.m.dam.arm) ∧
    (∀ (k : Fin 10) (kind : Fin 3), due → fail = some (k, kind) →
      (8 ≤ k.val ∨ s.m.b DAMP_IN_CFG_USE (k / 2) = true → exec (.damperSelfTest fail) s =
        .next (s.having ((m.when (m.istRuns 5) (fun m => m.istFail 5 (k + 1) kind)).selfTestFail (k + 1) kind))) ∧
      (k.val < 8 → s.m.b DAMP_IN_CFG_USE (k / 2) = false → exec (.damperSelfTest fail) s = .next (s.having m.selfTestPass)))) ∧
  (∀ (pin : Fin 3) (s : State),
    (s.m.b REDUN_STATUS_GRANTED = false → exec (.outputPinMismatch pin) s = .next s) ∧
    (s.m.b REDUN_STATUS_GRANTED = true → ∃ t : Mach, exec (.outputPinMismatch pin) s = .next (s.having t) ∧
      t.kiln = (s.m.selfTestFail (11 + pin) 3).kiln ∧
      (pin = 0 → t.b DAMP_STATUS_OUT_A = s.m.dam.run) ∧ (pin = 1 → t.b DAMP_STATUS_OUT_B = s.m.dam.run) ∧
      (pin = 2 → t.b DAMP_STATUS_FIX_EN_N = s.m.dam.fixRun) ∧
      t.dam = (s.m.selfTestFail (11 + pin) 3).dam ∧ t.hostMem = (s.m.selfTestFail (11 + pin) 3).hostMem)) ∧
  (∀ (m : Mach) (wh kind : Nat), wh < 32 → kind < 4 →
    let f := ((m.w DAMP_TEST_STATUS_FAILED 1).w DAMP_TEST_STATUS_WHERE wh).w DAMP_TEST_STATUS_KIND kind
    f.b DAMP_TEST_STATUS_FAILED = true ∧ f.r DAMP_TEST_STATUS_WHERE = wh ∧ f.r DAMP_TEST_STATUS_KIND = kind ∧
    m.selfTestFail wh kind = ((((f.levelAssert 12 wh Stops.ofSite).event 0x0205 4 17 (le 1 wh ++ le 1 kind)).blkState 17 3 1).enterSafe 1 17) ∧
    ((m.r DAMP_SRC_SRC).testBit 12 = false → (f.levelAssert 12 wh Stops.ofSite).siteLatched = true ∧
      ((f.levelAssert 12 wh Stops.ofSite).r DAMP_SRC_SRC).testBit 12 = true))

/-- A slot's start, its stop sample, the exchange of slot-kind banks, a lane's closing and a cut transmission.
The model's choices in it are those of log entries 31, 37, 59. -/
def Obligations.SlotsBeginAndBanksExchange : Prop :=
  (∀ s : State, s.m.slotDue = false → exec .slotStart s = .next s) ∧
  (∀ s : State, s.m.slotDue = true →
    ∃ t : Mach, exec .slotStart s = .next (s.having t) ∧ t.air.slot = some s.m.asn ∧ t.air.phase = 1 ∧
      t.r AIR_ASN_LO_ALL + 2 ^ 32 * t.r AIR_ASN_HI_ALL = s.m.asn ∧ t.b AIR_STATUS_ASN_VALID = true ∧
      (∀ x : Fin 8, t.r AIR_LANE_STATUS_CHANNEL x = s.m.chanOf x s.m.asn) ∧
      (s.m.isSafe = false → t.r DAMP_STATUS_GATE = 0) ∧ t.air.inFlight = [] ∧ t.air.ended = [] ∧ t.air.acks = [] ∧
      t.dam = { s.m.dam with burst := s.m.r DAMP_STATUS_BURSTS_LEFT != 0 } ∧
      t.r DAMP_STATUS_BURSTS_LEFT = s.m.r DAMP_STATUS_BURSTS_LEFT - 1 ∧
      t.kiln = s.m.kiln ∧ t.mot = s.m.mot ∧ t.hostMem = s.m.hostMem ∧
      (s.m.air.pins.en = false → t.out = s.m.out)) ∧
  (∀ s : State,
    (s.m.inSlot = true → s.m.msInt % 4 = 0 → s.m.air.phase = 1 → exec .stopContentSample s = .next (s.having
      { s.m with dam := { s.m.dam with sample := s.m.latched }, air := { s.m.air with phase := 2, valid := s.m.b CORR_STATUS_VALID } })) ∧
    (s.m.air.phase ≠ 1 → exec .stopContentSample s = .next s)) ∧
  (∀ s : State,
    (s.m.ready = true → s.m.b AIR_SF_CTRL_SWITCH = false →
      ∃ t : Mach, exec .slotBankSwitchRequest s = .next (s.having { s.m with air := t.air, regs := t.regs }) ∧
        t.b AIR_SF_CTRL_SWITCH = true ∧ t.r AIR_SF_CTRL_BANK = s.m.r AIR_SF_CTRL_BANK ∧
        t.air = { s.m.air with switchAt := if s.m.stepped then some s.m.asn else none } ∧
        regsKept [AIR_SF_CTRL_SWITCH.off 0 0] s.m t) ∧
    (s.m.b AIR_SF_CTRL_SWITCH = true → exec .slotBankSwitchRequest s = .next s)) ∧
  (∀ s : State,
    (s.m.inSlot = true → s.m.air.phase ≤ 2 → s.m.bankDue s.m.asn = true →
      ∃ t : Mach, exec .slotBankExchange s = .next (s.having { s.m with air := t.air, regs := t.regs }) ∧
        t.b AIR_SF_CTRL_SWITCH = false ∧ t.r AIR_SF_CTRL_BANK = 1 - s.m.r AIR_SF_CTRL_BANK ∧
        t.air = { s.m.air with switchAt := none } ∧ regsKept [AIR_SF_CTRL_SWITCH.off 0 0] s.m t) ∧
    (s.m.bankDue s.m.asn = false → exec .slotBankExchange s = .next s)) ∧
  (∀ (x : Fin 8) (s : State),
    let due := s.m.slotDue = true ∧ s.m.asn % s.m.r AIR_SLOT_CFG_SF_LEN = 0 ∧ (s.m.r AIR_STATUS_MODEM_FAIL).testBit x = true ∧
      s.m.laneOpen x = true ∧ s.m.seats x = []
    (due → ∃ t : Mach, exec (.laneClose x) s = .next (s.having { s.m with regs := t.regs }) ∧ t.laneOpen x = false ∧
      (∀ y : Fin 8, y ≠ x → t.laneOpen y = s.m.laneOpen y) ∧ t.r AIR_LANE_STATUS_STATE x = 0) ∧
    (¬ due → exec (.laneClose x) s = .next s)) ∧
  (∀ (x : Fin 8) (s : State),
    ((∀ f ∈ s.m.air.inFlight, f.lane ≠ x) → exec (.txLimitTrip x) s = .next s) ∧
    (∀ f, s.m.air.inFlight.find? (fun f => f.lane.val == x.val) = some f →
      let used := (((Tabs.val s.m.air.txLog [] (32 * x + f.chan)).filter (fun e => s.m.now < e.1 + 1000)).map (fun e => e.2)).sum
      let limit := if Config.isAM then 40000 else 70000
      (f.us ≤ 2300 → used + f.us ≤ limit → exec (.txLimitTrip x) s = .next s) ∧
      (2300 < f.us ∨ limit < used + f.us → ∃ t : Mach, exec (.txLimitTrip x) s = .next (s.having t) ∧
        t.air.inFlight = s.m.air.inFlight.filter (fun g => g.lane.val != x.val) ∧
        t.r AIR_LIMIT_TRIP_ALL = min (s.m.r AIR_LIMIT_TRIP_ALL + 1) 0xFFFFFFFF ∧
        t.r AIR_LANE_TX_US_ALL x = min (s.m.r AIR_LANE_TX_US_ALL x + (if 2300 < f.us then 2300 else limit - used))
          0xFFFFFFFF ∧ t.kiln = s.m.kiln)))

/-- What lanes send in the transmit and ACK windows.
The model's choices in it are those of log entries 31, 32, 33, 34, 36, 59, 61. -/
def Obligations.LanesTransmitInTheirWindows : Prop :=
  (∀ s : State, s.m.inSlot = true → s.m.msInt % 4 = 0 → s.m.air.phase = 2 →
    let m := ({ s.m with air := { s.m.air with phase := 3 } } : Mach).maxTo REDUN_HELD_MAX_ALL
      (s.m.air.tab.auth.filter (fun e => e.2.owed > 0 && s.m.authHeld e.2)).length
    (m.mayTransmit = false → exec .transmitWindow s = .next (s.having m)) ∧
    (m.mayTransmit = true → s.m.air.inFlight = [] →
      ∃ t : Mach, exec .transmitWindow s = .next (s.having t) ∧ t.kiln = s.m.kiln ∧ t.dam = s.m.dam ∧
        t.hostMem = s.m.hostMem ∧ t.air.phase = 3 ∧ t.air.tab = s.m.air.tab ∧
        (∀ f ∈ t.air.inFlight, m.laneServed f.lane = true ∧ f.us ≤ 2300 ∧
          f.chan = m.r AIR_LANE_STATUS_CHANNEL f.lane ∧ m.laneFrame f.lane = some (f.what, f.mcs, f.bytes)) ∧
        (∀ x < 8, m.laneServed x = true → ∀ g, m.laneFrame x = some g → Config.airUs g.2.1 g.2.2.length ≤ 2300 →
          ∃ f ∈ t.air.inFlight, f.lane.val = x ∧ f.what = g.1))) ∧
  (∀ s : State, s.m.air.phase ≠ 2 → exec .transmitWindow s = .next s) ∧
  (∀ (m : Mach) (x : Nat),
    (m.slotKind = kPERMIT → m.laneFrame x = some (.permit (m.planOf x) m.dam.burst, if m.dam.burst then 3 else 2,
      m.permitFrame x m.dam.burst true (m.planOf x))) ∧
    (m.slotKind ≠ kPERMIT → m.dam.burst = true → m.laneFrame x = some (.burst, 3, m.permitFrame x true false [])) ∧
    (m.slotKind = kUP ∨ m.slotKind = kJOIN ∨ m.slotKind = kIDLE → m.dam.burst = false → m.laneFrame x = none) ∧
    (m.slotKind = kDOWN → m.dam.burst = false → m.laneFrame x = m.downFor x) ∧
    (m.slotKind = kBCAST → m.dam.burst = false → m.laneFrame x = m.bcastFor x)) ∧
  (∀ s : State, s.m.inSlot = true → s.m.msInt % 4 = 2 → s.m.air.phase = 3 →
    let m := s.m.settleFlights.joinsTake
    ∃ t : Mach, exec .ackWindow s = .next (s.having t) ∧ t.air.phase = 4 ∧ t.air.acks = [] ∧ t.air.ended = [] ∧
      t.air.joins = [] ∧
      (∀ f ∈ t.air.inFlight, ∃ k ∈ m.air.acks, f.lane = k.lane ∧ m.laneServed k.lane = true ∧ m.mayTransmit = true ∧
        m.dam.burst = false ∧ f.mcs = 2 ∧ f.us ≤ 700 ∧ f.bytes = m.ackFrame k ∧ f.what = .ack (!k.session)) ∧
      t.kiln = s.m.kiln ∧ t.dam = s.m.dam ∧ t.hostMem = s.m.hostMem ∧ t.nv = m.nv ∧ (s.m.air.joins = [] → t.nv = s.m.nv) ∧
      (m.mayTransmit = false → t.air.inFlight = [] ∧ (s.m.air.pins.en = false → t.out = s.m.out))) ∧
  (∀ s : State, s.m.air.phase ≠ 3 → exec .ackWindow s = .next s)

/-- A join request is acknowledged and answered; the robot's ACK completes the join; time limits end it.
The model's choices in it are those of log entries 31, 35, 41, 61. -/
def Obligations.JoinsAreAnsweredAndCompleted : Prop :=
  (∀ (rx : AirRx) (s : State),
    (s.m.listenTx rx.lane = false → exec (.joinRequestReceived rx) s = .next s) ∧
    (∀ k, (s.m.receive rx (s.m.listenTx rx.lane)).2 = some k →
      let m := (s.m.receive rx (s.m.listenTx rx.lane)).1
      (m.asBase = false → exec (.joinRequestReceived rx) s = .next (s.having m)) ∧
      (m.asBase = true → exec (.joinRequestReceived rx) s = .next (s.having
        { m with air := { m.air with joins := m.air.joins ++ [⟨rx.lane, k.tc, rx.bytes, rx.mic⟩] } })))) ∧
  (∀ (m : Mach) (a b : JoinTaken), m.air.joins = [a, b] →
    let n := ({ m with air := { m.air with joins := [] } } : Mach)
    (a.lane.val ≤ b.lane.val → m.joinsTake = (n.joinDecide a).joinDecide b) ∧
    (b.lane.val < a.lane.val → m.joinsTake = (n.joinDecide b).joinDecide a)) ∧
  (∀ (m : Mach) (j : JoinTaken),
    (m.cred (leAt j.bytes 6 8) = none → m.joinDecide j = m.inc AIR_JOIN_REJECT_ALL) ∧
    (∀ n c, m.cred (leAt j.bytes 6 8) = some (n, c) →
      (m.slotKind = kJOIN → m.b AIR_JOIN_CTRL_JOIN_OPEN = true → m.joinForm j = true →
        j.mic = some (c.key, airNonce m.asn euiSrc j.lane 0) → c.ctr < leAt j.bytes 22 4 → (m.resps j.lane).length < 16 →
        let t := m.joinDecide j
        Tabs.look t.nv.set.creds n = some { c with ctr := leAt j.bytes 22 4 } ∧
        (∀ k, k ≠ n → Tabs.look t.nv.set.creds k = Tabs.look m.nv.set.creds k) ∧
        t.air.acks = m.air.acks ++
          (if m.b DAMP_STATUS_GATE || !m.isActive then [] else [⟨j.lane, c.key, j.tc, false⟩]) ∧
        (∃ r ∈ t.resps j.lane, r.eui = c.eui ∧ r.jkey = c.key ∧ r.sends = 0 ∧ (c.blocked = true → r.result = 2)) ∧
        t.kiln = m.kiln ∧ t.hostMem = m.hostMem ∧ t.dam = m.dam) ∧
      (m.slotKind ≠ kJOIN ∨ m.b AIR_JOIN_CTRL_JOIN_OPEN = false ∨ m.joinForm j = false ∨
        j.mic ≠ some (c.key, airNonce m.asn euiSrc j.lane 0) ∨ leAt j.bytes 22 4 ≤ c.ctr ∨ 16 ≤ (m.resps j.lane).length →
        m.joinDecide j = m.inc AIR_JOIN_REJECT_ALL))) ∧
  (∀ (rx : AirRx) (s : State),
    (s.m.listenAck rx.lane = false → exec (.robotAckReceived rx) s = .next s) ∧
    ((s.m.receive rx (s.m.listenAck rx.lane)).2.isSome = true →
      let m := (s.m.receive rx (s.m.listenAck rx.lane)).1
      m.isActive = true →
      (∀ r y, m.respWaits rx.lane = some r → r.result = 0 → joinAckForm rx.bytes = true →
        rx.mic = some (r.jkey, airNonce m.asn euiSrc rx.lane 1) → s.m.member r.idx = some y → y.move = none →
        ∃ (t : Mach) (z : Member), exec (.robotAckReceived rx) s = .next (s.having t) ∧ t.member r.idx = some z ∧
          z.pending = false ∧ z.key = r.skey ∧ z.lane = y.lane ∧ z.seat = y.seat ∧ z.missed = 0 ∧
          (t.agent r.idx).state = (if (s.m.agent r.idx).state = 0 then 1 else (s.m.agent r.idx).state) ∧
          (∀ j, j ≠ r.idx → t.member j = s.m.member j ∧ t.agent j = s.m.agent j)) ∧
      (∀ i x u, m.respWaits rx.lane = none → m.uniWaits rx.lane = some (i, x, u) → sessionAckForm rx.bytes = true →
        rx.mic = some (x.key, airNonce m.asn (m.refOf i) rx.lane 1) → x.move = none →
        ∃ (t : Mach) (z : Member), exec (.robotAckReceived rx) s = .next (s.having t) ∧ t.member i = some z ∧
          z.sent = none ∧ z.failRun = 0 ∧ z.missed = 0 ∧ z.lane = x.lane ∧ z.seat = x.seat ∧
          (∀ j, j ≠ i → t.member j = s.m.member j) ∧ t.kiln = s.m.kiln ∧ t.hostMem = s.m.hostMem))) ∧
  (∀ (x : Fin 8) (eui : BitVec 64) (s : State),
    let found := (s.m.resps x).find? (fun r => r.eui == eui.toNat && r.firstAt.any (fun t => t + 2000 ≤ (s.m.now : Int)))
    (found = none → exec (.joinTimeout x eui) s = .next s) ∧
    (∀ r y, found = some r → r.result = 0 → s.m.member r.idx = some y → y.pending = true →
      exec (.joinTimeout x eui) s = .next (s.having (((s.m.dropResp x r).inc AIR_JOIN_FAIL_ALL).quarantine r.idx 3)))) ∧
  (∀ (a : Fin 512) (s : State) (x : Member), s.m.member a = some x → x.pending = false →
    ((s.m.agent a).state = 1 → x.joined + 1000 * s.m.r AIR_JOIN_CFG_ADMIT_S ≤ s.m.now →
      exec (.admissionTimeout a) s = .next (s.having (s.m.quarantine a 1))) ∧
    ((s.m.agent a).state ≠ 1 ∨ s.m.now < x.joined + 1000 * s.m.r AIR_JOIN_CFG_ADMIT_S →
      exec (.admissionTimeout a) s = .next s))

/-- Missed uplinks, lane moves and evictions of members.
The model's choices in it are those of log entries 21, 31, 39, 61. -/
def Obligations.MembersAreMissedMovedAndEvicted : Prop :=
  (∀ (x : Fin 8) (s : State) (seat i : Nat) (y : Member), s.m.inSlot = true → s.m.air.on = true → s.m.air.phase = 4 →
    s.m.isActive = true → s.m.dam.burst = false → s.m.laneServed x = true → s.m.slotKind = kUP →
    s.m.air.heard.contains x.val = false → s.m.planned x = some (seat, i) → s.m.member i = some y → y.pending = false →
    y.move = none →
    let c := ({ s.m with air := { s.m.air with counted := x.val :: s.m.air.counted } }.setMember i
      { y with missed := y.missed + 1 }).inc AIR_MISSED_UL_ALL
    (s.m.air.counted.contains x.val = true → exec (.uplinkMissed x) s = .next s) ∧
    (s.m.air.counted.contains x.val = false → y.missed ≠ 2 → exec (.uplinkMissed x) s = .next (s.having c)) ∧
    (s.m.air.counted.contains x.val = false → y.missed = 2 → exec (.uplinkMissed x) s = .next (s.having (c.thirdMiss i)) ∧
      (c.r AIR_MISSED_UL_ALL = min (s.m.r AIR_MISSED_UL_ALL + 1) 0xFFFFFFFF) ∧
      ((s.m.agent i).state = 2 → (c.thirdMiss i).agent i = { s.m.agent i with state := 3, silentAt := s.m.now } ∧
        (c.thirdMiss i).r AIR_SILENT_CNT_ALL = min (s.m.r AIR_SILENT_CNT_ALL + 1) 0xFFFFFFFF ∧
        (∀ j, j ≠ i → (c.thirdMiss i).agent j = s.m.agent j)) ∧
      ((s.m.agent i).state = 1 → c.thirdMiss i = c.quarantine i 2))) ∧
  (∀ (d : Desc) (s : State) (x : Member) (seat : Nat), s.m.starts 0x0303 d → s.m.takes .air = true → s.m.isActive = true →
    let i := refIdx (Descs.fld d 16 2)
    let lane := Descs.fld d 18 1
    refOk (Descs.fld d 16 2) = true → lane < 8 → s.m.laneOpen lane = true → s.m.stale (Descs.fld d 16 2) = false →
    s.m.member i = some x → x.pending = false → x.lane ≠ lane → s.m.freeSeat lane = some seat →
    (x.move = none → ∃ t : Mach, exec (.moveLane d) s = .next (s.having { s.m with air := t.air, regs := t.regs }) ∧
      t.member i = some { x with move := some { d := d.as 0x0303, lane := lane, seat := seat, asn := s.m.effectiveAsn } } ∧
      (∀ j, j ≠ i → t.member j = s.m.member j)) ∧
    (x.move.isSome = true → exec (.moveLane d) s = .next (s.having (s.m.complete (d.as 0x0303) 0x14)))) ∧
  (∀ (a : Fin 512) (s : State) (x : Member) (v : LaneMove), s.m.member a = some x → x.move = some v → v.open_ = false →
    s.m.inSlot = true →
    (s.m.asn < v.asn → exec (.laneMoveEffective a) s = .next s) ∧
    (v.asn ≤ s.m.asn → v.acked = true → exec (.laneMoveEffective a) s = .next (s.having (s.m.moveDone a x v)) ∧
      (s.m.moveDone a x v).member a = some { x with lane := v.lane, seat := v.seat, move := none, heard := v.lane }) ∧
    (v.asn ≤ s.m.asn → v.acked = false → ∃ t : Mach,
      exec (.laneMoveEffective a) s = .next (s.having { s.m with air := t.air, regs := t.regs }) ∧
      t.member a = some { x.moveExpired s.m.asn with move := some { v with open_ := true } } ∧ (∀ j, j ≠ a.val → t.member j = s.m.member j))) ∧
  (∀ (d : Desc) (s : State) (x : Member), s.m.starts 0x0304 d → s.m.takes .air = true → s.m.isActive = true →
    let i := refIdx (Descs.fld d 16 2)
    refOk (Descs.fld d 16 2) = true → s.m.stale (Descs.fld d 16 2) = false → s.m.member i = some x → x.pending = false →
    ((s.m.agent i).state = 1 →
      exec (.evict d) s = .next (s.having ((s.m.quarantine i 4).complete (d.as 0x0304) stOK (le 1 0)))) ∧
    ((s.m.agent i).state ≠ 1 → exec (.evict d) s = .next (s.having (s.m.complete (d.as 0x0304) 0x15)))) ∧
  (∀ (m : Mach) (i item : Nat), i < 512 → Tabs.rising none m.air.tab.members = true →
    (m.quarantine i item).member i = none ∧ (∀ j, j ≠ i → (m.quarantine i item).member j = m.member j))

/-- CRED_WRITE, CRED_REMOVE, CRED_QUERY and QUERY_MEMBER.
The model's choices in it are those of log entry 59. -/
def Obligations.CredentialsAreKept : Prop :=
  (∀ (d : Desc) (s : State), s.m.starts 0x0300 d → s.m.takes .air = true → s.m.isActive = true →
    let eui := Descs.fld d 16 8
    let home := Descs.fld d 40 1
    let fl := Descs.fld d 41 1
    let e := d.as 0x0300
    home < 8 ∨ home = 0xFF →
    (s.m.cred eui = none → s.m.nv.set.creds.length < 1024 → exec (.credWrite d) s = .next (s.having ((s.m.setCred s.m.freeCred
      ⟨eui, Descs.fld d 24 16, home, fl.testBit 0, 0⟩).complete e stOK (le 2 s.m.freeCred ++ le 1 0)))) ∧
    (∀ n c, s.m.cred eui = some (n, c) → exec (.credWrite d) s = .next (s.having ((s.m.setCred n
      ⟨eui, Descs.fld d 24 16, home, fl.testBit 0, if fl.testBit 1 then c.ctr else 0⟩).complete e stOK (le 2 n ++ le 1 1)))) ∧
    (s.m.cred eui = none → 1024 ≤ s.m.nv.set.creds.length → exec (.credWrite d) s = .next (s.having (s.m.complete e 0x12)))) ∧
  (∀ (d : Desc) (s : State), s.m.starts 0x0301 d → s.m.takes .air = true → s.m.isActive = true →
    let eui := Descs.fld d 16 8
    (s.m.cred eui = none → exec (.credRemove d) s = .next (s.having (s.m.complete (d.as 0x0301) 0x10))) ∧
    (∀ n c h, s.m.cred eui = some (n, c) → s.m.holderOf eui = some h →
      exec (.credRemove d) s = .next (s.having (s.m.complete (d.as 0x0301) 0x11))) ∧
    (∀ n c, s.m.cred eui = some (n, c) → s.m.holderOf eui = none → Tabs.rising none s.m.nv.set.creds = true →
      ∃ t : Mach, exec (.credRemove d) s = .next (s.having (t.complete (d.as 0x0301) stOK (le 1 0))) ∧
        t = { s.m with nv := t.nv } ∧ t.nv = { s.m.nv with set := t.nv.set } ∧
        t.nv.set = { s.m.nv.set with creds := t.nv.set.creds } ∧ Tabs.look t.nv.set.creds n = none ∧
        (∀ k, k ≠ n → Tabs.look t.nv.set.creds k = Tabs.look s.m.nv.set.creds k))) ∧
  (∀ (d : Desc) (s : State), s.m.starts 0x0302 d → s.m.takes .air = true →
    (s.m.cred (Descs.fld d 16 8) = none → exec (.credQuery d) s = .next (s.having (s.m.complete (d.as 0x0302) 0x10))) ∧
    (∀ n c, s.m.cred (Descs.fld d 16 8) = some (n, c) →
      (s.m.holderOf (Descs.fld d 16 8) = none → exec (.credQuery d) s = .next (s.having (s.m.complete (d.as 0x0302) stOK
        (le 1 c.home ++ le 1 (b2n c.blocked) ++ le 2 0 ++ le 4 c.ctr ++ le 2 0)))) ∧
      (∀ i x, s.m.holderOf (Descs.fld d 16 8) = some (i, x) → exec (.credQuery d) s = .next (s.having (s.m.complete
        (d.as 0x0302) stOK (le 1 c.home ++ le 1 (b2n c.blocked) ++ le 2 0 ++ le 4 c.ctr ++ le 2 (s.m.refOf i))))))) ∧
  (∀ (d : Desc) (s : State), s.m.starts 0x0305 d → s.m.takes .air = true → refOk (Descs.fld d 16 2) = true →
    let i := refIdx (Descs.fld d 16 2)
    (Descs.fld d 18 1).testBit 0 = true ∨ s.m.stale (Descs.fld d 16 2) = false →
    (s.m.member i = none → exec (.queryMember d) s = .next (s.having (s.m.complete (d.as 0x0305) 0x15))) ∧
    (∀ x, s.m.member i = some x → exec (.queryMember d) s = .next (s.having (s.m.complete (d.as 0x0305) stOK
      (le 8 x.eui ++ le 1 x.lane ++ le 1 x.seat ++ le 1 x.missed ++
        le 1 (b2n (x.pending || s.m.rejoining i) + 2 * b2n (x.move.any (fun v => v.open_))) ++ le 2 (s.m.refOf i))))))

/-- An uplink data frame is accepted in its planned slot or dropped; a frame without an ACK is retried or given up.
The model's choices in it are those of log entries 31, 36, 61. -/
def Obligations.UplinksAreTakenOrDropped : Prop :=
  (∀ (m : Mach) (rx : AirRx) (a b : RxCopy), rx.a = some a → rx.b = some b →
    (m.air.inFlight = [] → m.keptCopy rx = some (if a.quality < b.quality then b else a)) ∧
    (m.air.inFlight ≠ [] → m.keptCopy rx = some a)) ∧
  (∀ (m : Mach) (rx : AirRx) (c : RxCopy), m.keptCopy rx = some c →
    (c.inWindow = false → m.receive rx true = (m.inc AIR_RX_WINDOW_MISS_ALL, none)) ∧
    (c.inWindow = true → c.fcsOk = false → (m.receive rx true).2 = none ∧
      (m.receive rx true).1.r AIR_LANE_RX_FCS_ALL rx.lane = min (m.r AIR_LANE_RX_FCS_ALL rx.lane + 1) 0xFFFFFFFF) ∧
    (c.inWindow = true → c.fcsOk = true → (m.receive rx true).2 = some c ∧
      (m.receive rx true).1.r AIR_LANE_RX_OK_ALL rx.lane = min (m.r AIR_LANE_RX_OK_ALL rx.lane + 1) 0xFFFFFFFF)) ∧
  (∀ (rx : AirRx) (s : State), s.m.listenTx rx.lane = false → exec (.uplinkDataFrame rx) s = .next s) ∧
  (∀ (rx : AirRx) (s : State) (k : RxCopy), (s.m.receive rx (s.m.listenTx rx.lane)).2 = some k →
    let m := (s.m.receive rx (s.m.listenTx rx.lane)).1
    let src := leAt rx.bytes 7 2
    let x := rx.lane.val
    m.asBase = true → refOk src = true → m.stale src = false →
    (∀ seat y, m.upForm rx = true → m.slotKind = kUP → m.planned x = some (seat, refIdx src) →
      m.member (refIdx src) = some y → y.pending = false → rx.mic = some (y.key, airNonce m.asn src x 0) →
      (firstIsProgress rx.ies = true → exec (.uplinkDataFrame rx) s = .next (s.having { m with air := { m.air with
        heard := x :: m.air.heard, taken := m.air.taken ++ [⟨x, src, leAt rx.bytes 2 1, false, rx.ies⟩],
        acks := m.air.acks ++ (if m.b DAMP_STATUS_GATE || !m.isActive then [] else [⟨rx.lane, y.key, k.tc, true⟩]) } })) ∧
      (firstIsProgress rx.ies = false → exec (.uplinkDataFrame rx) s =
        .next (s.having (({ m with air := { m.air with heard := x :: m.air.heard } }).inc AIR_RX_DROPPED_ALL)))) ∧
    (m.upForm rx = false ∨ m.slotKind ≠ kUP ∨ m.planned x = none ∨ m.upKey (refIdx src) rx = none →
      exec (.uplinkDataFrame rx) s = .next (s.having (m.inc AIR_RX_DROPPED_ALL)))) ∧
  (∀ (f : UpTaken) (m : Mach) (y : Member), m.stale f.ref = false → m.member (refIdx f.ref) = some y → y.move = none →
    f.newKey = false →
    let i := refIdx f.ref
    let t := m.upProcess f
    ∃ z : Member, t.member i = some z ∧ z.missed = 0 ∧ z.heard = f.lane ∧ z.upDsn = some f.dsn ∧
      (y.upDsn = some f.dsn → z = { y with missed := 0, heard := f.lane } ∧ t.air.reports = m.air.reports ∧
        t.r AIR_RX_DUP_ALL = min (m.r AIR_RX_DUP_ALL + 1) 0xFFFFFFFF ∧ t.hostMem = m.hostMem) ∧
      (∀ flags txn rear seq speed word, y.upDsn ≠ some f.dsn → f.ies = [.progress flags txn rear seq speed word] →
        txnLater y.txn txn = true → m.red.hold = false → m.isActive = true →
        t.air.reports = m.air.reports ++ [(f.lane, m.refOf i, rear)] ∧ z.txn = some txn) ∧
      (∀ j, t.agent j = m.agent j)) ∧
  (∀ (x : Fin 8) (s : State) (i w : Nat) (y : Member) (u : Unicast), s.m.resps x = [] →
    let m := s.m.setResps x []
    m.unanswered x = some (i, y, u) → u.waits = some w → w ≠ s.m.asn ∨ s.m.air.phase = 4 →
    exec (.ackMissing x) s = .next (s.having ((m.uniMissed i y u).airShow)) ∧
    (u.retries < m.r AIR_TX_CFG_RETRY_MAX → ∃ z, (m.uniMissed i y u).member i = some z ∧
      z.sent = (if u.move.any (fun e => decide (e ≤ s.m.asn)) then none else some { u with waits := none }) ∧ z.okRun = 0 ∧
      (y.failRun = 0 → z.failRun = 1 ∧ z.mcs = y.mcs) ∧
      (1 ≤ y.failRun → z.failRun = 0 ∧ z.mcs = max (y.mcs - 1) (m.r AIR_TX_CFG_DOWN_MCS_MIN))) ∧
    (m.r AIR_TX_CFG_RETRY_MAX ≤ u.retries → ∃ z, (m.uniMissed i y u).member i = some z ∧ z.sent = none ∧
      (m.uniMissed i y u).r AIR_TX_GIVEUP_ALL = min (s.m.r AIR_TX_GIVEUP_ALL + 1) 0xFFFFFFFF)) ∧
  (∀ (x : Fin 8) (s : State), s.m.resps x = [] → (s.m.setResps x []).unanswered x = none →
    exec (.ackMissing x) s = .next (s.having (s.m.setResps x [])))

/-- Offers enter the ledger, time limits and statuses move them on, final entries are forgotten.
The model's choices in it are those of log entries 21, 31. -/
def Obligations.TasksMoveThroughTheLedger : Prop :=
  (∀ (d : Desc) (s : State), s.m.starts 0x0310 d → s.m.takes .air = true → s.m.isActive = true →
    let ref := Descs.fld d 16 2
    let id := Descs.fld d 20 4
    let len := Descs.fld d 24 2
    let e := d.as 0x0310
    refOk ref = true → id ≠ 0 → 0 < len → len ≤ 1024 → Descs.buf d = true → len ≤ Descs.len d → Descs.fld d 26 2 ≤ 600 →
    s.m.stale ref = false → (s.m.memberOf ref).isSome = true →
    (∀ p, s.m.taskOf id = none → s.m.ledgerPlace = some p →
      exec (.taskOffer d) s = .next (s.having (s.m.offerInto p e false)) ∧
      ∃ t : Task, Tabs.look (s.m.offerInto p e false).air.tab.ledger p = some t ∧ t.id = id ∧ t.ref = ref ∧
        t.state = .offered ∧ t.payload = (s.m.bufRd e).take len ∧ t.d = some e ∧
        t.offerDue = (s.m.now : Int) + 1000 * (s.m.offerS e : Int) ∧
        (∀ q, q ≠ p → Tabs.look (s.m.offerInto p e false).air.tab.ledger q = Tabs.look s.m.air.tab.ledger q) ∧
        (s.m.offerInto p e false).kiln = s.m.kiln) ∧
    (∀ p t, s.m.taskOf id = some (p, t) → t.ref = ref → (t.state = .timedOut → t.fromOffer = false) →
      exec (.taskOffer d) s = .next (s.having (s.m.complete e stOK (taskRes t true)))) ∧
    (s.m.taskOf id = none → s.m.ledgerPlace = none →
      exec (.taskOffer d) s = .next (s.having (s.m.complete e stQUEUE_FULL)))) ∧
  (∀ (d : Desc) (s : State), s.m.starts 0x0311 d → s.m.takes .air = true → s.m.isActive = true →
    (∀ p t, s.m.taskOf (Descs.fld d 20 4) = some (p, t) → exec (.taskQuery d) s =
      .next (s.having (s.m.complete (d.as 0x0311) stOK (taskRes t false ++ le 2 t.ref)))) ∧
    (s.m.taskOf (Descs.fld d 20 4) = none → exec (.taskQuery d) s = .next (s.having (s.m.complete (d.as 0x0311) 0x1B)))) ∧
  (∀ (d : Desc) (s : State) (p : Nat) (t : Task), s.m.starts 0x0312 d → s.m.takes .air = true → s.m.isActive = true →
    s.m.taskOf (Descs.fld d 20 4) = some (p, t) →
    (t.state = .done ∨ t.state = .failed ∨ t.state = .timedOut → Tabs.rising none s.m.air.tab.ledger = true →
      ∃ n : Mach, exec (.taskForget d) s = .next (s.having (n.complete (d.as 0x0312) stOK (le 1 0))) ∧
        Tabs.look n.air.tab.ledger p = none ∧
        (∀ q, q ≠ p → Tabs.look n.air.tab.ledger q = Tabs.look s.m.air.tab.ledger q) ∧ n.kiln = s.m.kiln) ∧
    (t.state = .offered ∨ t.state = .accepted ∨ t.state = .started →
      exec (.taskForget d) s = .next (s.having (s.m.complete (d.as 0x0312) 0x1C)))) ∧
  (∀ (e : Fin 4096) (s : State) (t : Task), Tabs.look s.m.air.tab.ledger e = some t →
    (t.state = .offered → t.offerDue ≤ s.m.now →
      exec (.taskOfferTimeout e) s = .next (s.having ((s.m.taskMove e t .timedOut t.reason).airShow))) ∧
    (t.state ≠ .offered ∨ s.m.now < t.offerDue → exec (.taskOfferTimeout e) s = .next s) ∧
    (∀ u, t.state = .accepted ∨ t.state = .started → t.doneDue = some u → u ≤ s.m.now →
      exec (.taskDoneTimeout e) s = .next (s.having ((s.m.taskMove e t .timedOut t.reason).airShow))) ∧
    (t.doneDue = none → exec (.taskDoneTimeout e) s = .next s)) ∧
  (∀ (m : Mach) (e : Nat) (t : Task) (st : TaskState) (reason : Nat),
    ∃ u : Task, Tabs.look (m.taskMove e t st reason).air.tab.ledger e = some u ∧ u.id = t.id ∧ u.ref = t.ref ∧ u.state = st ∧
      u.reason = reason ∧ u.d = none ∧ u.since = m.now ∧ (st = .timedOut → (u.fromOffer = true ↔ t.state = .offered)) ∧
      (∀ q, q ≠ e → Tabs.look (m.taskMove e t st reason).air.tab.ledger q = Tabs.look m.air.tab.ledger q) ∧
      (m.taskMove e t st reason).kiln = m.kiln) ∧
  (∀ (m : Mach) (ref id reason e : Nat) (t : Task), m.taskOf id = some (e, t) → t.ref = ref →
    (t.state = .offered → m.statusIe ref 1 id reason = m.taskTo e .accepted 0 false ∧
      m.statusIe ref 5 id reason = m.taskTo e .failed reason false) ∧
    (t.state = .accepted → m.statusIe ref 2 id reason = m.taskTo e .started 0 false ∧
      m.statusIe ref 3 id reason = m.taskTo e .done 0 false ∧ m.statusIe ref 1 id reason = m))

/-- Antenna conditions with their bias, and a channel's way from IDLE through PULL_IN and TRACKING.
The model's choices in it are those of log entries 51, 64. -/
def Obligations.AntennasAndChannelsFollowTheirSignals : Prop :=
  (∀ (a : Fin 2) (ma : BitVec 8) (s : State),
    (s.m.biasOn a = true → ma.toNat < 2 → s.m.lowMa a < 100 → exec (.antennaOpen a ma) s = .next s) ∧
    (s.m.biasOn a = true → ma.toNat < 2 → 100 ≤ s.m.lowMa a → s.m.b (antOpen a) = false →
      ∃ t : Mach, exec (.antennaOpen a ma) s = .next (s.having t) ∧ t.b (antOpen a) = true ∧ t.b (antShort a) = false ∧
        t.r (antMa a) = ma.toNat ∧ t.kiln = s.m.kiln) ∧
    (s.m.biasOn a = true → 80 < ma.toNat →
      ∃ t : Mach, exec (.antennaShort a ma) s = .next (s.having t) ∧ t.b (antShort a) = true ∧
        (s.m.b (antShort a) = false → t.b (antOpen a) = false) ∧
        t.r (antMa a) = ma.toNat ∧ Tabs.look t.gnss.shortAt a = some s.m.now) ∧
    (s.m.b (antBias a) = true → 2 ≤ ma.toNat → ma.toNat ≤ 80 → s.m.b (antOpen a) = true ∨ s.m.b (antShort a) = true →
      Tabs.look s.m.gnss.shortAt a = none →
      ∃ t : Mach, exec (.antennaNormal a ma) s = .next (s.having t) ∧ t.b (antOpen a) = false ∧ t.b (antShort a) = false ∧
        t.r (antMa a) = ma.toNat ∧ t.gnss = s.m.gnss) ∧
    (∀ u, Tabs.look s.m.gnss.shortAt a = some u → s.m.b (antBias a) = true → u + 1000 ≤ s.m.now →
      ∃ t : Mach, exec (.antennaBiasRetry a ma) s = .next (s.having { s.m with gnss := t.gnss, regs := t.regs }) ∧
        t.r (antMa a) = ma.toNat ∧ t.b (antShort a) = s.m.b (antShort a) ∧
        (80 < ma.toNat → Tabs.look t.gnss.shortAt a = some s.m.now) ∧
        (ma.toNat ≤ 80 → Tabs.rising none s.m.gnss.shortAt = true → Tabs.look t.gnss.shortAt a = none)) ∧
    (s.m.b (antBias a) = false → exec (.antennaOpen a ma) s = .next s ∧ exec (.antennaShort a ma) s = .next s ∧
      exec (.antennaNormal a ma) s = .next s ∧ exec (.antennaBiasRetry a ma) s = .next s)) ∧
  (∀ (sig : Fin 16) (svid : BitVec 8) (path : Fin 6) (k : BitVec 8) (elev : Option Int) (alm : Fin 3) (s : State),
    let x : GCand := ⟨sig, svid.toNat, path, k.toInt, elev, alm⟩
    s.m.takes .gnss = true → signalOk sig svid.toNat = true → sigBand sig = path.val % 3 →
    (s.m.r GNSS_SIG_EN_EN).testBit sig = true → s.m.b (antShort (path.val / 3)) = false →
    s.m.pinned sig svid.toNat path = true ∨ s.m.b GNSS_CTRL_AUTO = true ∧
      (∃ e, elev = some e ∧ ((1000 * s.m.r GNSS_ELEV_CFG_MASK_DEG : Nat) : Int) < e) →
    (s.m.chOf sig svid.toNat path = none → s.m.gnss.waiting = [] →
      (∀ c, s.m.chIdle = some c → ∃ t : Mach,
        exec (.channelAssign sig svid path k elev alm) s = .next (s.having { s.m with gnss := t.gnss, regs := t.regs }) ∧
        t.chState c = 1 ∧ t.chSig c = sig ∧ t.chSvid c = svid.toNat ∧ t.chPath c = path ∧ t.gnss.waiting = [] ∧
        (t.gchan c).outAt = some s.m.now ∧ (t.gchan c).hand = false ∧
        (s.m.gnss.fwLate = [] → s.m.gnss.fwQ.length < 64 → ∃ q : AcqReq, t.gnss.fwQ = s.m.gnss.fwQ ++ [q] ∧ q.d = none ∧
          q.sig = sig ∧ q.svid = svid.toNat ∧ q.path = path ∧ q.handover = true) ∧
        (∀ j < 456, j ≠ c → t.chState j = s.m.chState j ∧ t.chSig j = s.m.chSig j)) ∧
      (s.m.chIdle = none → exec (.channelAssign sig svid path k elev alm) s =
        .next (s.having { s.m with gnss := { s.m.gnss with waiting := [x] } }))) ∧
    ((s.m.chOf sig svid.toNat path).isSome = true → s.m.gnss.waiting = [] → exec (.channelAssign sig svid path k elev alm) s = .next s)) ∧
  (∀ (c : Fin 456) (elev : Option Int) (s : State), s.m.chActive c = true →
    let due := s.m.belowMask elev = true ∨ ∃ u, (s.m.gchan c).outAt = some u ∧ u + 10000 ≤ s.m.now
    let free := s.m.pinned (s.m.chSig c) (s.m.chSvid c) (s.m.chPath c) = false
    (free → due → exec (.channelRelease c elev) s = .next (s.having ((s.m.chFree c 0).giveAll))) ∧
    (¬ (free ∧ due) → exec (.channelRelease c elev) s = .next s)) ∧
  (∀ (m : Mach) (c : Fin 456),
    (m.gnss.waiting = [] → (m.chFree c 0).giveAll = m.chFree c 0) ∧ (m.chFree c 0).chState c = 0 ∧
    (m.chFree c 0).gchan c = {} ∧ (∀ j < 456, j ≠ c.val → (m.chFree c 0).chState j = m.chState j)) ∧
  (∀ (a : Fin 16) (c : Fin 456) (v : BitVec 32) (s : State),
    (s.m.hears a = true →
      (∃ t : Mach, exec (.channelTapWrite a c false v) s = .next (s.having { s.m with regs := t.regs }) ∧
        t.r GNSS_CH_CFG_SPACING c = max 4 (min 64 (bits v.toNat 0 7)) ∧
        t.r GNSS_CH_CFG_VSPACING c = vspacingOf (bits v.toNat 8 8) (max 4 (min 64 (bits v.toNat 0 7))) ∧
        regsKept [GNSS_CH_CFG_SPACING.off c 0] s.m t) ∧
      (∃ t : Mach, exec (.channelTapWrite a c true v) s = .next (s.having { s.m with regs := t.regs }) ∧
        t.r GNSS_CH_MP_M0 c = monOf (bits v.toNat 0 9) ∧ t.r GNSS_CH_MP_M1 c = monOf (bits v.toNat 16 9) ∧
        regsKept [GNSS_CH_MP_M0.off c 0] s.m t)) ∧
    (s.m.hears a = false → ∀ mp, exec (.channelTapWrite a c mp v) s = .next s)) ∧
  (∀ (c : Fin 456) (cn0 : BitVec 8) (s : State),
    (s.m.chState c = 1 → ∃ t : Mach, exec (.pullInLock c cn0) s = .next (s.having { s.m with gnss := t.gnss, regs := t.regs }) ∧
      t.chState c = 2 ∧ t.r GNSS_CH_STATUS_CN0 c = cn0.toNat ∧
      t.gchan c = { s.m.gchan c with lockAt := some s.m.now, outAt := none, lowAt := none } ∧
      (∀ j < 456, j ≠ c.val → t.chState j = s.m.chState j)) ∧
    (s.m.chState c ≠ 1 → exec (.pullInLock c cn0) s = .next s)) ∧
  (∀ (c : Fin 456) (cn0 : BitVec 8) (alm : Fin 3) (s : State),
    (∀ u, s.m.chState c = 2 → cn0.toNat < s.m.r GNSS_TRK_CFG_DROP_CN0 → (s.m.gchan c).lowAt = some u → u + 1000 ≤ s.m.now →
      let q := s.m.fwRequest c alm
      ∃ t : Mach, exec (.lossOfLock c cn0 alm) s = .next (s.having { s.m with gnss := t.gnss, regs := t.regs }) ∧ t.chState c = 1 ∧
        t.gchan c = { s.m.gchan c with lockAt := none, outAt := some s.m.now, lowAt := none, slip := true } ∧
        (s.m.gnss.fwQ.length < 64 → s.m.gnss.fwLate = [] → t.gnss.fwQ = s.m.gnss.fwQ ++ [q]) ∧
        (64 ≤ s.m.gnss.fwQ.length → t.gnss.fwQ = s.m.gnss.fwQ ∧ t.gnss.fwLate = s.m.gnss.fwLate ++ [q])) ∧
    (s.m.chState c ≠ 2 ∨ s.m.r GNSS_TRK_CFG_DROP_CN0 ≤ cn0.toNat ∨ (s.m.gchan c).lowAt = none →
      exec (.lossOfLock c cn0 alm) s = .next s))

/-- Searches are queued, started on free engines, counted by dwells and found or not; pins are set and removed.
The model's choices in it are those of log entries 51, 64. -/
def Obligations.SearchesRunOnEngines : Prop :=
  (∀ (d : Desc) (s : State), s.m.starts 0x0402 d →
    let e := d.as 0x0402
    let q := s.m.acqOf e
    (q.bad = true → exec (.acqSearch d) s = .next (s.having (s.m.complete e stRANGE))) ∧
    (q.bad = false → s.m.takes .gnss = true →
      (64 ≤ s.m.gnss.hostQ.length → exec (.acqSearch d) s = .next (s.having (s.m.complete e stQUEUE_FULL))) ∧
      (s.m.gnss.hostQ.length < 64 → (s.m.r GNSS_SIG_EN_EN).testBit q.sig = false →
        exec (.acqSearch d) s = .next (s.having (s.m.complete e 0x10))) ∧
      (s.m.gnss.hostQ.length < 64 → (s.m.r GNSS_SIG_EN_EN).testBit q.sig = true → exec (.acqSearch d) s = .next (s.having
        { s.m with gnss := { s.m.gnss with hostQ := s.m.gnss.hostQ ++ [q] } })))) ∧
  (∀ (e : Fin 16) (s : State),
    (Tabs.look s.m.gnss.engines e = none → s.m.takes .gnss = true → s.m.gnss.engLost.contains e.val = false →
      s.m.r INTC_BLK_FAULT_STATE 1 ≠ 3 →
      (∀ q rest, s.m.gnss.hostQ = q :: rest → ∃ t : Mach, exec (.acqSearchStart e) s = .next (s.having { s.m with gnss := t.gnss }) ∧
        t.gnss.hostQ = rest ∧ t.gnss.fwQ = s.m.gnss.fwQ ∧
        Tabs.look t.gnss.engines e = some { req := q, start := s.m.now, left := q.dwells } ∧
        (∀ k, k ≠ e.val → Tabs.look t.gnss.engines k = Tabs.look s.m.gnss.engines k)) ∧
      (∀ q rest, s.m.gnss.hostQ = [] → s.m.gnss.fwQ = q :: rest →
        ∃ t : Mach, exec (.acqSearchStart e) s = .next (s.having { s.m with gnss := t.gnss }) ∧
          t.gnss.fwQ = rest ++ s.m.gnss.fwLate.take (64 - rest.length) ∧
          Tabs.look t.gnss.engines e = some { req := q, start := s.m.now, left := q.dwells }) ∧
      (s.m.gnss.hostQ = [] → s.m.gnss.fwQ = [] → exec (.acqSearchStart e) s = .next s)) ∧
    ((Tabs.look s.m.gnss.engines e).isSome = true → exec (.acqSearchStart e) s = .next s)) ∧
  (∀ (e : Fin 16) (metric : BitVec 16) (cell : Fin 64) (dc : BitVec 10) (dd : BitVec 8) (s : State),
    ((∀ r, Tabs.look s.m.gnss.engines e = some r → s.m.now < r.start + r.req.dwell) →
      exec (.acqDwellComplete e metric cell dc dd) s = .next s) ∧
    (∀ r, Tabs.look s.m.gnss.engines e = some r → r.start + r.req.dwell ≤ s.m.now →
      let n := min (64 * (r.req.dwells - r.left) + cell) (r.req.cells * r.req.bins - 1)
      let at_ := r.req.cellAt (r.confirm.getD n)
      let code := (((at_.1 : Int) + dc.toInt) % (max 1 (sigLen r.req.sig * 1024) : Nat)).toNat
      let dop := unsgn 32 (at_.2 + 10 * dd.toInt)
      let q := { r with used := r.used + 1, best := if r.best.1 ≤ metric.toNat then (metric.toNat, code, dop) else r.best,
                        start := r.start + r.req.dwell }
      let thr := s.m.r GNSS_ACQ_CFG_THRESH
      (∀ d, s.m.takes .gnss = false → r.req.d = some d →
        exec (.acqDwellComplete e metric cell dc dd) s = .next (s.having ((s.m.freeEngine e).complete d stFLUSHED))) ∧
      (s.m.takes .gnss = true →
      (r.confirm = none → thr ≤ metric.toNat → exec (.acqDwellComplete e metric cell dc dd) s =
        .next (s.having (s.m.setEngine e { q with left := r.left - 1, confirm := some n }))) ∧
      (r.confirm.isSome = true → thr ≤ metric.toNat → exec (.acqDwellComplete e metric cell dc dd) s =
        .next (s.having (s.m.acqFound e q metric.toNat code dop))) ∧
      (r.confirm = none → metric.toNat < thr → 1 < r.left → exec (.acqDwellComplete e metric cell dc dd) s =
        .next (s.having (s.m.setEngine e { q with left := r.left - 1 }))) ∧
      (∀ d, metric.toNat < thr → r.confirm = none ∧ r.left ≤ 1 ∨ r.confirm.isSome = true ∧ r.left = 0 → r.req.d = some d →
        exec (.acqDwellComplete e metric cell dc dd) s = .next (s.having (((s.m.freeEngine e).inc GNSS_ACQ_NOT_FOUND_ALL).complete d
          0x12 (acqRes 0xFFFF q.best.2.1 q.best.2.2 q.best.1 q.used)))) ∧
      (r.confirm.isSome = true → metric.toNat < thr → 0 < r.left → exec (.acqDwellComplete e metric cell dc dd) s =
        .next (s.having (s.m.setEngine e { q with confirm := none })))))) ∧
  (∀ (m : Mach) (e metric code dop : Nat) (r : AcqRun) (d : Desc), r.req.d = some d →
    let f := (m.freeEngine e).inc GNSS_ACQ_FOUND_ALL
    let at_ := fun (x : GChan) => { x with code := code, dopp := 1000 * sgn 32 dop, hand := true }
    (r.req.handover = false → m.acqFound e r metric code dop = f.complete d stOK (acqRes 0xFFFF code dop metric r.used)) ∧
    (r.req.handover = true →
      (∀ c, m.chOf r.req.sig r.req.svid r.req.path = some c → m.acqFound e r metric code dop =
        (f.setGchan c (at_ (m.gchan c))).complete d stOK (acqRes c code dop metric r.used)) ∧
      (m.chOf r.req.sig r.req.svid r.req.path = none →
        (∀ c, m.b (antShort (r.req.path / 3)) = false → m.chIdle = some c → m.acqFound e r metric code dop =
          (f.chTake c r.req.sig r.req.svid r.req.path 1 (at_ { gloK := r.req.gloK, outAt := some m.now })).complete d stOK
            (acqRes c code dop metric r.used)) ∧
        (m.b (antShort (r.req.path / 3)) = true ∨ m.chIdle = none → m.acqFound e r metric code dop =
          f.complete d 0x13 (acqRes 0xFFFF code dop metric r.used))))) ∧
  (∀ (d : Desc) (s : State), s.m.takes .gnss = true →
    let sig := Descs.fld d 16 1
    let svid := Descs.fld d 17 1
    let mask := Descs.fld d 18 1
    let kept := s.m.gnss.pins.filter (fun p => !(p.sig == sig && p.svid == svid))
    signalOk sig svid = true → (s.m.r GNSS_SIG_EN_EN).testBit sig = true →
    (s.m.starts 0x0403 d → mask < 64 → s.m.gnss.pins.length < 64 →
      let t := ({ s.m with gnss := { s.m.gnss with pins := kept ++ [⟨sig, svid, mask⟩] } } : Mach)
      (s.m.b GNSS_CTRL_AUTO = true → exec (.trackPin d) s =
        .next (s.having (t.complete (d.as 0x0403) stOK (le 1 (kept.length + 1))))) ∧
      (s.m.b GNSS_CTRL_AUTO = false → exec (.trackPin d) s =
        .next (s.having (t.autoOff.complete (d.as 0x0403) stOK (le 1 (kept.length + 1)))))) ∧
    (s.m.starts 0x0403 d → mask < 64 → 64 ≤ s.m.gnss.pins.length →
      exec (.trackPin d) s = .next (s.having (s.m.complete (d.as 0x0403) 0x11))) ∧
    (s.m.starts 0x0404 d →
      let t := ({ s.m with gnss := { s.m.gnss with pins := kept } } : Mach)
      (s.m.b GNSS_CTRL_AUTO = true → exec (.trackUnpin d) s =
        .next (s.having (t.complete (d.as 0x0404) stOK (le 1 kept.length)))) ∧
      (s.m.b GNSS_CTRL_AUTO = false → exec (.trackUnpin d) s =
        .next (s.having (t.autoOff.complete (d.as 0x0404) stOK (le 1 kept.length))))))

/-- Measurement epochs make records for waiting reads; navigation records queue for NAV_READ.
The model's choices in it are those of log entries 51, 64. -/
def Obligations.EpochsAndRecordsReachTheHost : Prop :=
  (∀ (d : Desc) (s : State), s.m.starts 0x0400 d →
    (Descs.buf d = false ∨ Descs.len d < 32 → exec (.measRead d) s = .next (s.having (s.m.complete (d.as 0x0400) stRANGE))) ∧
    (Descs.buf d = true → 32 ≤ Descs.len d → s.m.takes .gnss = true → exec (.measRead d) s = .next (s.having
      { s.m with gnss := { s.m.gnss with measReads := s.m.gnss.measReads ++ [d.as 0x0400] } }))) ∧
  (∀ (d : Desc) (s : State), s.m.starts 0x0401 d →
    (Descs.buf d = false ∨ Descs.len d < 64 → exec (.navRead d) s = .next (s.having (s.m.complete (d.as 0x0401) stRANGE))) ∧
    (Descs.buf d = true → 64 ≤ Descs.len d → s.m.takes .gnss = true →
      (s.m.gnss.navQ = [] → exec (.navRead d) s = .next (s.having
        { s.m with gnss := { s.m.gnss with navReads := s.m.gnss.navReads ++ [d.as 0x0401] } })) ∧
      (s.m.gnss.navQ ≠ [] → exec (.navRead d) s = .next (s.having (s.m.navServe (d.as 0x0401)))))) ∧
  (∀ (m : Mach) (d : Desc), m.memWf = true →
    let q := m.gnss.navQ
    let n := min q.length (Descs.len d / 64)
    ∃ t : Mach, m.navServe d = t.complete d stOK (le 2 n ++ le 2 (q.length - n) ++ le 4 m.gnss.navDropped) ∧
      t.gnss = { m.gnss with navQ := q.drop n, navDropped := 0 } ∧ t.regs = m.regs ∧
      (m.canWrite = true → t.hostRd (Descs.addr d) (q.take n).flatten.length = (q.take n).flatten) ∧
      (m.canWrite = false → t.hostMem = m.hostMem) ∧
      (∀ a, a < Descs.addr d ∨ Descs.addr d + (q.take n).flatten.length ≤ a → t.hostByte a = m.hostByte a)) ∧
  (∀ (u : NavUnit) (s : State),
    let c := u.chan.val
    let typ := navType (s.m.chSig c) u.d2
    let own := navResolve typ u.raw
    let mask := own.2
    let nbits := navNbits typ u.raw.syms.length
    let low := (List.range 456).any (fun k => s.m.partner c k && decide (s.m.chPath k < s.m.chPath c))
    let room := s.m.gnss.navQ.length < 1024
    let upd := fun t : Mach => exec (.navUnitDecoded u) s = .next (s.having { s.m with gnss := t.gnss, regs := t.regs })
    (s.m.takes .gnss = true → s.m.chState c = 2 → 0 < nbits →
      (u.other = none → ∃ t : Mach, upd t ∧
        t.r GNSS_NAV_FAILED_ALL = min (s.m.r GNSS_NAV_FAILED_ALL + (if mask.testBit 31 then 0 else 1)) 0xFFFFFFFF ∧
        (low = true → t.gnss = s.m.gnss) ∧
        (low = false → ¬ room → t.gnss = { s.m.gnss with navDropped := s.m.gnss.navDropped + 1 } ∧
          t.r GNSS_NAV_DROPPED_ALL = min (s.m.r GNSS_NAV_DROPPED_ALL + 1) 0xFFFFFFFF)) ∧
      (u.other = none → low = false → room → s.m.gnss.navReads = [] → ∃ t : Mach, upd t ∧
        t.gnss = { s.m.gnss with navQ := s.m.gnss.navQ ++ [s.m.navRecord u c mask own.1] }) ∧
      (∀ k r, u.other = some (k, r) → s.m.partner c k = true → room → s.m.gnss.navReads = [] →
        let sec := navResolve typ r
        let mo := sec.2
        let first := if s.m.chPath c ≤ s.m.chPath k then mask.testBit 31 || !mo.testBit 31 else mask.testBit 31 && !mo.testBit 31
        ∃ t : Mach, upd t ∧ t.gnss = { s.m.gnss with navQ := s.m.gnss.navQ ++
          [if first then s.m.navRecord u c mask own.1 else s.m.navRecord u k mo sec.1] })) ∧
    (s.m.takes .gnss = false ∨ s.m.chState c ≠ 2 ∨ nbits = 0 → exec (.navUnitDecoded u) s = .next s)) ∧
  (∀ (l : List EpochIn) (s : State),
    (s.m.epochNow = false → exec (.measurementEpoch l) s = .next s) ∧
    (s.m.takes .gnss = true → s.m.epochNow = true → s.m.r INTC_BLK_FAULT_STATE 2 ≠ 3 →
      (∀ r u, s.m.gnss.last = some (r, u) → u ≠ s.m.now) →
      ∃ (t : Mach) (r : EpochRec), exec (.measurementEpoch l) s = .next (s.having t) ∧ t.gnss.last = some (r, s.m.now) ∧
        r.pt = s.m.pt ∧ r.sec = s.m.time.sec ∧ r.rate = s.m.r GNSS_EPOCH_CFG_RATE_HZ ∧
        (∀ e ∈ r.ents, ∃ i ∈ l, e.chan = i.chan.val ∧ s.m.chActive i.chan = true ∧
          e.pr = unsgn 48 (s.m.prOf i.txTime) ∧ e.cp = i.cp.toInt) ∧
        t.gnss.measReads = s.m.gnss.measReads.drop 1 ∧
        (s.m.gnss.measReads = [] → t.r GNSS_MEAS_MISSED_ALL = min (s.m.r GNSS_MEAS_MISSED_ALL + 1) 0xFFFFFFFF) ∧
        t.kiln = s.m.kiln ∧ t.air = s.m.air))

/-- The base position and its survey, the messages built at epochs, the compact IE, and their descriptors.
The model's choices in it are those of log entries 52, 53. -/
def Obligations.CorrectionsAreBuiltAndRead : Prop :=
  (∀ (d : Desc) (s : State), s.m.starts 0x0410 d → s.m.takes .corr = true → s.m.isActive = true →
    let e := d.as 0x0410
    let b : BasePos := ⟨sgn 64 (Descs.fld d 16 8), sgn 64 (Descs.fld d 24 8), sgn 64 (Descs.fld d 32 8), Descs.fld d 40 2, 1⟩
    (posBad b = true → exec (.setBasePos d) s = .next (s.having (s.m.complete e stRANGE))) ∧
    (posBad b = false → s.m.corr.survey = none →
      (s.m.posOk = true → exec (.setBasePos d) s = .next (s.having
        (({ s.m with corr := { s.m.corr with newPos := some b } } : Mach).complete e stOK
          (le 4 ((s.m.msInt / s.m.msmPeriod + 1) * s.m.msmPeriod % (2 ^ 32 : Nat)).toNat)))) ∧
      (s.m.posOk = false → ∃ t : Mach, exec (.setBasePos d) s = .next (s.having (t.complete e stOK (le 4 0))) ∧
        t.nv.set.base = b ∧ t.r CORR_STATUS_POS_STATE = 1 ∧ t.corr = s.m.corr ∧ t.kiln = s.m.kiln))) ∧
  (∀ (d : Desc) (s : State), s.m.starts 0x0411 d → s.m.takes .corr = true → s.m.isActive = true →
    let dur := Descs.fld d 16 4
    (dur < 600 ∨ 86400 < dur → exec (.survey d) s = .next (s.having (s.m.complete (d.as 0x0411) stRANGE))) ∧
    (600 ≤ dur → dur ≤ 86400 → s.m.corr.survey.isSome = true →
      exec (.survey d) s = .next (s.having (s.m.complete (d.as 0x0411) 0x14))) ∧
    (600 ≤ dur → dur ≤ 86400 → s.m.corr.survey = none → ∃ t : Mach, exec (.survey d) s = .next (s.having t) ∧
      t.corr = { s.m.corr with survey := some { d := d.as 0x0411, start := s.m.now, dur := dur }, newPos := none } ∧
      t.nv.set.base = { s.m.nv.set.base with state := 2 } ∧ t.r CORR_STATUS_POS_STATE = 2 ∧ t.b CORR_STATUS_VALID = false ∧
      t.hostMem = s.m.hostMem)) ∧
  (∀ (fix : Option (Int × Int × Int)) (sats : Nat) (s : State),
    (s.m.corr.survey = none → exec (.surveyFix fix sats) s = .next s) ∧
    (∀ r, s.m.corr.survey = some r → (∀ u, r.lastAt = some u → u + 1000 ≤ s.m.now) →
      ∃ t : Mach, exec (.surveyFix fix sats) s = .next (s.having { s.m with corr := t.corr, regs := t.regs }) ∧
        (∀ x y z, fix = some (x, y, z) → 6 ≤ sats → s.m.b GNSS_DA_STATUS_SPOOF = false → t.corr.survey = some
          { r with seen := r.seen + 1, lastAt := some s.m.now, used := r.used + 1, fixes := (x, y, z) :: r.fixes, sx := r.sx + x, sy := r.sy + y, sz := r.sz + z }) ∧
        (fix = none ∨ sats < 6 ∨ s.m.b GNSS_DA_STATUS_SPOOF = true →
          t.corr.survey = some { r with seen := r.seen + 1, lastAt := some s.m.now }))) ∧
  (∀ (s : State) (r : SurveyRun), s.m.corr.survey = some r →
    (s.m.now < r.start + 1000 * r.dur → exec .surveyEnd s = .next s) ∧
    (r.start + 1000 * r.dur ≤ s.m.now → 2 * r.used < r.dur → exec .surveyEnd s =
      .next (s.having (s.m.surveyDone r 0x15 { s.m.nv.set.base with state := 0 }))) ∧
    (r.start + 1000 * r.dur ≤ s.m.now → r.dur ≤ 2 * r.used → ∃ t : Mach, exec .surveyEnd s = .next (s.having t) ∧
      t.nv.set.base = { s.m.nv.set.base with x := meanMm r.sx r.used, y := meanMm r.sy r.used, z := meanMm r.sz r.used, state := 3 } ∧
      t.corr.survey = none ∧ t.r CORR_STATUS_POS_STATE = 3)) ∧
  (∀ (d : Desc) (s : State), s.m.starts 0x0412 d →
    (Descs.buf d = false ∨ Descs.len d < 64 → exec (.rtcmRead d) s = .next (s.having (s.m.complete (d.as 0x0412) stRANGE))) ∧
    (Descs.buf d = true → 64 ≤ Descs.len d → s.m.takes .corr = true → exec (.rtcmRead d) s = .next (s.having
      { s.m with corr := { s.m.corr with reads := s.m.corr.reads ++ [d.as 0x0412] } }))) ∧
  (∀ (d : Desc) (s : State) (l : List (List Byte)) (rest : List Byte), s.m.starts 0x0413 d → s.m.takes .corr = true →
    s.m.isActive = true → Descs.buf d = true → parseStrings 5 (s.m.bufRd (d.as 0x0413)) = some (l, rest) → rest ≠ [] →
    exec (.setDescriptors d) s = .next (s.having (({ s.m with nv := { s.m.nv with set :=
      { s.m.nv.set with descs := l, setup := leAt rest 0 1 } } } : Mach).complete (d.as 0x0413) stOK (le 1 0)))) ∧
  (∀ s : State, s.m.corrBuilds = none →
    exec .msmBuild s = .next s ∧ exec .stationMessageBuild s = .next s) ∧
  (∀ s : State, (s.m.lastRecord = none → exec .compactIeBuild s = .next s) ∧
    (∀ r, s.m.lastRecord = some r → s.m.corrMay = false → s.m.corr.ieAt ≠ some s.m.now →
      ∃ t : Mach, exec .compactIeBuild s = .next (s.having t) ∧ t.corr.lastIe = false ∧ t.corr.ie = s.m.corr.ie ∧
        t.b CORR_STATUS_VALID = false)) ∧
  (∀ (m : Mach) (b : BasePos), m.corr.newPos = some b →
    m.corrEpoch.nv.set.base = b ∧ m.corrEpoch.corr.newPos = none ∧ m.corrEpoch.corr.force1005 = true) ∧
  (∀ (s : State) (r : EpochRec), s.m.corrBuilds = some r →
    (s.m.isMsm r = false → exec .msmBuild s = .next s) ∧
    (s.m.isMsm r = true → s.m.corr.msmAt ≠ some s.m.now → s.m.b GNSS_DA_STATUS_SPOOF = false →
      ∃ (t : Mach) (e : MsmEpoch) (ies : List Nat), exec .msmBuild s = .next (s.having t) ∧
        t.corr.msmCount = s.m.corr.msmCount + 1 ∧ t.corr.cand = some (e, ies) ∧ e.pt = r.pt ∧ e.ant = s.m.corr.refAnt ∧
        e.iods = (s.m.corr.msmCount + 1) % 8 ∧ t.corr.msmAt = some s.m.now ∧ t.kiln = s.m.kiln) ∧
    (s.m.isMsm r = true → s.m.corr.msmAt ≠ some s.m.now → s.m.b GNSS_DA_STATUS_SPOOF = true → s.m.corr.force1005 = false →
      exec .msmBuild s = .next (s.having { s.m with corr := { s.m.corr with msmAt := some s.m.now } })) ∧
    (s.m.isMsm r = false → s.m.stationDue = true → ∃ t : Mach, exec .stationMessageBuild s = .next (s.having t) ∧
      t.corr.stationAt = some s.m.now ∧ t.corr.msmCount = s.m.corr.msmCount ∧ t.corr.held = none ∧ t.kiln = s.m.kiln) ∧
    (s.m.isMsm r = true ∨ s.m.stationDue = false → exec .stationMessageBuild s = .next s) ∧
    (s.m.corr.ieAt ≠ some s.m.now → s.m.b GNSS_DA_STATUS_SPOOF = false → s.m.corr.cand = none →
      (∀ e u, s.m.corr.ref = some (e, u) → s.m.now ≤ u + 2500 → e.cells.length ≤ 131 →
        ∃ t : Mach, exec .compactIeBuild s = .next (s.having t) ∧ t.corr.lastIe = true ∧
          t.corr.ie = some ⟨s.m.compactContent r e 0 e.cells.length, r.pt, s.m.now + 1⟩) ∧
      (s.m.corr.ref = none → ∃ t : Mach, exec .compactIeBuild s = .next (s.having t) ∧ t.corr.lastIe = false ∧
        t.r CORR_SKIPPED_ALL = min (s.m.r CORR_SKIPPED_ALL + 1) 0xFFFFFFFF ∧ t.corr.ie = s.m.corr.ie))) ∧
  (∀ s : State, (s.m.corr.ie = none → exec .compactIeEnqueue s = .next s) ∧
    (∀ c, s.m.corr.ie = some c → s.m.now < c.tick → exec .compactIeEnqueue s = .next s) ∧
    (∀ c, s.m.corr.ie = some c → c.tick ≤ s.m.now → s.m.isActive = true → s.m.air.corr = none →
      exec .compactIeEnqueue s = .next (s.having { s.m with corr := { s.m.corr with ie := none },
                                                            air := { s.m.air with corr := some { c with tick := s.m.now }, corrSent := [] } }))) ∧
  (∀ s : State, (s.m.air.corr = none → exec .compactIeDeadline s = .next s) ∧
    (∀ c, s.m.air.corr = some c → diff32 s.m.pt c.epoch < 18 → exec .compactIeDeadline s = .next s) ∧
    (∀ c, s.m.air.corr = some c → 18 ≤ diff32 s.m.pt c.epoch → ∃ t : Mach, exec .compactIeDeadline s = .next (s.having t) ∧
      t.air = { s.m.air with corr := none, corrSent := [] } ∧
      t.r CORR_IE_DISCARD_ALL = min (s.m.r CORR_IE_DISCARD_ALL +
        (s.m.openLanes.filter (fun x => !s.m.air.corrSent.contains x && !s.m.corrFlying x c.epoch)).length) 0xFFFFFFFF))

/-- The second's measurement, the host's free step and time of day, ADDEND, and the loss of EXTERNAL.
The model's choices in it are those of log entries 42, 43, 44. -/
def Obligations.TimeIsMeasuredSteppedAndKept : Prop :=
  (∀ (i : TimeMeas) (s : State),
    (∀ u, s.m.time.measAt = some u → s.m.now < u + 1000 → exec (.timeMeasurement i) s = .next s) ∧
    ((∀ u, s.m.time.measAt = some u → u + 1000 ≤ s.m.now) →
      ∃ t : Mach, exec (.timeMeasurement i) s = .next (s.having t) ∧ t.time.measAt = some s.m.now ∧
        t.time.gnssRun = (if s.m.gnssOk i then min (s.m.time.gnssRun + 1) 11 else 0) ∧
        (s.m.stepped = true → t.time.gnssOff = (if s.m.gnssOk i then i.gnss else s.m.time.gnssOff)) ∧
        (∀ o leap, i.utc = some (o, leap) → s.m.stepped = true → (∀ e, leap = some e → s.m.time.sec < e.2) →
          let soon := fun ins : Bool => leap.any (fun e => e.1 == ins && decide (e.2 ≤ s.m.time.sec + 43200))
          t.r TIME_UTC_OFFSET = o.toNat % 2 ^ TIME_UTC_OFFSET.width ∧ t.b TIME_UTC_UTC_VALID = true ∧
          t.b TIME_UTC_LEAP61 = soon true ∧ t.b TIME_UTC_LEAP59 = soon false) ∧
        t.kiln = s.m.kiln ∧ t.dam = s.m.dam ∧ t.mot = s.m.mot)) ∧
  (∀ (m : Mach) (i : TimeMeas),
    (m.b TIME_CTRL_MANUAL = false → (m.steer i).time.addendNext = some (clampAddend (m.time.frozen.getD i.freq +
      clampInt (m.r TIME_SLEW_CFG_RATE_PPM * 17179869184 / 1000000 : Nat) i.slew)) ∧
      (∀ v, (m.steer i).time.addendNext = some v → -1717986 ≤ v ∧ v ≤ 1717986)) ∧
    (m.b TIME_CTRL_MANUAL = true → (m.steer i).time.addendNext = m.time.addendNext) ∧
    m.timeLost.time.used = 0 ∧ m.timeLost.timeState = sHOLDOVER ∧ m.timeLost.time.frozen = some (freqMean m.time.freqHist)) ∧
  (∀ (a : Fin 16) (v : BitVec 32) (s : State),
    (s.m.hears a = true → s.m.b TIME_CTRL_MANUAL = true → exec (.timeAddendWrite a v) s = .next (s.having
      { s.m with time := { s.m.time with addendNext := some (clampAddend v.toInt) } })) ∧
    (s.m.hears a = false ∨ s.m.b TIME_CTRL_MANUAL = false → exec (.timeAddendWrite a v) s = .next s)) ∧
  (∀ (a : Fin 16) (s : State), s.m.hears a = true → ∃ t : Mach, exec (.timeNowRead a) s = .next (s.having { s.m with hif := t.hif, out := t.out }) ∧
    t.out = s.m.out ++ [.read a 0x100008 (BitVec.ofNat 32 s.m.time.ns)] ∧
    Tabs.look t.hif.wide (16 * 0x10000C + a) = some (BitVec.ofNat 32 s.m.time.sec) ∧
    Tabs.look t.hif.wide (16 * 0x100010 + a) = some (BitVec.ofNat 32 (s.m.time.sec / 2 ^ 32)) ∧
    t.hif.rings = s.m.hif.rings ∧ t.hif.erings = s.m.hif.erings) ∧
  (∀ (d : Desc) (s : State), s.m.starts 0x0500 d →
    let e := d.as 0x0500
    let sec := Descs.fld d 16 6
    let ns := Descs.fld d 22 4
    (sec < originSec ∨ 1000000000 ≤ ns → exec (.setFreeTime d) s = .next (s.having (s.m.complete e stRANGE))) ∧
    (originSec ≤ sec → ns < 1000000000 →
      (s.m.isActive = false → exec (.setFreeTime d) s = .next (s.having (s.m.complete e stNOT_ACTIVE_ROLE))) ∧
      (s.m.isActive = true → s.m.stepped = true →
        exec (.setFreeTime d) s = .next (s.having ((s.m.inc TIME_STEP_REFUSED_ALL).complete e 0x10))) ∧
      (s.m.isActive = true → s.m.stepped = false → s.m.b TIME_SRC_CFG_FREE_EN = false →
        exec (.setFreeTime d) s = .next (s.having (s.m.complete e 0x11))) ∧
      (s.m.isActive = true → s.m.stepped = false → s.m.b TIME_SRC_CFG_FREE_EN = true →
        ∃ t : Mach, exec (.setFreeTime d) s = .next (s.having (t.complete e stOK (le 6 sec ++ le 4 ns ++ le 1 t.timeStatus))) ∧
          t.stepped = true ∧ t.time.sec = sec ∧ t.time.ns = ns ∧ t.time.frac = 0 ∧ t.timeState = sFREE ∧ t.time.used = 0 ∧
          t.time.stepTick = some s.m.now ∧ t.r TIME_UNCERT_ALL = 0xFFFFFFFF ∧ t.kiln = s.m.kiln))) ∧
  (∀ (d : Desc) (s : State), s.m.starts 0x0501 d → originSec ≤ Descs.fld d 16 6 → s.m.isActive = true →
    (s.m.b TIME_SRC_CFG_EXT_EN = false → exec (.setExtTod d) s = .next (s.having (s.m.complete (d.as 0x0501) 0x11))) ∧
    (s.m.b TIME_SRC_CFG_EXT_EN = true → s.m.time.extTod.isSome = true →
      exec (.setExtTod d) s = .next (s.having (s.m.complete (d.as 0x0501) stBUSY))) ∧
    (s.m.b TIME_SRC_CFG_EXT_EN = true → s.m.time.extTod = none → exec (.setExtTod d) s = .next (s.having
      { s.m with time := { s.m.time with extTod := some (d.as 0x0501, Descs.fld d 16 6) } }))) ∧
  (∀ s : State,
    (s.m.time.lastPps = none → exec .ppsInEdgeTimeout s = .next s) ∧
    (∀ u, s.m.time.lastPps = some u → s.m.totalNs < u + 1500000000 → exec .ppsInEdgeTimeout s = .next s) ∧
    (∀ u, s.m.time.lastPps = some u → u + 1500000000 ≤ s.m.totalNs →
      ∃ t : Mach, exec .ppsInEdgeTimeout s = .next (s.having t) ∧ t.time.lastPps = none ∧ t.time.extSec = none ∧
        t.time.ppsRun = 0 ∧ t.qual 2 = false ∧ t.qual 1 = s.m.qual 1 ∧ t.kiln = s.m.kiln))

/-- Captures with their FIFOs, compares with their targets and pulses.
The model's choices in it are those of log entries 42, 44. -/
def Obligations.EdgesAreCapturedAndTargetsMatched : Prop :=
  (∀ (k : Fin 16) (ns : Fin 1000000) (half falling : Bool) (s : State),
    (s.m.edgeOk k falling = false → exec (.captureInputEdge k ns half falling) s = .next s) ∧
    (s.m.edgeOk k falling = true → k ≠ 0 → s.m.b TIME_CAP_CFG_EN k = false →
      exec (.captureInputEdge k ns half falling) s = .next s) ∧
    (s.m.edgeOk k falling = true → k = 0 →
      let at_ := s.m.totalNs / 1000000 * 1000000 + ns
      (s.m.b TIME_CAP_CFG_EN 0 = true → s.m.takes .time = true → exec (.captureInputEdge k ns half falling) s =
        .next (s.having ((s.m.capStore 0 at_ half falling).ppsEdge at_))) ∧
      (s.m.b TIME_CAP_CFG_EN 0 = false ∨ s.m.takes .time = false →
        exec (.captureInputEdge k ns half falling) s = .next (s.having (s.m.ppsEdge at_)))) ∧
    (s.m.edgeOk k falling = true → k ≠ 0 → s.m.b TIME_CAP_CFG_EN k = true → s.m.takes .time = true →
      let at_ := s.m.totalNs / 1000000 * 1000000 + ns
      let f := s.m.fifo k
      (f.entries.length < 16 → s.m.time.capReads = [] →
        ∃ t : Mach, exec (.captureInputEdge k ns half falling) s = .next (s.having { s.m with time := t.time, regs := t.regs, sag := t.sag }) ∧
          (t.fifo k).entries = f.entries ++ [⟨k, b2n (!s.m.stepped) + 2 * b2n falling + 4 * b2n f.overflow + 8 * b2n half,
            at_ / 1000000000, at_ % 1000000000, s.m.time.capOrder⟩] ∧ (t.fifo k).overflow = false ∧
          (∀ j, j ≠ k.val → t.fifo j = s.m.fifo j) ∧ t.r TIME_CAP_STATUS_LEVEL k = f.entries.length + 1 ∧
          (t.streamQ 22).part = []) ∧
      (16 ≤ f.entries.length → ∃ t : Mach, exec (.captureInputEdge k ns half falling) s = .next (s.having t) ∧
        (t.fifo k).entries = f.entries ∧ (t.fifo k).overflow = true ∧ (∀ j, j ≠ k.val → t.fifo j = s.m.fifo j) ∧
        t.r TIME_CAP_STATUS_DROPS k = min (s.m.r TIME_CAP_STATUS_DROPS k + 1) (2 ^ TIME_CAP_STATUS_DROPS.width - 1)))) ∧
  (∀ (d : Desc) (s : State), s.m.starts 0x0504 d → Descs.buf d = true → 16 ≤ Descs.len d → s.m.takes .time = true →
    (s.m.capHeld (Descs.fld d 20 2) = [] → exec (.captureRead d) s = .next (s.having
      { s.m with time := { s.m.time with capReads := s.m.time.capReads ++ [d.as 0x0504] } })) ∧
    (s.m.capHeld (Descs.fld d 20 2) ≠ [] → exec (.captureRead d) s = .next (s.having (s.m.capServe (d.as 0x0504))))) ∧
  (∀ (d : Desc) (s : State), s.m.starts 0x0502 d →
    let e := d.as 0x0502
    let k := Descs.fld d 18 1
    let target := Descs.fld d 20 6 * 1000000000 + Descs.fld d 26 4
    let late := (s.m.totalNs : Int) - target
    let win := 1000000 * (s.m.r TIME_CMP_CFG_LATE_WIN k : Int)
    (15 < k → exec (.compareSet d) s = .next (s.having (s.m.complete e stRANGE))) ∧
    (k ≤ 15 → s.m.b TIME_CMP_CFG_MODE k = false → Descs.fld d 26 4 < 1000000000 → s.m.takes .time = true →
      (s.m.cmpPeriodic k = true ∨ (s.m.cmp k).armed.isSome = true →
        exec (.compareSet d) s = .next (s.having (s.m.complete e 0x12))) ∧
      (s.m.cmpPeriodic k = false → (s.m.cmp k).armed = none →
        (s.m.stepped = false ∨ late ≤ 0 →
          exec (.compareSet d) s = .next (s.having (s.m.setCmp k { s.m.cmp k with armed := some (e, target) }))) ∧
        (s.m.stepped = true → 0 < late → late ≤ win →
          exec (.compareSet d) s = .next (s.having (s.m.cmpFire k e s.m.totalNs stLATE))) ∧
        (s.m.stepped = true → 0 < late → win < late →
          exec (.compareSet d) s = .next (s.having ((s.m.setCmp k { s.m.cmp k with armed := none }).complete e stEXPIRED)))))) ∧
  (∀ (d : Desc) (s : State), s.m.starts 0x0503 d → Descs.fld d 18 1 ≤ 15 → s.m.takes .time = true →
    let k := Descs.fld d 18 1
    (∀ e u, (s.m.cmp k).armed = some (e, u) → exec (.compareCancel d) s = .next (s.having
      (((s.m.setCmp k { s.m.cmp k with armed := none }).complete e 0x13).complete (d.as 0x0503) stOK (le 1 0)))) ∧
    ((s.m.cmp k).armed = none → exec (.compareCancel d) s = .next (s.having (s.m.complete (d.as 0x0503) stOK (le 1 1))))) ∧
  (∀ (k : Fin 16) (s : State),
    ((s.m.cmp k).armed = none → exec (.compareMatch k) s = .next s) ∧
    (∀ e u, (s.m.cmp k).armed = some (e, u) →
      (s.m.stepped = true → u / 1000000 ≤ s.m.totalNs / 1000000 →
        exec (.compareMatch k) s = .next (s.having (s.m.cmpFire k e u stOK)) ∧
        (s.m.cmpFire k e u stOK).cmp k = { s.m.cmp k with armed := none, active := true, periodic := false,
                                                          endAt := u + 1000 * s.m.r TIME_CMP_WIDTH_WIDTH_US k }) ∧
      (s.m.stepped = false ∨ s.m.totalNs / 1000000 < u / 1000000 → exec (.compareMatch k) s = .next s))) ∧
  (∀ (k : Fin 16) (s : State),
    let ms := s.m.totalNs / 1000000
    let p := s.m.r TIME_CMP_PERIOD_PERIOD_MS k
    let w := 1000 * s.m.r TIME_CMP_WIDTH_WIDTH_US k
    let due := s.m.stepped = true ∧ s.m.takes .time = true ∧ s.m.cmpPeriodic k = true ∧ ms % p = 0 ∧ (s.m.cmp k).pulseMs ≠ some ms ∧
      (s.m.time.stepTick = some s.m.now → s.m.totalNs = ms * 1000000)
    (due → exec (.comparePeriodicPulse k) s = .next (s.having (s.m.setCmp k { s.m.cmp k with
        active := true, periodic := true, pulseMs := some ms,
        endAt := ms * 1000000 + (if 1000000 * p ≤ w then 500000 * p else w) }))) ∧
    (¬ due → exec (.comparePeriodicPulse k) s = .next s)) ∧
  (∀ (k : Fin 16) (s : State),
    ((s.m.cmp k).active = true → (s.m.cmp k).endAt / 1000000 ≤ s.m.totalNs / 1000000 →
      exec (.comparePulseEnd k) s = .next (s.having (s.m.setCmp k { s.m.cmp k with active := false }))) ∧
    ((s.m.cmp k).active = false → exec (.comparePulseEnd k) s = .next s)) ∧
  (∀ (m : Mach) (k : Nat),
    ((m.cmp k).active = true → m.cmpPeriodic k = (m.cmp k).periodic) ∧
    ((m.cmp k).active = false → (m.cmp k).armed.isSome = true → m.cmpPeriodic k = false) ∧
    ((m.cmp k).active = false → (m.cmp k).armed = none → m.cmpPeriodic k = m.b TIME_CMP_CFG_PERIODIC k)) ∧
  (∀ (m : Mach) (k : Fin 16) (c : CmpChan), (m.setCmp k c).cmp k = c ∧ (∀ j, j ≠ k.val → (m.setCmp k c).cmp j = m.cmp j) ∧
    (m.setCmp k c).b TIME_CMP_STATUS_ARMED k = c.armed.isSome)

/-- The grandmaster's messages, peer delay, foreign masters, and the switch's correction.
The model's choices in it are those of log entries 44, 45. -/
def Obligations.PtpMessagesAreSentAndForwarded : Prop :=
  (∀ s : State,
    let sent := fun p : PtpMsg => s.m.out ++ ((List.range 3).filter s.m.transports.testBit).map (fun t => .ptp (s.m.ptpVia t p) p)
    (s.m.ptpSending = true → s.m.ptpDue 0 (s.m.ri TIME_PTP_INTV_LOG_SYNC) = true →
      exec .ptpSyncSend s = .next (s.having { s.m with
        out := sent (.sync s.m.time.seqSync (2 * s.m.totalNs)),
        time := { s.m.time with seqSync := (s.m.time.seqSync + 1) % 2 ^ 16, ptpAt := Tabs.put s.m.time.ptpAt 0 s.m.now } })) ∧
    (s.m.ptpSending = true → s.m.ptpDue 1 (s.m.r TIME_PTP_INTV_LOG_ANN) = true →
      exec .ptpAnnounceSend s = .next (s.having { s.m with
        out := sent (.announce s.m.time.seqAnn (s.m.r TIME_PTP_CFG_PRIO1)
          (s.m.r TIME_PTP_CFG_PRIO2) 0x4E5D s.m.ptpRow.1 s.m.ptpRow.2.1 s.m.ptpRow.2.2 (s.m.ptpRow.1 == 6 || s.m.ptpRow.1 == 7)
          (s.m.r TIME_UTC_OFFSET) (s.m.b TIME_UTC_UTC_VALID) (s.m.b TIME_UTC_LEAP61) (s.m.b TIME_UTC_LEAP59) true),
        time := { s.m.time with seqAnn := (s.m.time.seqAnn + 1) % 2 ^ 16, ptpAt := Tabs.put s.m.time.ptpAt 1 s.m.now } })) ∧
    (s.m.ptpSending = false ∨ s.m.ptpDue 0 (s.m.ri TIME_PTP_INTV_LOG_SYNC) = false → exec .ptpSyncSend s = .next s) ∧
    (s.m.ptpSending = false ∨ s.m.ptpDue 1 (s.m.r TIME_PTP_INTV_LOG_ANN) = false → exec .ptpAnnounceSend s = .next s)) ∧
  (∀ m : Mach,
    (m.b TIME_CTRL_MANUAL = false → m.timeState = sLOCKED → m.ptpRow = (6, 0x21, if m.time.lastUsed == 2 then 0x90 else 0x20)) ∧
    (m.timeState = sFREE → m.ptpRow = (248, 0xFE, 0xA0)) ∧
    (m.b TIME_CTRL_MANUAL = false → m.timeState = sHOLDOVER_LIMIT → m.ptpRow.1 = 187 ∧ m.ptpRow.2.1 = 0xFE)) ∧
  (∀ (f : PtpReq) (s : State),
    (s.m.ptpSending = true → s.m.b TIME_PTP_CFG_DELAY = false → exec (.delayReqReceived f) s = .next (s.having
      (s.m.ptpSend (.delayResp f.seq.toNat f.clk.toNat f.port.toNat f.rx)))) ∧
    (s.m.ptpSending = false ∨ s.m.b TIME_PTP_CFG_DELAY = true → exec (.delayReqReceived f) s = .next s)) ∧
  (∀ (p : Fin 2) (tx : Nat) (f : PtpReq) (s : State),
    let n := Tabs.val s.m.time.seqPd 0 p
    let log := s.m.ri TIME_PTP_INTV_LOG_PDELAY
    (s.m.b TIME_PTP_CFG_DELAY = true → s.m.r INTC_BLK_FAULT_STATE 23 ≠ 3 →
      (s.m.ptpDue (2 + p) log = true → exec (.pdelayReqSend p tx) s = .next (s.having { s.m.ptpSend (.pdelayReq p n) with
        time := { s.m.time with ptpAt := Tabs.put s.m.time.ptpAt (2 + p) s.m.now,
                                seqPd := Tabs.put s.m.time.seqPd p ((n + 1) % 2 ^ 16),
                                pdOut := Tabs.put s.m.time.pdOut p (n, tx) } })) ∧
      exec (.pdelayReqReceived p f) s = .next (s.having
        (s.m.ptpSend (.pdelayResp p f.seq.toNat f.clk.toNat f.port.toNat)))) ∧
    (s.m.b TIME_PTP_CFG_DELAY = false ∨ s.m.ptpDue (2 + p) log = false → exec (.pdelayReqSend p tx) s = .next s) ∧
    (s.m.b TIME_PTP_CFG_DELAY = false → exec (.pdelayReqReceived p f) s = .next s)) ∧
  (∀ (m : Mach) (p : PtpMsg),
    let sent := ((List.range 3).filter m.transports.testBit).map (fun t => Emission.ptp (m.ptpVia t p) p)
    m.ptpSend p = { m with out := m.out ++ sent } ∧
    (∀ t, (m.ptpVia t p).portNumber = 1 ∧ (m.ptpVia t p).domain = m.r TIME_PTP_CFG_DOMAIN ∧ (m.ptpVia t p).clk = m.clockId) ∧
    (m.ptpVia 0 p).etherType = 0x88F7) ∧
  (∀ (p : Fin 2) (r : PtpResp) (s : State),
    (∀ n tx, Tabs.look s.m.time.pdOut p = some (n, tx) → s.m.b TIME_PTP_CFG_DELAY = true → n = r.seq.toNat →
      ∃ t : Mach, exec (.pdelayRespReceived p r) s = .next (s.having { s.m with time := t.time, regs := t.regs }) ∧
        Tabs.look t.time.links p = some (r.rx - tx - r.turn) ∧
        (p = 0 → t.r TIME_PTP_LINK_A_ALL = (r.rx - tx - r.turn) / 4 % 2 ^ 32) ∧
        (p = 1 → t.r TIME_PTP_LINK_B_ALL = (r.rx - tx - r.turn) / 4 % 2 ^ 32) ∧
        (Tabs.rising none s.m.time.pdOut = true → Tabs.look t.time.pdOut p = none)) ∧
    (Tabs.look s.m.time.pdOut p = none → exec (.pdelayRespReceived p r) s = .next s)) ∧
  (∀ (p : Fin 2) (clk : BitVec 64) (s : State), ∃ t : Mach,
    exec (.foreignAnnounceReceived p clk) s = .next (s.having t) ∧
    t.r TIME_PTP_FOREIGN_ALL = min (s.m.r TIME_PTP_FOREIGN_ALL + 1) 0xFFFFFFFF ∧ t.time = s.m.time ∧ t.kiln = s.m.kiln) ∧
  (∀ (f : PtpFwd) (s : State),
    (f.peer = true → exec (.ptpEventForward f) s = .next s) ∧
    (f.peer = false → s.m.r INTC_BLK_FAULT_STATE 23 ≠ 3 →
      (f.transport = 2 → f.suffix = false →
        exec (.ptpEventForward f) s = .next (s.having ((s.m.inc TIME_TC_UNCORR_ALL).emit (.ptpFwd f.outp (withEthFcs f.frame))))) ∧
      (f.transport ≠ 2 ∨ f.suffix = true →
        exec (.ptpEventForward f) s = .next (s.having ((s.m.inc TIME_TC_FRAMES_ALL).emit
          (.ptpFwd f.outp (withEthFcs (f.corrected (f.corr + ((f.tx : Int) - f.rx) * 32768 +
            (if s.m.b TIME_PTP_CFG_DELAY && f.sync && f.inp.val < 2 then
              ((Tabs.val s.m.time.links 0 f.inp.val * 16384 : Nat) : Int) else 0))))))))))

/-- Taking and losing grant, the chip safe state, and the ALIVE code that follows.
The model's choices in it are those of log entries 29, 54, 61. -/
def Obligations.RolesFollowGrantAndHealth : Prop :=
  (∀ s : State,
    (s.m.b REDUN_STATUS_GRANTED = true → exec .grantAcquired s = .next s) ∧
    (s.m.b REDUN_STATUS_GRANTED = false → s.m.ready = false →
      exec .grantAcquired s = .next (s.having ((s.m.w REDUN_STATUS_GRANTED 1).airRefresh))) ∧
    (s.m.b REDUN_STATUS_GRANTED = false → s.m.ready = true → s.m.recovery = false → s.m.isSafe = false → s.m.isActive = false →
      ∃ t : Mach, exec .grantAcquired s = .next (s.having t) ∧ t.isActive = true ∧ t.b REDUN_STATUS_GRANTED = true ∧
        t.r REDUN_STATUS_ALIVE_CODE = 1 ∧ t.b REDUN_STATUS_ROLE = true ∧ t.dam.run = !t.siteLatched ∧
        t.red.periodFrom = some s.m.now ∧
        (s.m.r REDUN_STATUS_ROLE_STATE = 2 → s.m.b REDUN_STATUS_WARM = false → s.m.red.finalIn = false →
          t.siteLatched = true ∧ t.zoneLatches = 0 ∧ t.dam.agents = 0 ∧ t.kiln.store.park = [] ∧ t.air.tab.members = []))) ∧
  (∀ s : State,
    (s.m.b REDUN_STATUS_GRANTED = false → exec .grantRemoved s = .next s) ∧
    (s.m.b REDUN_STATUS_GRANTED = true → s.m.isActive = false → exec .grantRemoved s = .next (s.having
      ((((s.m.w REDUN_STATUS_GRANTED 0).setStopOut false).setFixEn false).airRefresh))) ∧
    (s.m.b REDUN_STATUS_GRANTED = true → s.m.isActive = true → s.m.r REDUN_STATUS_ALIVE_CODE ≠ 3 →
      ∃ t : Mach, exec .grantRemoved s = .next (s.having t) ∧ t.isStandby = true ∧ t.b REDUN_STATUS_GRANTED = false ∧
        t.siteLatched = true ∧ (t.r DAMP_SRC_SEEN_SEEN).testBit 10 = true ∧ t.r DAMP_STATUS_GATE = 1 ∧
        t.outputsReleased ∧ t.air.inFlight = [] ∧ t.kiln.store.park = [] ∧
        ((s.m.inSlot && s.m.air.held && s.m.air.on) = false → t.air.tab.members = []) ∧
        ((s.m.inSlot && s.m.air.held && s.m.air.on) = true → t.air.wipe = true)) ∧
    (∀ r, s.m.b REDUN_STATUS_GRANTED = true → s.m.isActive = true → s.m.r REDUN_STATUS_ALIVE_CODE = 3 → s.m.red.run = some r →
      ∃ t : Mach, exec .grantRemoved s = .next (s.having t) ∧ t.isStandby = true ∧ t.mirror = 3 ∧ t.latched = s.m.latched ∧
        t.r DAMP_SRC_SEEN_SEEN = s.m.r DAMP_SRC_SEEN_SEEN ∧ t.outputsReleased ∧ t.red.run = none ∧ t.red.hold = false ∧
        t.r REDUN_SWAPS_ALL = min (s.m.r REDUN_SWAPS_ALL + 1) (2 ^ REDUN_SWAPS_ALL.width - 1))) ∧
  (∀ (w : Fin 3) (s : State),
    (s.m.ready = false → exec (.healthWordTimeout w) s = .next s) ∧
    (s.m.ready = true → exec (.healthWordTimeout w) s =
      .next (s.having (s.m.enterSafe 1 (if w = 0 then 25 else if w = 1 then 18 else 14))))) ∧
  (∀ (m : Mach) (cause blk : Nat), cause < 2 ^ INTC_SAFE_CAUSE_CAUSE.width → blk < 2 ^ INTC_SAFE_CAUSE_BLOCK.width →
    (m.isSafe = true → m.enterSafe cause blk = m) ∧
    (m.isSafe = false → (m.enterSafe cause blk).isSafe = true ∧ (m.enterSafe cause blk).isActive = false ∧
      (m.recovery = false → (m.enterSafe cause blk).r REDUN_STATUS_ALIVE_CODE = 3) ∧
      (m.recovery = true → (m.enterSafe cause blk).r REDUN_STATUS_ALIVE_CODE = m.r REDUN_STATUS_ALIVE_CODE) ∧
      (m.enterSafe cause blk).b REDUN_STATUS_WARM = false ∧ (m.enterSafe cause blk).r INTC_SAFE_CAUSE_CAUSE = cause ∧
      (m.enterSafe cause blk).r INTC_SAFE_CAUSE_BLOCK = blk ∧ (m.enterSafe cause blk).outputsReleased ∧
      ((m.enterSafe cause blk).r DAMP_SRC_SRC).testBit 11 = true)) ∧
  (∀ s : State,
    (s.m.isSafe = true → s.m.r REDUN_STATUS_ALIVE_CODE = 3 → s.m.red.aliveAt + 100 ≤ s.m.now →
      exec .relinquishHoldEnd s = .next (s.having (s.m.setAlive 0)) ∧ (s.m.setAlive 0).r REDUN_STATUS_ALIVE_CODE = 0) ∧
    (s.m.isSafe = false → exec .relinquishHoldEnd s = .next s)) ∧
  (∀ s : State,
    (s.m.red.prefEnd = none → exec .rolePrefWindowEnd s = .next s) ∧
    (∀ u, s.m.red.prefEnd = some u → s.m.isActive = true ∨ s.m.red.mateActive = true ∨ u ≤ s.m.now →
      ∃ t : Mach, exec .rolePrefWindowEnd s = .next (s.having { s.m with red := { s.m.red with prefEnd := none }, regs := t.regs }) ∧
        t.b REDUN_STATUS_ROLE = s.m.isActive ∧ regsKept [REDUN_STATUS_ROLE.off 0 0] s.m t))

/-- What a unit does with each kind of mate frame.
The model's choices in it are those of log entries 28, 30, 47, 54, 61, 62. -/
def Obligations.MateFramesAreAppliedAndAnswered : Prop :=
  (∀ s : State, s.m.mateOn = true → s.m.ready = true → s.m.recovery = false → s.m.mirror = 0 → s.m.red.lost = false →
    (s.m.red.helloAt = none → ∃ (t : Mach) (f : MateFrame) (serial lo hi nonce : Nat),
      exec .mateHelloSend s = .next (s.having t) ∧ t.out = s.m.out ++ [.mate f f.ethernet] ∧
      f.body = .hello serial (s.m.r ID_PROFILE_ALL) lo hi nonce
        (s.m.nv.set.pairKey.map (helloMic serial (s.m.r ID_PROFILE_ALL) lo hi nonce)) ∧
      serial = s.m.r ID_SERIAL_LO_ALL + 2 ^ 32 * s.m.r ID_SERIAL_HI_ALL ∧
      lo = s.m.r REDUN_VER_OWN_MIN ∧ hi = s.m.r REDUN_VER_OWN_MAX ∧ t.red.seqOut = 0 ∧ t.red.kept = [] ∧ t.red.ends = [] ∧
      t.red.helloSent = true ∧ t.regs = s.m.regs) ∧
    (∀ u, s.m.red.helloAt = some u → s.m.now < u + 10 → exec .mateHelloSend s = .next s)) ∧
  (∀ (x : MateRx) (s : State) (serial prof lo hi nonce : Nat) (mic : Option Nat), s.m.mateOn = true → s.m.ready = true →
    s.m.recovery = false → x.f.body = .hello serial prof lo hi nonce mic →
    let own := s.m.nv.set.pairKey.map (helloMic serial prof lo hi nonce)
    (x.crcOk = false → exec (.mateHelloReceived x) s = .next (s.having (s.m.inc REDUN_CRC_ERR_ALL))) ∧
    (x.crcOk = true → mic = none ∨ mic ≠ own →
      exec (.mateHelloReceived x) s = .next (s.having (s.m.inc REDUN_HELLO_BAD_ALL))) ∧
    (x.crcOk = true → mic.isSome = true → mic = own → s.m.mirror ≤ 1 → s.m.red.lost = false →
      ∃ t : Mach, exec (.mateHelloReceived x) s = .next (s.having t) ∧ t.red.lastRx = some s.m.now ∧ t.kiln = s.m.kiln ∧
        t.red.mate = some (serial, prof, lo, hi) ∧ t.red.seqIn = 0 ∧
        (s.m.red.helloSent = false → t.mirror = 1) ∧
        (s.m.red.helloSent = true → prof ≠ s.m.r ID_PROFILE_ALL → t.mirror = 6) ∧
        (s.m.red.helloSent = true → prof = s.m.r ID_PROFILE_ALL → s.m.r REDUN_VER_OWN_MIN ≤ hi → lo ≤ s.m.r REDUN_VER_OWN_MAX →
          t.mirror = 2 ∧ t.r REDUN_VER_IN_USE = min hi (s.m.r REDUN_VER_OWN_MAX) ∧ t.red.want = s.m.isStandby))) ∧
  (∀ (x : MateRx) (s : State), s.m.isActive = false → s.m.isStandby = true → s.m.isSafe = false → s.m.mateOn = true →
    s.m.ready = true → x.crcOk = true → diff32 x.f.seq s.m.red.seqIn = 0 → s.m.red.want = false →
    (∀ mr, x.f.body = .tick mr → s.m.mirror = 3 → ∃ t : Mach, exec (.mateTickReceived x) s = .next (s.having t) ∧
      let k := s.m.tickShift mr x.f.pt
      t.kiln.store = mr.store.shift k ∧ t.kiln.map = mr.map ∧ t.air.tab = (mr.air.wrapped s.m.mateUnwrap).shift k ∧
      t.nv.set.creds = credsWrapped mr.creds s.m.mateUnwrap ∧
      t.dam.arm = mr.arm.map (fun (a : DamArm) => { a with tick := a.tick + k }) ∧
      t.dam.agents = mr.latches.agents ||| s.m.ownStops.agents ∧ t.red.seqIn = (x.f.seq + 1) % 2 ^ 32 ∧
      t.hif.rings = s.m.hif.rings) ∧
    (∀ n dig items rx st, x.f.body = .tickEnd n dig items rx st → s.m.mirror = 3 → ∃ t : Mach,
      exec (.mateTickEndReceived x) s = .next (s.having t) ∧ t.r REDUN_LAST_PT_ALL = x.f.pt % 2 ^ 32 ∧
      t.red.finalIn = x.f.final ∧ t.red.seqIn = (x.f.seq + 1) % 2 ^ 32 ∧ t.red.seqOut = (s.m.red.seqOut + 1) % 2 ^ 32 ∧
      t.kiln = s.m.kiln) ∧
    (∀ l, x.f.body = .latch l → s.m.mirror = 3 → ∃ t : Mach, exec (.mateLatchReceived x) s = .next (s.having t) ∧
      t.latched = s.m.latched.join l ∧ t.red.seqIn = (x.f.seq + 1) % 2 ^ 32 ∧
      t.red.seqOut = (s.m.red.seqOut + 1) % 2 ^ 32 ∧ t.kiln = s.m.kiln ∧ t.hostMem = s.m.hostMem) ∧
    (∀ k last mr, x.f.body = .bulk k last mr → s.m.mirror = 2 → k = s.m.red.bulk → k < 3 → ∃ t : Mach,
      exec (.mateBulkReceived x) s = .next (s.having t) ∧ t.red.bulk = k + 1 ∧ t.red.want = false ∧
      t.r REDUN_STATUS_BULK_PCT = 100 * (k + 1) / 3 ∧ (k = 0 → t.kiln.store = mr.store.shift (s.m.tickShift mr x.f.pt)) ∧
      (k = 1 → t.air.tab = (mr.air.wrapped s.m.mateUnwrap).shift (s.m.tickShift mr x.f.pt)))) ∧
  (∀ (x : MateRx) (s : State) (seq pt rx health st : Nat), x.f.body = .ack seq pt rx health st → s.m.isActive = true →
    s.m.mateOn = true → s.m.ready = true →
    (x.crcOk = false → exec (.mateAckReceived x) s = .next (s.having (s.m.inc REDUN_CRC_ERR_ALL))) ∧
    (x.crcOk = true → x.f.forward = false → 0 ≤ diff32 x.f.seq s.m.red.seqIn → health / 2 % 2 = 0 →
      s.m.mirror = 3 ∨ s.m.mirror = 4 ∨ s.m.mirror = 5 → ∃ t : Mach, exec (.mateAckReceived x) s = .next (s.having t) ∧
        let done := s.m.red.ends.filter (fun e => diff32 seq e.1 ≥ 0)
        t.mirror = 3 ∧ t.red.ackSeq = some seq ∧ t.red.ackAt = s.m.now ∧
        t.red.ends = s.m.red.ends.filter (fun e => diff32 seq e.1 < 0) ∧
        (done = [] → t.r REDUN_LAST_PT_ALL = s.m.r REDUN_LAST_PT_ALL) ∧
        (∀ e, done.getLast? = some e → t.r REDUN_LAST_PT_ALL = e.2 % 2 ^ 32 ∧ t.red.ackPt = some e.2) ∧
        t.dam.stops = s.m.dam.stops.filter (fun e => diff32 seq e.2.1 < 0) ∧ t.latched = s.m.latched ∧ t.kiln = s.m.kiln)) ∧
  (∀ (x : MateRx) (s : State) (seq : Nat), x.f.body = .retx seq → s.m.mateOn = true → s.m.ready = true → x.crcOk = true →
    x.f.forward = false → s.m.isActive = true → s.m.red.kept.any (fun f => f.seq == seq) = true →
    ∃ t : Mach, exec (.mateRetxReqReceived x) s = .next (s.having t) ∧
      t.out = s.m.out ++ (s.m.red.kept.filter (fun f => diff32 f.seq seq ≥ 0)).map (fun f => Emission.mate f f.ethernet) ∧
      t.red = { s.m.red with lastRx := some s.m.now } ∧ t.kiln = s.m.kiln) ∧
  (∀ (x : MateRx) (s : State), s.m.isActive = true → s.m.mateOn = true → s.m.ready = true →
    let heard := ({ s.m with red := { s.m.red with lastRx := some s.m.now } } : Mach).takeForward x.f.forward
    (∀ mr, x.f.body = .tick mr →
      (x.crcOk = true → exec (.mateTickReceived x) s = .next (s.having heard)) ∧
      (x.crcOk = false → exec (.mateTickReceived x) s = .next (s.having (s.m.inc REDUN_CRC_ERR_ALL)))) ∧
    (∀ l, x.f.body = .latch l →
      (x.crcOk = true → exec (.mateLatchReceived x) s = .next (s.having heard)) ∧
      (x.crcOk = false → exec (.mateLatchReceived x) s = .next (s.having (s.m.inc REDUN_CRC_ERR_ALL)))))

/-- Time limits of the mate link, synchronisation and the permit watch.
The model's choices in it are those of log entries 47, 54. -/
def Obligations.MateLinkAndSyncTimeOut : Prop :=
  (∀ s : State,
    (s.m.dam.stops = [] → exec .stopCompletionTimeout s = .next s) ∧
    (∀ e l, s.m.dam.stops = e :: l → exec .stopCompletionTimeout s = .next (s.having
      (({ s.m with dam := { s.m.dam with stops := l } } : Mach).complete e.1 stOK (s.m.stopRes e.2.2))))) ∧
  (∀ s : State,
    (s.m.red.gapAt = none → exec .retxGapTimeout s = .next s) ∧
    (∀ u, s.m.red.gapAt = some u → u + 2 ≤ s.m.now → s.m.isActive = false →
      ∃ t : Mach, exec .retxGapTimeout s = .next (s.having t) ∧ t.mirror = 2 ∧ t.red.want = true ∧ t.red.gapAt = none ∧
        t.red.bulk = 0 ∧ t.r REDUN_RESYNCS_ALL = min (s.m.r REDUN_RESYNCS_ALL + 1) (2 ^ REDUN_RESYNCS_ALL.width - 1) ∧
        t.kiln = s.m.kiln ∧ t.hostMem = s.m.hostMem)) ∧
  (∀ s : State,
    (s.m.mirror < 2 ∨ s.m.mirror = 6 ∨ s.m.red.lost = true → exec .mateLinkLoss s = .next s) ∧
    (∀ u, s.m.red.lastRx = some u → s.m.now < u + 3 → exec .mateLinkLoss s = .next s) ∧
    (2 ≤ s.m.mirror → s.m.mirror ≤ 5 → s.m.red.lost = false → (∀ u, s.m.red.lastRx = some u → u + 3 ≤ s.m.now) →
      ∃ t : Mach, exec .mateLinkLoss s = .next (s.having t) ∧ t.red.mate = none ∧ t.red.mateWarm = false ∧
        (s.m.isActive = false → t.mirror = 0 ∧ t.red.lost = false) ∧
        (s.m.isActive = true → s.m.mirror = 3 → t.mirror = 4 ∧ t.red.lost = true) ∧
        (t.r DAMP_SRC_SRC).testBit 9 = false ∧ t.latched = s.m.latched ∧
        t.r REDUN_LINK_LOSS_ALL = min (s.m.r REDUN_LINK_LOSS_ALL + 1) (2 ^ REDUN_LINK_LOSS_ALL.width - 1))) ∧
  (∀ s : State,
    (s.m.isActive = true → s.m.mirror = 3 → s.m.red.ackAt + 3 ≤ s.m.now →
      exec .mateAckLate s = .next (s.having ((s.m.setMirror 4).swapShow)) ∧ ((s.m.setMirror 4).swapShow).mirror = 4) ∧
    (s.m.mirror ≠ 3 ∨ s.m.now < s.m.red.ackAt + 3 → exec .mateAckLate s = .next s) ∧
    (s.m.isActive = true → s.m.mirror = 4 → s.m.red.ackAt + 25 ≤ s.m.now →
      exec .mateAckStale s = .next (s.having ((s.m.setMirror 5).swapShow)) ∧ ((s.m.setMirror 5).swapShow).mirror = 5) ∧
    (s.m.mirror ≠ 4 ∨ s.m.now < s.m.red.ackAt + 25 → exec .mateAckStale s = .next s)) ∧
  (∀ s : State,
    (s.m.red.warmEnd = none → exec .warmEligibilityExpiry s = .next s) ∧
    (∀ u, s.m.red.warmEnd = some u → u ≤ s.m.now → s.m.isStandby = true → s.m.synced = false →
      ∃ t : Mach, exec .warmEligibilityExpiry s = .next (s.having t) ∧ t.red.warmEnd = none ∧
        t.b REDUN_STATUS_WARM = false ∧ t.kiln = s.m.kiln)) ∧
  (∀ s : State,
    (s.m.isStandby = true → s.m.mirror = 2 → s.m.red.bulk = 3 → s.m.red.want = false →
      ∃ t : Mach, exec .bulkResyncComplete s = .next (s.having t) ∧ t.mirror = 3 ∧ t.r REDUN_STATUS_BULK_PCT = 100 ∧
        t.b REDUN_STATUS_MATE_OK = true ∧ t.kiln = s.m.kiln ∧ t.air = s.m.air) ∧
    (s.m.mirror ≠ 2 ∨ s.m.red.bulk ≠ 3 → exec .bulkResyncComplete s = .next s)) ∧
  (∀ (l : List AirRx) (s : State),
    let served := (List.range 8).filter s.m.laneServed
    let good := served.filter (fun x => l.any (fun rx => rx.lane.val == x && s.m.permitGood rx))
    (s.m.synced = false ∨ s.m.red.txOk = false ∨ s.m.asn % 5 ≠ 0 ∨ s.m.red.watched = some s.m.asn →
      exec (.permitWatchSlot l) s = .next s) ∧
    (s.m.synced = true → s.m.red.txOk = true → s.m.asn % 5 = 0 → s.m.red.watched ≠ some s.m.asn →
      (served.length ≤ 2 * good.length → ∃ t : Mach, exec (.permitWatchSlot l) s = .next (s.having t) ∧
        t.red.permitMiss = 0 ∧ t.r REDUN_STATUS_ALIVE_CODE = 1 ∧ t.red.watched = some s.m.asn) ∧
      (2 * good.length < served.length → ∃ t : Mach, exec (.permitWatchSlot l) s = .next (s.having t) ∧
        t.red.permitMiss = s.m.red.permitMiss + 1 ∧
        t.r REDUN_PERMIT_MISS_ALL = min (s.m.r REDUN_PERMIT_MISS_ALL + 1) (2 ^ REDUN_PERMIT_MISS_ALL.width - 1) ∧
        (s.m.red.permitMiss = 2 → t.r REDUN_STATUS_ALIVE_CODE = 4) ∧
        (s.m.red.permitMiss ≠ 2 → t.r REDUN_STATUS_ALIVE_CODE = s.m.r REDUN_STATUS_ALIVE_CODE)))) ∧
  (∀ (m : Mach) (rx : AirRx), m.permitGood rx = true → m.permitShows rx = true ∧
    (∃ key, m.air.bkey = some key ∧ rx.mic = some (key, airNonce m.asn (baseAddr rx.lane) rx.lane 0)) ∧
    leAt (rx.bytes.drop 13) 4 5 = m.asn ∧ (m.dam.sample.site = true → (leAt (rx.bytes.drop 13) 1 1).testBit 0 = true))

/-- A planned swap from its request to its quiet point, FINAL and abandonment; RESYNC and PAIR_SET.
The model's choices in it are those of log entry 54. -/
def Obligations.PlannedSwapsGoTheirWay : Prop :=
  (∀ (d : Desc) (s : State), s.m.starts 0x0800 d → Descs.fld d 16 2 ≤ 3600 →
    let e := d.as 0x0800
    (s.m.isActive = false → exec (.swap d) s = .next (s.having (s.m.complete e stNOT_ACTIVE_ROLE))) ∧
    (s.m.isActive = true → s.m.standbyThere = false → exec (.swap d) s = .next (s.having (s.m.complete e 0x10))) ∧
    (s.m.isActive = true → s.m.standbyThere = true → s.m.red.run.isSome = true →
      exec (.swap d) s = .next (s.having (s.m.complete e stBUSY))) ∧
    (s.m.isActive = true → s.m.standbyThere = true → s.m.red.run = none → (∀ q, s.m.red.swap = some q → q.d = none) →
      ∃ t : Mach, exec (.swap d) s = .next (s.having { s.m with red := t.red, regs := t.regs }) ∧
        t.red = { s.m.red with swap := some ⟨some e, s.m.now, if Descs.fld d 16 2 = 0 then 600 else Descs.fld d 16 2, false⟩ } ∧
        t.b REDUN_STATUS_SWAP_PENDING = true ∧ regsKept [REDUN_STATUS_SWAP_PENDING.off 0 0] s.m t)) ∧
  (∀ s : State,
    let p := s.m.r REDUN_SWAP_CFG_PERIOD_H
    (∀ u, s.m.isActive = true → s.m.standbyThere = true → p ≠ 0 → s.m.red.swap = none → s.m.red.run = none →
      s.m.red.periodFrom = some u → u + 3600000 * p ≤ s.m.now →
      exec .periodicSwapDue s = .next (s.having (s.m.setSwap (some ⟨none, s.m.now, 0, false⟩)))) ∧
    (s.m.isActive = false ∨ p = 0 ∨ s.m.red.periodFrom = none → exec .periodicSwapDue s = .next s)) ∧
  (∀ (v : BitVec 32) (s : State),
    (s.m.ready = true → ∃ t : Mach, exec (.swapPeriodWrite v) s = .next (s.having { s.m with red := t.red, regs := t.regs }) ∧
      t.r REDUN_SWAP_CFG_PERIOD_H = min (v.toNat % 256) 168 ∧ t.red.run = s.m.red.run) ∧
    (s.m.ready = false → exec (.swapPeriodWrite v) s = .next s)) ∧
  (∀ s : State,
    (s.m.red.swap = none → exec .swapQuietPoint s = .next s ∧ exec .swapWaitNotice s = .next s ∧
      exec .swapWaitExpiry s = .next s) ∧
    (∀ q, s.m.red.swap = some q →
      (s.m.isActive = true → s.m.red.run = none → s.m.quiet = true →
        ∃ t : Mach, exec .swapQuietPoint s = .next (s.having { s.m with red := t.red, regs := t.regs }) ∧
          t.red.run = some ⟨q.d, s.m.slotH, none, none⟩ ∧ t.red.swapH = some s.m.slotH ∧ t.red.swap = none ∧
          t.b REDUN_STATUS_SWAPPING = true ∧ t.b REDUN_STATUS_SWAP_PENDING = false) ∧
      (s.m.quiet = false → exec .swapQuietPoint s = .next s) ∧
      (q.d = none → q.noticed = false → q.since + 3600000 ≤ s.m.now → exec .swapWaitNotice s =
        .next (s.having ((s.m.setSwap (some { q with noticed := true })).event 0x0807 2 24 (le 1 0)))) ∧
      (q.noticed = true → exec .swapWaitNotice s = .next s) ∧
      (∀ d, q.d = some d → q.since + 1000 * q.wait ≤ s.m.now →
        exec .swapWaitExpiry s = .next (s.having ((s.m.setSwap none).complete d 0x11))) ∧
      (∀ d, q.d = some d → s.m.now < q.since + 1000 * q.wait → exec .swapWaitExpiry s = .next s))) ∧
  (∀ s : State,
    (s.m.red.run = none → exec .swapFinal s = .next s ∧ exec .swapAbandon s = .next s) ∧
    (∀ r, s.m.red.run = some r →
      (r.final = none → s.m.msToH r.asn ≤ 3 → s.m.mateOn = true → s.m.mirror ≠ 2 →
        ∃ t : Mach, exec .swapFinal s = .next (s.having t) ∧ t.red.hold = true ∧
          t.red.run = some { r with final := some ((s.m.red.seqOut + 1) % 2 ^ 32) } ∧
          t.red.seqOut = (s.m.red.seqOut + 2) % 2 ^ 32 ∧ t.kiln = s.m.kiln ∧ t.dam = s.m.dam) ∧
      (r.final.isSome = true ∨ 3 < s.m.msToH r.asn → exec .swapFinal s = .next s) ∧
      (r.relinq = none → s.m.msToH r.asn ≤ 2 → ∃ t : Mach, exec .swapAbandon s = .next (s.having t) ∧
        t.red.run = none ∧ t.red.hold = false ∧ t.red.swapH = none ∧ t.b REDUN_STATUS_SWAPPING = false ∧
        t.r REDUN_STATUS_ALIVE_CODE = 1 ∧ t.kiln = s.m.kiln) ∧
      (r.relinq = none → 2 < s.m.msToH r.asn → exec .swapAbandon s = .next s))) ∧
  (∀ (d : Desc) (s : State), s.m.starts 0x0801 d →
    (s.m.isStandby = false → exec (.resync d) s = .next (s.having (s.m.complete (d.as 0x0801) 0x14))) ∧
    (s.m.isStandby = true → s.m.mirror ≠ 2 → s.m.mirror ≠ 3 →
      exec (.resync d) s = .next (s.having (s.m.complete (d.as 0x0801) 0x15))) ∧
    (s.m.isStandby = true → s.m.mirror = 2 ∨ s.m.mirror = 3 → ∃ t : Mach,
      exec (.resync d) s = .next (s.having (t.complete (d.as 0x0801) stOK)) ∧ t.mirror = 2 ∧ t.red.want = true ∧
      t.red.bulk = 0 ∧ t.r REDUN_STATUS_BULK_PCT = 0 ∧ t.kiln = s.m.kiln)) ∧
  (∀ (d : Desc) (s : State), s.m.starts 0x0802 d →
    (s.m.b REDUN_CTRL_MATE_EN = true → exec (.pairSet d) s = .next (s.having (s.m.complete (d.as 0x0802) 0x13))) ∧
    (s.m.b REDUN_CTRL_MATE_EN = false → exec (.pairSet d) s = .next (s.having (({ s.m with nv := { s.m.nv with set :=
      { s.m.nv.set with pairKey := some (Descs.fld d 16 16) } } } : Mach).complete (d.as 0x0802) stOK))))

/-- What each command does to the cell queues, their watermarks and timeouts, and the stream queues.
The model's choices in it are those of log entry 49. -/
def Obligations.CellQueuesTakeAndGive : Prop :=
  (∀ (d : Desc) (b : List (Fin 1024)) (s : State), s.m.starts 0x0B00 d →
    let q := Descs.fld d 16 2
    let n := Descs.fld d 18 2
    let good := hostQueue q = true ∧ 1 ≤ n ∧ n ≤ 1024 ∧ Descs.buf d = true ∧ 64 * n ≤ Descs.len d
    (¬ good → exec (.enqueue d b) s = .next (s.having (s.m.complete (d.as 0x0B00) stRANGE))) ∧
    (good → s.m.takes .saggar = false → exec (.enqueue d b) s = .next (s.having (s.m.complete (d.as 0x0B00) stNOT_ENABLED))) ∧
    (good → s.m.takes .saggar = true → s.m.b SAG_Q_STATUS_ENABLED q = false →
      exec (.enqueue d b) s = .next (s.having (s.m.complete (d.as 0x0B00) 0x10))) ∧
    (good → s.m.takes .saggar = true → s.m.b SAG_Q_STATUS_ENABLED q = true → s.m.sagRoom q n = false →
      exec (.enqueue d b) s = .next (s.having (s.m.complete (d.as 0x0B00) stQUEUE_FULL))) ∧
    (good → s.m.takes .saggar = true → s.m.b SAG_Q_STATUS_ENABLED q = true → s.m.sagRoom q n = true → s.m.sag.pend = [] →
      ∃ t : Mach, exec (.enqueue d b) s = .next (s.having (t.complete (d.as 0x0B00) stOK
          (le 4 ((s.m.sagQ q).cells.length + n) ++ le 4 (s.m.r SAG_POOL_FREE_FREE - n)))) ∧
        (t.sagQ q).cells = (s.m.sagQ q).cells ++ cellsOf n (s.m.bufRd d) ∧ (∀ p, p ≠ q → t.sagQ p = s.m.sagQ p) ∧
        t.sag.streams = s.m.sag.streams ∧ t.kiln = s.m.kiln ∧ t.dam = s.m.dam ∧ t.nv = s.m.nv)) ∧
  (∀ (d : Desc) (s : State), s.m.starts 0x0B01 d →
    let q := Descs.fld d 16 2
    let n := Descs.fld d 18 2
    let cells := (s.m.sagQ q).cells
    let k := min (min n cells.length) (Descs.len d / 64)
    let good := hostQueue q = true ∧ 1 ≤ n ∧ n ≤ 1024 ∧ Descs.buf d = true ∧ 64 ≤ Descs.len d
    (∀ b, ¬ good → exec (.dequeue d b) s = .next (s.having (s.m.complete (d.as 0x0B01) stRANGE))) ∧
    (∀ b, good → s.m.takes .saggar = false →
      exec (.dequeue d b) s = .next (s.having (s.m.complete (d.as 0x0B01) stNOT_ENABLED))) ∧
    (∀ b, good → s.m.takes .saggar = true → cells = [] → Descs.fld d 20 2 = 0 →
      exec (.dequeue d b) s = .next (s.having (s.m.complete (d.as 0x0B01) 0x11 (le 2 0 ++ le 4 0)))) ∧
    (∀ b, good → s.m.takes .saggar = true → cells = [] → Descs.fld d 20 2 ≠ 0 →
      ∃ t : Mach, exec (.dequeue d b) s = .next (s.having { s.m with sag := t.sag, regs := t.regs }) ∧
        t.sag = { s.m.sag with pend := s.m.sag.pend ++ [(d.as 0x0B01, s.m.now + Descs.fld d 20 2)] } ∧
        regsKept [SAG_STATUS_PENDING.off 0 0] s.m t) ∧
    (good → s.m.takes .saggar = true → cells ≠ [] →
      ∃ t : Mach, exec (.dequeue d []) s = .next (s.having (t.complete (d.as 0x0B01) stOK
          (le 2 k ++ le 4 (cells.length - k)))) ∧ (t.sagQ q).cells = cells.drop k ∧ (t.sagQ q).fired = false ∧
        (t.sagQ q).since = s.m.now ∧ (∀ p, p ≠ q → t.sagQ p = s.m.sagQ p) ∧ t.sag.pend = s.m.sag.pend ∧
        (s.m.wmOn q = false → t.hostMem = (if s.m.canWrite = true then
          hostPuts s.m.hostMem (Descs.addr d) ((cells.take k).flatMap cellBytes) else s.m.hostMem)) ∧
        t.kiln = s.m.kiln ∧ t.dam = s.m.dam) ∧
    (∀ b : Fin 1024, good → s.m.takes .saggar = true → b.val < k →
      ∃ t : Mach, exec (.dequeue d [b]) s = .next (s.having (t.complete (d.as 0x0B01) 0x12)) ∧ (t.sagQ q).cells = cells.drop (b + 1) ∧
        t.r SAG_POOL_RETIRED_RETIRED = (s.m.r SAG_POOL_RETIRED_RETIRED + 1) % 2 ^ 18)) ∧
  (∀ (q : Fin 1024) (s : State),
    let due := fun e : Desc × Nat => Descs.fld e.1 16 2 == q.val && decide (e.2 ≤ s.m.now)
    (s.m.sag.pend.find? due = none → exec (.dequeueWaitExpiry q) s = .next s) ∧
    (∀ e, s.m.sag.pend.find? due = some e →
      ∃ t : Mach, exec (.dequeueWaitExpiry q) s = .next (s.having (t.complete e.1 0x11 (le 2 0 ++ le 4 0))) ∧
        t.sag = { s.m.sag with pend := s.m.sag.pend.erase e } ∧ t.hostMem = s.m.hostMem ∧
        regsKept [SAG_STATUS_PENDING.off 0 0] s.m t)) ∧
  (∀ (d : Desc) (s : State), s.m.starts 0x0B02 d →
    let q := Descs.fld d 16 2
    let act := Descs.fld d 18 1
    (hostQueue q = false ∨ 3 < act → exec (.queueSet d) s = .next (s.having (s.m.complete (d.as 0x0B02) stRANGE))) ∧
    (hostQueue q = true → s.m.takes .saggar = true → act ≤ 1 →
      ∃ t : Mach, exec (.queueSet d) s = .next (s.having (t.complete (d.as 0x0B02) stOK (le 4 0 ++ le 1 (1 - act)))) ∧
        t.r SAG_Q_STATUS_ENABLED q = 1 - act ∧ t.sag = s.m.sag ∧ t.hostMem = s.m.hostMem ∧
        regsKept [SAG_Q_STATUS_ENABLED.off q 0] s.m t) ∧
    (hostQueue q = true → s.m.takes .saggar = true → 2 ≤ act → act ≤ 3 → s.m.sag.pend = [] →
      ∃ t : Mach, exec (.queueSet d) s = .next (s.having (t.complete (d.as 0x0B02) stOK
          (le 4 (s.m.sagQ q).cells.length ++ le 1 (if act = 2 then s.m.r SAG_Q_STATUS_ENABLED q else 0)))) ∧
        (t.sagQ q).cells = [] ∧ (t.sagQ q).armedLo = false ∧ (∀ p, p ≠ q → t.sagQ p = s.m.sagQ p) ∧
        t.r SAG_POOL_FREE_FREE = (s.m.r SAG_POOL_FREE_FREE + (s.m.sagQ q).cells.length) % 2 ^ 18)) ∧
  (∀ (q : Fin 512) (x : DeviceCells) (s : State),
    let own := (s.m.sagQ q).cells
    (x.taken = 0 → x.cells ≠ [] → s.m.sagRoom q x.cells.length = true →
      ∃ t : Mach, exec (.deviceEnqueue q x) s = .next (s.having t) ∧
        (t.sagQ q).cells = own ++ x.cells ∧ (∀ p, p ≠ q.val → t.sagQ p = s.m.sagQ p) ∧
        t.r SAG_POOL_FREE_FREE = s.m.r SAG_POOL_FREE_FREE - x.cells.length ∧
        t.r SAG_POOL_HOST_HOST_USED = s.m.r SAG_POOL_HOST_HOST_USED) ∧
    (x.taken = 0 → x.cells ≠ [] → s.m.sagRoom q x.cells.length = false →
      exec (.deviceEnqueue q x) s = .next (s.having (s.m.inc SAG_INT_REFUSED_ALL))) ∧
    (x.cells = [] → x.bad = [] → ∃ t : Mach, exec (.deviceEnqueue q x) s = .next (s.having t) ∧
      (t.sagQ q).cells = own.drop x.taken ∧ (∀ p, p ≠ q.val → t.sagQ p = s.m.sagQ p) ∧
      t.r SAG_POOL_RETIRED_RETIRED = s.m.r SAG_POOL_RETIRED_RETIRED) ∧
    (∀ k, x.cells = [] → x.bad = [k] → k.val < min x.taken own.length →
      ∃ t : Mach, exec (.deviceEnqueue q x) s = .next (s.having t) ∧ (t.sagQ q).cells = own.drop (k + 1) ∧
        t.r SAG_POOL_RETIRED_RETIRED = (s.m.r SAG_POOL_RETIRED_RETIRED + 1) % 2 ^ 18)) ∧
  (∀ (q : Fin 1024) (s : State),
    let x := s.m.sagQ q
    let due := s.m.r SAG_Q_TMO_TIMEOUT q ≠ 0 ∧ x.cells ≠ [] ∧ x.fired = false ∧ x.since + s.m.r SAG_Q_TMO_TIMEOUT q ≤ s.m.now
    (due → ∃ t : Mach, exec (.queueIdleTimeout q) s = .next (s.having (t.event 0x0B02 1 26 (le 2 q))) ∧
      t.b SAG_Q_STATUS_TMO_SEEN q = true ∧ t.sagQ q = { x with fired := true } ∧ (∀ p, p ≠ q.val → t.sagQ p = s.m.sagQ p) ∧
      t.hostMem = s.m.hostMem ∧ regsKept [SAG_Q_STATUS_TMO_SEEN.off q 0] s.m t) ∧
    (¬ due → exec (.queueIdleTimeout q) s = .next s)) ∧
  (∀ (m : Mach) (q : Nat) (cells : List (BitVec 512)), q < 1024 → m.wmOn q = true →
    ((m.sagQ q).armedLo = false → (m.sagQ q).cells.length < m.r SAG_Q_WM_HI q → m.r SAG_Q_WM_HI q ≤ cells.length →
      (m.setCells q cells).b SAG_Q_STATUS_HI_SEEN q = true ∧ ((m.setCells q cells).sagQ q).armedLo = true ∧
      (m.setCells q cells).r SAG_Q_STATUS_CROSS_CNT q = min (m.r SAG_Q_STATUS_CROSS_CNT q + 1) 255 ∧
      (m.setCells q cells).b SAG_Q_STATUS_ABOVE_HI q = true) ∧
    ((m.sagQ q).armedLo = true → m.r SAG_Q_WM_LO q < (m.sagQ q).cells.length → cells.length ≤ m.r SAG_Q_WM_LO q →
      (m.setCells q cells).b SAG_Q_STATUS_LO_SEEN q = true ∧ ((m.setCells q cells).sagQ q).armedLo = false ∧
      (m.setCells q cells).r SAG_Q_STATUS_CROSS_CNT q = min (m.r SAG_Q_STATUS_CROSS_CNT q + 1) 255 ∧
      (m.setCells q cells).b SAG_Q_STATUS_ABOVE_HI q = false)) ∧
  (∀ (m : Mach) (q : Nat) (cells : List (BitVec 512)), q < 1024 →
    (m.setCells q cells).b SAG_Q_STATUS_ABOVE_HI q = decide (m.r SAG_Q_WM_HI q ≤ cells.length)) ∧
  (∀ (close : Bool) (l : List Byte),
    let w := packWords close (l.length + 1) l
    w.flatMap (fun x => x.data.take x.valid) = l ∧ (∀ x ∈ w, x.data.length = 32 ∧ x.valid ≤ 32) ∧
    (∀ x ∈ w, x.valid < 32 → w.getLast? = some x) ∧ (close = false → ∀ x ∈ w, x.close = false ∧ 1 ≤ x.valid) ∧
    (close = true → ∃ x, w.getLast? = some x ∧ x.close = true ∧ x.valid = l.length % 32)) ∧
  (∀ (q : Fin 32) (data : List Byte) (s : State),
    let x := s.m.streamQ q
    let whole := data.take (streamWidth q * (data.length / streamWidth q))
    let has := fun (t : Mach) (close : Bool) (l : List Byte) =>
      t.streamQ q = { words := x.words ++ packWords close (l.length + 1) l, part := [] } ∧ t.sag.queues = s.m.sag.queues ∧
      t.sag.pend = s.m.sag.pend ∧ (∀ p, p ≠ q.val → t.streamQ p = s.m.streamQ p)
    (23 ≤ q.val → exec (.streamClose q data) s = .next s ∧ exec (.streamIdleTimeout q data) s = .next s) ∧
    (q.val < 23 → x.part.length < 32 →
      (∃ t : Mach, exec (.streamClose q data) s = .next (s.having { s.m with sag := t.sag, regs := t.regs }) ∧
        has t true (if streamOwn q then x.part else x.part ++ data) ∧
        t.r SAG_SQ_STATUS_LEVEL q = min (t.streamQ q).words.length 16 ∧ t.b SAG_SQ_STATUS_EMPTY q = false) ∧
      (s.m.r SAG_SQ_IDLE_IDLE_CYC q ≠ 0 →
        ∃ t : Mach, exec (.streamIdleTimeout q data) s = .next (s.having { s.m with sag := t.sag, regs := t.regs }) ∧
          has t false (if streamOwn q then x.part else x.part ++ whole)) ∧
      (s.m.r SAG_SQ_IDLE_IDLE_CYC q = 0 → streamOwn q = false →
        exec (.streamIdleTimeout q data) s = .next (s.having (s.m.streamWrite q whole))) ∧
      (s.m.r SAG_SQ_IDLE_IDLE_CYC q = 0 → streamOwn q = true → exec (.streamIdleTimeout q data) s = .next s)))

/-- Posting and popping notices, taking and releasing locks, and what a master's reset does to both. -/
def Obligations.NoticesArriveAndMastersReset : Prop :=
  (∀ (m : Fin 16) (v : BitVec 32) (s : State), s.m.hears m = true →
    ∃ x : MbSt, exec (.mailboxPostLow m v) s = .next { s with mb := { s.mb with lowWord := x.lowWord } } ∧
      Tabs.val x.lowWord 0 m = v ∧ (∀ n, n ≠ m.val → Tabs.val x.lowWord 0 n = Tabs.val s.mb.lowWord 0 n)) ∧
  (∀ (m : Fin 16) (c : Fin 64) (v : BitVec 32) (s : State), s.m.hears m = true →
    ((s.mb.chan c).length = 32 → exec (.mailboxPost m c v) s = .next (s.having (s.m.inc MB_DROP_ALL c))) ∧
    ((s.mb.chan c).length < 32 → ∃ (n : BitVec 64) (x : MbSt) (t : Mach),
      exec (.mailboxPost m c v) s = .next { s with mb := { s.mb with chans := x.chans }, m := { s.m with regs := t.regs } } ∧
      x.chan c = s.mb.chan c ++ [n] ∧ (∀ e, e ≠ c.val → x.chan e = s.mb.chan e) ∧
      n.extractLsb' 0 32 = Tabs.val s.mb.lowWord 0 m ∧ n.extractLsb' 32 16 = v.extractLsb' 0 16 ∧
      n.extractLsb' 48 4 = BitVec.ofFin m ∧ n.extractLsb' 52 4 = BitVec.ofNat 4 (s.mb.epoch m) ∧
      n.extractLsb' 56 8 = v.extractLsb' 16 8 ∧ n ≠ 0 ∧ t.r MB_STATUS_LEVEL c = (s.mb.chan c).length + 1 ∧
      regsKept [MB_STATUS_LEVEL.off c 0] s.m t)) ∧
  (∀ (m : Fin 16) (c : Fin 64) (s : State), s.m.hears m = true →
    ∃ (x : MbSt) (t : Mach), exec (.mailboxPop m c) s = .next { s with mb := x, m := t } ∧
      t = { s.m with regs := t.regs, out := t.out } ∧
      t.out = s.m.out ++ [.read m (MB_POP_LO_ALL.off c 0) (((s.mb.chan c).headD 0).extractLsb' 0 32)] ∧
      Tabs.val x.highWord 0 (16 * c + m) = ((s.mb.chan c).headD 0).extractLsb' 32 32 ∧
      (∀ k, k ≠ 16 * c.val + m.val → Tabs.val x.highWord 0 k = Tabs.val s.mb.highWord 0 k) ∧ x.chan c = (s.mb.chan c).drop 1 ∧
      (∀ e, e ≠ c.val → x.chan e = s.mb.chan e) ∧ x.owners = s.mb.owners ∧ x.epochs = s.mb.epochs ∧
      x.lowWord = s.mb.lowWord ∧ regsKept [MB_STATUS_LEVEL.off c 0] s.m t) ∧
  (∀ (m : Fin 16) (c : Fin 64) (s : State), s.m.hears m = true → Tabs.rising none s.mb.highWord = true →
    let u := s.m.emit (.read m (MB_POP_HI_ALL.off c 0) (Tabs.val s.mb.highWord 0 (16 * c + m)))
    ∃ x : MbSt, exec (.readClearRegisterRead m .bar0 (MB_POP_HI_ALL.off c 0)) s =
        .next { s with mb := { s.mb with highWord := x.highWord }, m := u } ∧
      Tabs.val x.highWord 0 (16 * c + m) = 0 ∧
      (∀ k, k ≠ 16 * c.val + m.val → Tabs.val x.highWord 0 k = Tabs.val s.mb.highWord 0 k)) ∧
  (∀ (m : Fin 16) (k : Fin 64) (s : State), s.m.hears m = true →
    (s.mb.owner k = 0 → ∃ (x : MbSt) (t : Mach), exec (.lockAcquireRead m k) s =
        .next { s with mb := { s.mb with owners := x.owners }, m := t } ∧ t = { s.m with regs := t.regs, out := t.out } ∧
      t.out = s.m.out ++ [.read m (LOCK_OWNER.off k 0) 0] ∧
      x.owner k = m ∧ (∀ j, j ≠ k.val → x.owner j = s.mb.owner j) ∧ t.r LOCK_OWNER_OWNER k = m ∧
      regsKept [LOCK_OWNER_OWNER.off k 0] s.m t) ∧
    (s.mb.owner k ≠ 0 → exec (.lockAcquireRead m k) s = .next (s.having
      (s.m.emit (.read m (LOCK_OWNER.off k 0) (BitVec.ofNat 32 (s.mb.owner k))))))) ∧
  (∀ (m : Fin 16) (k : Fin 64) (v : BitVec 32) (s : State), s.m.hears m = true →
    (v = 0 → s.mb.owner k = m → ∃ (x : MbSt) (t : Mach), exec (.lockReleaseWrite m k v) s =
        .next { s with mb := { s.mb with owners := x.owners }, m := { s.m with regs := t.regs } } ∧
      x.owner k = 0 ∧ (∀ j, j ≠ k.val → x.owner j = s.mb.owner j) ∧ t.r LOCK_OWNER_OWNER k = 0 ∧
      regsKept [LOCK_OWNER_OWNER.off k 0] s.m t) ∧
    (v ≠ 0 ∨ s.mb.owner k ≠ m → exec (.lockReleaseWrite m k v) s = .next (s.having (s.m.inc LOCK_BAD_WR_ALL)))) ∧
  (∀ (m : Fin 16) (s : State),
    let mine := (List.range 64).filter (fun k => s.mb.owner k == m)
    let named := le 1 m ++ le 8 ((mine.map (fun k => 2 ^ k)).sum)
    (m ≠ 0 → ∃ (x : MbSt) (t : Mach),
      exec (.masterReset m) s = .next { s with mb := x, m := if mine = [] then t else t.event 0x0B03 2 27 named } ∧
      x.epoch m = (s.mb.epoch m + 1) % 16 ∧ (∀ n, n ≠ m.val → x.epoch n = s.mb.epoch n) ∧
      (∀ k : Fin 64, x.owner k = if s.mb.owner k = m then 0 else s.mb.owner k) ∧
      (∀ c : Fin 64, s.m.r MB_CFG_RX_DOMAIN c = m → x.chan c = [] ∧
        t.r MB_LOST_ALL c = min (s.m.r MB_LOST_ALL c + (s.mb.chan c).length) 0xFFFFFFFF) ∧
      (∀ c : Fin 64, s.m.r MB_CFG_RX_DOMAIN c ≠ m → x.chan c = s.mb.chan c) ∧
      x.lowWord = s.mb.lowWord ∧ x.highWord = s.mb.highWord ∧ t = { s.m with regs := t.regs } ∧
      t.r LOCK_RESET_REL_ALL = min (s.m.r LOCK_RESET_REL_ALL + mine.length) 0xFFFFFFFF))

/-- Line crossings, assignment of energy, saves, the cross-check, power, pulses and METER_READ.
The model's choices in it are those of log entries 50, 53. -/
def Obligations.ElementsMeterSaveAndPulse : Prop :=
  (∀ (d : Fin 16) (r : Bool) (l : List MetEdge) (s : State), s.m.met.kept = [] →
    (s.m.r INTC_BLK_FAULT_STATE 20 ≠ 3 → exec (.zeroCrossing d r l) s = .next (s.having ((s.m.metStream l).metFeed l))) ∧
    (s.m.r INTC_BLK_FAULT_STATE 20 = 3 → exec (.zeroCrossing d r l) s = .next s)) ∧
  (∀ (m : Mach) (e : MetEdge) (l : List MetEdge),
    m.metFeed (e :: l) = (m.each (List.range 16) (fun t d => t.metOne e d)).metFeed l ∧ m.metFeed [] = m) ∧
  (∀ (m : Mach) (e : MetEdge) (d : Fin 16),
    let x := m.metEl d
    let i := m.metInputs d e
    let y := m.metSample d x i
    let t := m.metOne e d
    let near := x.lastZc.any (fun u => m.now - u ≤ m.r MET_EL_ZC_ZC_TMO d)
    let n := if near then min (x.zcRun + 1) 4 else 0
    i.1 = e.v.getD (m.r MET_EL_CFG_VSEL d) 0 ∧ i.2 = e.i.getD d 0 ∧ y.e.acc - x.e.acc = y.second - x.second ∧
    (m.metRuns d = false → t = m) ∧
    (m.metRuns d = true → t = { m with met := t.met, regs := t.regs } ∧ (∀ k, k ≠ d.val → t.metEl k = m.metEl k) ∧
      (t.metEl d).second = y.second ∧ t.r MET_CLIP_ALL d = min (m.r MET_CLIP_ALL d + b2n (clipped i)) 0xFFFFFFFF ∧
      (crossing x.sign y.sign = none → t.metEl d = y ∧ t.metState d = m.metState d) ∧
      (∀ r, crossing x.sign y.sign = some r → (t.metEl d).lastZc = some m.now ∧ (t.metEl d).zcRun = n ∧
        t.metState d = (if m.metState d = 1 ∧ n = 4 then 2 else m.metState d) ∧
        (m.metState d = 1 ∨ r = false → (t.metEl d).e = y.e) ∧
        (m.metState d = 2 → r = true → (t.metEl d).e = (((m.putMetEl d y).metAssign d).metEl d).e)))) ∧
  (∀ (d : Fin 16) (s : State),
    let due := s.m.metRuns d = true ∧ s.m.metState d = 2 ∧ ∃ u, (s.m.metEl d).lastZc = some u ∧
      u + s.m.r MET_EL_ZC_ZC_TMO d < s.m.now
    (due → ∃ t : Mach, exec (.lineLost d) s = .next (s.having t) ∧ t.metState d = 1 ∧ t.b MET_EL_STATUS_LINE_LOST d = true ∧
      (t.metEl d).lastZc = none ∧ (t.metEl d).zcRun = 0 ∧ (t.metEl d).e.acc = 0 ∧
      (∀ k, k ≠ d.val → t.metEl k = s.m.metEl k) ∧ t.kiln = s.m.kiln ∧ t.nv = s.m.nv) ∧
    (¬ due → exec (.lineLost d) s = .next s)) ∧
  (∀ (m : Mach) (d : Fin 16),
    let e := (m.metEl d).e
    let e' := ((m.metAssign d).metEl d).e
    let imp := 0 ≤ e.acc ∨ m.b MET_EL_CFG_ABS d = true
    e'.acc = 0 ∧
    (imp → e'.imp * 2 ^ 32 + e'.fracImp = (e.imp * 2 ^ 32 + e.fracImp + e.acc.natAbs) % 2 ^ 96) ∧
    (imp → e'.exp = e.exp ∧ e'.fracExp = e.fracExp ∧ e'.intExp = e.intExp) ∧
    (¬ imp → e'.imp = e.imp ∧ e'.fracImp = e.fracImp ∧ e'.intImp = e.intImp ∧
      e'.exp = (e.exp + (e.fracExp + e.acc.natAbs) / 2 ^ 32) % 2 ^ 64) ∧
    (m.isStandby = false → e'.owed * pulseUnit + e'.residue = e.owed * pulseUnit + e.residue +
        pulseEnergy (m.r MET_PULSE_CFG_SRC d) (decide (0 ≤ e.acc) || m.b MET_EL_CFG_ABS d) e.acc.natAbs *
          m.r MET_PULSE_CFG_CONST d ∧ e'.residue < pulseUnit ∧
      (imp → (m.metAssign d).r MET_TOT_IMP_LO_ALL d + 2 ^ 32 * (m.metAssign d).r MET_TOT_IMP_HI_ALL d = e'.imp)) ∧
    (m.isStandby = true → e'.owed * pulseUnit + e'.residue = e.owed * pulseUnit + e.residue)) ∧
  (∀ (ok : Bool) (s : State),
    let due := s.m.met.restored = true ∧ s.m.met.stopped = false ∧ s.m.msInt % 10 = 0 ∧ s.m.met.savedAt ≠ some s.m.now ∧
      s.m.r INTC_BLK_FAULT_STATE 20 ≠ 3
    let seq := (s.m.nv.metSeq + 1) % 2 ^ 32
    let slot : MetSlot := { seq := seq, pt := s.m.pt, final := false, els := (List.range 16).map s.m.metShown, crc := 0 }
    (due → Tabs.rising none s.m.nv.slots = true → ∃ t : Mach, exec (.meterSave ok) s = .next (s.having t) ∧ t.nv.metSeq = seq ∧
      Tabs.look t.nv.slots (seq % 8) = (if ok then some slot.sealed else none) ∧ slot.sealed.valid = true ∧
      (∀ k, k ≠ seq % 8 → Tabs.look t.nv.slots k = Tabs.look s.m.nv.slots k) ∧
      (ok = true → t.r MET_SAVE_SEQ_ALL = seq ∧ t.r MET_SAVE_PT_ALL = s.m.pt) ∧
      (ok = false → t.r MET_SAVE_FAIL_ALL = min (s.m.r MET_SAVE_FAIL_ALL + 1) 0xFFFFFFFF) ∧ t.met.els = s.m.met.els ∧
      t.kiln = s.m.kiln ∧ t.hostMem = s.m.hostMem) ∧
    (¬ due → exec (.meterSave ok) s = .next s)) ∧
  (∀ (p : PowerDip) (s : State),
    let low := p.vin.toNat < max 2600 (s.m.r PWR_VIN_VW_MV)
    let seq := (s.m.nv.metSeq + 1) % 2 ^ 32
    let slot : MetSlot := { seq := seq, pt := s.m.pt, final := true, els := (List.range 16).map s.m.metShown, crc := 0 }
    (¬ low → exec (.powerFailWarning p) s = .next s) ∧
    (low → ∃ t : Mach, exec (.powerFailWarning p) s = .next (s.having t) ∧ t.met.stopped = true ∧
      t.boot = { s.m.boot with powerFail := true } ∧ t.met.els = s.m.met.els ∧
      (s.m.met.restored = false ∨ s.m.met.stopped = true → t.nv = s.m.nv ∧ t.regs = s.m.regs) ∧
      (s.m.met.restored = true → s.m.met.stopped = false → p.saved = true →
        Tabs.look t.nv.slots (seq % 8) = some slot.sealed))) ∧
  (∀ s : State,
    let due := s.m.isStandby = true ∧ s.m.mirror = 3 ∧ s.m.met.xchkAt + 60000 ≤ s.m.now
    (¬ due → exec .meterCrossCheck s = .next s) ∧
    (due → ∃ t : Mach, exec .meterCrossCheck s = .next (s.having t) ∧ t.met.xchkAt = s.m.now ∧ t.kiln = s.m.kiln ∧
      (∀ d : Fin 16, ∀ y, (s.m.metEl d).mir = some y →
        let x := s.m.metEl d
        let own : Int := (x.ownAt : Int) - (x.xOwn : Int)
        let mir : Int := ((y.imp + y.exp : Nat) : Int) - (x.xMir : Int)
        let dev := max (-(2 ^ 31 : Int)) (min (2 ^ 31 - 1) ((own - mir) * 10000 / mir))
        t.metEl d = { x with xOwn := x.ownAt, xMir := y.imp + y.exp } ∧
        (mir ≠ 0 → t.r MET_XCHK_ALL d = unsgn 32 dev) ∧
        (10000 ≤ mir → s.m.r MET_XCHK_CFG_LIM < dev.natAbs → t.b MET_EL_STATUS_XCHK_FAIL d = true)))) ∧
  (∀ s : State,
    let due := s.m.totalNs % 1000000000 < 1000000 ∧ s.m.met.powerAt ≠ some s.m.now
    (due → ∃ t : Mach, exec .meterPowerUpdate s = .next (s.having { s.m with met := t.met, regs := t.regs }) ∧
      t.met.powerAt = some s.m.now ∧
      (∀ d : Fin 16, t.r MET_POWER_ALL d = unsgn 32 ((s.m.metEl d).second * 36 / (10 * 2 ^ 32)) ∧
        t.metEl d = { s.m.metEl d with second := 0 })) ∧
    (¬ due → exec .meterPowerUpdate s = .next s)) ∧
  (∀ (d : Fin 16) (s : State),
    let x := s.m.metEl d
    let due := s.m.takes .metering = true ∧ s.m.b MET_PULSE_CFG_PEN d = true ∧ s.m.b REDUN_STATUS_GRANTED = true ∧
      s.m.isActive = true ∧ x.pulse = none ∧ 0 < x.e.owed ∧ x.freeAt ≤ s.m.now ∧ s.m.metState d ≠ 3
    (due → ∃ t : Mach, exec (.pulseStart d) s = .next (s.having { s.m with met := t.met, regs := t.regs }) ∧
      t.metEl d = { x with e := { x.e with owed := x.e.owed - 1 }, pulse := some s.m.now } ∧
      (∀ k, k ≠ d.val → t.metEl k = s.m.metEl k)) ∧
    (¬ due → exec (.pulseStart d) s = .next s)) ∧
  (∀ (d : Fin 16) (s : State),
    let x := s.m.metEl d
    let due := ∃ u, x.pulse = some u ∧ u + s.m.r MET_PULSE_CFG_WIDTH d ≤ s.m.now
    (due → ∃ t : Mach, exec (.pulseEnd d) s = .next (s.having { s.m with met := t.met, regs := t.regs }) ∧
      t.metEl d = { x with pulse := none, freeAt := s.m.now + s.m.r MET_PULSE_CFG_WIDTH d } ∧
      (∀ k, k ≠ d.val → t.metEl k = s.m.metEl k)) ∧
    (¬ due → exec (.pulseEnd d) s = .next s)) ∧
  (∀ (d : Desc) (s : State), s.m.starts 0x0600 d →
    (Descs.buf d = false ∨ Descs.len d < 640 →
      exec (.meterRead d) s = .next (s.having (s.m.complete (d.as 0x0600) stRANGE))) ∧
    (Descs.buf d = true → 640 ≤ Descs.len d → exec (.meterRead d) s = .next (s.having
      ((s.m.bufWr (d.as 0x0600) 0 s.m.metRecords.flatten).complete (d.as 0x0600) stOK (le 4 s.m.pt))))) ∧
  (∀ m : Mach,
    (m.met.bound = [] → m.metRecords = (List.range 16).map m.metRecordNow) ∧ (m.met.bound ≠ [] → m.metRecords = m.met.bound) ∧
    (∀ d : Fin 16, (m.metRecordNow d).length = 40) ∧ m.metBound.met.bound.length = 16)

/-- What MOVE, HOME, HALT, RESUME and FLUSH do, an axis's enable and disable, and its sine table.
The model's choices in it are those of log entries 13, 14. -/
def Obligations.AxesTakeTheirCommands : Prop :=
  (∀ (d : Desc) (s : State),
    let a := Descs.fld d 16 1
    let up := s.m.takes .motion = true ∧ s.m.b MOT_AX_CTRL_EN a = true ∧ (s.m.axis a).stop = none
    let mv := moveOf (d.as 0x0700)
    let good := 0 < mv.vel ∧ mv.vel ≤ s.m.r MOT_AX_VMAX_VMAX a ∧ 0 < mv.acc ∧ 0 < mv.dec ∧ (mv.jerk = true → 0 < mv.jrk)
    let hgood := Descs.fld d 17 1 ≤ 2 ∧ Descs.fld d 18 1 ≤ 1
    (s.m.starts 0x0700 d → 7 < a ∨ ¬ good → exec (.move d) s = .next (s.having (s.m.motDone a (d.as 0x0700) stRANGE))) ∧
    (s.m.starts 0x0701 d → 7 < a ∨ ¬ hgood → exec (.home d) s = .next (s.having (s.m.motDone a (d.as 0x0701) stRANGE))) ∧
    (s.m.starts 0x0700 d → a ≤ 7 → good → s.m.takes .motion = false ∨ s.m.b MOT_AX_CTRL_EN a = false →
      exec (.move d) s = .next (s.having (s.m.motDone a (d.as 0x0700) stNOT_ENABLED))) ∧
    (s.m.starts 0x0700 d → a ≤ 7 → good → up → s.m.isActive = false →
      exec (.move d) s = .next (s.having (s.m.motDone a (d.as 0x0700) stNOT_ACTIVE_ROLE))) ∧
    (s.m.starts 0x0700 d → a ≤ 7 → good → up → s.m.isActive = true → 16 ≤ (s.m.axis a).count →
      exec (.move d) s = .next (s.having (s.m.motDone a (d.as 0x0700) stQUEUE_FULL))) ∧
    (s.m.starts 0x0700 d → a ≤ 7 → good → up → s.m.isActive = true → (s.m.axis a).count < 16 →
      ∃ t : Mach, exec (.move d) s = .next (s.having { s.m with mot := t.mot, regs := t.regs }) ∧
        t.axis a = { s.m.axis a with queue := (s.m.axis a).queue ++ [mv] } ∧ (∀ b, b ≠ a → t.axis b = s.m.axis b) ∧
        t.r MOT_AX_STATUS_QUEUE a = (s.m.axis a).count + 1 ∧ t.pos a = s.m.pos a ∧ t.axState a = s.m.axState a)) ∧
  (∀ (d : Desc) (s : State), s.m.starts 0x0701 d →
    let a := Descs.fld d 16 1
    let kind := Descs.fld d 17 1
    let neg := Descs.fld d 18 1 == 1
    let x := s.m.axis a
    let up := a ≤ 7 ∧ kind ≤ 2 ∧ Descs.fld d 18 1 ≤ 1 ∧ s.m.takes .motion = true ∧ s.m.b MOT_AX_CTRL_EN a = true ∧
      s.m.isActive = true ∧ x.stop = none
    let busy := x.remain.isSome = true ∨ x.count ≠ 0 ∨ x.home.isSome = true
    let free := (s.m.r MOT_STATUS_QSTOP).testBit a = false ∧ s.m.ilkBlocks a = false ∧ s.m.b MOT_AX_STATUS_CHATTER a = false
    let there := if kind = 0 then (s.m.r MOT_AX_STATUS_SW a).testBit 0 else s.m.limitActive a neg
    let turn := kind == 0 && s.m.limitActive a neg && !there
    (up → (s.m.r MOT_STATUS_QSTOP).testBit a = true →
      exec (.home d) s = .next (s.having (s.m.motDone a (d.as 0x0701) stSTOPPED))) ∧
    (up → free → busy → exec (.home d) s = .next (s.having (s.m.motDone a (d.as 0x0701) stBUSY))) ∧
    (up → free → ¬ busy → kind ≤ 1 ∨ there = false → ∃ t : Mach, exec (.home d) s = .next (s.having
        { s.m with mot := t.mot, regs := t.regs, chop := t.chop }) ∧ t.axState a = 3 ∧ t.b MOT_AX_STATUS_HOMED a = false ∧
        t.b MOT_AX_STATUS_BRIDGE a = true ∧ (t.axis a).home = some ⟨d.as 0x0701, kind, neg,
          if there then .latch else if turn then .back false else .search, s.m.pos a, turn⟩ ∧ (∀ b, b ≠ a → t.axis b = s.m.axis b) ∧ t.pos a = s.m.pos a) ∧
    (up → free → ¬ busy → kind = 2 → there = true → ∃ t : Mach, exec (.home d) s = .next (s.having t) ∧ t.axState a = 4 ∧
        t.b MOT_AX_STATUS_HOME_FAIL a = true ∧ t.r MOT_AX_STATUS_HFAIL_REASON a = 3)) ∧
  (∀ (d : Desc) (s : State),
    let a := Descs.fld d 16 1
    let x := s.m.axis a
    let up := a ≤ 7 ∧ s.m.takes .motion = true ∧ s.m.b MOT_AX_CTRL_EN a = true ∧ s.m.isActive = true ∧ x.stop = none
    (s.m.starts 0x0702 d → up → s.m.inMotion a = false →
      exec (.halt d) s = .next (s.having (s.m.motDone a (d.as 0x0702) stOK))) ∧
    (s.m.starts 0x0702 d → up → s.m.inMotion a = true → ∃ t : Mach,
      exec (.halt d) s = .next (s.having { s.m with mot := t.mot, regs := t.regs }) ∧ t.axState a = 4 ∧
      t.axis a = { x with halts := x.halts ++ [d.as 0x0702],
                          stop := some ⟨stSTOPPED, false, true, false, s.m.now + s.m.r MOT_AX_STOP_STOP_MS a, 0,
                            match x.run with
                              | some (mv, _) => mv.dec
                              | none => s.m.stopDec a⟩ }) ∧
    (s.m.starts 0x0703 d → up → s.m.b MOT_AX_STATUS_UNCERTAIN a = false → x.remain = none →
      exec (.resume d) s = .next (s.having (s.m.motDone a (d.as 0x0703) 0x17))) ∧
    (s.m.starts 0x0703 d → up → s.m.b MOT_AX_STATUS_UNCERTAIN a = true →
      exec (.resume d) s = .next (s.having (s.m.motDone a (d.as 0x0703) 0x16))) ∧
    (∀ mv e st, s.m.starts 0x0703 d → up → x.remain = some (mv, e) → s.m.b MOT_AX_STATUS_UNCERTAIN a = false →
      s.m.moveCheck a (!mv.rel) e = some st → exec (.resume d) s = .next (s.having (s.m.motDone a (d.as 0x0703) st))) ∧
    (∀ mv e, s.m.starts 0x0703 d → up → x.remain = some (mv, e) → s.m.b MOT_AX_STATUS_UNCERTAIN a = false →
      s.m.moveCheck a (!mv.rel) e = none → 16 ≤ x.count →
      exec (.resume d) s = .next (s.having (s.m.motDone a (d.as 0x0703) stQUEUE_FULL))) ∧
    (∀ mv e, s.m.starts 0x0703 d → up → x.remain = some (mv, e) → s.m.b MOT_AX_STATUS_UNCERTAIN a = false →
      s.m.moveCheck a (!mv.rel) e = none → x.count < 16 → ∃ t : Mach,
        exec (.resume d) s = .next (s.having { s.m with mot := t.mot, regs := t.regs, chop := t.chop }) ∧ t.axState a = 2 ∧
        t.b MOT_AX_STATUS_BRIDGE a = true ∧ (t.axis a).remain = none ∧
        (t.axis a).run = some ({ mv with d := d.as 0x0703, late := false }, e) ∧ (t.axis a).queue = x.queue) ∧
    (s.m.starts 0x0704 d → up → ∃ t : Mach,
      exec (.flush d) s = .next (s.having (t.motDone a (d.as 0x0704) stOK x.queue.length)) ∧ (t.axis a).queue = [] ∧
      (t.axis a).remain = none ∧ (t.axis a).run = x.run ∧
      t.axState a = (if s.m.axState a = 6 ∨ s.m.axState a = 7 then 1 else s.m.axState a))) ∧
  (∀ (a : Fin 8) (s : State),
    let bad := s.m.r MOT_AX_STOP_STOP_MS a * s.m.r MOT_AX_STOP_STOP_DEC a < s.m.r MOT_AX_VMAX_VMAX a ∨
      s.m.ri MOT_AX_TRAVEL_MAX_ALL a ≤ s.m.ri MOT_AX_TRAVEL_MIN_ALL a
    (s.m.b MOT_AX_CTRL_EN a = true → exec (.axisEnable a) s = .next s) ∧
    (s.m.b MOT_AX_CTRL_EN a = false → bad → exec (.axisEnable a) s = .next (s.having (s.m.w MOT_AX_CTRL_CFG_ERR 1 a))) ∧
    (s.m.b MOT_AX_CTRL_EN a = false → ¬ bad → ∃ t : Mach,
      exec (.axisEnable a) s = .next (s.having { s.m with regs := t.regs }) ∧ t.b MOT_AX_CTRL_EN a = true ∧
      t.b MOT_AX_CTRL_CFG_ERR a = false ∧ t.axState a = 1 ∧
      regsKept [MOT_AX_CTRL_EN.off a 0, MOT_AX_STATUS_STATE.off a 0] s.m t) ∧
    (s.m.isActive = false → exec (.axisDisable a) s = .next (s.having (s.m.w MOT_AX_CTRL_EN 0 a))) ∧
    (s.m.isActive = true → s.m.b MOT_AX_CTRL_EN a = false → exec (.axisDisable a) s = .next s) ∧
    (s.m.isActive = true → s.m.b MOT_AX_CTRL_EN a = true → s.m.inMotion a = false → ∃ t : Mach,
      exec (.axisDisable a) s = .next (s.having t) ∧ t.b MOT_AX_CTRL_EN a = false ∧ t.axState a = 0 ∧
      t.b MOT_AX_STATUS_BRIDGE a = false ∧ (t.axis a).queue = [] ∧ t.kiln = s.m.kiln) ∧
    (s.m.isActive = true → s.m.b MOT_AX_CTRL_EN a = true → s.m.inMotion a = true → ∃ t : Mach,
      exec (.axisDisable a) s = .next (s.having t) ∧ t.axState a = 4 ∧ (t.axis a).queue = [] ∧
      (t.axis a).stop = some (s.m.stopWith a
        ⟨stSTOPPED, true, false, true, s.m.now + s.m.r MOT_AX_STOP_STOP_MS a, 0, s.m.stopDec a⟩))) ∧
  (∀ (a : Fin 8) (w : Fin 64) (v : BitVec 32) (s : State),
    (s.m.b MOT_AX_CTRL_EN a = true → exec (.sineTableWrite a w v) s = .next (s.having (s.m.inc MOT_TBL_REFUSED_ALL))) ∧
    (s.m.b MOT_AX_CTRL_EN a = false → ∃ t : Mach,
      exec (.sineTableWrite a w v) s = .next (s.having { s.m with regs := t.regs }) ∧ t.r MOT_TBL_ENTRIES a w = v.toNat ∧
      regsKept [MOT_TBL_ENTRIES.off a w] s.m t))

/-- Starts and ends of moves, overcurrent, switches, homing phases, rest and the end of a stop.
The model's choices in it are those of log entries 7, 13, 14. -/
def Obligations.AxesMoveHomeAndStop : Prop :=
  (∀ (a : Fin 8) (s : State),
    let x := s.m.axis a
    let idle := x.run = none ∧ x.remain = none ∧ x.home = none ∧ x.stop = none ∧ s.m.takes .motion = true ∧
      s.m.b MOT_AX_CTRL_EN a = true ∧ s.m.isActive = true
    let win : Int := s.m.r MOT_AX_CFG_LATE_WIN a
    let fresh := fun mv : Move => mv.sched = true ∧ s.m.axState a ≠ 7
    let waits := fun mv : Move => mv.sched = true ∧ s.m.axState a = 7
    let check := fun mv : Move => s.m.moveCheck a (!mv.rel) (s.m.moveEnd a mv)
    (¬ idle ∨ x.queue = [] → exec (.moveStart a) s = .next s) ∧
    (∀ mv rest, idle → x.queue = mv :: rest → waits mv → diff32 s.m.pt mv.startPt < 0 → exec (.moveStart a) s = .next s) ∧
    (∀ mv rest, idle → x.queue = mv :: rest → fresh mv → check mv = none → diff32 s.m.pt mv.startPt < 0 → ∃ t : Mach,
      exec (.moveStart a) s = .next (s.having { s.m with mot := t.mot, regs := t.regs, chop := t.chop }) ∧
      t.axis a = { x with hold := true } ∧ t.axState a = 7 ∧ t.b MOT_AX_STATUS_BRIDGE a = true ∧ t.pos a = s.m.pos a) ∧
    (∀ mv rest, idle → x.queue = mv :: rest → fresh mv → check mv = none → win < diff32 s.m.pt mv.startPt → ∃ t : Mach,
      exec (.moveStart a) s = .next (s.having ((t.motDone a mv.d stEXPIRED).setAxState a 1)) ∧ t.axis a = { x with queue := rest }) ∧
    (∀ mv rest, idle → x.queue = mv :: rest → check mv = none →
      let late := diff32 s.m.pt mv.startPt
      let e := if mv.rel then s.m.pos a + mv.target else mv.target
      let go := if fresh mv ∧ 0 < late then { mv with late := true } else mv
      mv.sched = false ∨ (waits mv ∧ 0 ≤ late) ∨ (fresh mv ∧ 0 ≤ late ∧ late ≤ win) → ∃ t : Mach,
        exec (.moveStart a) s = .next (s.having { s.m with mot := t.mot, regs := t.regs, chop := t.chop }) ∧
        t.axis a = { x with queue := rest, run := some (go, e), restAt := none, hold := false, brake := false } ∧ t.axState a = 2 ∧
        t.b MOT_AX_STATUS_BRIDGE a = true ∧ t.pos a = s.m.pos a ∧ (∀ b, b ≠ a.val → t.axis b = s.m.axis b)) ∧
    (∀ mv rest st, idle → x.queue = mv :: rest → check mv = some st → ¬ waits mv ∨ 0 ≤ diff32 s.m.pt mv.startPt → ∃ t : Mach,
        exec (.moveStart a) s = .next (s.having t) ∧ (t.axis a).queue = [] ∧ (t.axis a).run = none ∧ t.pos a = s.m.pos a)) ∧
  (∀ (a : Fin 8) (s : State),
    let x := s.m.axis a
    (x.run = none → exec (.moveComplete a) s = .next s) ∧
    (∀ mv e, x.run = some (mv, e) → s.m.pos a ≠ e ∨ x.stop.isSome = true ∨ s.m.isActive = false →
      exec (.moveComplete a) s = .next s) ∧
    (∀ mv, x.run = some (mv, s.m.pos a) → s.m.joint a mv (s.m.pos a) = none → s.m.canRest a mv.dec = false →
      exec (.moveComplete a) s = .next s) ∧
    (∀ mv, x.run = some (mv, s.m.pos a) → x.stop = none → s.m.isActive = true → s.m.joint a mv (s.m.pos a) = none →
      s.m.canRest a mv.dec = true → ∃ t : Mach,
      exec (.moveComplete a) s = .next (s.having ((t.motDone a mv.d (if mv.late then stLATE else stOK)).setAxState a 1)) ∧
      t.axis a = { x with run := none, restAt := some s.m.now, hold := false, change := 0 } ∧ t.vel a = 0 ∧
      t.pos a = s.m.pos a ∧ (t.r MOT_STATUS_MOVING).testBit a = false) ∧
    (∀ mv nx e v, x.run = some (mv, s.m.pos a) → s.m.joint a mv (s.m.pos a) = some (nx, e, v) → s.m.canReach a mv.dec v = false →
      exec (.moveComplete a) s = .next s) ∧
    (∀ mv nx e v, x.run = some (mv, s.m.pos a) → x.stop = none → s.m.isActive = true →
      s.m.joint a mv (s.m.pos a) = some (nx, e, v) → s.m.canReach a mv.dec v = true → ∃ t : Mach,
      exec (.moveComplete a) s = .next (s.having t) ∧ (t.axis a).run = some (nx, e) ∧ (t.axis a).queue = x.queue.drop 1) ∧
    (∀ mv, x.queue = [] ∨ mv.blend = false ∨ x.brake = true → s.m.joint a mv (s.m.pos a) = none)) ∧
  (∀ (a : Fin 8) (s : State),
    let k := s.m.stopWith a ⟨0x18, true, false, false, s.m.now, 0, 0⟩
    (s.m.b MOT_AX_STATUS_BRIDGE a = false ∨ s.m.isActive = false → exec (.overcurrent a) s = .next s) ∧
    (s.m.b MOT_AX_STATUS_BRIDGE a = true → s.m.isActive = true → ∃ t : Mach, exec (.overcurrent a) s = .next (s.having t) ∧
      t.b MOT_AX_STATUS_BRIDGE a = false ∧ t.b MOT_AX_STATUS_OVERCUR a = true ∧ t.axState a = (if k.dis then 0 else 5) ∧ t.vel a = 0 ∧
      t.r MOT_AX_OVERCUR_ALL a = min (s.m.r MOT_AX_OVERCUR_ALL a + 1) 0xFFFFFFFF ∧ (t.axis a).run = none ∧
      (t.axis a).home = none ∧ (s.m.vel a ≠ 0 → t.b MOT_AX_STATUS_UNCERTAIN a = true ∧ t.b MOT_AX_STATUS_HOMED a = false))) ∧
  (∀ (a : Fin 8) (s : State),
    (∀ h, (s.m.axis a).home = some h → h.kind = 2 → h.phase = .search → (s.m.axis a).stop = none →
      s.m.isActive = true → ∃ t : Mach, exec (.homingStall a) s = .next (s.having { s.m with mot := t.mot, regs := t.regs }) ∧
      t.axis a = { s.m.axis a with home := some { h with start := s.m.pos a, phase := .latch } } ∧ t.vel a = 0 ∧
      t.pos a = s.m.pos a) ∧
    ((∀ h, (s.m.axis a).home = some h → h.kind ≠ 2 ∨ h.phase ≠ .search ∨ (s.m.axis a).stop.isSome = true ∨ s.m.isActive = false) →
      exec (.homingStall a) s = .next s)) ∧
  (∀ (a : Fin 8) (k : Fin 3) (s : State),
    let w := Tabs.val (s.m.axis a).sw {} k
    let n := (w.times.filter (fun t => s.m.now < t + 20)).length
    (n < 4 → ∃ t : Mach, exec (.switchRawTransition a k) s = .next (s.having { s.m with mot := t.mot, regs := t.regs }) ∧
      (Tabs.val (t.axis a).sw {} k).raw = !w.raw ∧ (Tabs.val (t.axis a).sw {} k).edge = s.m.pos a ∧
      (Tabs.val (t.axis a).sw {} k).last = some s.m.now ∧
      (Tabs.val (t.axis a).sw {} k).times.length = n + 1 ∧ t.axState a = s.m.axState a) ∧
    (4 ≤ n → ∃ t : Mach, exec (.switchRawTransition a k) s = .next (s.having t) ∧ t.b MOT_AX_STATUS_CHATTER a = true ∧
      (Tabs.val (t.axis a).sw {} k).raw = !w.raw ∧
      t.r MOT_AX_CHATTER_ALL a = min (s.m.r MOT_AX_CHATTER_ALL a + 1) 0xFFFFFFFF)) ∧
  (∀ (a : Fin 8) (k : Fin 3) (s : State),
    let x := s.m.axis a
    let w := Tabs.val x.sw {} k
    let old := (s.m.r MOT_AX_STATUS_SW a).testBit k
    let long := s.m.heldLong a w = true
    (w.raw = old ∨ ¬ long → exec (.switchDebounceChange a k) s = .next s) ∧
    (w.raw ≠ old → long → x.home = none → x.run = none → ∃ t : Mach,
      exec (.switchDebounceChange a k) s = .next (s.having { s.m with regs := t.regs }) ∧
      (t.r MOT_AX_STATUS_SW a).testBit k = w.raw ∧ (∀ j : Fin 3, j ≠ k → (t.r MOT_AX_STATUS_SW a).testBit j =
        (s.m.r MOT_AX_STATUS_SW a).testBit j) ∧ regsKept [MOT_AX_STATUS_SW.off a 0] s.m t) ∧
    (∀ mv e o, w.raw = true → old = false → long → s.m.isActive = true → x.home = none → x.stop = some o → o.off = false →
      x.run = some (mv, e) → k.val = (if e < s.m.pos a then 2 else 1) → ∃ t : Mach,
        exec (.switchDebounceChange a k) s = .next (s.having { s.m with mot := t.mot, regs := t.regs }) ∧
        t.b MOT_AX_STATUS_LIMIT_HIT a = true ∧ t.axis a = { x with
          stop := some ⟨0x11, false, o.pause, false, s.m.now + s.m.r MOT_AX_STOP_STOP_MS a, 0, s.m.stopDec a⟩ }) ∧
    (∀ mv e, w.raw = true → old = false → long → s.m.isActive = true → x.home = none → x.stop = none → x.run = some (mv, e) →
      k.val = (if e < s.m.pos a then 2 else 1) → ∃ t : Mach, exec (.switchDebounceChange a k) s = .next (s.having t) ∧
        t.b MOT_AX_STATUS_LIMIT_HIT a = true ∧ t.axState a = 4 ∧ (t.axis a).run = x.run ∧
        (t.axis a).stop = some ⟨0x11, false, false, false, s.m.now + s.m.r MOT_AX_STOP_STOP_MS a, 0, s.m.stopDec a⟩) ∧
    (∀ h, w.raw = true → old = false → long → s.m.isActive = true → k = 0 → x.home = some h → x.stop = none → h.kind = 0 → h.phase = .search →
      ∃ t : Mach, exec (.switchDebounceChange a k) s = .next (s.having t) ∧
        (t.axis a).home = some { h with phase := .found } ∧ t.pos a = s.m.pos a)) ∧
  (∀ (a : Fin 8) (s : State),
    let x := s.m.axis a
    (x.stop = none → x.home = none → exec (.axisAtRest a) s = .next s) ∧
    (s.m.isActive = false → exec (.axisAtRest a) s = .next s) ∧
    (∀ k, x.stop = some k → s.m.canRest a k.dec = false → exec (.axisAtRest a) s = .next s) ∧
    (∀ k, x.stop = some k → s.m.isActive = true → s.m.canRest a k.dec = true → ∃ t : Mach, exec (.axisAtRest a) s = .next (s.having t) ∧ (t.axis a).stop = none ∧ t.vel a = 0 ∧
      (t.axis a).run = none ∧ (t.axis a).home = none ∧ (t.axis a).halts = [] ∧ (t.axis a).restAt = some s.m.now ∧
      (k.off = true → t.b MOT_AX_STATUS_BRIDGE a = false) ∧ (k.dis = true → t.b MOT_AX_CTRL_EN a = false) ∧
      t.axState a = (if k.dis then 0 else if k.off then 5 else if k.pause then 6 else 1) ∧
      (k.dis = false → x.run.isSome = true → (t.axis a).remain = x.run)) ∧
    (∀ h, x.stop = none → x.home = some h → s.m.isActive = true → s.m.canRest a (s.m.homeAcc a) = true → h.phase = .found → ∃ t : Mach,
      exec (.axisAtRest a) s = .next (s.having { s.m with mot := t.mot, regs := t.regs }) ∧ t.vel a = 0 ∧
      t.axis a = { x with home := some { h with phase := .latch } }) ∧
    (∀ h, x.stop = none → x.home = some h → s.m.isActive = true → s.m.canRest a (s.m.homeAcc a) = true → h.phase = .final → ∃ t : Mach,
      exec (.axisAtRest a) s = .next (s.having (t.motDone a h.d stOK)) ∧ t.b MOT_AX_STATUS_HOMED a = true ∧
      t.b MOT_AX_STATUS_UNCERTAIN a = false ∧ t.axState a = 1 ∧ (t.axis a).home = none ∧ t.pos a = s.m.pos a)) ∧
  (∀ (a : Fin 8) (s : State),
    (∀ k, (s.m.axis a).stop = some k → k.off = true → k.due ≤ s.m.now → s.m.isActive = true → ∃ t : Mach,
      exec (.stopMsExpiry a) s = .next (s.having t) ∧ (t.axis a).stop = none ∧ t.b MOT_AX_STATUS_BRIDGE a = false ∧
      t.vel a = 0 ∧ (s.m.vel a ≠ 0 → t.b MOT_AX_STATUS_UNCERTAIN a = true ∧ t.b MOT_AX_STATUS_HOMED a = false)) ∧
    ((∀ k, (s.m.axis a).stop = some k → k.off = false ∨ s.m.now < k.due ∨ s.m.isActive = false) → exec (.stopMsExpiry a) s = .next s)) ∧
  (∀ (a : Fin 8) (s : State),
    (∀ u, (s.m.axis a).restAt = some u → u + 100 ≤ s.m.now → s.m.isActive = true → ∃ t : Mach,
      exec (.holdCurrentSwitch a) s = .next (s.having { s.m with mot := t.mot, regs := t.regs }) ∧
      t.axis a = { s.m.axis a with hold := true } ∧ t.axState a = s.m.axState a) ∧
    ((∀ u, (s.m.axis a).restAt = some u → s.m.now < u + 100 ∨ s.m.isActive = false) → exec (.holdCurrentSwitch a) s = .next s))

/-- Writing a record, reading through a master's cursor and window, and the two-step clear.
The model's choices in it are those of log entries 53, 56, 59. -/
def Obligations.ShardRecordsAreWrittenReadAndCleared : Prop :=
  (∀ s : State,
    let n := s.m.nv.shardNext
    (s.m.shardFree = false → exec .shardRecordWrite s = .next s) ∧
    (∀ e rest, s.m.shard.queue = e :: rest → s.m.shardFree = true →
      ∃ t : Mach, exec .shardRecordWrite s = .next (s.having t) ∧ t.nv.shardNext = n + 1 ∧
        Tabs.look t.nv.shard (n % shardSlots) = some (recordBytes n e.bytes e.orig) ∧
        (∀ k, k ≠ n % shardSlots → Tabs.look t.nv.shard k = Tabs.look s.m.nv.shard k) ∧
        t.nv.shardOldest = max s.m.nv.shardOldest (n + 1 - shardSlots) ∧ t.r SHARD_NEWEST_ALL = n % 2 ^ 32 ∧
        (s.m.shard.lostPending = 0 → t.shard.queue = rest ∧ t.hostMem = s.m.hostMem ∧ t.out = s.m.out) ∧
        (0 < s.m.shard.lostPending → rest.length < 256 → t.shard.queue.length = rest.length + 1 ∧ t.shard.lostPending = 0) ∧
        t.kiln = s.m.kiln ∧ t.shard.wins = s.m.shard.wins)) ∧
  (∀ m : Mach, m.shardFree = true ↔ m.shardUp = true ∧ m.shard.scanned = true ∧ m.b SHARD_STATUS_CLEARING = false ∧
    (∃ e rest, m.shard.queue = e :: rest ∧ e.tick < m.now) ∧ ∀ c ∈ m.shard.clear, m.now ≤ c.2) ∧
  (∀ (seq orig : Nat) (body : List Byte), (recordBytes seq body orig).length = 64 ∧
    (seq < 2 ^ 32 → recordValid (recordBytes seq body orig) seq = true)) ∧
  (∀ (m : Fin 16) (v : BitVec 32) (s : State),
    let l := Tabs.val s.m.nv.shard (List.replicate 64 0) (v.toNat % shardSlots)
    (s.m.hears m = false → exec (.cursorWrite m v) s = .next s) ∧
    (s.m.hears m = true → s.m.nv.shardNext ≤ v.toNat → exec (.cursorWrite m v) s = .next (s.having
      (s.m.setShardWin m { s.m.shardWin m with cursor := v.toNat, status := 3, window := List.replicate 64 0 }))) ∧
    (s.m.hears m = true → v.toNat < s.m.nv.shardNext → v.toNat < s.m.nv.shardOldest →
      exec (.cursorWrite m v) s = .next (s.having
        (s.m.setShardWin m { s.m.shardWin m with cursor := v.toNat, status := 2, window := List.replicate 64 0 }))) ∧
    (s.m.hears m = true → v.toNat < s.m.nv.shardNext → s.m.nv.shardOldest ≤ v.toNat → ∃ t : Mach,
      exec (.cursorWrite m v) s = .next (s.having { s.m with shard := t.shard, regs := t.regs }) ∧
      (t.shardWin m).window = l ∧ (t.shardWin m).status = (if recordValid l v.toNat then 0 else 1) ∧
      (∀ k, k ≠ m.val → t.shardWin k = s.m.shardWin k) ∧
      t.r SHARD_BAD_CRC_ALL = (if recordValid l v.toNat then s.m.r SHARD_BAD_CRC_ALL
        else min (s.m.r SHARD_BAD_CRC_ALL + 1) 0xFFFFFFFF))) ∧
  (∀ (m : Fin 16) (s : State),
    let w := s.m.shardWin m
    let a := s.m.emit (.read m (SHARD_WINDOW_ALL.off 15 0) (BitVec.ofNat 32 (leAt w.window 60 4)))
    (s.m.hears m = true → w.adv = false → exec (.windowReadAdvance m) s = .next (s.having a)) ∧
    (s.m.hears m = true → w.adv = true →
      exec (.windowReadAdvance m) s = .next (s.having (a.shardLoad m ((w.cursor + 1) % 2 ^ 32)))) ∧
    (s.m.hears m = true → w.status ≠ 3 → exec (.winStatusReadReload m) s = .next (s.having
      (s.m.emit (.read m (SHARD_WIN_STATUS_STATUS.off 0 0) (BitVec.ofNat 32 w.status))))) ∧
    (s.m.hears m = true → w.status = 3 → ∃ t : Mach, exec (.winStatusReadReload m) s = .next (s.having t) ∧
      t.shardWin m = (s.m.shardLoad m w.cursor).shardWin m ∧ t.out = s.m.out ++
        [.read m (SHARD_WIN_STATUS_STATUS.off 0 0) (BitVec.ofNat 32 (t.shardWin m).status)]) ∧
    (s.m.hears m = false → m ≠ 1 → exec (.windowReadAdvance m) s = .next s ∧ exec (.winStatusReadReload m) s = .next s) ∧
    (s.m.hears m = false → m = 1 →
      exec (.windowReadAdvance m) s = .next (s.having (s.m.emit (.read 1 (SHARD_WINDOW_ALL.off 15 0) 0))) ∧
      exec (.winStatusReadReload m) s = .next (s.having (s.m.emit (.read 1 (SHARD_WIN_STATUS_STATUS.off 0 0) 0))))) ∧
  (∀ (d : Desc) (s : State), s.m.starts 0x0900 d → ∃ (a : ShardArm) (t : Mach),
    exec (.clearArm d) s = .next (s.having (t.complete (d.as 0x0900) stOK (le 8 a.challenge ++ le 2 a.ticket))) ∧
    t.shard = { s.m.shard with arm := some a } ∧ a.deadline = s.m.now + 10000 ∧ a.challenge < 2 ^ 64 ∧ a.ticket < 2 ^ 16 ∧
    t.b SHARD_STATUS_ARMED = true ∧ t.nv = s.m.nv ∧ t.hostMem = s.m.hostMem) ∧
  (∀ (d : Desc) (s : State), s.m.starts 0x0901 d →
    (s.m.shard.arm = none → exec (.clearConfirm d) s = .next (s.having (s.m.complete (d.as 0x0901) 0x10))) ∧
    (∀ a, s.m.shard.arm = some a → a.ticket ≠ Descs.fld d 16 2 →
      exec (.clearConfirm d) s = .next (s.having (s.m.complete (d.as 0x0901) 0x10))) ∧
    (∀ a, s.m.shard.arm = some a → a.ticket = Descs.fld d 16 2 → a.deadline < s.m.now →
      exec (.clearConfirm d) s = .next (s.having ((s.m.setShardArm none).complete (d.as 0x0901) 0x11))) ∧
    (∀ a, s.m.shard.arm = some a → a.ticket = Descs.fld d 16 2 → s.m.now ≤ a.deadline →
      (∀ k, s.m.nv.mkey = some k → clearResponse k a.challenge ≠ Descs.fld d 20 8) →
      exec (.clearConfirm d) s = .next (s.having ((s.m.setShardArm none).complete (d.as 0x0901) stAUTH_FAIL))) ∧
    (∀ a k, s.m.shard.arm = some a → a.ticket = Descs.fld d 16 2 → s.m.now ≤ a.deadline → s.m.nv.mkey = some k →
      clearResponse k a.challenge = Descs.fld d 20 8 → ∃ t : Mach,
      exec (.clearConfirm d) s = .next (s.having { s.m with shard := t.shard, regs := t.regs }) ∧
      t.shard = { s.m.shard with arm := none, clear := s.m.shard.clear ++ [(d.as 0x0901, s.m.now)] } ∧ t.b SHARD_STATUS_ARMED = false)) ∧
  (∀ s : State,
    let n := s.m.nv.shardNext
    (s.m.shard.clear = [] → exec .shardClear s = .next s) ∧
    (∀ d u more, s.m.shard.clear = (d, u) :: more → s.m.now ≤ u ∨ s.m.shardUp = false ∨ s.m.shard.scanned = false →
      exec .shardClear s = .next s) ∧
    (∀ d u more, s.m.shard.clear = (d, u) :: more → u < s.m.now → s.m.shardUp = true → s.m.shard.scanned = true → ∃ t : Mach,
      exec .shardClear s = .next (s.having (t.complete d stOK (le 4 n))) ∧ t.nv.shardNext = n + 1 ∧ t.nv.shardOldest = n ∧
      Tabs.look t.nv.shard (n % shardSlots) = some (recordBytes n (s.m.shardBytes 0x0901 4 30
        (le 4 s.m.nv.shardOldest ++ le 4 (n - 1) ++ le 1 1)) 0) ∧
      (∀ k, k ≠ n % shardSlots → Tabs.look t.nv.shard k = none) ∧ t.r SHARD_OLDEST_ALL = n % 2 ^ 32 ∧
      t.b SHARD_STATUS_CLEARING = true ∧ t.shard.clear = more ∧ t.shard.queue = s.m.shard.queue ∧ t.kiln = s.m.kiln))

/-- Staging a container, activating it, its trial, and the commands that keep or drop it.
The model's choices in it are those of log entries 6, 55, 61. -/
def Obligations.UpdatesAreStagedTriedAndKept : Prop :=
  (∀ (d : Desc) (s : State), s.m.starts 0x0A00 d →
    let off := Descs.fld d 16 4
    let chunk := s.m.bufRd d
    let l := s.m.upd.recv ++ chunk
    let mEnd := 512 + 64 * ctrParts l
    let idle := s.m.idleBank
    let answer := fun (t : Mach) (st u part : Nat) => State.having s (t.complete (d.as 0x0A00) st
      (le 4 t.upd.recv.length ++ le 1 (t.r UPD_STATUS_STAGE) ++ le 1 0 ++ le 2 u ++ le 1 part))
    (Descs.buf d = false → exec (.stageWrite d) s = .next (answer s.m stRANGE 0 0xFF)) ∧
    (Descs.buf d = true → s.m.r UPD_STATUS_TRIAL ≠ 0 → exec (.stageWrite d) s = .next (answer s.m stBUSY 0 0xFF)) ∧
    (Descs.buf d = true → s.m.r UPD_STATUS_TRIAL = 0 → off ≠ 0 → s.m.r UPD_STATUS_STAGE ≠ 1 ∨ off ≠ s.m.upd.recv.length →
      exec (.stageWrite d) s = .next (answer s.m 0x12 0 0xFF)) ∧
    (∀ u st, Descs.buf d = true → s.m.r UPD_STATUS_TRIAL = 0 → off = 0 → s.m.upd.sched = none →
      s.m.headerCheck chunk = some (u, st) → ∃ t : Mach, exec (.stageWrite d) s = .next (answer t st u 0xFF) ∧
        t.r UPD_STATUS_STAGE = 3 ∧ t.r UPD_STATUS_LAST_UCODE = u ∧ t.upd.recv = chunk ∧ t.r UPD_STAGE_BYTES_ALL = chunk.length % 2 ^ 32 ∧ t.nv = s.m.nv) ∧
    (Descs.buf d = true → s.m.r UPD_STATUS_TRIAL = 0 → off ≠ 0 → s.m.r UPD_STATUS_STAGE = 1 → off = s.m.upd.recv.length →
      mEnd ≤ off → l.length < ctrTotal l → ∃ t : Mach, exec (.stageWrite d) s = .next (answer t stOK 0 0xFF) ∧
        t.r UPD_STATUS_STAGE = 1 ∧ t.upd = { s.m.upd with recv := l } ∧ t.nv = s.m.nv) ∧
    (Descs.buf d = true → s.m.r UPD_STATUS_TRIAL = 0 → off ≠ 0 → s.m.r UPD_STATUS_STAGE = 1 → off = s.m.upd.recv.length →
      mEnd ≤ off → l.length = ctrTotal l → partFail l = none → ∃ t : Mach,
        exec (.stageWrite d) s = .next (answer t stOK 0 0xFF) ∧ t.r UPD_STATUS_STAGE = 2 ∧ t.bank idle = ctrBank l ∧
        (∀ b, b ≠ idle → t.bank b = s.m.bank b) ∧ t.upd.recv = l) ∧
    (∀ k, Descs.buf d = true → s.m.r UPD_STATUS_TRIAL = 0 → off ≠ 0 → s.m.r UPD_STATUS_STAGE = 1 → off = s.m.upd.recv.length →
      mEnd ≤ off → l.length = ctrTotal l → partFail l = some k → ∃ t : Mach,
        exec (.stageWrite d) s = .next (answer t 0x11 0x12 k) ∧ t.r UPD_STATUS_STAGE = 3 ∧ t.nv = s.m.nv)) ∧
  (∀ (d : Desc) (s : State), s.m.starts 0x0A01 d →
    let T := Descs.fld d 16 2
    let f := Descs.fld d 18 1
    let x := s.m.bank s.m.idleBank
    let set : TrialSet := ⟨if T = 0 then 300 else T, f.testBit 0, f.testBit 1, s.m.runBank⟩
    let good := T = 0 ∨ (60 ≤ T ∧ T ≤ 3600)
    let fits := s.m.r UPD_STATUS_STAGE = 2 ∧ s.m.isActive = false ∧ s.m.mirrorApart = false ∧
      (f.testBit 1 = true ∨ (x.schemaLo ≤ s.m.nv.set.schema ∧ s.m.nv.set.schema ≤ x.schemaHi)) ∧ s.m.upd.sched = none ∧
      s.m.upd.reset = none
    (¬ good → exec (.activate d) s = .next (s.having (s.m.complete (d.as 0x0A01) stRANGE))) ∧
    (good → f.testBit 2 = true → s.m.stepped = false →
      exec (.activate d) s = .next (s.having (s.m.complete (d.as 0x0A01) stNO_TIME))) ∧
    (good → f.testBit 2 = false → s.m.r UPD_STATUS_STAGE ≠ 2 →
      exec (.activate d) s = .next (s.having (s.m.complete (d.as 0x0A01) 0x13))) ∧
    (good → f.testBit 2 = false → s.m.r UPD_STATUS_STAGE = 2 → s.m.isActive = true → f.testBit 3 = false →
      exec (.activate d) s = .next (s.having (s.m.complete (d.as 0x0A01) 0x15))) ∧
    (good → fits → f.testBit 2 = false → ∃ t : Mach, exec (.activate d) s = .next (s.having t) ∧
      t.nv.bootBank = s.m.idleBank ∧ t.nv.onTrial = some set ∧ t.upd.reset = some ⟨s.m.now + 50, none, false⟩ ∧
      t.met.stopped = true ∧ t.nv.banks = s.m.nv.banks ∧ t.kiln = s.m.kiln) ∧
    (good → fits → f.testBit 2 = true → s.m.stepped = true → diff32 s.m.pt (Descs.fld d 20 4) < 0 → ∃ t : Mach,
      exec (.activate d) s = .next (s.having { s.m with upd := t.upd, regs := t.regs }) ∧
      t.upd = { s.m.upd with sched := some ⟨d.as 0x0A01, set, f.testBit 3, Descs.fld d 20 4, s.m.now⟩ } ∧
      t.b UPD_STATUS_SCHED = true ∧ t.r UPD_SCHED_PT_ALL = Descs.fld d 20 4 % 2 ^ 32)) ∧
  (∀ s : State,
    (s.m.upd.sched = none → exec .scheduledActivation s = .next s) ∧
    (∀ a, s.m.upd.sched = some a → diff32 s.m.pt a.startPt < 0 → exec .scheduledActivation s = .next s) ∧
    (∀ a, s.m.upd.sched = some a → 0 ≤ diff32 s.m.pt a.startPt → s.m.isActive = false → ∃ t : Mach,
      exec .scheduledActivation s = .next (s.having t) ∧ t.upd.sched = none ∧ t.b UPD_STATUS_SCHED = false ∧
      t.nv.bootBank = s.m.idleBank ∧ t.nv.onTrial = some a.set ∧ t.upd.reset = some ⟨s.m.now + 50, none, false⟩)) ∧
  (∀ (d : Desc) (s : State),
    let run := s.m.bank s.m.runBank
    let arb := max s.m.nv.arb run.arb
    (s.m.starts 0x0A02 d → s.m.r UPD_STATUS_TRIAL ≠ 2 →
      exec (.commit d) s = .next (s.having (s.m.complete (d.as 0x0A02) 0x14))) ∧
    (s.m.starts 0x0A02 d → s.m.r UPD_STATUS_TRIAL = 2 → ∃ t : Mach,
      exec (.commit d) s = .next (s.having (t.complete (d.as 0x0A02) stOK (le 4 run.version ++ le 4 arb))) ∧ t.nv.arb = arb ∧
      t.nv.onTrial = none ∧ t.r UPD_STATUS_TRIAL = 0 ∧ t.boot.trial = false ∧ t.upd.trial = none ∧ t.kiln = s.m.kiln) ∧
    (s.m.starts 0x0A03 d → s.m.r UPD_STATUS_TRIAL ≠ 2 →
      exec (.revert d) s = .next (s.having (s.m.complete (d.as 0x0A03) 0x14))) ∧
    (s.m.starts 0x0A03 d → s.m.r UPD_STATUS_TRIAL = 2 → ∃ t : Mach,
      exec (.revert d) s = .next (s.having (t.complete (d.as 0x0A03) stOK)) ∧
      t.upd = { s.m.upd with reset := some ⟨s.m.now + 50, some 6, false⟩ } ∧ t.met.stopped = true) ∧
    (s.m.starts 0x0A04 d → ∃ t : Mach, exec (.abort d) s = .next (s.having
        (t.complete (d.as 0x0A04) stOK (le 1 (if s.m.upd.sched.isSome then 1 else 0)))) ∧ t.upd.sched = none ∧
      t.upd.reset = s.m.upd.reset ∧ t.nv = s.m.nv) ∧
    (s.m.starts 0x0A05 d → 1 < Descs.fld d 16 1 →
      exec (.bootcfgSet d) s = .next (s.having (s.m.complete (d.as 0x0A05) stRANGE))) ∧
    (s.m.starts 0x0A05 d → Descs.fld d 16 1 ≤ 1 → ∃ t : Mach,
      exec (.bootcfgSet d) s = .next (s.having (t.complete (d.as 0x0A05) stOK)) ∧
      t.nv = { s.m.nv with refNext := Descs.fld d 16 1 } ∧ t.r UPD_STATUS_REF_NEXT = Descs.fld d 16 1 ∧ t.upd = s.m.upd) ∧
    (∀ old, s.m.starts 0x0A06 d → s.m.nv.mkey = some old →
      Descs.fld d 32 8 ≠ aes128 old (Descs.fld d 16 16) % 2 ^ 64 →
      exec (.mkeySet d) s = .next (s.having (s.m.complete (d.as 0x0A06) stAUTH_FAIL))) ∧
    (s.m.starts 0x0A06 d → (∀ old, s.m.nv.mkey = some old → Descs.fld d 32 8 = aes128 old (Descs.fld d 16 16) % 2 ^ 64) →
      ∃ t : Mach, exec (.mkeySet d) s = .next (s.having (t.complete (d.as 0x0A06) stOK (le 1 (if s.m.nv.mkey.isSome then 1 else 0)))) ∧
        t.nv = { s.m.nv with mkey := some (Descs.fld d 16 16) } ∧ t.b UPD_STATUS_MKEY_SET = true)) ∧
  (∀ s : State,
    let due := s.m.r UPD_STATUS_TRIAL = 1 ∧ s.m.ready = true ∧ s.m.isSafe = false ∧ 8 ∈ s.m.ist.pairs ∧ 9 ∈ s.m.ist.pairs ∧ s.m.upd.settingsRead = true ∧
      s.m.microcodeUp = true ∧ ∀ u, s.m.upd.trialEnd = some u → s.m.now ≤ u
    (¬ due → exec .trialSuccess s = .next s) ∧
    (due → (∀ x, s.m.upd.trial = some x → x.auto = false) → ∃ t : Mach,
      exec .trialSuccess s = .next (s.having { s.m with regs := t.regs }) ∧ t.r UPD_STATUS_TRIAL = 2 ∧
      t.r UPD_TRIAL_LEFT_ALL = 0) ∧
    (∀ x, due → s.m.upd.trial = some x → x.auto = true → ∃ t : Mach, exec .trialSuccess s = .next (s.having t) ∧
      t.r UPD_STATUS_TRIAL = 0 ∧ t.nv.onTrial = none ∧ t.nv.arb = max s.m.nv.arb (s.m.bank s.m.runBank).arb)) ∧
  (∀ s : State,
    let due := s.m.r UPD_STATUS_TRIAL = 1 ∧ s.m.upd.reset = none ∧ ∃ u, s.m.upd.trialEnd = some u ∧ u ≤ s.m.now
    (¬ due → exec .trialTimeout s = .next s) ∧
    (due → ∃ t : Mach, exec .trialTimeout s = .next (s.having t) ∧
      t.upd = { s.m.upd with reset := some ⟨s.m.now, some 2, false⟩ } ∧ t.met.stopped = true ∧ t.kiln = s.m.kiln))

/-- Every reset of the unit latches the site with source 14 and starts every block afresh.
The model's choices in it are those of log entries 50, 56, 61. -/
def Obligations.ResetsLatchTheSiteAndStartAgain : Prop :=
  let latched := fun m : Mach => m.siteLatched = true ∧ (m.r DAMP_SRC_SEEN_SEEN).testBit 14 = true ∧
    m.r DAMP_CAUSE_SOURCE = 14 ∧ m.zoneLatches = 0 ∧ m.dam.agents = 0
  let fresh := fun (s : State) (m : Mach) (cause : Nat) => latched m ∧ m.r PWR_RESET_CAUSE_CAUSE = cause ∧
    regsKept [PWR_RESET_CAUSE_CAUSE.off 0 0] resetMach m ∧ m.hostMem = s.m.hostMem ∧ m.out = s.m.out ∧ m.kiln = {} ∧
    m.air = {} ∧ m.mot = [] ∧ m.chop = [] ∧ m.dam = {} ∧ m.hif = {} ∧ m.sag = {} ∧ m.met = {} ∧ m.gnss = {} ∧ m.red = {} ∧ m.upd = {}
  latched State.reset.m ∧
  (∀ (p : PowerUp) (s : State), ∃ t : Mach, exec (.powerOnReset p) s = .next { s with mb := {}, m := t } ∧
    fresh s t 1 ∧ t.boot.held = false ∧ (p.vbat = false → t.nv.rtc = none)) ∧
  (∀ (torn : Bool) (s : State),
    (s.m.boot.held = false → ∃ t : Mach, exec (.resetPin torn) s = .next { s with mb := {}, m := t } ∧ fresh s t 2)) ∧
  (∀ s : State, ∃ t : Mach, exec .vinFallHoldInReset s = .next { s with mb := {}, m := t } ∧ fresh s t 1 ∧
    t.boot.held = true) ∧
  (∀ s : State,
    (s.m.boot.powerFail = false ∨ s.m.boot.above < 10 → exec .powerFailRestart s = .next s) ∧
    (s.m.boot.powerFail = true → s.m.boot.held = false → 10 ≤ s.m.boot.above → ∃ t : Mach,
      exec .powerFailRestart s = .next { s with mb := {}, m := t } ∧ fresh s t 3)) ∧
  (∀ (v : BitVec 32) (s : State),
    (v ≠ 0xC1A70001#32 → exec (.unitResetCommand v) s = .next s) ∧
    (v = 0xC1A70001#32 → s.m.boot.held = false → ∃ t : Mach,
      exec (.unitResetCommand v) s = .next { s with mb := {}, m := t } ∧ fresh s t 4 ∧
      (s.m.met.restored = true → s.m.met.stopped = false → Tabs.rising none s.m.nv.slots = true →
        let seq := (s.m.nv.metSeq + 1) % 2 ^ 32
        let slot : MetSlot := { seq := seq, pt := s.m.pt, final := true, els := (List.range 16).map s.m.metShown, crc := 0 }
        t.nv.metSeq = seq ∧ (Tabs.look t.nv.slots (seq % 8) = none ∨ Tabs.look t.nv.slots (seq % 8) = some slot.sealed)))) ∧
  (∀ s : State,
    let due := ∃ r, s.m.upd.reset = some r ∧ (r.due ≤ s.m.now ∨ (r.force = true ∧ s.m.b REDUN_STATUS_GRANTED = false))
    (¬ due → exec .activationReset s = .next s) ∧
    (due → ∃ t : Mach, exec .activationReset s = .next { s with mb := {}, m := t } ∧ fresh s t 5)) ∧
  (∀ s : State,
    let late := (s.m.phase = 3 ∧ s.m.boot.phaseStart + 800 < s.m.now) ∨ (s.m.phase = 4 ∧ s.m.boot.phaseStart + 3000 < s.m.now)
    (¬ late → exec .bootTimeout s = .next s) ∧
    (late → ∃ t : Mach, exec .bootTimeout s = .next { s with mb := {}, m := t } ∧ fresh s t 6 ∧
      t.nv.timeouts = min 3 (s.m.nv.timeouts + 1)))

/-- The boot phases in their order and the pieces of the in-service test.
The model's choices in it are those of log entries 48, 56, 58, 59, 61. -/
def Obligations.BootAdvancesAndTestsRun : Prop :=
  (∀ (torn : Bool) (s : State), s.m.boot.held = true → exec (.resetPin torn) s = .next s ∧ exec .powerFailRestart s = .next s ∧
    ∀ v, exec (.unitResetCommand v) s = .next s) ∧
  (∀ (straps : BitVec 7) (s : State),
    (s.m.phase ≠ 1 ∨ s.m.boot.held = true → exec (.pmicPhaseDone straps) s = .next s) ∧
    (s.m.phase = 1 → s.m.boot.held = false → ∃ t : Mach,
      exec (.pmicPhaseDone straps) s = .next (s.having { s.m with boot := t.boot, regs := t.regs }) ∧ t.phase = 2 ∧
      t.r ID_STRAPS_ALL = straps.toNat ∧ t.r REDUN_STATUS_ROLE_PREF = straps.toNat % 2 ∧
      t.boot = { s.m.boot with phaseStart := s.m.now } ∧ t.r PWR_BOOT_STATUS_TIMEOUTS = s.m.nv.timeouts % 4)) ∧
  (∀ (link : Option (Fin 4 × Fin 5)) (okA okB : Bool) (s : State),
    let src := s.m.r ID_STRAPS_ALL / 2 % 4
    let b := s.m.nv.bootBank
    let ok := fun k : Nat => s.m.bankPasses k (if k == 0 then okA else okB)
    let good := fun k : Nat => ok k = true ∧ (s.m.bank k).valid = true
    (s.m.phase ≠ 2 → exec (.bootRomPhaseDone link okA okB) s = .next s) ∧
    (s.m.phase = 2 → s.m.nv.onTrial.isSome = true → s.m.nv.timeouts < 3 → src = 0 → ¬ good b → ∃ t : Mach,
      exec (.bootRomPhaseDone link okA okB) s = .next { s with mb := {}, m := t } ∧ t.r PWR_RESET_CAUSE_CAUSE = 5) ∧
    (s.m.phase = 2 → 3 ≤ s.m.nv.timeouts ∨ src = 3 → ∃ t : Mach,
      exec (.bootRomPhaseDone link okA okB) s = .next (s.having t) ∧ t.recovery = true ∧ t.phase = 5) ∧
    (s.m.phase = 2 → s.m.nv.timeouts < 3 → src = 0 → good b → b ≤ 1 → s.m.nv.onTrial = none → ∃ t : Mach,
      exec (.bootRomPhaseDone link okA okB) s = .next (s.having { s.m with boot := t.boot, regs := t.regs }) ∧ t.phase = 3 ∧
      t.runBank = b ∧ t.r REDUN_VER_OWN_MIN = (s.m.bank b).mirLo % 2 ^ REDUN_VER_OWN_MIN.width ∧
      t.b HIF_STATUS_LINK_UP = (link.isSome || s.m.b HIF_STATUS_LINK_UP))) ∧
  (∀ (ok : Bool) (s : State),
    let pass := s.m.partsPass ok (fun t => t ≤ 2)
    (s.m.phase ≠ 3 → exec (.safetyPairsPhaseDone ok) s = .next s) ∧
    (s.m.phase = 3 → pass = true → ∃ t : Mach,
      exec (.safetyPairsPhaseDone ok) s = .next (s.having { s.m with boot := t.boot, regs := t.regs }) ∧ t.phase = 4) ∧
    (s.m.phase = 3 → pass = false → s.m.boot.trial = false → s.m.boot.tried = true → ∃ t : Mach,
      exec (.safetyPairsPhaseDone ok) s = .next (s.having { s.m with regs := t.regs }) ∧ t.recovery = true ∧ t.phase = 5)) ∧
  (∀ (ok ki bi : Bool) (set : Settings) (s : State),
    (s.m.phase ≠ 4 → exec (.appCorePhaseDone ok ki bi) s = .next s) ∧
    (s.m.phase = 4 → s.m.partsPass ok (fun t => 2 < t) = true → s.m.bootSettings = some set → s.m.b REDUN_STATUS_GRANTED = false → ∃ t : Mach,
      exec (.appCorePhaseDone ok ki bi) s = .next (s.having t) ∧ t.phase = 5 ∧ t.ready = true ∧
      t.r REDUN_STATUS_ALIVE_CODE = (if s.m.isSafe = true then s.m.r REDUN_STATUS_ALIVE_CODE else 2) ∧
      t.nv.set = set ∧ t.nv.timeouts = 0 ∧ t.red.prefEnd = some (s.m.now + 1000) ∧ t.upd.settingsRead = true ∧
      t.met.restored = true ∧ t.nv.keyId = (if ki then s.m.nv.keyId else none) ∧
      t.nv.bkId = (if bi then s.m.nv.bkId else none))) ∧
  (∀ (ok : Bool) (s : State),
    let due := s.m.istRuns 2 = true ∧ s.m.istDue 2 0 (1000 * s.m.r IST_PERIOD_SRAM_SHARED_S) = true ∧ s.m.ist.sharedCopy = none
    (¬ due ∨ s.m.ist.sharedSpare = none → exec (.sharedSramRotationStep ok) s = .next s) ∧
    (∀ sp, due → s.m.ist.sharedSpare = some sp → ok = true → ∃ t : Mach,
      exec (.sharedSramRotationStep ok) s = .next (s.having t) ∧
      t.ist.sharedCopy = some s.m.now ∧ t.ist.sharedSpare = some sp ∧ t.ist.sharedMap = s.m.ist.sharedMap ∧
      t.r IST_PASS_ALL 2 = min (s.m.r IST_PASS_ALL 2 + 1) 0xFFFFFFFF) ∧
    (∀ sp, due → s.m.ist.sharedSpare = some sp → ok = false → ∃ t : Mach,
      exec (.sharedSramRotationStep ok) s = .next (s.having t) ∧ t.ist.sharedSpare = none ∧
      t.intc.faults = s.m.intc.faults ++ [(28, .degraded)] ∧ t.r IST_FAIL_COUNT 2 = min (s.m.r IST_FAIL_COUNT 2 + 1) 0xFFFF)) ∧
  (∀ (m : Mach) (sp u : Nat), m.ist.sharedSpare = some sp → m.ist.sharedCopy = some u →
    m.sharedRename.ist.sharedSpare = some (m.ist.sharedMap.getD m.ist.sharedNext 0) ∧ m.sharedRename.ist.sharedCopy = none ∧
    m.sharedRename.ist.sharedMap = m.ist.sharedMap.set m.ist.sharedNext sp ∧
    m.sharedRename.ist.sharedNext = (m.ist.sharedNext + 1) % 16) ∧
  (∀ s : State,
    let due := s.m.istRuns 3 = true ∧ s.m.istDue 3 0 (1000 * s.m.r IST_PERIOD_GNSS_SPARE_S) = true ∧ s.m.gnss.test = none
    (¬ due ∨ s.m.spareToTest = none → exec .gnssSpareTestStart s = .next s) ∧
    (∀ c, due → s.m.spareToTest = some c → ∃ t : Mach,
      exec .gnssSpareTestStart s = .next (s.having { s.m with gnss := t.gnss, ist := t.ist, regs := t.regs }) ∧
      t.gnss = { s.m.gnss with test := some (c, s.m.now + 2000) } ∧ t.chState c = 4)) ∧
  (∀ (ok : Bool) (s : State),
    (s.m.gnss.test = none → exec (.gnssSpareTestEnd ok) s = .next s) ∧
    (∀ c u, s.m.gnss.test = some (c, u) → s.m.now < u → exec (.gnssSpareTestEnd ok) s = .next s) ∧
    (∀ c u, s.m.gnss.test = some (c, u) → u ≤ s.m.now → c < 456 → ∃ t : Mach,
      exec (.gnssSpareTestEnd ok) s = .next (s.having t) ∧ t.gnss.test = none ∧ t.chState c = (if ok then 3 else 5) ∧
      (ok = true → t.r IST_PASS_ALL 3 = min (s.m.r IST_PASS_ALL 3 + 1) 0xFFFFFFFF) ∧
      (ok = false → t.intc.faults = s.m.intc.faults ++ [(0, .degraded)]))) ∧
  (∀ (x : Fin 8) (fcs : Bool) (rssi : BitVec 8) (s : State),
    let idle := match s.m.laneOfModem x with
      | some y => s.m.laneIdle y
      | none => s.m.slotKind != kPERMIT && s.m.slotKind != kJOIN && !s.m.dam.burst
    let due := s.m.istRuns 4 = true ∧ s.m.istDue 4 x 10000 = true ∧ s.m.inSlot = true ∧ s.m.air.phase ≠ 0 ∧ idle = true ∧
      (s.m.r AIR_STATUS_MODEM_FAIL).testBit x = false
    let good := fcs = true ∧ -43 ≤ rssi.toInt ∧ rssi.toInt ≤ -37
    (¬ due → exec (.laneLoopbackTest x fcs rssi) s = .next s) ∧
    (due → good → ∃ t : Mach, exec (.laneLoopbackTest x fcs rssi) s = .next (s.having t) ∧
      t.r IST_PASS_ALL 4 = min (s.m.r IST_PASS_ALL 4 + 1) 0xFFFFFFFF ∧ Tabs.val t.ist.laneFail 0 x = 0 ∧
      t.ist.mcs = (s.m.ist.mcs + 1) % 4 ∧ t.intc = s.m.intc) ∧
    (due → ¬ good → ∃ t : Mach, exec (.laneLoopbackTest x fcs rssi) s = .next (s.having t) ∧
      t.r IST_FAIL_COUNT 4 = min (s.m.r IST_FAIL_COUNT 4 + 1) 0xFFFF ∧
      (0 < Tabs.val s.m.ist.laneFail 0 x → t.b INTC_BLK_FAULT_UNCORR_SEEN (4 + x.val) = true ∧ t.intc.faults = s.m.intc.faults ++ [(4 + x.val, .uncorrectable none false)]) ∧
      (Tabs.val s.m.ist.laneFail 0 x = 0 → t.intc = s.m.intc ∧ Tabs.val t.ist.laneFail 0 x = 1))) ∧
  (∀ (l : List Int) (s : State),
    let due := s.m.istRuns 6 = true ∧ s.m.istDue 6 0 10000 = true
    (¬ due → exec (.meterReferenceTest l) s = .next s) ∧
    (due → (∀ v ∈ l, -500 ≤ v ∧ v ≤ 500) → ∃ t : Mach, exec (.meterReferenceTest l) s = .next (s.having t) ∧
      t.r IST_PASS_ALL 6 = min (s.m.r IST_PASS_ALL 6 + 1) 0xFFFFFFFF ∧ t.met = s.m.met ∧ t.intc = s.m.intc) ∧
    (due → (∃ v ∈ l, v < -500 ∨ 500 < v) → ∃ t : Mach, exec (.meterReferenceTest l) s = .next (s.having t) ∧
      t.r IST_FAIL_COUNT 6 = min (s.m.r IST_FAIL_COUNT 6 + (l.filter (fun v => v < -500 || 500 < v)).length) 0xFFFF ∧
      t.b INTC_BLK_FAULT_UNCORR_SEEN 19 = true ∧ (∀ d : Fin 16, t.metState d = 3) ∧
      t.intc.faults = s.m.intc.faults ++ [(19, .uncorrectable none false)])) ∧
  (∀ (n : Nat) (bad : Bool) (s : State),
    let due := s.m.istRuns 7 = true ∧ s.m.istDue 7 0 1000 = true ∧ s.m.sharedDue = false
    (¬ due → exec (.mramScrub n bad) s = .next s) ∧
    (due → ∃ t : Mach, exec (.mramScrub n bad) s = .next (s.having t) ∧
      t.r IST_SCRUB_FIXED_ALL = min (s.m.r IST_SCRUB_FIXED_ALL + n) 0xFFFFFFFF ∧
      t.ist.scrub = (if s.m.ist.scrub + 1 < Config.mramBlocks then s.m.ist.scrub + 1 else 0) ∧ t.nv = s.m.nv ∧
      (bad = false → t.r IST_PASS_ALL 7 = min (s.m.r IST_PASS_ALL 7 + 1) 0xFFFFFFFF) ∧
      (bad = true → t.r IST_FAIL_COUNT 7 = min (s.m.r IST_FAIL_COUNT 7 + 1) 0xFFFF))) ∧
  (∀ (s1 last ok : Bool) (s : State),
    let t0 := if s1 then 9 else 8
    let blk := if s1 then 14 else 18
    let due := s.m.istRuns t0 = true ∧ s.m.istDue t0 0 1 = true ∧ s.m.r INTC_BLK_FAULT_STATE blk ≠ 3
    (¬ due → exec (.safetySelfTestSegment s1 last ok) s = .next s) ∧
    (due → ok = true → last = false → ∃ t : Mach,
      exec (.safetySelfTestSegment s1 last ok) s = .next (s.having { s.m with ist := t.ist })) ∧
    (due → ok = true → last = true → ∃ t : Mach, exec (.safetySelfTestSegment s1 last ok) s = .next (s.having t) ∧ t0 ∈ t.ist.pairs ∧
      t.r IST_PASS_ALL t0 = min (s.m.r IST_PASS_ALL t0 + 1) 0xFFFFFFFF) ∧
    (due → ok = false → ∃ t : Mach, exec (.safetySelfTestSegment s1 last ok) s = .next (s.having t) ∧
      t.intc.faults = s.m.intc.faults ++ [(blk, .lost)] ∧ t.r IST_FAIL_COUNT t0 = min (s.m.r IST_FAIL_COUNT t0 + 1) 0xFFFF)) ∧
  (∀ s : State,
    let due := s.m.ready = true ∧ s.m.recovery = false ∧ s.m.b IST_STATUS_OVERDUE = false ∧
      s.m.ist.start + 86400000 ≤ s.m.now
    (¬ due → exec .coverageOverdue s = .next s) ∧
    (due → ∃ t : Mach, exec .coverageOverdue s = .next (s.having t) ∧ t.b IST_STATUS_OVERDUE = true ∧ t.ist = s.m.ist ∧
      t.kiln = s.m.kiln ∧ t.nv = s.m.nv))
end

