-- ==== Sys2Proof/Laws/Tab.lean ====
section
/-! SUPPORT. Laws of sparse tables: what a key reads after an update, and that updates keep the canonical form. -/

namespace Sys2Proof.Machine

variable {α : Type}

@[simp] theorem Tabs.look_nil (k : Nat) : Tabs.look ([] : Tab α) k = none := rfl

/-- The key just written reads as what was written. -/
@[simp] theorem Tabs.look_put_same (t : Tab α) (k : Nat) (v : α) : Tabs.look (Tabs.put t k v) k = some v := by
  induction t with
  | nil => simp [Tabs.put, Tabs.look]
  | cons e t ih =>
    obtain ⟨a, w⟩ := e
    by_cases h : k = a
    · simp [Tabs.put, Tabs.look, h]
    · by_cases h2 : k < a
      · simp [Tabs.put, Tabs.look, h, h2]
      · simp [Tabs.put, Tabs.look, h, h2, ih]

/-- Any other key reads as before. -/
theorem Tabs.look_put_ne (t : Tab α) {j k : Nat} (v : α) (hj : j ≠ k) : Tabs.look (Tabs.put t k v) j = Tabs.look t j := by
  induction t with
  | nil => simp only [Tabs.put, Tabs.look]; split <;> first | contradiction | (split <;> rfl)
  | cons e t ih =>
    obtain ⟨a, w⟩ := e
    by_cases h : k = a
    · subst h; simp [Tabs.put, Tabs.look, hj]
    · by_cases h2 : k < a
      · simp only [Tabs.put, h, h2, if_false, if_true, Tabs.look, hj]
        by_cases h3 : j < k
        · have h4 : j ≠ a := by omega
          have h5 : j < a := by omega
          simp [h3, h4, h5]
        · simp [h3]
      · simp only [Tabs.put, h, h2, if_false, Tabs.look, ih]

@[simp] theorem Tabs.val_put_same (t : Tab α) (d : α) (k : Nat) (v : α) : Tabs.val (Tabs.put t k v) d k = v := by
  simp [Tabs.val]

theorem Tabs.val_put_ne (t : Tab α) (d : α) {j k : Nat} (v : α) (hj : j ≠ k) :
    Tabs.val (Tabs.put t k v) d j = Tabs.val t d j := by
  simp [Tabs.val, Tabs.look_put_ne t v hj]

@[simp] theorem Tabs.val_nil (d : α) (k : Nat) : Tabs.val ([] : Tab α) d k = d := rfl

/-- A table whose first key lies above a bound stays so below it. -/
theorem Tabs.rising_mono {t : Tab α} {a b : Nat} (h : Tabs.rising (some b) t = true) (hab : a ≤ b) :
    Tabs.rising (some a) t = true := by
  cases t with
  | nil => rfl
  | cons e t =>
    obtain ⟨k, w⟩ := e
    simp only [Tabs.rising, Bool.and_eq_true, decide_eq_true_eq] at h ⊢
    exact ⟨by omega, h.2⟩

theorem Tabs.rising_some_none {t : Tab α} {a : Nat} (h : Tabs.rising (some a) t = true) : Tabs.rising none t = true := by
  cases t with
  | nil => rfl
  | cons e t =>
    obtain ⟨k, w⟩ := e
    simp only [Tabs.rising, Bool.and_eq_true] at h ⊢
    exact h.2

theorem Tabs.rising_put_some (t : Tab α) (b k : Nat) (v : α) (h : Tabs.rising (some b) t = true) (hb : b < k) :
    Tabs.rising (some b) (Tabs.put t k v) = true := by
  induction t generalizing b with
  | nil => simp [Tabs.put, Tabs.rising, hb]
  | cons e t ih =>
    obtain ⟨a, w⟩ := e
    simp only [Tabs.rising, Bool.and_eq_true, decide_eq_true_eq] at h
    simp only [Tabs.put]
    split
    · subst_vars; simp [Tabs.rising, h.1, h.2]
    · split
      · simp [Tabs.rising, hb, h.2]; assumption
      · simp only [Tabs.rising, Bool.and_eq_true, decide_eq_true_eq]
        exact ⟨h.1, ih a h.2 (by omega)⟩

/-- A write keeps the keys strictly rising. -/
theorem Tabs.rising_put (t : Tab α) (k : Nat) (v : α) (h : Tabs.rising none t = true) :
    Tabs.rising none (Tabs.put t k v) = true := by
  cases t with
  | nil => rfl
  | cons e t =>
    obtain ⟨a, w⟩ := e
    simp only [Tabs.rising] at h
    simp only [Tabs.put]
    split
    · subst_vars; simpa [Tabs.rising] using h
    · split
      · simp [Tabs.rising, h]; assumption
      · exact Tabs.rising_put_some t a k v h (by omega)

theorem Tabs.rising_del_some (t : Tab α) (b k : Nat) (h : Tabs.rising (some b) t = true) :
    Tabs.rising (some b) (Tabs.del t k) = true := by
  induction t generalizing b with
  | nil => rfl
  | cons e t ih =>
    obtain ⟨a, w⟩ := e
    simp only [Tabs.rising, Bool.and_eq_true, decide_eq_true_eq] at h
    simp only [Tabs.del]
    split
    · exact Tabs.rising_mono h.2 (by omega)
    · split
      · simp [Tabs.rising, h.1, h.2]
      · simp only [Tabs.rising, Bool.and_eq_true, decide_eq_true_eq]
        exact ⟨h.1, ih a h.2⟩

/-- A deletion keeps the keys strictly rising. -/
theorem Tabs.rising_del (t : Tab α) (k : Nat) (h : Tabs.rising none t = true) : Tabs.rising none (Tabs.del t k) = true := by
  cases t with
  | nil => rfl
  | cons e t =>
    obtain ⟨a, w⟩ := e
    simp only [Tabs.rising] at h
    simp only [Tabs.del]
    split
    · exact Tabs.rising_some_none h
    · split
      · simpa [Tabs.rising] using h
      · exact Tabs.rising_del_some t a k h

/-- What a predicate says of every entry holds after a write of an entry of which it says so. -/
theorem Tabs.all_put (t : Tab α) (k : Nat) (v : α) (p : Nat × α → Bool) (h : t.all p = true) (hv : p (k, v) = true) :
    (Tabs.put t k v).all p = true := by
  induction t with
  | nil => simp [Tabs.put, hv]
  | cons e t ih =>
    obtain ⟨a, w⟩ := e
    simp only [List.all_cons, Bool.and_eq_true] at h
    simp only [Tabs.put]
    split
    · simp [hv, h.2]
    · split
      · simp [hv, h.1, h.2]
      · simp [h.1, ih h.2]

theorem Tabs.all_del (t : Tab α) (k : Nat) (p : Nat × α → Bool) (h : t.all p = true) : (Tabs.del t k).all p = true := by
  induction t with
  | nil => rfl
  | cons e t ih =>
    obtain ⟨a, w⟩ := e
    simp only [List.all_cons, Bool.and_eq_true] at h
    simp only [Tabs.del]
    split
    · exact h.2
    · split
      · simp [h.1, h.2]
      · simp [h.1, ih h.2]

/-- A key below a rising table's bound is not listed. -/
theorem Tabs.look_below {t : Tab α} {b k : Nat} (h : Tabs.rising (some b) t = true) (hk : k ≤ b) : Tabs.look t k = none := by
  cases t with
  | nil => rfl
  | cons e t =>
    obtain ⟨a, w⟩ := e
    simp only [Tabs.rising, Bool.and_eq_true, decide_eq_true_eq] at h
    have h1 : k ≠ a := by omega
    have h2 : k < a := by omega
    simp [Tabs.look, h1, h2]

theorem Tabs.look_del_some (t : Tab α) (b k j : Nat) (h : Tabs.rising (some b) t = true) :
    Tabs.look (Tabs.del t k) j = if j = k then none else Tabs.look t j := by
  induction t generalizing b with
  | nil => simp [Tabs.del]
  | cons e t ih =>
    obtain ⟨a, w⟩ := e
    simp only [Tabs.rising, Bool.and_eq_true, decide_eq_true_eq] at h
    simp only [Tabs.del]
    split
    · subst_vars
      by_cases hj : j = a
      · subst hj; simp [Tabs.look_below h.2 (Nat.le_refl _)]
      · by_cases h2 : j < a
        · simp [Tabs.look, hj, h2, Tabs.look_below h.2 (Nat.le_of_lt h2)]
        · simp [Tabs.look, hj, h2]
    · split
      · by_cases hj : j = k
        · subst hj
          have : j ≠ a := by omega
          simp [Tabs.look, *]
        · simp [hj]
      · simp only [Tabs.look, ih a h.2]
        by_cases hj : j = k
        · subst hj
          have h1 : j ≠ a := by omega
          have h2 : ¬ j < a := by omega
          simp [h1, h2]
        · simp [hj]

/-- A deleted key reads as not listed, any other as before. -/
theorem Tabs.look_del (t : Tab α) (k j : Nat) (h : Tabs.rising none t = true) :
    Tabs.look (Tabs.del t k) j = if j = k then none else Tabs.look t j := by
  cases t with
  | nil => simp [Tabs.del]
  | cons e t =>
    obtain ⟨a, w⟩ := e
    simp only [Tabs.rising] at h
    have : Tabs.rising (some a) t = true := h
    simp only [Tabs.del]
    split
    · subst_vars
      by_cases hj : j = a
      · subst hj; simp [Tabs.look_below h (Nat.le_refl _)]
      · by_cases h2 : j < a
        · simp [Tabs.look, hj, h2, Tabs.look_below h (Nat.le_of_lt h2)]
        · simp [Tabs.look, hj, h2]
    · split
      · by_cases hj : j = k
        · subst hj
          have : j ≠ a := by omega
          simp [Tabs.look, *]
        · simp [hj]
      · simp only [Tabs.look, Tabs.look_del_some t a k j h]
        by_cases hj : j = k
        · subst hj
          have h1 : j ≠ a := by omega
          have h2 : ¬ j < a := by omega
          simp [h1, h2]
        · simp [hj]

theorem le_length (n v : Nat) : (le n v).length = n := by
  induction n generalizing v with
  | zero => rfl
  | succ n ih => simp [le, ih]

/-- The number that the little-endian bytes of `v` spell. -/
theorem unle_le (n v : Nat) : unle (le n v) = v % 256 ^ n := by
  induction n generalizing v with
  | zero => simp [le, unle, Nat.mod_one]
  | succ n ih =>
    simp only [le, unle, ih, BitVec.toNat_ofNat]
    rw [show (256 : ℕ) ^ (n + 1) = 256 * 256 ^ n by ring, Nat.mod_mul]

end Sys2Proof.Machine
end

