-- ==== Sys2Proof/Laws/Memory.lean ====
section
/-! SUPPORT. Laws of host memory: a read after a write, and the canonical form. -/

namespace Sys2Proof.Machine

/-- Canonical form of a memory table. -/
abbrev memForm (t : Tab Byte) : Bool := Tabs.rising none t && t.all (fun e => e.2 != 0)

theorem Mach.memWf_eq (m : Mach) : m.memWf = memForm m.hostMem := rfl

/-- A byte write keeps the canonical form. -/
theorem hostPut_form (t : Tab Byte) (a : Nat) (v : Byte) (h : memForm t = true) : memForm (hostPut t a v) = true := by
  simp only [memForm, Bool.and_eq_true] at h ⊢
  unfold hostPut
  split
  · exact ⟨Tabs.rising_del t a h.1, Tabs.all_del t a _ h.2⟩
  · rename_i hv
    exact ⟨Tabs.rising_put t a v h.1, Tabs.all_put t a v _ h.2 (by simpa using hv)⟩

theorem hostPuts_form (l : List Byte) (t : Tab Byte) (a : Nat) (h : memForm t = true) : memForm (hostPuts t a l) = true := by
  induction l generalizing t a with
  | nil => exact h
  | cons v l ih => exact ih _ _ (hostPut_form t a v h)

/-- A write to host memory keeps its canonical form. -/
theorem Mach.hostWr_memWf (m : Mach) (a : Nat) (l : List Byte) (h : m.memWf = true) : (m.hostWr a l).memWf = true :=
  hostPuts_form l m.hostMem a h

/-- The byte just written. -/
theorem hostPut_same (t : Tab Byte) (a : Nat) (v : Byte) (h : memForm t = true) : Tabs.val (hostPut t a v) 0 a = v := by
  simp only [memForm, Bool.and_eq_true] at h
  unfold hostPut
  split
  · rename_i hv; simp [Tabs.val, Tabs.look_del t a a h.1, hv]
  · simp

/-- Any other byte. -/
theorem hostPut_ne (t : Tab Byte) (a b : Nat) (v : Byte) (h : memForm t = true) (hb : b ≠ a) :
    Tabs.val (hostPut t a v) 0 b = Tabs.val t 0 b := by
  simp only [memForm, Bool.and_eq_true] at h
  unfold hostPut
  split
  · simp [Tabs.val, Tabs.look_del t a b h.1, hb]
  · exact Tabs.val_put_ne t 0 v hb

/-- A byte outside those written. -/
theorem hostPuts_outside (l : List Byte) (t : Tab Byte) (a b : Nat) (h : memForm t = true) (hb : b < a ∨ a + l.length ≤ b) :
    Tabs.val (hostPuts t a l) 0 b = Tabs.val t 0 b := by
  induction l generalizing t a with
  | nil => rfl
  | cons v l ih =>
    simp only [List.length_cons] at hb
    rw [hostPuts, ih _ _ (hostPut_form t a v h) (by omega), hostPut_ne t a b v h (by omega)]

/-- The bytes written. -/
theorem hostPuts_inside (l : List Byte) (t : Tab Byte) (a k : Nat) (h : memForm t = true) (hk : k < l.length) :
    Tabs.val (hostPuts t a l) 0 (a + k) = l[k] := by
  induction l generalizing t a k with
  | nil => simp at hk
  | cons v l ih =>
    cases k with
    | zero =>
      rw [hostPuts, hostPuts_outside l _ (a + 1) (a + 0) (hostPut_form t a v h) (by omega)]
      simpa using hostPut_same t a v h
    | succ k =>
      have := ih (hostPut t a v) (a + 1) k (hostPut_form t a v h) (by simpa using hk)
      simpa [hostPuts, Nat.add_assoc, Nat.add_comm 1 k] using this

end Sys2Proof.Machine
end

