-- ==== Sys2Proof/Laws/State.lean ====
section
/-! SUPPORT. What each update of the part leaves as it was: one lemma for each field and update, and what an update puts into its field. -/

namespace Sys2Proof.Machine

variable (m : Mach)

@[simp] theorem Mach.w_hostMem (f : Field) (v i j : Nat) : (m.w f v i j).hostMem = m.hostMem := rfl
@[simp] theorem Mach.w_hif (f : Field) (v i j : Nat) : (m.w f v i j).hif = m.hif := rfl
@[simp] theorem Mach.w_intc (f : Field) (v i j : Nat) : (m.w f v i j).intc = m.intc := rfl
@[simp] theorem Mach.w_shard (f : Field) (v i j : Nat) : (m.w f v i j).shard = m.shard := rfl
@[simp] theorem Mach.w_kiln (f : Field) (v i j : Nat) : (m.w f v i j).kiln = m.kiln := rfl
@[simp] theorem Mach.w_dam (f : Field) (v i j : Nat) : (m.w f v i j).dam = m.dam := rfl
@[simp] theorem Mach.w_time (f : Field) (v i j : Nat) : (m.w f v i j).time = m.time := rfl
@[simp] theorem Mach.w_mot (f : Field) (v i j : Nat) : (m.w f v i j).mot = m.mot := rfl
@[simp] theorem Mach.w_chop (f : Field) (v i j : Nat) : (m.w f v i j).chop = m.chop := rfl
@[simp] theorem Mach.w_air (f : Field) (v i j : Nat) : (m.w f v i j).air = m.air := rfl
@[simp] theorem Mach.w_red (f : Field) (v i j : Nat) : (m.w f v i j).red = m.red := rfl
@[simp] theorem Mach.w_sag (f : Field) (v i j : Nat) : (m.w f v i j).sag = m.sag := rfl
@[simp] theorem Mach.w_met (f : Field) (v i j : Nat) : (m.w f v i j).met = m.met := rfl
@[simp] theorem Mach.w_gnss (f : Field) (v i j : Nat) : (m.w f v i j).gnss = m.gnss := rfl
@[simp] theorem Mach.w_corr (f : Field) (v i j : Nat) : (m.w f v i j).corr = m.corr := rfl
@[simp] theorem Mach.w_upd (f : Field) (v i j : Nat) : (m.w f v i j).upd = m.upd := rfl
@[simp] theorem Mach.w_boot (f : Field) (v i j : Nat) : (m.w f v i j).boot = m.boot := rfl
@[simp] theorem Mach.w_ist (f : Field) (v i j : Nat) : (m.w f v i j).ist = m.ist := rfl
@[simp] theorem Mach.w_nv (f : Field) (v i j : Nat) : (m.w f v i j).nv = m.nv := rfl
@[simp] theorem Mach.w_out (f : Field) (v i j : Nat) : (m.w f v i j).out = m.out := rfl
@[simp] theorem Mach.w_freeCtr (f : Field) (v i j : Nat) : (m.w f v i j).freeCtr = m.freeCtr := rfl
@[simp] theorem Mach.wWord_hostMem (f : Field) (v i j : Nat) : (m.wWord f v i j).hostMem = m.hostMem := rfl
@[simp] theorem Mach.wWord_hif (f : Field) (v i j : Nat) : (m.wWord f v i j).hif = m.hif := rfl
@[simp] theorem Mach.wWord_intc (f : Field) (v i j : Nat) : (m.wWord f v i j).intc = m.intc := rfl
@[simp] theorem Mach.wWord_shard (f : Field) (v i j : Nat) : (m.wWord f v i j).shard = m.shard := rfl
@[simp] theorem Mach.wWord_kiln (f : Field) (v i j : Nat) : (m.wWord f v i j).kiln = m.kiln := rfl
@[simp] theorem Mach.wWord_dam (f : Field) (v i j : Nat) : (m.wWord f v i j).dam = m.dam := rfl
@[simp] theorem Mach.wWord_time (f : Field) (v i j : Nat) : (m.wWord f v i j).time = m.time := rfl
@[simp] theorem Mach.wWord_mot (f : Field) (v i j : Nat) : (m.wWord f v i j).mot = m.mot := rfl
@[simp] theorem Mach.wWord_chop (f : Field) (v i j : Nat) : (m.wWord f v i j).chop = m.chop := rfl
@[simp] theorem Mach.wWord_air (f : Field) (v i j : Nat) : (m.wWord f v i j).air = m.air := rfl
@[simp] theorem Mach.wWord_red (f : Field) (v i j : Nat) : (m.wWord f v i j).red = m.red := rfl
@[simp] theorem Mach.wWord_sag (f : Field) (v i j : Nat) : (m.wWord f v i j).sag = m.sag := rfl
@[simp] theorem Mach.wWord_met (f : Field) (v i j : Nat) : (m.wWord f v i j).met = m.met := rfl
@[simp] theorem Mach.wWord_gnss (f : Field) (v i j : Nat) : (m.wWord f v i j).gnss = m.gnss := rfl
@[simp] theorem Mach.wWord_corr (f : Field) (v i j : Nat) : (m.wWord f v i j).corr = m.corr := rfl
@[simp] theorem Mach.wWord_upd (f : Field) (v i j : Nat) : (m.wWord f v i j).upd = m.upd := rfl
@[simp] theorem Mach.wWord_boot (f : Field) (v i j : Nat) : (m.wWord f v i j).boot = m.boot := rfl
@[simp] theorem Mach.wWord_ist (f : Field) (v i j : Nat) : (m.wWord f v i j).ist = m.ist := rfl
@[simp] theorem Mach.wWord_nv (f : Field) (v i j : Nat) : (m.wWord f v i j).nv = m.nv := rfl
@[simp] theorem Mach.wWord_out (f : Field) (v i j : Nat) : (m.wWord f v i j).out = m.out := rfl
@[simp] theorem Mach.wWord_freeCtr (f : Field) (v i j : Nat) : (m.wWord f v i j).freeCtr = m.freeCtr := rfl
@[simp] theorem Mach.wb_hostMem (f : Field) (v : Bool) (i j : Nat) : (m.wb f v i j).hostMem = m.hostMem := rfl
@[simp] theorem Mach.wb_hif (f : Field) (v : Bool) (i j : Nat) : (m.wb f v i j).hif = m.hif := rfl
@[simp] theorem Mach.wb_intc (f : Field) (v : Bool) (i j : Nat) : (m.wb f v i j).intc = m.intc := rfl
@[simp] theorem Mach.wb_shard (f : Field) (v : Bool) (i j : Nat) : (m.wb f v i j).shard = m.shard := rfl
@[simp] theorem Mach.wb_kiln (f : Field) (v : Bool) (i j : Nat) : (m.wb f v i j).kiln = m.kiln := rfl
@[simp] theorem Mach.wb_dam (f : Field) (v : Bool) (i j : Nat) : (m.wb f v i j).dam = m.dam := rfl
@[simp] theorem Mach.wb_time (f : Field) (v : Bool) (i j : Nat) : (m.wb f v i j).time = m.time := rfl
@[simp] theorem Mach.wb_mot (f : Field) (v : Bool) (i j : Nat) : (m.wb f v i j).mot = m.mot := rfl
@[simp] theorem Mach.wb_chop (f : Field) (v : Bool) (i j : Nat) : (m.wb f v i j).chop = m.chop := rfl
@[simp] theorem Mach.wb_air (f : Field) (v : Bool) (i j : Nat) : (m.wb f v i j).air = m.air := rfl
@[simp] theorem Mach.wb_red (f : Field) (v : Bool) (i j : Nat) : (m.wb f v i j).red = m.red := rfl
@[simp] theorem Mach.wb_sag (f : Field) (v : Bool) (i j : Nat) : (m.wb f v i j).sag = m.sag := rfl
@[simp] theorem Mach.wb_met (f : Field) (v : Bool) (i j : Nat) : (m.wb f v i j).met = m.met := rfl
@[simp] theorem Mach.wb_gnss (f : Field) (v : Bool) (i j : Nat) : (m.wb f v i j).gnss = m.gnss := rfl
@[simp] theorem Mach.wb_corr (f : Field) (v : Bool) (i j : Nat) : (m.wb f v i j).corr = m.corr := rfl
@[simp] theorem Mach.wb_upd (f : Field) (v : Bool) (i j : Nat) : (m.wb f v i j).upd = m.upd := rfl
@[simp] theorem Mach.wb_boot (f : Field) (v : Bool) (i j : Nat) : (m.wb f v i j).boot = m.boot := rfl
@[simp] theorem Mach.wb_ist (f : Field) (v : Bool) (i j : Nat) : (m.wb f v i j).ist = m.ist := rfl
@[simp] theorem Mach.wb_nv (f : Field) (v : Bool) (i j : Nat) : (m.wb f v i j).nv = m.nv := rfl
@[simp] theorem Mach.wb_out (f : Field) (v : Bool) (i j : Nat) : (m.wb f v i j).out = m.out := rfl
@[simp] theorem Mach.wb_freeCtr (f : Field) (v : Bool) (i j : Nat) : (m.wb f v i j).freeCtr = m.freeCtr := rfl
@[simp] theorem Mach.wi_hostMem (f : Field) (v : Int) (i j : Nat) : (m.wi f v i j).hostMem = m.hostMem := rfl
@[simp] theorem Mach.wi_hif (f : Field) (v : Int) (i j : Nat) : (m.wi f v i j).hif = m.hif := rfl
@[simp] theorem Mach.wi_intc (f : Field) (v : Int) (i j : Nat) : (m.wi f v i j).intc = m.intc := rfl
@[simp] theorem Mach.wi_shard (f : Field) (v : Int) (i j : Nat) : (m.wi f v i j).shard = m.shard := rfl
@[simp] theorem Mach.wi_kiln (f : Field) (v : Int) (i j : Nat) : (m.wi f v i j).kiln = m.kiln := rfl
@[simp] theorem Mach.wi_dam (f : Field) (v : Int) (i j : Nat) : (m.wi f v i j).dam = m.dam := rfl
@[simp] theorem Mach.wi_time (f : Field) (v : Int) (i j : Nat) : (m.wi f v i j).time = m.time := rfl
@[simp] theorem Mach.wi_mot (f : Field) (v : Int) (i j : Nat) : (m.wi f v i j).mot = m.mot := rfl
@[simp] theorem Mach.wi_chop (f : Field) (v : Int) (i j : Nat) : (m.wi f v i j).chop = m.chop := rfl
@[simp] theorem Mach.wi_air (f : Field) (v : Int) (i j : Nat) : (m.wi f v i j).air = m.air := rfl
@[simp] theorem Mach.wi_red (f : Field) (v : Int) (i j : Nat) : (m.wi f v i j).red = m.red := rfl
@[simp] theorem Mach.wi_sag (f : Field) (v : Int) (i j : Nat) : (m.wi f v i j).sag = m.sag := rfl
@[simp] theorem Mach.wi_met (f : Field) (v : Int) (i j : Nat) : (m.wi f v i j).met = m.met := rfl
@[simp] theorem Mach.wi_gnss (f : Field) (v : Int) (i j : Nat) : (m.wi f v i j).gnss = m.gnss := rfl
@[simp] theorem Mach.wi_corr (f : Field) (v : Int) (i j : Nat) : (m.wi f v i j).corr = m.corr := rfl
@[simp] theorem Mach.wi_upd (f : Field) (v : Int) (i j : Nat) : (m.wi f v i j).upd = m.upd := rfl
@[simp] theorem Mach.wi_boot (f : Field) (v : Int) (i j : Nat) : (m.wi f v i j).boot = m.boot := rfl
@[simp] theorem Mach.wi_ist (f : Field) (v : Int) (i j : Nat) : (m.wi f v i j).ist = m.ist := rfl
@[simp] theorem Mach.wi_nv (f : Field) (v : Int) (i j : Nat) : (m.wi f v i j).nv = m.nv := rfl
@[simp] theorem Mach.wi_out (f : Field) (v : Int) (i j : Nat) : (m.wi f v i j).out = m.out := rfl
@[simp] theorem Mach.wi_freeCtr (f : Field) (v : Int) (i j : Nat) : (m.wi f v i j).freeCtr = m.freeCtr := rfl
@[simp] theorem Mach.incBy_hostMem (f : Field) (n i j : Nat) : (m.incBy f n i j).hostMem = m.hostMem := rfl
@[simp] theorem Mach.incBy_hif (f : Field) (n i j : Nat) : (m.incBy f n i j).hif = m.hif := rfl
@[simp] theorem Mach.incBy_intc (f : Field) (n i j : Nat) : (m.incBy f n i j).intc = m.intc := rfl
@[simp] theorem Mach.incBy_shard (f : Field) (n i j : Nat) : (m.incBy f n i j).shard = m.shard := rfl
@[simp] theorem Mach.incBy_kiln (f : Field) (n i j : Nat) : (m.incBy f n i j).kiln = m.kiln := rfl
@[simp] theorem Mach.incBy_dam (f : Field) (n i j : Nat) : (m.incBy f n i j).dam = m.dam := rfl
@[simp] theorem Mach.incBy_time (f : Field) (n i j : Nat) : (m.incBy f n i j).time = m.time := rfl
@[simp] theorem Mach.incBy_mot (f : Field) (n i j : Nat) : (m.incBy f n i j).mot = m.mot := rfl
@[simp] theorem Mach.incBy_chop (f : Field) (n i j : Nat) : (m.incBy f n i j).chop = m.chop := rfl
@[simp] theorem Mach.incBy_air (f : Field) (n i j : Nat) : (m.incBy f n i j).air = m.air := rfl
@[simp] theorem Mach.incBy_red (f : Field) (n i j : Nat) : (m.incBy f n i j).red = m.red := rfl
@[simp] theorem Mach.incBy_sag (f : Field) (n i j : Nat) : (m.incBy f n i j).sag = m.sag := rfl
@[simp] theorem Mach.incBy_met (f : Field) (n i j : Nat) : (m.incBy f n i j).met = m.met := rfl
@[simp] theorem Mach.incBy_gnss (f : Field) (n i j : Nat) : (m.incBy f n i j).gnss = m.gnss := rfl
@[simp] theorem Mach.incBy_corr (f : Field) (n i j : Nat) : (m.incBy f n i j).corr = m.corr := rfl
@[simp] theorem Mach.incBy_upd (f : Field) (n i j : Nat) : (m.incBy f n i j).upd = m.upd := rfl
@[simp] theorem Mach.incBy_boot (f : Field) (n i j : Nat) : (m.incBy f n i j).boot = m.boot := rfl
@[simp] theorem Mach.incBy_ist (f : Field) (n i j : Nat) : (m.incBy f n i j).ist = m.ist := rfl
@[simp] theorem Mach.incBy_nv (f : Field) (n i j : Nat) : (m.incBy f n i j).nv = m.nv := rfl
@[simp] theorem Mach.incBy_out (f : Field) (n i j : Nat) : (m.incBy f n i j).out = m.out := rfl
@[simp] theorem Mach.incBy_freeCtr (f : Field) (n i j : Nat) : (m.incBy f n i j).freeCtr = m.freeCtr := rfl
@[simp] theorem Mach.inc_hostMem (f : Field) (i : Nat) : (m.inc f i).hostMem = m.hostMem := rfl
@[simp] theorem Mach.inc_hif (f : Field) (i : Nat) : (m.inc f i).hif = m.hif := rfl
@[simp] theorem Mach.inc_intc (f : Field) (i : Nat) : (m.inc f i).intc = m.intc := rfl
@[simp] theorem Mach.inc_shard (f : Field) (i : Nat) : (m.inc f i).shard = m.shard := rfl
@[simp] theorem Mach.inc_kiln (f : Field) (i : Nat) : (m.inc f i).kiln = m.kiln := rfl
@[simp] theorem Mach.inc_dam (f : Field) (i : Nat) : (m.inc f i).dam = m.dam := rfl
@[simp] theorem Mach.inc_time (f : Field) (i : Nat) : (m.inc f i).time = m.time := rfl
@[simp] theorem Mach.inc_mot (f : Field) (i : Nat) : (m.inc f i).mot = m.mot := rfl
@[simp] theorem Mach.inc_chop (f : Field) (i : Nat) : (m.inc f i).chop = m.chop := rfl
@[simp] theorem Mach.inc_air (f : Field) (i : Nat) : (m.inc f i).air = m.air := rfl
@[simp] theorem Mach.inc_red (f : Field) (i : Nat) : (m.inc f i).red = m.red := rfl
@[simp] theorem Mach.inc_sag (f : Field) (i : Nat) : (m.inc f i).sag = m.sag := rfl
@[simp] theorem Mach.inc_met (f : Field) (i : Nat) : (m.inc f i).met = m.met := rfl
@[simp] theorem Mach.inc_gnss (f : Field) (i : Nat) : (m.inc f i).gnss = m.gnss := rfl
@[simp] theorem Mach.inc_corr (f : Field) (i : Nat) : (m.inc f i).corr = m.corr := rfl
@[simp] theorem Mach.inc_upd (f : Field) (i : Nat) : (m.inc f i).upd = m.upd := rfl
@[simp] theorem Mach.inc_boot (f : Field) (i : Nat) : (m.inc f i).boot = m.boot := rfl
@[simp] theorem Mach.inc_ist (f : Field) (i : Nat) : (m.inc f i).ist = m.ist := rfl
@[simp] theorem Mach.inc_nv (f : Field) (i : Nat) : (m.inc f i).nv = m.nv := rfl
@[simp] theorem Mach.inc_out (f : Field) (i : Nat) : (m.inc f i).out = m.out := rfl
@[simp] theorem Mach.inc_freeCtr (f : Field) (i : Nat) : (m.inc f i).freeCtr = m.freeCtr := rfl
@[simp] theorem Mach.maxTo_hostMem (f : Field) (v i : Nat) : (m.maxTo f v i).hostMem = m.hostMem := rfl
@[simp] theorem Mach.maxTo_hif (f : Field) (v i : Nat) : (m.maxTo f v i).hif = m.hif := rfl
@[simp] theorem Mach.maxTo_intc (f : Field) (v i : Nat) : (m.maxTo f v i).intc = m.intc := rfl
@[simp] theorem Mach.maxTo_shard (f : Field) (v i : Nat) : (m.maxTo f v i).shard = m.shard := rfl
@[simp] theorem Mach.maxTo_kiln (f : Field) (v i : Nat) : (m.maxTo f v i).kiln = m.kiln := rfl
@[simp] theorem Mach.maxTo_dam (f : Field) (v i : Nat) : (m.maxTo f v i).dam = m.dam := rfl
@[simp] theorem Mach.maxTo_time (f : Field) (v i : Nat) : (m.maxTo f v i).time = m.time := rfl
@[simp] theorem Mach.maxTo_mot (f : Field) (v i : Nat) : (m.maxTo f v i).mot = m.mot := rfl
@[simp] theorem Mach.maxTo_chop (f : Field) (v i : Nat) : (m.maxTo f v i).chop = m.chop := rfl
@[simp] theorem Mach.maxTo_air (f : Field) (v i : Nat) : (m.maxTo f v i).air = m.air := rfl
@[simp] theorem Mach.maxTo_red (f : Field) (v i : Nat) : (m.maxTo f v i).red = m.red := rfl
@[simp] theorem Mach.maxTo_sag (f : Field) (v i : Nat) : (m.maxTo f v i).sag = m.sag := rfl
@[simp] theorem Mach.maxTo_met (f : Field) (v i : Nat) : (m.maxTo f v i).met = m.met := rfl
@[simp] theorem Mach.maxTo_gnss (f : Field) (v i : Nat) : (m.maxTo f v i).gnss = m.gnss := rfl
@[simp] theorem Mach.maxTo_corr (f : Field) (v i : Nat) : (m.maxTo f v i).corr = m.corr := rfl
@[simp] theorem Mach.maxTo_upd (f : Field) (v i : Nat) : (m.maxTo f v i).upd = m.upd := rfl
@[simp] theorem Mach.maxTo_boot (f : Field) (v i : Nat) : (m.maxTo f v i).boot = m.boot := rfl
@[simp] theorem Mach.maxTo_ist (f : Field) (v i : Nat) : (m.maxTo f v i).ist = m.ist := rfl
@[simp] theorem Mach.maxTo_nv (f : Field) (v i : Nat) : (m.maxTo f v i).nv = m.nv := rfl
@[simp] theorem Mach.maxTo_out (f : Field) (v i : Nat) : (m.maxTo f v i).out = m.out := rfl
@[simp] theorem Mach.maxTo_freeCtr (f : Field) (v i : Nat) : (m.maxTo f v i).freeCtr = m.freeCtr := rfl
@[simp] theorem Mach.emit_regs (e : Emission) : (m.emit e).regs = m.regs := rfl
@[simp] theorem Mach.emit_hostMem (e : Emission) : (m.emit e).hostMem = m.hostMem := rfl
@[simp] theorem Mach.emit_hif (e : Emission) : (m.emit e).hif = m.hif := rfl
@[simp] theorem Mach.emit_intc (e : Emission) : (m.emit e).intc = m.intc := rfl
@[simp] theorem Mach.emit_shard (e : Emission) : (m.emit e).shard = m.shard := rfl
@[simp] theorem Mach.emit_kiln (e : Emission) : (m.emit e).kiln = m.kiln := rfl
@[simp] theorem Mach.emit_dam (e : Emission) : (m.emit e).dam = m.dam := rfl
@[simp] theorem Mach.emit_time (e : Emission) : (m.emit e).time = m.time := rfl
@[simp] theorem Mach.emit_mot (e : Emission) : (m.emit e).mot = m.mot := rfl
@[simp] theorem Mach.emit_chop (e : Emission) : (m.emit e).chop = m.chop := rfl
@[simp] theorem Mach.emit_air (e : Emission) : (m.emit e).air = m.air := rfl
@[simp] theorem Mach.emit_red (e : Emission) : (m.emit e).red = m.red := rfl
@[simp] theorem Mach.emit_sag (e : Emission) : (m.emit e).sag = m.sag := rfl
@[simp] theorem Mach.emit_met (e : Emission) : (m.emit e).met = m.met := rfl
@[simp] theorem Mach.emit_gnss (e : Emission) : (m.emit e).gnss = m.gnss := rfl
@[simp] theorem Mach.emit_corr (e : Emission) : (m.emit e).corr = m.corr := rfl
@[simp] theorem Mach.emit_upd (e : Emission) : (m.emit e).upd = m.upd := rfl
@[simp] theorem Mach.emit_boot (e : Emission) : (m.emit e).boot = m.boot := rfl
@[simp] theorem Mach.emit_ist (e : Emission) : (m.emit e).ist = m.ist := rfl
@[simp] theorem Mach.emit_nv (e : Emission) : (m.emit e).nv = m.nv := rfl
@[simp] theorem Mach.emit_freeCtr (e : Emission) : (m.emit e).freeCtr = m.freeCtr := rfl
@[simp] theorem Mach.hostWr_regs (a : Nat) (l : List Byte) : (m.hostWr a l).regs = m.regs := rfl
@[simp] theorem Mach.hostWr_hif (a : Nat) (l : List Byte) : (m.hostWr a l).hif = m.hif := rfl
@[simp] theorem Mach.hostWr_intc (a : Nat) (l : List Byte) : (m.hostWr a l).intc = m.intc := rfl
@[simp] theorem Mach.hostWr_shard (a : Nat) (l : List Byte) : (m.hostWr a l).shard = m.shard := rfl
@[simp] theorem Mach.hostWr_kiln (a : Nat) (l : List Byte) : (m.hostWr a l).kiln = m.kiln := rfl
@[simp] theorem Mach.hostWr_dam (a : Nat) (l : List Byte) : (m.hostWr a l).dam = m.dam := rfl
@[simp] theorem Mach.hostWr_time (a : Nat) (l : List Byte) : (m.hostWr a l).time = m.time := rfl
@[simp] theorem Mach.hostWr_mot (a : Nat) (l : List Byte) : (m.hostWr a l).mot = m.mot := rfl
@[simp] theorem Mach.hostWr_chop (a : Nat) (l : List Byte) : (m.hostWr a l).chop = m.chop := rfl
@[simp] theorem Mach.hostWr_air (a : Nat) (l : List Byte) : (m.hostWr a l).air = m.air := rfl
@[simp] theorem Mach.hostWr_red (a : Nat) (l : List Byte) : (m.hostWr a l).red = m.red := rfl
@[simp] theorem Mach.hostWr_sag (a : Nat) (l : List Byte) : (m.hostWr a l).sag = m.sag := rfl
@[simp] theorem Mach.hostWr_met (a : Nat) (l : List Byte) : (m.hostWr a l).met = m.met := rfl
@[simp] theorem Mach.hostWr_gnss (a : Nat) (l : List Byte) : (m.hostWr a l).gnss = m.gnss := rfl
@[simp] theorem Mach.hostWr_corr (a : Nat) (l : List Byte) : (m.hostWr a l).corr = m.corr := rfl
@[simp] theorem Mach.hostWr_upd (a : Nat) (l : List Byte) : (m.hostWr a l).upd = m.upd := rfl
@[simp] theorem Mach.hostWr_boot (a : Nat) (l : List Byte) : (m.hostWr a l).boot = m.boot := rfl
@[simp] theorem Mach.hostWr_ist (a : Nat) (l : List Byte) : (m.hostWr a l).ist = m.ist := rfl
@[simp] theorem Mach.hostWr_nv (a : Nat) (l : List Byte) : (m.hostWr a l).nv = m.nv := rfl
@[simp] theorem Mach.hostWr_out (a : Nat) (l : List Byte) : (m.hostWr a l).out = m.out := rfl
@[simp] theorem Mach.hostWr_freeCtr (a : Nat) (l : List Byte) : (m.hostWr a l).freeCtr = m.freeCtr := rfl
@[simp] theorem Mach.bufWr_regs (d : Desc) (o : Nat) (l : List Byte) : (m.bufWr d o l).regs = m.regs := by simp only [Mach.bufWr]; split <;> rfl
@[simp] theorem Mach.bufWr_hif (d : Desc) (o : Nat) (l : List Byte) : (m.bufWr d o l).hif = m.hif := by simp only [Mach.bufWr]; split <;> rfl
@[simp] theorem Mach.bufWr_intc (d : Desc) (o : Nat) (l : List Byte) : (m.bufWr d o l).intc = m.intc := by simp only [Mach.bufWr]; split <;> rfl
@[simp] theorem Mach.bufWr_shard (d : Desc) (o : Nat) (l : List Byte) : (m.bufWr d o l).shard = m.shard := by simp only [Mach.bufWr]; split <;> rfl
@[simp] theorem Mach.bufWr_kiln (d : Desc) (o : Nat) (l : List Byte) : (m.bufWr d o l).kiln = m.kiln := by simp only [Mach.bufWr]; split <;> rfl
@[simp] theorem Mach.bufWr_dam (d : Desc) (o : Nat) (l : List Byte) : (m.bufWr d o l).dam = m.dam := by simp only [Mach.bufWr]; split <;> rfl
@[simp] theorem Mach.bufWr_time (d : Desc) (o : Nat) (l : List Byte) : (m.bufWr d o l).time = m.time := by simp only [Mach.bufWr]; split <;> rfl
@[simp] theorem Mach.bufWr_mot (d : Desc) (o : Nat) (l : List Byte) : (m.bufWr d o l).mot = m.mot := by simp only [Mach.bufWr]; split <;> rfl
@[simp] theorem Mach.bufWr_chop (d : Desc) (o : Nat) (l : List Byte) : (m.bufWr d o l).chop = m.chop := by simp only [Mach.bufWr]; split <;> rfl
@[simp] theorem Mach.bufWr_air (d : Desc) (o : Nat) (l : List Byte) : (m.bufWr d o l).air = m.air := by simp only [Mach.bufWr]; split <;> rfl
@[simp] theorem Mach.bufWr_red (d : Desc) (o : Nat) (l : List Byte) : (m.bufWr d o l).red = m.red := by simp only [Mach.bufWr]; split <;> rfl
@[simp] theorem Mach.bufWr_sag (d : Desc) (o : Nat) (l : List Byte) : (m.bufWr d o l).sag = m.sag := by simp only [Mach.bufWr]; split <;> rfl
@[simp] theorem Mach.bufWr_met (d : Desc) (o : Nat) (l : List Byte) : (m.bufWr d o l).met = m.met := by simp only [Mach.bufWr]; split <;> rfl
@[simp] theorem Mach.bufWr_gnss (d : Desc) (o : Nat) (l : List Byte) : (m.bufWr d o l).gnss = m.gnss := by simp only [Mach.bufWr]; split <;> rfl
@[simp] theorem Mach.bufWr_corr (d : Desc) (o : Nat) (l : List Byte) : (m.bufWr d o l).corr = m.corr := by simp only [Mach.bufWr]; split <;> rfl
@[simp] theorem Mach.bufWr_upd (d : Desc) (o : Nat) (l : List Byte) : (m.bufWr d o l).upd = m.upd := by simp only [Mach.bufWr]; split <;> rfl
@[simp] theorem Mach.bufWr_boot (d : Desc) (o : Nat) (l : List Byte) : (m.bufWr d o l).boot = m.boot := by simp only [Mach.bufWr]; split <;> rfl
@[simp] theorem Mach.bufWr_ist (d : Desc) (o : Nat) (l : List Byte) : (m.bufWr d o l).ist = m.ist := by simp only [Mach.bufWr]; split <;> rfl
@[simp] theorem Mach.bufWr_nv (d : Desc) (o : Nat) (l : List Byte) : (m.bufWr d o l).nv = m.nv := by simp only [Mach.bufWr]; split <;> rfl
@[simp] theorem Mach.bufWr_out (d : Desc) (o : Nat) (l : List Byte) : (m.bufWr d o l).out = m.out := by simp only [Mach.bufWr]; split <;> rfl
@[simp] theorem Mach.bufWr_freeCtr (d : Desc) (o : Nat) (l : List Byte) : (m.bufWr d o l).freeCtr = m.freeCtr := by simp only [Mach.bufWr]; split <;> rfl
@[simp] theorem Mach.setVec_regs (v : Nat) (x : Vec) : (m.setVec v x).regs = m.regs := rfl
@[simp] theorem Mach.setVec_hostMem (v : Nat) (x : Vec) : (m.setVec v x).hostMem = m.hostMem := rfl
@[simp] theorem Mach.setVec_intc (v : Nat) (x : Vec) : (m.setVec v x).intc = m.intc := rfl
@[simp] theorem Mach.setVec_shard (v : Nat) (x : Vec) : (m.setVec v x).shard = m.shard := rfl
@[simp] theorem Mach.setVec_kiln (v : Nat) (x : Vec) : (m.setVec v x).kiln = m.kiln := rfl
@[simp] theorem Mach.setVec_dam (v : Nat) (x : Vec) : (m.setVec v x).dam = m.dam := rfl
@[simp] theorem Mach.setVec_time (v : Nat) (x : Vec) : (m.setVec v x).time = m.time := rfl
@[simp] theorem Mach.setVec_mot (v : Nat) (x : Vec) : (m.setVec v x).mot = m.mot := rfl
@[simp] theorem Mach.setVec_chop (v : Nat) (x : Vec) : (m.setVec v x).chop = m.chop := rfl
@[simp] theorem Mach.setVec_air (v : Nat) (x : Vec) : (m.setVec v x).air = m.air := rfl
@[simp] theorem Mach.setVec_red (v : Nat) (x : Vec) : (m.setVec v x).red = m.red := rfl
@[simp] theorem Mach.setVec_sag (v : Nat) (x : Vec) : (m.setVec v x).sag = m.sag := rfl
@[simp] theorem Mach.setVec_met (v : Nat) (x : Vec) : (m.setVec v x).met = m.met := rfl
@[simp] theorem Mach.setVec_gnss (v : Nat) (x : Vec) : (m.setVec v x).gnss = m.gnss := rfl
@[simp] theorem Mach.setVec_corr (v : Nat) (x : Vec) : (m.setVec v x).corr = m.corr := rfl
@[simp] theorem Mach.setVec_upd (v : Nat) (x : Vec) : (m.setVec v x).upd = m.upd := rfl
@[simp] theorem Mach.setVec_boot (v : Nat) (x : Vec) : (m.setVec v x).boot = m.boot := rfl
@[simp] theorem Mach.setVec_ist (v : Nat) (x : Vec) : (m.setVec v x).ist = m.ist := rfl
@[simp] theorem Mach.setVec_nv (v : Nat) (x : Vec) : (m.setVec v x).nv = m.nv := rfl
@[simp] theorem Mach.setVec_out (v : Nat) (x : Vec) : (m.setVec v x).out = m.out := rfl
@[simp] theorem Mach.setVec_freeCtr (v : Nat) (x : Vec) : (m.setVec v x).freeCtr = m.freeCtr := rfl
@[simp] theorem Mach.setRing_regs (r : Nat) (x : Ring) : (m.setRing r x).regs = m.regs := rfl
@[simp] theorem Mach.setRing_hostMem (r : Nat) (x : Ring) : (m.setRing r x).hostMem = m.hostMem := rfl
@[simp] theorem Mach.setRing_intc (r : Nat) (x : Ring) : (m.setRing r x).intc = m.intc := rfl
@[simp] theorem Mach.setRing_shard (r : Nat) (x : Ring) : (m.setRing r x).shard = m.shard := rfl
@[simp] theorem Mach.setRing_kiln (r : Nat) (x : Ring) : (m.setRing r x).kiln = m.kiln := rfl
@[simp] theorem Mach.setRing_dam (r : Nat) (x : Ring) : (m.setRing r x).dam = m.dam := rfl
@[simp] theorem Mach.setRing_time (r : Nat) (x : Ring) : (m.setRing r x).time = m.time := rfl
@[simp] theorem Mach.setRing_mot (r : Nat) (x : Ring) : (m.setRing r x).mot = m.mot := rfl
@[simp] theorem Mach.setRing_chop (r : Nat) (x : Ring) : (m.setRing r x).chop = m.chop := rfl
@[simp] theorem Mach.setRing_air (r : Nat) (x : Ring) : (m.setRing r x).air = m.air := rfl
@[simp] theorem Mach.setRing_red (r : Nat) (x : Ring) : (m.setRing r x).red = m.red := rfl
@[simp] theorem Mach.setRing_sag (r : Nat) (x : Ring) : (m.setRing r x).sag = m.sag := rfl
@[simp] theorem Mach.setRing_met (r : Nat) (x : Ring) : (m.setRing r x).met = m.met := rfl
@[simp] theorem Mach.setRing_gnss (r : Nat) (x : Ring) : (m.setRing r x).gnss = m.gnss := rfl
@[simp] theorem Mach.setRing_corr (r : Nat) (x : Ring) : (m.setRing r x).corr = m.corr := rfl
@[simp] theorem Mach.setRing_upd (r : Nat) (x : Ring) : (m.setRing r x).upd = m.upd := rfl
@[simp] theorem Mach.setRing_boot (r : Nat) (x : Ring) : (m.setRing r x).boot = m.boot := rfl
@[simp] theorem Mach.setRing_ist (r : Nat) (x : Ring) : (m.setRing r x).ist = m.ist := rfl
@[simp] theorem Mach.setRing_nv (r : Nat) (x : Ring) : (m.setRing r x).nv = m.nv := rfl
@[simp] theorem Mach.setRing_out (r : Nat) (x : Ring) : (m.setRing r x).out = m.out := rfl
@[simp] theorem Mach.setRing_freeCtr (r : Nat) (x : Ring) : (m.setRing r x).freeCtr = m.freeCtr := rfl
@[simp] theorem Mach.setERing_regs (e : Nat) (x : ERing) : (m.setERing e x).regs = m.regs := rfl
@[simp] theorem Mach.setERing_hostMem (e : Nat) (x : ERing) : (m.setERing e x).hostMem = m.hostMem := rfl
@[simp] theorem Mach.setERing_intc (e : Nat) (x : ERing) : (m.setERing e x).intc = m.intc := rfl
@[simp] theorem Mach.setERing_shard (e : Nat) (x : ERing) : (m.setERing e x).shard = m.shard := rfl
@[simp] theorem Mach.setERing_kiln (e : Nat) (x : ERing) : (m.setERing e x).kiln = m.kiln := rfl
@[simp] theorem Mach.setERing_dam (e : Nat) (x : ERing) : (m.setERing e x).dam = m.dam := rfl
@[simp] theorem Mach.setERing_time (e : Nat) (x : ERing) : (m.setERing e x).time = m.time := rfl
@[simp] theorem Mach.setERing_mot (e : Nat) (x : ERing) : (m.setERing e x).mot = m.mot := rfl
@[simp] theorem Mach.setERing_chop (e : Nat) (x : ERing) : (m.setERing e x).chop = m.chop := rfl
@[simp] theorem Mach.setERing_air (e : Nat) (x : ERing) : (m.setERing e x).air = m.air := rfl
@[simp] theorem Mach.setERing_red (e : Nat) (x : ERing) : (m.setERing e x).red = m.red := rfl
@[simp] theorem Mach.setERing_sag (e : Nat) (x : ERing) : (m.setERing e x).sag = m.sag := rfl
@[simp] theorem Mach.setERing_met (e : Nat) (x : ERing) : (m.setERing e x).met = m.met := rfl
@[simp] theorem Mach.setERing_gnss (e : Nat) (x : ERing) : (m.setERing e x).gnss = m.gnss := rfl
@[simp] theorem Mach.setERing_corr (e : Nat) (x : ERing) : (m.setERing e x).corr = m.corr := rfl
@[simp] theorem Mach.setERing_upd (e : Nat) (x : ERing) : (m.setERing e x).upd = m.upd := rfl
@[simp] theorem Mach.setERing_boot (e : Nat) (x : ERing) : (m.setERing e x).boot = m.boot := rfl
@[simp] theorem Mach.setERing_ist (e : Nat) (x : ERing) : (m.setERing e x).ist = m.ist := rfl
@[simp] theorem Mach.setERing_nv (e : Nat) (x : ERing) : (m.setERing e x).nv = m.nv := rfl
@[simp] theorem Mach.setERing_out (e : Nat) (x : ERing) : (m.setERing e x).out = m.out := rfl
@[simp] theorem Mach.setERing_freeCtr (e : Nat) (x : ERing) : (m.setERing e x).freeCtr = m.freeCtr := rfl
@[simp] theorem Mach.showRing_hostMem (r : Nat) : (m.showRing r).hostMem = m.hostMem := rfl
@[simp] theorem Mach.showRing_hif (r : Nat) : (m.showRing r).hif = m.hif := rfl
@[simp] theorem Mach.showRing_intc (r : Nat) : (m.showRing r).intc = m.intc := rfl
@[simp] theorem Mach.showRing_shard (r : Nat) : (m.showRing r).shard = m.shard := rfl
@[simp] theorem Mach.showRing_kiln (r : Nat) : (m.showRing r).kiln = m.kiln := rfl
@[simp] theorem Mach.showRing_dam (r : Nat) : (m.showRing r).dam = m.dam := rfl
@[simp] theorem Mach.showRing_time (r : Nat) : (m.showRing r).time = m.time := rfl
@[simp] theorem Mach.showRing_mot (r : Nat) : (m.showRing r).mot = m.mot := rfl
@[simp] theorem Mach.showRing_chop (r : Nat) : (m.showRing r).chop = m.chop := rfl
@[simp] theorem Mach.showRing_air (r : Nat) : (m.showRing r).air = m.air := rfl
@[simp] theorem Mach.showRing_red (r : Nat) : (m.showRing r).red = m.red := rfl
@[simp] theorem Mach.showRing_sag (r : Nat) : (m.showRing r).sag = m.sag := rfl
@[simp] theorem Mach.showRing_met (r : Nat) : (m.showRing r).met = m.met := rfl
@[simp] theorem Mach.showRing_gnss (r : Nat) : (m.showRing r).gnss = m.gnss := rfl
@[simp] theorem Mach.showRing_corr (r : Nat) : (m.showRing r).corr = m.corr := rfl
@[simp] theorem Mach.showRing_upd (r : Nat) : (m.showRing r).upd = m.upd := rfl
@[simp] theorem Mach.showRing_boot (r : Nat) : (m.showRing r).boot = m.boot := rfl
@[simp] theorem Mach.showRing_ist (r : Nat) : (m.showRing r).ist = m.ist := rfl
@[simp] theorem Mach.showRing_nv (r : Nat) : (m.showRing r).nv = m.nv := rfl
@[simp] theorem Mach.showRing_out (r : Nat) : (m.showRing r).out = m.out := rfl
@[simp] theorem Mach.showRing_freeCtr (r : Nat) : (m.showRing r).freeCtr = m.freeCtr := rfl

@[simp] theorem Mach.emit_out (e : Emission) : (m.emit e).out = m.out ++ [e] := rfl
@[simp] theorem Mach.hostWr_hostMem (a : Nat) (l : List Byte) : (m.hostWr a l).hostMem = hostPuts m.hostMem a l := rfl
@[simp] theorem Mach.bufWr_hostMem (d : Desc) (o : Nat) (l : List Byte) :
    (m.bufWr d o l).hostMem = if m.canWrite then hostPuts m.hostMem (Descs.addr d + o) l else m.hostMem := by
  simp only [Mach.bufWr]; split <;> rfl

@[simp] theorem Mach.emit_word (e : Emission) (g : Field) (k k2 : Nat) : (m.emit e).word g k k2 = m.word g k k2 := rfl
@[simp] theorem Mach.emit_r (e : Emission) (g : Field) (k k2 : Nat) : (m.emit e).r g k k2 = m.r g k k2 := rfl
@[simp] theorem Mach.emit_b (e : Emission) (g : Field) (k k2 : Nat) : (m.emit e).b g k k2 = m.b g k k2 := rfl
@[simp] theorem Mach.hostWr_word (a : Nat) (l : List Byte) (g : Field) (k k2 : Nat) : (m.hostWr a l).word g k k2 = m.word g k k2 := rfl
@[simp] theorem Mach.hostWr_r (a : Nat) (l : List Byte) (g : Field) (k k2 : Nat) : (m.hostWr a l).r g k k2 = m.r g k k2 := rfl
@[simp] theorem Mach.hostWr_b (a : Nat) (l : List Byte) (g : Field) (k k2 : Nat) : (m.hostWr a l).b g k k2 = m.b g k k2 := rfl
@[simp] theorem Mach.bufWr_word (d : Desc) (o : Nat) (l : List Byte) (g : Field) (k k2 : Nat) : (m.bufWr d o l).word g k k2 = m.word g k k2 := by simp only [Mach.bufWr]; split <;> rfl
@[simp] theorem Mach.bufWr_r (d : Desc) (o : Nat) (l : List Byte) (g : Field) (k k2 : Nat) : (m.bufWr d o l).r g k k2 = m.r g k k2 := by simp only [Mach.bufWr]; split <;> rfl
@[simp] theorem Mach.bufWr_b (d : Desc) (o : Nat) (l : List Byte) (g : Field) (k k2 : Nat) : (m.bufWr d o l).b g k k2 = m.b g k k2 := by simp only [Mach.bufWr]; split <;> rfl
@[simp] theorem Mach.setVec_word (v : Nat) (x : Vec) (g : Field) (k k2 : Nat) : (m.setVec v x).word g k k2 = m.word g k k2 := rfl
@[simp] theorem Mach.setVec_r (v : Nat) (x : Vec) (g : Field) (k k2 : Nat) : (m.setVec v x).r g k k2 = m.r g k k2 := rfl
@[simp] theorem Mach.setVec_b (v : Nat) (x : Vec) (g : Field) (k k2 : Nat) : (m.setVec v x).b g k k2 = m.b g k k2 := rfl
@[simp] theorem Mach.setRing_word (r : Nat) (x : Ring) (g : Field) (k k2 : Nat) : (m.setRing r x).word g k k2 = m.word g k k2 := rfl
@[simp] theorem Mach.setRing_r (r : Nat) (x : Ring) (g : Field) (k k2 : Nat) : (m.setRing r x).r g k k2 = m.r g k k2 := rfl
@[simp] theorem Mach.setRing_b (r : Nat) (x : Ring) (g : Field) (k k2 : Nat) : (m.setRing r x).b g k k2 = m.b g k k2 := rfl
@[simp] theorem Mach.setERing_word (e : Nat) (x : ERing) (g : Field) (k k2 : Nat) : (m.setERing e x).word g k k2 = m.word g k k2 := rfl
@[simp] theorem Mach.setERing_r (e : Nat) (x : ERing) (g : Field) (k k2 : Nat) : (m.setERing e x).r g k k2 = m.r g k k2 := rfl
@[simp] theorem Mach.setERing_b (e : Nat) (x : ERing) (g : Field) (k k2 : Nat) : (m.setERing e x).b g k k2 = m.b g k k2 := rfl

end Sys2Proof.Machine
end

