-- ==== Sys2Proof/Laws/Regs.lean ====
section
/-! SUPPORT. Laws of register fields: a field reads as it was written, fields that share no bit and registers at other offsets
read as before. -/

namespace Sys2Proof.Machine

theorem bits_lt (v lo n : Nat) : bits v lo n < 2 ^ n := Nat.mod_lt _ (Nat.two_pow_pos n)

theorem bits_testBit (v lo n k : Nat) : (bits v lo n).testBit k = (decide (k < n) && v.testBit (lo + k)) := by
  simp [bits, Nat.testBit_mod_two_pow, Nat.testBit_shiftRight]

/-- The bits outside a field, and the field's place. -/
theorem putBits_eq (old lo n v : Nat) :
    putBits old lo n v = old % 2 ^ lo + 2 ^ lo * (v % 2 ^ n + 2 ^ n * (old / 2 ^ (lo + n))) := by
  have h1 : old = old % 2 ^ lo + 2 ^ lo * (old / 2 ^ lo) := (Nat.mod_add_div old (2 ^ lo)).symm
  have h2 : old / 2 ^ lo = old / 2 ^ lo % 2 ^ n + 2 ^ n * (old / 2 ^ lo / 2 ^ n) := (Nat.mod_add_div _ _).symm
  have h3 : old / 2 ^ lo / 2 ^ n = old / 2 ^ (lo + n) := by rw [Nat.div_div_eq_div_mul, ← Nat.pow_add]
  rw [h3] at h2
  simp only [putBits, bits, Nat.shiftRight_eq_div_pow, Nat.shiftLeft_eq]
  generalize old / 2 ^ (lo + n) = hi at *
  generalize hq : old / 2 ^ lo = q at *
  generalize q % 2 ^ n = mid at *
  generalize old % 2 ^ lo = low at *
  subst h2
  rw [h1]
  have : low + 2 ^ lo * (mid + 2 ^ n * hi) - mid * 2 ^ lo = low + 2 ^ lo * (2 ^ n * hi) := by
    have : low + 2 ^ lo * (mid + 2 ^ n * hi) = low + 2 ^ lo * (2 ^ n * hi) + mid * 2 ^ lo := by ring
    omega
  rw [this]; ring

theorem putBits_testBit (old lo n v k : Nat) :
    (putBits old lo n v).testBit k =
      if k < lo then old.testBit k else if k < lo + n then v.testBit (k - lo) else old.testBit k := by
  rw [putBits_eq]
  have hlt : old % 2 ^ lo < 2 ^ lo := Nat.mod_lt _ (Nat.two_pow_pos lo)
  rw [Nat.add_comm, Nat.testBit_two_pow_mul_add _ hlt]
  split
  · rename_i h; simp [Nat.testBit_mod_two_pow, h]
  · have hlt2 : v % 2 ^ n < 2 ^ n := Nat.mod_lt _ (Nat.two_pow_pos n)
    rw [Nat.add_comm, Nat.testBit_two_pow_mul_add _ hlt2]
    by_cases h2 : k - lo < n
    · have : k < lo + n := by omega
      simp [h2, this, Nat.testBit_mod_two_pow]
    · have : ¬ k < lo + n := by omega
      simp [h2, this, Nat.testBit_div_two_pow]
      congr 1; omega

theorem putBits_lt (old lo n v w : Nat) (h : old < 2 ^ w) (hw : lo + n ≤ w) : putBits old lo n v < 2 ^ w := by
  apply Nat.lt_pow_two_of_testBit
  intro k hk
  rw [putBits_testBit]
  have h1 : ¬ k < lo := by omega
  have h2 : ¬ k < lo + n := by omega
  simp [h1, h2, Nat.testBit_lt_two_pow (Nat.lt_of_lt_of_le h (Nat.pow_le_pow_right (by omega) hk))]

/-- A field reads as it was written. -/
theorem bits_putBits_same (old lo n v : Nat) : bits (putBits old lo n v) lo n = v % 2 ^ n := by
  apply Nat.eq_of_testBit_eq
  intro k
  rw [bits_testBit, putBits_testBit, Nat.testBit_mod_two_pow]
  by_cases h : k < n
  · have h1 : ¬ lo + k < lo := by omega
    have h2 : lo + k < lo + n := by omega
    simp [h]
  · simp [h]

/-- A field that shares no bit reads as before. -/
theorem bits_putBits_ne (old lo n v lo' n' : Nat) (h : lo' + n' ≤ lo ∨ lo + n ≤ lo') :
    bits (putBits old lo n v) lo' n' = bits old lo' n' := by
  apply Nat.eq_of_testBit_eq
  intro k
  rw [bits_testBit, bits_testBit, putBits_testBit]
  by_cases hk : k < n'
  · rcases h with h | h
    · have : lo' + k < lo := by omega
      simp [this]
    · have h1 : ¬ lo' + k < lo := by omega
      have h2 : ¬ lo' + k < lo + n := by omega
      simp [h1, h2]
  · simp [hk]

variable (m : Mach)

/-- A register word is below 2^32. -/
theorem Mach.word_lt (f : Field) (i j : Nat) : m.word f i j < 2 ^ 32 := (Tabs.val m.regs _ _).isLt

theorem Mach.r_lt (f : Field) (i j : Nat) : m.r f i j < 2 ^ f.width := bits_lt _ _ _

/-- The word of a register after a write of one of its fields. -/
theorem Mach.word_w_same (f g : Field) (v i j k l : Nat) (ho : g.off k l = f.off i j) (hr : g.reset = f.reset)
    (hw : f.lo + f.width ≤ 32) :
    (m.w f v i j).word g k l = putBits (m.word f i j) f.lo f.width v := by
  have : Tabs.val (m.w f v i j).regs (BitVec.ofNat 32 g.reset) (f.off i j) =
      BitVec.ofNat 32 (putBits (m.word f i j) f.lo f.width v) := by simp [Mach.w]
  simp only [Mach.word, ho, hr] at this ⊢
  rw [this]
  simpa [Mach.word] using Nat.mod_eq_of_lt (putBits_lt _ _ _ _ 32 (m.word_lt f i j) hw)

/-- The word of a register at another offset after a write. -/
theorem Mach.word_w_ne (f g : Field) (v i j k l : Nat) (ho : g.off k l ≠ f.off i j) :
    (m.w f v i j).word g k l = m.word g k l := by
  simp only [Mach.word, Mach.w]
  rw [Tabs.val_put_ne _ _ _ ho]

/-- The field that was written. -/
theorem Mach.r_w_same (f : Field) (v i j : Nat) (hw : f.lo + f.width ≤ 32) : (m.w f v i j).r f i j = v % 2 ^ f.width := by
  simp only [Mach.r]
  rw [m.word_w_same f f v i j i j rfl rfl hw, bits_putBits_same]

/-- Another field of the register that was written. -/
theorem Mach.r_w_field (f g : Field) (v i j k l : Nat) (ho : g.off k l = f.off i j) (hr : g.reset = f.reset)
    (hw : f.lo + f.width ≤ 32) (hd : g.lo + g.width ≤ f.lo ∨ f.lo + f.width ≤ g.lo) :
    (m.w f v i j).r g k l = m.r g k l := by
  simp only [Mach.r]
  rw [m.word_w_same f g v i j k l ho hr hw, bits_putBits_ne _ _ _ _ _ _ hd]
  simp only [Mach.word, ho, hr]

/-- A field of a register at another offset. -/
theorem Mach.r_w_ne (f g : Field) (v i j k l : Nat) (ho : g.off k l ≠ f.off i j) : (m.w f v i j).r g k l = m.r g k l := by
  simp only [Mach.r]
  rw [m.word_w_ne f g v i j k l ho]

end Sys2Proof.Machine
end

