-- ==== Sys2Proof/Laws/Ops.lean ====
section
/-! SUPPORT. Laws of the shared operations: what interrupts, events, ring halts and completions leave as it was. -/

namespace Sys2Proof.Machine

variable (m : Mach)

@[simp] theorem Mach.fireVec_regs (v : Nat) : (m.fireVec v).regs = m.regs := by simp only [Mach.fireVec]; split <;> simp
@[simp] theorem Mach.fireVec_hostMem (v : Nat) : (m.fireVec v).hostMem = m.hostMem := by simp only [Mach.fireVec]; split <;> simp
@[simp] theorem Mach.fireVec_intc (v : Nat) : (m.fireVec v).intc = m.intc := by simp only [Mach.fireVec]; split <;> simp
@[simp] theorem Mach.fireVec_shard (v : Nat) : (m.fireVec v).shard = m.shard := by simp only [Mach.fireVec]; split <;> simp
@[simp] theorem Mach.fireVec_kiln (v : Nat) : (m.fireVec v).kiln = m.kiln := by simp only [Mach.fireVec]; split <;> simp
@[simp] theorem Mach.fireVec_dam (v : Nat) : (m.fireVec v).dam = m.dam := by simp only [Mach.fireVec]; split <;> simp
@[simp] theorem Mach.fireVec_time (v : Nat) : (m.fireVec v).time = m.time := by simp only [Mach.fireVec]; split <;> simp
@[simp] theorem Mach.fireVec_mot (v : Nat) : (m.fireVec v).mot = m.mot := by simp only [Mach.fireVec]; split <;> simp
@[simp] theorem Mach.fireVec_chop (v : Nat) : (m.fireVec v).chop = m.chop := by simp only [Mach.fireVec]; split <;> simp
@[simp] theorem Mach.fireVec_air (v : Nat) : (m.fireVec v).air = m.air := by simp only [Mach.fireVec]; split <;> simp
@[simp] theorem Mach.fireVec_red (v : Nat) : (m.fireVec v).red = m.red := by simp only [Mach.fireVec]; split <;> simp
@[simp] theorem Mach.fireVec_sag (v : Nat) : (m.fireVec v).sag = m.sag := by simp only [Mach.fireVec]; split <;> simp
@[simp] theorem Mach.fireVec_met (v : Nat) : (m.fireVec v).met = m.met := by simp only [Mach.fireVec]; split <;> simp
@[simp] theorem Mach.fireVec_gnss (v : Nat) : (m.fireVec v).gnss = m.gnss := by simp only [Mach.fireVec]; split <;> simp
@[simp] theorem Mach.fireVec_corr (v : Nat) : (m.fireVec v).corr = m.corr := by simp only [Mach.fireVec]; split <;> simp
@[simp] theorem Mach.fireVec_upd (v : Nat) : (m.fireVec v).upd = m.upd := by simp only [Mach.fireVec]; split <;> simp
@[simp] theorem Mach.fireVec_boot (v : Nat) : (m.fireVec v).boot = m.boot := by simp only [Mach.fireVec]; split <;> simp
@[simp] theorem Mach.fireVec_ist (v : Nat) : (m.fireVec v).ist = m.ist := by simp only [Mach.fireVec]; split <;> simp
@[simp] theorem Mach.fireVec_nv (v : Nat) : (m.fireVec v).nv = m.nv := by simp only [Mach.fireVec]; split <;> simp
@[simp] theorem Mach.fireVec_freeCtr (v : Nat) : (m.fireVec v).freeCtr = m.freeCtr := by simp only [Mach.fireVec]; split <;> simp

@[simp] theorem Mach.notify_regs (v : Nat) : (m.notify v).regs = m.regs := by unfold Mach.notify; dsimp only; split <;> split <;> simp
@[simp] theorem Mach.notify_hostMem (v : Nat) : (m.notify v).hostMem = m.hostMem := by unfold Mach.notify; dsimp only; split <;> split <;> simp
@[simp] theorem Mach.notify_intc (v : Nat) : (m.notify v).intc = m.intc := by unfold Mach.notify; dsimp only; split <;> split <;> simp
@[simp] theorem Mach.notify_shard (v : Nat) : (m.notify v).shard = m.shard := by unfold Mach.notify; dsimp only; split <;> split <;> simp
@[simp] theorem Mach.notify_kiln (v : Nat) : (m.notify v).kiln = m.kiln := by unfold Mach.notify; dsimp only; split <;> split <;> simp
@[simp] theorem Mach.notify_dam (v : Nat) : (m.notify v).dam = m.dam := by unfold Mach.notify; dsimp only; split <;> split <;> simp
@[simp] theorem Mach.notify_time (v : Nat) : (m.notify v).time = m.time := by unfold Mach.notify; dsimp only; split <;> split <;> simp
@[simp] theorem Mach.notify_mot (v : Nat) : (m.notify v).mot = m.mot := by unfold Mach.notify; dsimp only; split <;> split <;> simp
@[simp] theorem Mach.notify_chop (v : Nat) : (m.notify v).chop = m.chop := by unfold Mach.notify; dsimp only; split <;> split <;> simp
@[simp] theorem Mach.notify_air (v : Nat) : (m.notify v).air = m.air := by unfold Mach.notify; dsimp only; split <;> split <;> simp
@[simp] theorem Mach.notify_red (v : Nat) : (m.notify v).red = m.red := by unfold Mach.notify; dsimp only; split <;> split <;> simp
@[simp] theorem Mach.notify_sag (v : Nat) : (m.notify v).sag = m.sag := by unfold Mach.notify; dsimp only; split <;> split <;> simp
@[simp] theorem Mach.notify_met (v : Nat) : (m.notify v).met = m.met := by unfold Mach.notify; dsimp only; split <;> split <;> simp
@[simp] theorem Mach.notify_gnss (v : Nat) : (m.notify v).gnss = m.gnss := by unfold Mach.notify; dsimp only; split <;> split <;> simp
@[simp] theorem Mach.notify_corr (v : Nat) : (m.notify v).corr = m.corr := by unfold Mach.notify; dsimp only; split <;> split <;> simp
@[simp] theorem Mach.notify_upd (v : Nat) : (m.notify v).upd = m.upd := by unfold Mach.notify; dsimp only; split <;> split <;> simp
@[simp] theorem Mach.notify_boot (v : Nat) : (m.notify v).boot = m.boot := by unfold Mach.notify; dsimp only; split <;> split <;> simp
@[simp] theorem Mach.notify_ist (v : Nat) : (m.notify v).ist = m.ist := by unfold Mach.notify; dsimp only; split <;> split <;> simp
@[simp] theorem Mach.notify_nv (v : Nat) : (m.notify v).nv = m.nv := by unfold Mach.notify; dsimp only; split <;> split <;> simp
@[simp] theorem Mach.notify_freeCtr (v : Nat) : (m.notify v).freeCtr = m.freeCtr := by unfold Mach.notify; dsimp only; split <;> split <;> simp

@[simp] theorem Mach.sendPending_regs (v : Nat) : (m.sendPending v).regs = m.regs := by simp only [Mach.sendPending]; split <;> simp
@[simp] theorem Mach.sendPending_hostMem (v : Nat) : (m.sendPending v).hostMem = m.hostMem := by simp only [Mach.sendPending]; split <;> simp
@[simp] theorem Mach.sendPending_intc (v : Nat) : (m.sendPending v).intc = m.intc := by simp only [Mach.sendPending]; split <;> simp
@[simp] theorem Mach.sendPending_shard (v : Nat) : (m.sendPending v).shard = m.shard := by simp only [Mach.sendPending]; split <;> simp
@[simp] theorem Mach.sendPending_kiln (v : Nat) : (m.sendPending v).kiln = m.kiln := by simp only [Mach.sendPending]; split <;> simp
@[simp] theorem Mach.sendPending_dam (v : Nat) : (m.sendPending v).dam = m.dam := by simp only [Mach.sendPending]; split <;> simp
@[simp] theorem Mach.sendPending_time (v : Nat) : (m.sendPending v).time = m.time := by simp only [Mach.sendPending]; split <;> simp
@[simp] theorem Mach.sendPending_mot (v : Nat) : (m.sendPending v).mot = m.mot := by simp only [Mach.sendPending]; split <;> simp
@[simp] theorem Mach.sendPending_chop (v : Nat) : (m.sendPending v).chop = m.chop := by simp only [Mach.sendPending]; split <;> simp
@[simp] theorem Mach.sendPending_air (v : Nat) : (m.sendPending v).air = m.air := by simp only [Mach.sendPending]; split <;> simp
@[simp] theorem Mach.sendPending_red (v : Nat) : (m.sendPending v).red = m.red := by simp only [Mach.sendPending]; split <;> simp
@[simp] theorem Mach.sendPending_sag (v : Nat) : (m.sendPending v).sag = m.sag := by simp only [Mach.sendPending]; split <;> simp
@[simp] theorem Mach.sendPending_met (v : Nat) : (m.sendPending v).met = m.met := by simp only [Mach.sendPending]; split <;> simp
@[simp] theorem Mach.sendPending_gnss (v : Nat) : (m.sendPending v).gnss = m.gnss := by simp only [Mach.sendPending]; split <;> simp
@[simp] theorem Mach.sendPending_corr (v : Nat) : (m.sendPending v).corr = m.corr := by simp only [Mach.sendPending]; split <;> simp
@[simp] theorem Mach.sendPending_upd (v : Nat) : (m.sendPending v).upd = m.upd := by simp only [Mach.sendPending]; split <;> simp
@[simp] theorem Mach.sendPending_boot (v : Nat) : (m.sendPending v).boot = m.boot := by simp only [Mach.sendPending]; split <;> simp
@[simp] theorem Mach.sendPending_ist (v : Nat) : (m.sendPending v).ist = m.ist := by simp only [Mach.sendPending]; split <;> simp
@[simp] theorem Mach.sendPending_nv (v : Nat) : (m.sendPending v).nv = m.nv := by simp only [Mach.sendPending]; split <;> simp
@[simp] theorem Mach.sendPending_freeCtr (v : Nat) : (m.sendPending v).freeCtr = m.freeCtr := by simp only [Mach.sendPending]; split <;> simp

@[simp] theorem Mach.shardPush_hostMem (e : ShardEv) : (m.shardPush e).hostMem = m.hostMem := by simp only [Mach.shardPush]; split <;> simp
@[simp] theorem Mach.shardPush_hif (e : ShardEv) : (m.shardPush e).hif = m.hif := by simp only [Mach.shardPush]; split <;> simp
@[simp] theorem Mach.shardPush_intc (e : ShardEv) : (m.shardPush e).intc = m.intc := by simp only [Mach.shardPush]; split <;> simp
@[simp] theorem Mach.shardPush_kiln (e : ShardEv) : (m.shardPush e).kiln = m.kiln := by simp only [Mach.shardPush]; split <;> simp
@[simp] theorem Mach.shardPush_dam (e : ShardEv) : (m.shardPush e).dam = m.dam := by simp only [Mach.shardPush]; split <;> simp
@[simp] theorem Mach.shardPush_time (e : ShardEv) : (m.shardPush e).time = m.time := by simp only [Mach.shardPush]; split <;> simp
@[simp] theorem Mach.shardPush_mot (e : ShardEv) : (m.shardPush e).mot = m.mot := by simp only [Mach.shardPush]; split <;> simp
@[simp] theorem Mach.shardPush_chop (e : ShardEv) : (m.shardPush e).chop = m.chop := by simp only [Mach.shardPush]; split <;> simp
@[simp] theorem Mach.shardPush_air (e : ShardEv) : (m.shardPush e).air = m.air := by simp only [Mach.shardPush]; split <;> simp
@[simp] theorem Mach.shardPush_red (e : ShardEv) : (m.shardPush e).red = m.red := by simp only [Mach.shardPush]; split <;> simp
@[simp] theorem Mach.shardPush_sag (e : ShardEv) : (m.shardPush e).sag = m.sag := by simp only [Mach.shardPush]; split <;> simp
@[simp] theorem Mach.shardPush_met (e : ShardEv) : (m.shardPush e).met = m.met := by simp only [Mach.shardPush]; split <;> simp
@[simp] theorem Mach.shardPush_gnss (e : ShardEv) : (m.shardPush e).gnss = m.gnss := by simp only [Mach.shardPush]; split <;> simp
@[simp] theorem Mach.shardPush_corr (e : ShardEv) : (m.shardPush e).corr = m.corr := by simp only [Mach.shardPush]; split <;> simp
@[simp] theorem Mach.shardPush_upd (e : ShardEv) : (m.shardPush e).upd = m.upd := by simp only [Mach.shardPush]; split <;> simp
@[simp] theorem Mach.shardPush_boot (e : ShardEv) : (m.shardPush e).boot = m.boot := by simp only [Mach.shardPush]; split <;> simp
@[simp] theorem Mach.shardPush_ist (e : ShardEv) : (m.shardPush e).ist = m.ist := by simp only [Mach.shardPush]; split <;> simp
@[simp] theorem Mach.shardPush_nv (e : ShardEv) : (m.shardPush e).nv = m.nv := by simp only [Mach.shardPush]; split <;> simp
@[simp] theorem Mach.shardPush_out (e : ShardEv) : (m.shardPush e).out = m.out := by simp only [Mach.shardPush]; split <;> simp
@[simp] theorem Mach.shardPush_freeCtr (e : ShardEv) : (m.shardPush e).freeCtr = m.freeCtr := by simp only [Mach.shardPush]; split <;> simp

@[simp] theorem Mach.toRing_intc (e code sev src : Nat) (args : List Byte) : (m.toRing e code sev src args).intc = m.intc := by simp only [Mach.toRing]; split <;> simp
@[simp] theorem Mach.toRing_shard (e code sev src : Nat) (args : List Byte) : (m.toRing e code sev src args).shard = m.shard := by simp only [Mach.toRing]; split <;> simp
@[simp] theorem Mach.toRing_kiln (e code sev src : Nat) (args : List Byte) : (m.toRing e code sev src args).kiln = m.kiln := by simp only [Mach.toRing]; split <;> simp
@[simp] theorem Mach.toRing_dam (e code sev src : Nat) (args : List Byte) : (m.toRing e code sev src args).dam = m.dam := by simp only [Mach.toRing]; split <;> simp
@[simp] theorem Mach.toRing_time (e code sev src : Nat) (args : List Byte) : (m.toRing e code sev src args).time = m.time := by simp only [Mach.toRing]; split <;> simp
@[simp] theorem Mach.toRing_mot (e code sev src : Nat) (args : List Byte) : (m.toRing e code sev src args).mot = m.mot := by simp only [Mach.toRing]; split <;> simp
@[simp] theorem Mach.toRing_chop (e code sev src : Nat) (args : List Byte) : (m.toRing e code sev src args).chop = m.chop := by simp only [Mach.toRing]; split <;> simp
@[simp] theorem Mach.toRing_air (e code sev src : Nat) (args : List Byte) : (m.toRing e code sev src args).air = m.air := by simp only [Mach.toRing]; split <;> simp
@[simp] theorem Mach.toRing_red (e code sev src : Nat) (args : List Byte) : (m.toRing e code sev src args).red = m.red := by simp only [Mach.toRing]; split <;> simp
@[simp] theorem Mach.toRing_sag (e code sev src : Nat) (args : List Byte) : (m.toRing e code sev src args).sag = m.sag := by simp only [Mach.toRing]; split <;> simp
@[simp] theorem Mach.toRing_met (e code sev src : Nat) (args : List Byte) : (m.toRing e code sev src args).met = m.met := by simp only [Mach.toRing]; split <;> simp
@[simp] theorem Mach.toRing_gnss (e code sev src : Nat) (args : List Byte) : (m.toRing e code sev src args).gnss = m.gnss := by simp only [Mach.toRing]; split <;> simp
@[simp] theorem Mach.toRing_corr (e code sev src : Nat) (args : List Byte) : (m.toRing e code sev src args).corr = m.corr := by simp only [Mach.toRing]; split <;> simp
@[simp] theorem Mach.toRing_upd (e code sev src : Nat) (args : List Byte) : (m.toRing e code sev src args).upd = m.upd := by simp only [Mach.toRing]; split <;> simp
@[simp] theorem Mach.toRing_boot (e code sev src : Nat) (args : List Byte) : (m.toRing e code sev src args).boot = m.boot := by simp only [Mach.toRing]; split <;> simp
@[simp] theorem Mach.toRing_ist (e code sev src : Nat) (args : List Byte) : (m.toRing e code sev src args).ist = m.ist := by simp only [Mach.toRing]; split <;> simp
@[simp] theorem Mach.toRing_nv (e code sev src : Nat) (args : List Byte) : (m.toRing e code sev src args).nv = m.nv := by simp only [Mach.toRing]; split <;> simp
@[simp] theorem Mach.toRing_freeCtr (e code sev src : Nat) (args : List Byte) : (m.toRing e code sev src args).freeCtr = m.freeCtr := by simp only [Mach.toRing]; split <;> simp

@[simp] theorem Mach.offer_intc (code sev src : Nat) (args : List Byte) : (m.offer code sev src args).intc = m.intc := by simp only [Mach.offer]; split <;> simp
@[simp] theorem Mach.offer_shard (code sev src : Nat) (args : List Byte) : (m.offer code sev src args).shard = m.shard := by simp only [Mach.offer]; split <;> simp
@[simp] theorem Mach.offer_kiln (code sev src : Nat) (args : List Byte) : (m.offer code sev src args).kiln = m.kiln := by simp only [Mach.offer]; split <;> simp
@[simp] theorem Mach.offer_dam (code sev src : Nat) (args : List Byte) : (m.offer code sev src args).dam = m.dam := by simp only [Mach.offer]; split <;> simp
@[simp] theorem Mach.offer_time (code sev src : Nat) (args : List Byte) : (m.offer code sev src args).time = m.time := by simp only [Mach.offer]; split <;> simp
@[simp] theorem Mach.offer_mot (code sev src : Nat) (args : List Byte) : (m.offer code sev src args).mot = m.mot := by simp only [Mach.offer]; split <;> simp
@[simp] theorem Mach.offer_chop (code sev src : Nat) (args : List Byte) : (m.offer code sev src args).chop = m.chop := by simp only [Mach.offer]; split <;> simp
@[simp] theorem Mach.offer_air (code sev src : Nat) (args : List Byte) : (m.offer code sev src args).air = m.air := by simp only [Mach.offer]; split <;> simp
@[simp] theorem Mach.offer_red (code sev src : Nat) (args : List Byte) : (m.offer code sev src args).red = m.red := by simp only [Mach.offer]; split <;> simp
@[simp] theorem Mach.offer_sag (code sev src : Nat) (args : List Byte) : (m.offer code sev src args).sag = m.sag := by simp only [Mach.offer]; split <;> simp
@[simp] theorem Mach.offer_met (code sev src : Nat) (args : List Byte) : (m.offer code sev src args).met = m.met := by simp only [Mach.offer]; split <;> simp
@[simp] theorem Mach.offer_gnss (code sev src : Nat) (args : List Byte) : (m.offer code sev src args).gnss = m.gnss := by simp only [Mach.offer]; split <;> simp
@[simp] theorem Mach.offer_corr (code sev src : Nat) (args : List Byte) : (m.offer code sev src args).corr = m.corr := by simp only [Mach.offer]; split <;> simp
@[simp] theorem Mach.offer_upd (code sev src : Nat) (args : List Byte) : (m.offer code sev src args).upd = m.upd := by simp only [Mach.offer]; split <;> simp
@[simp] theorem Mach.offer_boot (code sev src : Nat) (args : List Byte) : (m.offer code sev src args).boot = m.boot := by simp only [Mach.offer]; split <;> simp
@[simp] theorem Mach.offer_ist (code sev src : Nat) (args : List Byte) : (m.offer code sev src args).ist = m.ist := by simp only [Mach.offer]; split <;> simp
@[simp] theorem Mach.offer_nv (code sev src : Nat) (args : List Byte) : (m.offer code sev src args).nv = m.nv := by simp only [Mach.offer]; split <;> simp
@[simp] theorem Mach.offer_freeCtr (code sev src : Nat) (args : List Byte) : (m.offer code sev src args).freeCtr = m.freeCtr := by simp only [Mach.offer]; split <;> simp

@[simp] theorem Mach.event_intc (code sev src : Nat) (args : List Byte) : (m.event code sev src args).intc = m.intc := by simp only [Mach.event, Mach.when]; split <;> simp
@[simp] theorem Mach.event_kiln (code sev src : Nat) (args : List Byte) : (m.event code sev src args).kiln = m.kiln := by simp only [Mach.event, Mach.when]; split <;> simp
@[simp] theorem Mach.event_dam (code sev src : Nat) (args : List Byte) : (m.event code sev src args).dam = m.dam := by simp only [Mach.event, Mach.when]; split <;> simp
@[simp] theorem Mach.event_time (code sev src : Nat) (args : List Byte) : (m.event code sev src args).time = m.time := by simp only [Mach.event, Mach.when]; split <;> simp
@[simp] theorem Mach.event_mot (code sev src : Nat) (args : List Byte) : (m.event code sev src args).mot = m.mot := by simp only [Mach.event, Mach.when]; split <;> simp
@[simp] theorem Mach.event_chop (code sev src : Nat) (args : List Byte) : (m.event code sev src args).chop = m.chop := by simp only [Mach.event, Mach.when]; split <;> simp
@[simp] theorem Mach.event_air (code sev src : Nat) (args : List Byte) : (m.event code sev src args).air = m.air := by simp only [Mach.event, Mach.when]; split <;> simp
@[simp] theorem Mach.event_red (code sev src : Nat) (args : List Byte) : (m.event code sev src args).red = m.red := by simp only [Mach.event, Mach.when]; split <;> simp
@[simp] theorem Mach.event_sag (code sev src : Nat) (args : List Byte) : (m.event code sev src args).sag = m.sag := by simp only [Mach.event, Mach.when]; split <;> simp
@[simp] theorem Mach.event_met (code sev src : Nat) (args : List Byte) : (m.event code sev src args).met = m.met := by simp only [Mach.event, Mach.when]; split <;> simp
@[simp] theorem Mach.event_gnss (code sev src : Nat) (args : List Byte) : (m.event code sev src args).gnss = m.gnss := by simp only [Mach.event, Mach.when]; split <;> simp
@[simp] theorem Mach.event_corr (code sev src : Nat) (args : List Byte) : (m.event code sev src args).corr = m.corr := by simp only [Mach.event, Mach.when]; split <;> simp
@[simp] theorem Mach.event_upd (code sev src : Nat) (args : List Byte) : (m.event code sev src args).upd = m.upd := by simp only [Mach.event, Mach.when]; split <;> simp
@[simp] theorem Mach.event_boot (code sev src : Nat) (args : List Byte) : (m.event code sev src args).boot = m.boot := by simp only [Mach.event, Mach.when]; split <;> simp
@[simp] theorem Mach.event_ist (code sev src : Nat) (args : List Byte) : (m.event code sev src args).ist = m.ist := by simp only [Mach.event, Mach.when]; split <;> simp
@[simp] theorem Mach.event_nv (code sev src : Nat) (args : List Byte) : (m.event code sev src args).nv = m.nv := by simp only [Mach.event, Mach.when]; split <;> simp
@[simp] theorem Mach.event_freeCtr (code sev src : Nat) (args : List Byte) : (m.event code sev src args).freeCtr = m.freeCtr := by simp only [Mach.event, Mach.when]; split <;> simp

@[simp] theorem Mach.ringOff_hostMem (r : Nat) : (m.ringOff r).hostMem = m.hostMem := by simp [Mach.ringOff]
@[simp] theorem Mach.ringOff_intc (r : Nat) : (m.ringOff r).intc = m.intc := by simp [Mach.ringOff]
@[simp] theorem Mach.ringOff_shard (r : Nat) : (m.ringOff r).shard = m.shard := by simp [Mach.ringOff]
@[simp] theorem Mach.ringOff_kiln (r : Nat) : (m.ringOff r).kiln = m.kiln := by simp [Mach.ringOff]
@[simp] theorem Mach.ringOff_dam (r : Nat) : (m.ringOff r).dam = m.dam := by simp [Mach.ringOff]
@[simp] theorem Mach.ringOff_time (r : Nat) : (m.ringOff r).time = m.time := by simp [Mach.ringOff]
@[simp] theorem Mach.ringOff_mot (r : Nat) : (m.ringOff r).mot = m.mot := by simp [Mach.ringOff]
@[simp] theorem Mach.ringOff_chop (r : Nat) : (m.ringOff r).chop = m.chop := by simp [Mach.ringOff]
@[simp] theorem Mach.ringOff_air (r : Nat) : (m.ringOff r).air = m.air := by simp [Mach.ringOff]
@[simp] theorem Mach.ringOff_red (r : Nat) : (m.ringOff r).red = m.red := by simp [Mach.ringOff]
@[simp] theorem Mach.ringOff_sag (r : Nat) : (m.ringOff r).sag = m.sag := by simp [Mach.ringOff]
@[simp] theorem Mach.ringOff_met (r : Nat) : (m.ringOff r).met = m.met := by simp [Mach.ringOff]
@[simp] theorem Mach.ringOff_gnss (r : Nat) : (m.ringOff r).gnss = m.gnss := by simp [Mach.ringOff]
@[simp] theorem Mach.ringOff_corr (r : Nat) : (m.ringOff r).corr = m.corr := by simp [Mach.ringOff]
@[simp] theorem Mach.ringOff_upd (r : Nat) : (m.ringOff r).upd = m.upd := by simp [Mach.ringOff]
@[simp] theorem Mach.ringOff_boot (r : Nat) : (m.ringOff r).boot = m.boot := by simp [Mach.ringOff]
@[simp] theorem Mach.ringOff_ist (r : Nat) : (m.ringOff r).ist = m.ist := by simp [Mach.ringOff]
@[simp] theorem Mach.ringOff_nv (r : Nat) : (m.ringOff r).nv = m.nv := by simp [Mach.ringOff]
@[simp] theorem Mach.ringOff_out (r : Nat) : (m.ringOff r).out = m.out := by simp [Mach.ringOff]
@[simp] theorem Mach.ringOff_freeCtr (r : Nat) : (m.ringOff r).freeCtr = m.freeCtr := by simp [Mach.ringOff]

@[simp] theorem Mach.settleRing_hostMem (r : Nat) : (m.settleRing r).hostMem = m.hostMem := by simp only [Mach.settleRing]; split <;> simp
@[simp] theorem Mach.settleRing_intc (r : Nat) : (m.settleRing r).intc = m.intc := by simp only [Mach.settleRing]; split <;> simp
@[simp] theorem Mach.settleRing_shard (r : Nat) : (m.settleRing r).shard = m.shard := by simp only [Mach.settleRing]; split <;> simp
@[simp] theorem Mach.settleRing_kiln (r : Nat) : (m.settleRing r).kiln = m.kiln := by simp only [Mach.settleRing]; split <;> simp
@[simp] theorem Mach.settleRing_dam (r : Nat) : (m.settleRing r).dam = m.dam := by simp only [Mach.settleRing]; split <;> simp
@[simp] theorem Mach.settleRing_time (r : Nat) : (m.settleRing r).time = m.time := by simp only [Mach.settleRing]; split <;> simp
@[simp] theorem Mach.settleRing_mot (r : Nat) : (m.settleRing r).mot = m.mot := by simp only [Mach.settleRing]; split <;> simp
@[simp] theorem Mach.settleRing_chop (r : Nat) : (m.settleRing r).chop = m.chop := by simp only [Mach.settleRing]; split <;> simp
@[simp] theorem Mach.settleRing_air (r : Nat) : (m.settleRing r).air = m.air := by simp only [Mach.settleRing]; split <;> simp
@[simp] theorem Mach.settleRing_red (r : Nat) : (m.settleRing r).red = m.red := by simp only [Mach.settleRing]; split <;> simp
@[simp] theorem Mach.settleRing_sag (r : Nat) : (m.settleRing r).sag = m.sag := by simp only [Mach.settleRing]; split <;> simp
@[simp] theorem Mach.settleRing_met (r : Nat) : (m.settleRing r).met = m.met := by simp only [Mach.settleRing]; split <;> simp
@[simp] theorem Mach.settleRing_gnss (r : Nat) : (m.settleRing r).gnss = m.gnss := by simp only [Mach.settleRing]; split <;> simp
@[simp] theorem Mach.settleRing_corr (r : Nat) : (m.settleRing r).corr = m.corr := by simp only [Mach.settleRing]; split <;> simp
@[simp] theorem Mach.settleRing_upd (r : Nat) : (m.settleRing r).upd = m.upd := by simp only [Mach.settleRing]; split <;> simp
@[simp] theorem Mach.settleRing_boot (r : Nat) : (m.settleRing r).boot = m.boot := by simp only [Mach.settleRing]; split <;> simp
@[simp] theorem Mach.settleRing_ist (r : Nat) : (m.settleRing r).ist = m.ist := by simp only [Mach.settleRing]; split <;> simp
@[simp] theorem Mach.settleRing_nv (r : Nat) : (m.settleRing r).nv = m.nv := by simp only [Mach.settleRing]; split <;> simp
@[simp] theorem Mach.settleRing_out (r : Nat) : (m.settleRing r).out = m.out := by simp only [Mach.settleRing]; split <;> simp
@[simp] theorem Mach.settleRing_freeCtr (r : Nat) : (m.settleRing r).freeCtr = m.freeCtr := by simp only [Mach.settleRing]; split <;> simp

@[simp] theorem Mach.haltRing_intc (r c : Nat) : (m.haltRing r c).intc = m.intc := by simp only [Mach.haltRing]; split <;> simp
@[simp] theorem Mach.haltRing_kiln (r c : Nat) : (m.haltRing r c).kiln = m.kiln := by simp only [Mach.haltRing]; split <;> simp
@[simp] theorem Mach.haltRing_dam (r c : Nat) : (m.haltRing r c).dam = m.dam := by simp only [Mach.haltRing]; split <;> simp
@[simp] theorem Mach.haltRing_time (r c : Nat) : (m.haltRing r c).time = m.time := by simp only [Mach.haltRing]; split <;> simp
@[simp] theorem Mach.haltRing_mot (r c : Nat) : (m.haltRing r c).mot = m.mot := by simp only [Mach.haltRing]; split <;> simp
@[simp] theorem Mach.haltRing_chop (r c : Nat) : (m.haltRing r c).chop = m.chop := by simp only [Mach.haltRing]; split <;> simp
@[simp] theorem Mach.haltRing_air (r c : Nat) : (m.haltRing r c).air = m.air := by simp only [Mach.haltRing]; split <;> simp
@[simp] theorem Mach.haltRing_red (r c : Nat) : (m.haltRing r c).red = m.red := by simp only [Mach.haltRing]; split <;> simp
@[simp] theorem Mach.haltRing_sag (r c : Nat) : (m.haltRing r c).sag = m.sag := by simp only [Mach.haltRing]; split <;> simp
@[simp] theorem Mach.haltRing_met (r c : Nat) : (m.haltRing r c).met = m.met := by simp only [Mach.haltRing]; split <;> simp
@[simp] theorem Mach.haltRing_gnss (r c : Nat) : (m.haltRing r c).gnss = m.gnss := by simp only [Mach.haltRing]; split <;> simp
@[simp] theorem Mach.haltRing_corr (r c : Nat) : (m.haltRing r c).corr = m.corr := by simp only [Mach.haltRing]; split <;> simp
@[simp] theorem Mach.haltRing_upd (r c : Nat) : (m.haltRing r c).upd = m.upd := by simp only [Mach.haltRing]; split <;> simp
@[simp] theorem Mach.haltRing_boot (r c : Nat) : (m.haltRing r c).boot = m.boot := by simp only [Mach.haltRing]; split <;> simp
@[simp] theorem Mach.haltRing_ist (r c : Nat) : (m.haltRing r c).ist = m.ist := by simp only [Mach.haltRing]; split <;> simp
@[simp] theorem Mach.haltRing_nv (r c : Nat) : (m.haltRing r c).nv = m.nv := by simp only [Mach.haltRing]; split <;> simp
@[simp] theorem Mach.haltRing_freeCtr (r c : Nat) : (m.haltRing r c).freeCtr = m.freeCtr := by simp only [Mach.haltRing]; split <;> simp

@[simp] theorem Mach.haltERing_intc (r c : Nat) : (m.haltERing r c).intc = m.intc := by simp only [Mach.haltERing]; split <;> simp
@[simp] theorem Mach.haltERing_kiln (r c : Nat) : (m.haltERing r c).kiln = m.kiln := by simp only [Mach.haltERing]; split <;> simp
@[simp] theorem Mach.haltERing_dam (r c : Nat) : (m.haltERing r c).dam = m.dam := by simp only [Mach.haltERing]; split <;> simp
@[simp] theorem Mach.haltERing_time (r c : Nat) : (m.haltERing r c).time = m.time := by simp only [Mach.haltERing]; split <;> simp
@[simp] theorem Mach.haltERing_mot (r c : Nat) : (m.haltERing r c).mot = m.mot := by simp only [Mach.haltERing]; split <;> simp
@[simp] theorem Mach.haltERing_chop (r c : Nat) : (m.haltERing r c).chop = m.chop := by simp only [Mach.haltERing]; split <;> simp
@[simp] theorem Mach.haltERing_air (r c : Nat) : (m.haltERing r c).air = m.air := by simp only [Mach.haltERing]; split <;> simp
@[simp] theorem Mach.haltERing_red (r c : Nat) : (m.haltERing r c).red = m.red := by simp only [Mach.haltERing]; split <;> simp
@[simp] theorem Mach.haltERing_sag (r c : Nat) : (m.haltERing r c).sag = m.sag := by simp only [Mach.haltERing]; split <;> simp
@[simp] theorem Mach.haltERing_met (r c : Nat) : (m.haltERing r c).met = m.met := by simp only [Mach.haltERing]; split <;> simp
@[simp] theorem Mach.haltERing_gnss (r c : Nat) : (m.haltERing r c).gnss = m.gnss := by simp only [Mach.haltERing]; split <;> simp
@[simp] theorem Mach.haltERing_corr (r c : Nat) : (m.haltERing r c).corr = m.corr := by simp only [Mach.haltERing]; split <;> simp
@[simp] theorem Mach.haltERing_upd (r c : Nat) : (m.haltERing r c).upd = m.upd := by simp only [Mach.haltERing]; split <;> simp
@[simp] theorem Mach.haltERing_boot (r c : Nat) : (m.haltERing r c).boot = m.boot := by simp only [Mach.haltERing]; split <;> simp
@[simp] theorem Mach.haltERing_ist (r c : Nat) : (m.haltERing r c).ist = m.ist := by simp only [Mach.haltERing]; split <;> simp
@[simp] theorem Mach.haltERing_nv (r c : Nat) : (m.haltERing r c).nv = m.nv := by simp only [Mach.haltERing]; split <;> simp
@[simp] theorem Mach.haltERing_freeCtr (r c : Nat) : (m.haltERing r c).freeCtr = m.freeCtr := by simp only [Mach.haltERing]; split <;> simp

@[simp] theorem Mach.putCpl_regs (d : Desc) (st : Nat) (res : List Byte) : (m.putCpl d st res).regs = m.regs := by simp [Mach.putCpl]
@[simp] theorem Mach.putCpl_intc (d : Desc) (st : Nat) (res : List Byte) : (m.putCpl d st res).intc = m.intc := by simp [Mach.putCpl]
@[simp] theorem Mach.putCpl_shard (d : Desc) (st : Nat) (res : List Byte) : (m.putCpl d st res).shard = m.shard := by simp [Mach.putCpl]
@[simp] theorem Mach.putCpl_kiln (d : Desc) (st : Nat) (res : List Byte) : (m.putCpl d st res).kiln = m.kiln := by simp [Mach.putCpl]
@[simp] theorem Mach.putCpl_dam (d : Desc) (st : Nat) (res : List Byte) : (m.putCpl d st res).dam = m.dam := by simp [Mach.putCpl]
@[simp] theorem Mach.putCpl_time (d : Desc) (st : Nat) (res : List Byte) : (m.putCpl d st res).time = m.time := by simp [Mach.putCpl]
@[simp] theorem Mach.putCpl_mot (d : Desc) (st : Nat) (res : List Byte) : (m.putCpl d st res).mot = m.mot := by simp [Mach.putCpl]
@[simp] theorem Mach.putCpl_chop (d : Desc) (st : Nat) (res : List Byte) : (m.putCpl d st res).chop = m.chop := by simp [Mach.putCpl]
@[simp] theorem Mach.putCpl_air (d : Desc) (st : Nat) (res : List Byte) : (m.putCpl d st res).air = m.air := by simp [Mach.putCpl]
@[simp] theorem Mach.putCpl_red (d : Desc) (st : Nat) (res : List Byte) : (m.putCpl d st res).red = m.red := by simp [Mach.putCpl]
@[simp] theorem Mach.putCpl_sag (d : Desc) (st : Nat) (res : List Byte) : (m.putCpl d st res).sag = m.sag := by simp [Mach.putCpl]
@[simp] theorem Mach.putCpl_met (d : Desc) (st : Nat) (res : List Byte) : (m.putCpl d st res).met = m.met := by simp [Mach.putCpl]
@[simp] theorem Mach.putCpl_gnss (d : Desc) (st : Nat) (res : List Byte) : (m.putCpl d st res).gnss = m.gnss := by simp [Mach.putCpl]
@[simp] theorem Mach.putCpl_corr (d : Desc) (st : Nat) (res : List Byte) : (m.putCpl d st res).corr = m.corr := by simp [Mach.putCpl]
@[simp] theorem Mach.putCpl_upd (d : Desc) (st : Nat) (res : List Byte) : (m.putCpl d st res).upd = m.upd := by simp [Mach.putCpl]
@[simp] theorem Mach.putCpl_boot (d : Desc) (st : Nat) (res : List Byte) : (m.putCpl d st res).boot = m.boot := by simp [Mach.putCpl]
@[simp] theorem Mach.putCpl_ist (d : Desc) (st : Nat) (res : List Byte) : (m.putCpl d st res).ist = m.ist := by simp [Mach.putCpl]
@[simp] theorem Mach.putCpl_nv (d : Desc) (st : Nat) (res : List Byte) : (m.putCpl d st res).nv = m.nv := by simp [Mach.putCpl]
@[simp] theorem Mach.putCpl_freeCtr (d : Desc) (st : Nat) (res : List Byte) : (m.putCpl d st res).freeCtr = m.freeCtr := by simp [Mach.putCpl]

@[simp] theorem Mach.finish_intc (d : Desc) (st : Nat) (res : List Byte) : (m.finish d st res).intc = m.intc := by simp only [Mach.finish]; split <;> simp
@[simp] theorem Mach.finish_shard (d : Desc) (st : Nat) (res : List Byte) : (m.finish d st res).shard = m.shard := by simp only [Mach.finish]; split <;> simp
@[simp] theorem Mach.finish_kiln (d : Desc) (st : Nat) (res : List Byte) : (m.finish d st res).kiln = m.kiln := by simp only [Mach.finish]; split <;> simp
@[simp] theorem Mach.finish_dam (d : Desc) (st : Nat) (res : List Byte) : (m.finish d st res).dam = m.dam := by simp only [Mach.finish]; split <;> simp
@[simp] theorem Mach.finish_time (d : Desc) (st : Nat) (res : List Byte) : (m.finish d st res).time = m.time := by simp only [Mach.finish]; split <;> simp
@[simp] theorem Mach.finish_mot (d : Desc) (st : Nat) (res : List Byte) : (m.finish d st res).mot = m.mot := by simp only [Mach.finish]; split <;> simp
@[simp] theorem Mach.finish_chop (d : Desc) (st : Nat) (res : List Byte) : (m.finish d st res).chop = m.chop := by simp only [Mach.finish]; split <;> simp
@[simp] theorem Mach.finish_air (d : Desc) (st : Nat) (res : List Byte) : (m.finish d st res).air = m.air := by simp only [Mach.finish]; split <;> simp
@[simp] theorem Mach.finish_red (d : Desc) (st : Nat) (res : List Byte) : (m.finish d st res).red = m.red := by simp only [Mach.finish]; split <;> simp
@[simp] theorem Mach.finish_sag (d : Desc) (st : Nat) (res : List Byte) : (m.finish d st res).sag = m.sag := by simp only [Mach.finish]; split <;> simp
@[simp] theorem Mach.finish_met (d : Desc) (st : Nat) (res : List Byte) : (m.finish d st res).met = m.met := by simp only [Mach.finish]; split <;> simp
@[simp] theorem Mach.finish_gnss (d : Desc) (st : Nat) (res : List Byte) : (m.finish d st res).gnss = m.gnss := by simp only [Mach.finish]; split <;> simp
@[simp] theorem Mach.finish_corr (d : Desc) (st : Nat) (res : List Byte) : (m.finish d st res).corr = m.corr := by simp only [Mach.finish]; split <;> simp
@[simp] theorem Mach.finish_upd (d : Desc) (st : Nat) (res : List Byte) : (m.finish d st res).upd = m.upd := by simp only [Mach.finish]; split <;> simp
@[simp] theorem Mach.finish_boot (d : Desc) (st : Nat) (res : List Byte) : (m.finish d st res).boot = m.boot := by simp only [Mach.finish]; split <;> simp
@[simp] theorem Mach.finish_ist (d : Desc) (st : Nat) (res : List Byte) : (m.finish d st res).ist = m.ist := by simp only [Mach.finish]; split <;> simp
@[simp] theorem Mach.finish_nv (d : Desc) (st : Nat) (res : List Byte) : (m.finish d st res).nv = m.nv := by simp only [Mach.finish]; split <;> simp
@[simp] theorem Mach.finish_freeCtr (d : Desc) (st : Nat) (res : List Byte) : (m.finish d st res).freeCtr = m.freeCtr := by simp only [Mach.finish]; split <;> simp

@[simp] theorem Mach.undeliver_intc (d : Desc) : (m.undeliver d).intc = m.intc := rfl
@[simp] theorem Mach.undeliver_shard (d : Desc) : (m.undeliver d).shard = m.shard := rfl
@[simp] theorem Mach.undeliver_kiln (d : Desc) : (m.undeliver d).kiln = m.kiln := rfl
@[simp] theorem Mach.undeliver_dam (d : Desc) : (m.undeliver d).dam = m.dam := rfl
@[simp] theorem Mach.undeliver_time (d : Desc) : (m.undeliver d).time = m.time := rfl
@[simp] theorem Mach.undeliver_mot (d : Desc) : (m.undeliver d).mot = m.mot := rfl
@[simp] theorem Mach.undeliver_chop (d : Desc) : (m.undeliver d).chop = m.chop := rfl
@[simp] theorem Mach.undeliver_air (d : Desc) : (m.undeliver d).air = m.air := rfl
@[simp] theorem Mach.undeliver_red (d : Desc) : (m.undeliver d).red = m.red := rfl
@[simp] theorem Mach.undeliver_sag (d : Desc) : (m.undeliver d).sag = m.sag := rfl
@[simp] theorem Mach.undeliver_met (d : Desc) : (m.undeliver d).met = m.met := rfl
@[simp] theorem Mach.undeliver_gnss (d : Desc) : (m.undeliver d).gnss = m.gnss := rfl
@[simp] theorem Mach.undeliver_corr (d : Desc) : (m.undeliver d).corr = m.corr := rfl
@[simp] theorem Mach.undeliver_upd (d : Desc) : (m.undeliver d).upd = m.upd := rfl
@[simp] theorem Mach.undeliver_boot (d : Desc) : (m.undeliver d).boot = m.boot := rfl
@[simp] theorem Mach.undeliver_ist (d : Desc) : (m.undeliver d).ist = m.ist := rfl
@[simp] theorem Mach.undeliver_nv (d : Desc) : (m.undeliver d).nv = m.nv := rfl
@[simp] theorem Mach.undeliver_freeCtr (d : Desc) : (m.undeliver d).freeCtr = m.freeCtr := rfl

@[simp] theorem Mach.complete_intc (d : Desc) (st : Nat) (res : List Byte) : (m.complete d st res).intc = m.intc := by simp only [Mach.complete]; split <;> simp
@[simp] theorem Mach.complete_shard (d : Desc) (st : Nat) (res : List Byte) : (m.complete d st res).shard = m.shard := by simp only [Mach.complete]; split <;> simp
@[simp] theorem Mach.complete_kiln (d : Desc) (st : Nat) (res : List Byte) : (m.complete d st res).kiln = m.kiln := by simp only [Mach.complete]; split <;> simp
@[simp] theorem Mach.complete_dam (d : Desc) (st : Nat) (res : List Byte) : (m.complete d st res).dam = m.dam := by simp only [Mach.complete]; split <;> simp
@[simp] theorem Mach.complete_time (d : Desc) (st : Nat) (res : List Byte) : (m.complete d st res).time = m.time := by simp only [Mach.complete]; split <;> simp
@[simp] theorem Mach.complete_mot (d : Desc) (st : Nat) (res : List Byte) : (m.complete d st res).mot = m.mot := by simp only [Mach.complete]; split <;> simp
@[simp] theorem Mach.complete_chop (d : Desc) (st : Nat) (res : List Byte) : (m.complete d st res).chop = m.chop := by simp only [Mach.complete]; split <;> simp
@[simp] theorem Mach.complete_air (d : Desc) (st : Nat) (res : List Byte) : (m.complete d st res).air = m.air := by simp only [Mach.complete]; split <;> simp
@[simp] theorem Mach.complete_red (d : Desc) (st : Nat) (res : List Byte) : (m.complete d st res).red = m.red := by simp only [Mach.complete]; split <;> simp
@[simp] theorem Mach.complete_sag (d : Desc) (st : Nat) (res : List Byte) : (m.complete d st res).sag = m.sag := by simp only [Mach.complete]; split <;> simp
@[simp] theorem Mach.complete_met (d : Desc) (st : Nat) (res : List Byte) : (m.complete d st res).met = m.met := by simp only [Mach.complete]; split <;> simp
@[simp] theorem Mach.complete_gnss (d : Desc) (st : Nat) (res : List Byte) : (m.complete d st res).gnss = m.gnss := by simp only [Mach.complete]; split <;> simp
@[simp] theorem Mach.complete_corr (d : Desc) (st : Nat) (res : List Byte) : (m.complete d st res).corr = m.corr := by simp only [Mach.complete]; split <;> simp
@[simp] theorem Mach.complete_upd (d : Desc) (st : Nat) (res : List Byte) : (m.complete d st res).upd = m.upd := by simp only [Mach.complete]; split <;> simp
@[simp] theorem Mach.complete_boot (d : Desc) (st : Nat) (res : List Byte) : (m.complete d st res).boot = m.boot := by simp only [Mach.complete]; split <;> simp
@[simp] theorem Mach.complete_ist (d : Desc) (st : Nat) (res : List Byte) : (m.complete d st res).ist = m.ist := by simp only [Mach.complete]; split <;> simp
@[simp] theorem Mach.complete_nv (d : Desc) (st : Nat) (res : List Byte) : (m.complete d st res).nv = m.nv := by simp only [Mach.complete]; split <;> simp
@[simp] theorem Mach.complete_freeCtr (d : Desc) (st : Nat) (res : List Byte) : (m.complete d st res).freeCtr = m.freeCtr := by simp only [Mach.complete]; split <;> simp

/-- A descriptor that starts is executed by its block. -/
theorem Mach.desc_starts (op : Nat) (d : Desc) (f : Desc → Mach → Mach) (h : m.starts op d) :
    m.desc op d f = f (d.as op) m := by
  obtain ⟨h1, h2⟩ := h
  simp only [Mach.desc]
  rw [if_neg (by simpa [Desc.as] using h1), if_neg (by simp [h2])]
  rfl

/-- A descriptor that is held back has no effect. -/
theorem Mach.desc_waits (op : Nat) (d : Desc) (f : Desc → Mach → Mach) (h : m.waits (d.as op) = true) :
    m.desc op d f = m := by
  simp only [Mach.desc]
  rw [if_pos (by simpa [Desc.as] using h)]

/-- A descriptor whose buffer's transfer fails halts its ring and completes, and its block does nothing (R81). -/
theorem Mach.desc_fails (op : Nat) (d : Desc) (f : Desc → Mach → Mach) (res : Desc → List Byte)
    (h : m.waits (d.as op) = false) (hb : m.bufFails d = true) :
    m.desc op d f res =
      ((m.when d.bufErr Mach.linkError).haltRing d.ring 4).complete (d.as op) stBAD_DESCRIPTOR (res (d.as op)) := by
  simp only [Mach.desc]
  rw [if_neg (by simpa [Desc.as] using h), if_pos hb]
  rfl

/-- What a Kiln operation can do: it is counted and runs, or it waits and nothing happens (R31). -/
theorem Mach.kilnOp_cases (f : Mach → Mach) (st : KilnStep) :
    (m.kilnFree st ∧ m.kilnOp f st = f m.kilnCounted) ∨ (¬ m.kilnFree st ∧ m.kilnOp f st = m) := by
  unfold Mach.kilnOp Mach.kilnFree
  split
  · exact .inl ⟨by assumption, rfl⟩
  · exact .inr ⟨by assumption, rfl⟩

end Sys2Proof.Machine
end

