-- ==== Sys2Proof/Laws/RegAccess.lean ====
section
/-! SUPPORT. Laws of register reads: which offsets a register array covers; a low word has no read of its own; outside the
registers with a read of their own every master reads the register map. -/

namespace Sys2Proof.Machine

/-- An offset at which a register is found is that of one of its indexes. -/
theorem Reg.find_isSome (r : Reg) (off : Nat) (h : (r.find off).isSome = true) :
    ∃ i j, j < r.count2 ∧ i < max r.count 1 ∧ off = r.base + r.step2 * j + r.step * i := by
  simp only [Reg.find, List.findSome?_isSome_iff, List.mem_range] at h
  obtain ⟨j, hj, h⟩ := h
  split at h
  · simp at h
  · split at h
    · split at h
      · exact ⟨0, j, hj, by omega, by simp_all⟩
      · simp at h
    · split at h
      · rename_i h1 h2 h3
        simp only [Bool.and_eq_true, beq_iff_eq, decide_eq_true_eq] at h3
        refine ⟨_, j, hj, Nat.lt_of_lt_of_le h3.2 (Nat.le_max_left _ _), ?_⟩
        have := Nat.div_add_mod (off - (r.base + r.step2 * j)) r.step
        omega
      · simp at h

/-- The low word of a 64-bit value has no read of its own. -/
theorem ownRead_lowWord (off : Nat) (h : isLowWord off = true) : ownRead off = false := by
  simp only [isLowWord, List.any_eq_true] at h
  obtain ⟨r, hr, h⟩ := h
  have hb : ∀ r ∈ lowRegs, ∀ j < r.count2, ∀ i < max r.count 1,
      ownRead (r.base + r.step2 * j + r.step * i) = false := by decide +kernel
  obtain ⟨i, j, hj, hi, rfl⟩ := r.find_isSome off h
  exact hb r hr j hj i hi

/-- Outside the registers with a read of their own, each master reads the register map. -/
theorem shardWord_none (m : Mach) (a off : Nat) (h : ownRead off = false) : m.shardWord a off = none := by
  have hs : ∀ r : Reg, r.step = 0 → 0 < r.count2 → (r.find r.base).isSome = true := by
    intro r h0 hc
    simp only [Reg.find, List.findSome?_isSome_iff, List.mem_range]
    exact ⟨0, hc, by simp [h0]⟩
  simp only [ownRead, List.any_cons, List.any_nil, Bool.or_eq_false_iff] at h
  obtain ⟨-, -, -, hc, -, hw, hd, -⟩ := h
  have e1 : off ≠ SHARD_CURSOR_reg.base := by
    rintro rfl; rw [hs _ rfl (by decide)] at hc; exact absurd hc (by decide)
  have e2 : off ≠ SHARD_WIN_CFG_reg.base := by
    rintro rfl; rw [hs _ rfl (by decide)] at hw; exact absurd hw (by decide)
  simp only [Mach.shardWord, beq_iff_eq, if_neg e1, if_neg e2]
  cases hf : SHARD_WINDOW_reg.find off with
  | none => rfl
  | some v => simp [hf] at hd

end Sys2Proof.Machine
end

