-- ==== Sys2Proof/Laws/Windows.lean ====
section
/-! SUPPORT. Laws of events and completions on registers: outside the windows of the host interface and of the Shard log every
register holds what it held. -/

namespace Sys2Proof.Machine

/-- An offset outside the registers that events and completions change: host interface and Shard log. -/
def quietOff (off : Nat) : Prop := off < 0x40000 ∨ (0x44000 ≤ off ∧ off < 0x780000) ∨ 0x780018 ≤ off

variable (m : Mach)

theorem Mach.look_w_ne (f : Field) (v i j off : Nat) (h : off ≠ f.off i j) :
    Tabs.look (m.w f v i j).regs off = Tabs.look m.regs off := by
  simp only [Mach.w]
  exact Tabs.look_put_ne _ _ h

/-- A field reads alike where its register's entry is the same. -/
theorem Mach.r_congr {a b : Mach} (f : Field) (i j : Nat)
    (h : Tabs.look a.regs (f.off i j) = Tabs.look b.regs (f.off i j)) : a.r f i j = b.r f i j := by
  simp [Mach.r, Mach.word, Tabs.val, h]

theorem Mach.b_congr {a b : Mach} (f : Field) (i j : Nat)
    (h : Tabs.look a.regs (f.off i j) = Tabs.look b.regs (f.off i j)) : a.b f i j = b.b f i j := by
  simp [Mach.b, Mach.r_congr f i j h]

theorem Mach.look_shardPush (e : ShardEv) {off : Nat} (h : quietOff off) :
    Tabs.look (m.shardPush e).regs off = Tabs.look m.regs off := by
  have h1 : off ≠ SHARD_LOST_ALL.off 0 0 := by simp only [Field.off, SHARD_LOST_ALL]; unfold quietOff at h; omega
  have h2 : off ≠ SHARD_STATUS_QUEUED.off 0 0 := by simp only [Field.off, SHARD_STATUS_QUEUED]; unfold quietOff at h; omega
  simp only [Mach.shardPush]
  split
  · simp only [Mach.inc, Mach.incBy]; rw [Mach.look_w_ne _ _ _ _ _ _ h1]
  · rw [Mach.look_w_ne _ _ _ _ _ _ h2]

theorem Mach.look_toRing (e code sev src : Nat) (args : List Byte) (he : e < 8) {off : Nat} (h : quietOff off) :
    Tabs.look (m.toRing e code sev src args).regs off = Tabs.look m.regs off := by
  have h1 : off ≠ HIF_ER_DROP_ALL.off e 0 := by simp only [Field.off, HIF_ER_DROP_ALL]; unfold quietOff at h; omega
  have h2 : off ≠ HIF_ER_STATUS_WR_INDEX.off e 0 := by
    simp only [Field.off, HIF_ER_STATUS_WR_INDEX]; unfold quietOff at h; omega
  have h3 : off ≠ HIF_ER_STATUS_PHASE.off e 0 := by
    simp only [Field.off, HIF_ER_STATUS_PHASE]; unfold quietOff at h; omega
  simp only [Mach.toRing]
  split
  · simp only [Mach.inc, Mach.incBy]; rw [Mach.look_w_ne _ _ _ _ _ _ h1]; simp
  · rw [Mach.notify_regs, Mach.look_w_ne _ _ _ _ _ _ h3, Mach.look_w_ne _ _ _ _ _ _ h2]; simp

/-- An event leaves the registers of the blocks. -/
theorem Mach.look_event (code sev src : Nat) (args : List Byte) {off : Nat} (h : quietOff off) :
    Tabs.look (m.event code sev src args).regs off = Tabs.look m.regs off := by
  have h8 : ∀ (x : Mach) (k : Nat), x.r HIF_EVT_ROUTE_RING k < 8 := fun x k => x.r_lt HIF_EVT_ROUTE_RING k 0
  have ho : ∀ x : Mach, Tabs.look (x.offer code sev src args).regs off = Tabs.look x.regs off := by
    intro x
    simp only [Mach.offer]
    split
    · exact Mach.look_toRing _ _ _ _ _ _ (h8 _ _) h
    · rfl
  simp only [Mach.event, Mach.when]
  rw [ho]
  split
  · exact Mach.look_shardPush _ _ h
  · rfl

theorem Mach.r_event (code sev src : Nat) (args : List Byte) (f : Field) (i j : Nat) (h : quietOff (f.off i j)) :
    (m.event code sev src args).r f i j = m.r f i j := Mach.r_congr f i j (Mach.look_event m _ _ _ _ h)

theorem Mach.b_event (code sev src : Nat) (args : List Byte) (f : Field) (i j : Nat) (h : quietOff (f.off i j)) :
    (m.event code sev src args).b f i j = m.b f i j := Mach.b_congr f i j (Mach.look_event m _ _ _ _ h)

theorem Mach.look_ringOff (r : Nat) (hr : r < 64) {off : Nat} (h : quietOff off) :
    Tabs.look (m.ringOff r).regs off = Tabs.look m.regs off := by
  have h1 : off ≠ HIF_RP_STATUS_STATE.off r 0 := by
    simp only [Field.off, HIF_RP_STATUS_STATE]; unfold quietOff at h; omega
  have h2 : off ≠ HIF_RP_STATUS_CAUSE.off r 0 := by
    simp only [Field.off, HIF_RP_STATUS_CAUSE]; unfold quietOff at h; omega
  have h3 : off ≠ HIF_RP_STATUS_SQ_HEAD.off r 0 := by
    simp only [Field.off, HIF_RP_STATUS_SQ_HEAD]; unfold quietOff at h; omega
  have h4 : off ≠ HIF_RP_CTRL_ENABLE.off r 0 := by
    simp only [Field.off, HIF_RP_CTRL_ENABLE]; unfold quietOff at h; omega
  have h5 : off ≠ HIF_RP_INFLIGHT_ALL.off r 0 := by
    simp only [Field.off, HIF_RP_INFLIGHT_ALL]; unfold quietOff at h; omega
  simp only [Mach.ringOff, Mach.showRing]
  rw [Mach.look_w_ne _ _ _ _ _ _ h5, Mach.look_w_ne _ _ _ _ _ _ h4, Mach.look_w_ne _ _ _ _ _ _ h3,
    Mach.look_w_ne _ _ _ _ _ _ h2, Mach.look_w_ne _ _ _ _ _ _ h1]
  rfl

/-- The end of a descriptor leaves the registers of the blocks. -/
theorem Mach.look_finish (d : Desc) (st : Nat) (res : List Byte) (hr : d.ring < 64) {off : Nat} (h : quietOff off) :
    Tabs.look (m.finish d st res).regs off = Tabs.look m.regs off := by
  have h1 : off ≠ HIF_RP_INFLIGHT_ALL.off d.ring 0 := by
    simp only [Field.off, HIF_RP_INFLIGHT_ALL]; unfold quietOff at h; omega
  have h2 : off ≠ HIF_LOST_CPL_ALL.off 0 0 := by simp only [Field.off, HIF_LOST_CPL_ALL]; unfold quietOff at h; omega
  have hs : ∀ x : Mach, Tabs.look (x.settleRing d.ring).regs off = Tabs.look x.regs off := by
    intro x
    simp only [Mach.settleRing]
    split
    · exact Mach.look_ringOff _ _ hr h
    · rfl
  simp only [Mach.finish]
  rw [hs, Mach.showRing, Mach.look_w_ne _ _ _ _ _ _ h1]
  split
  · simp
  · simp only [Mach.inc, Mach.incBy]; rw [Mach.look_w_ne _ _ _ _ _ _ h2]

/-- A completion leaves the registers of the blocks. -/
theorem Mach.look_complete (d : Desc) (st : Nat) (res : List Byte) {off : Nat} (h : quietOff off) :
    Tabs.look (m.complete d st res).regs off = Tabs.look m.regs off := by
  simp only [Mach.complete]
  split
  · rfl
  · rename_i hd
    rw [Mach.look_finish _ _ _ _ (by simp only [foreignRing] at hd; omega) h]
    rfl

theorem Mach.r_complete (d : Desc) (st : Nat) (res : List Byte) (f : Field) (i j : Nat) (h : quietOff (f.off i j)) :
    (m.complete d st res).r f i j = m.r f i j := Mach.r_congr f i j (Mach.look_complete m _ _ _ h)

theorem Mach.b_complete (d : Desc) (st : Nat) (res : List Byte) (f : Field) (i j : Nat) (h : quietOff (f.off i j)) :
    (m.complete d st res).b f i j = m.b f i j := Mach.b_congr f i j (Mach.look_complete m _ _ _ h)

end Sys2Proof.Machine
end

