-- ==== Sys2Proof/Tests/Slice0.lean ====
section
/-! SUPPORT. The model's own tests: ill-formed commands are refused, a state and operands that meet the hypotheses of
each statement, and single steps with results worked out from the spec. -/

namespace Sys2Proof.Tests

open Sys2Proof Sys2Proof.Machine

set_option Elab.async false

/-! ### Small states -/

/-- A part with every register at the reset value of its table. -/
def base : Mach := { resetMach with regs := [], nv := { resetNv with banks := [], set := { schema := 1 } } }

/-- The part with fields set: field, index, value. -/
def rg (l : List (Field × Nat × Nat)) (m : Mach := base) : Mach := l.foldl (fun m e => m.w e.1 e.2.2 e.2.1) m

/-- The state of a part with an empty queue. -/
def T (m : Mach) : State := { pending := [], mb := {}, m := m }

/-- A descriptor of ring 0 with the given opcode, flags and body fields (offset, length, value). -/
def dsc (op : Nat) (fields : List (Nat × Nat × Nat) := []) (flags : Nat := 0) : Desc :=
  { ring := 0, op := op, target := op / 256, flags := flags, tag := 0x1234, rsv6 := 0, req := 0, rsv12 := 0,
    body := BitVec.ofNat 384 (fields.foldl (fun v f => v + f.2.2 % 2 ^ (8 * f.2.1) * 2 ^ (8 * (f.1 - 16))) 0), bufErr := false }

/-- A descriptor with a buffer at an address, of a length. -/
def dscBuf (op : Nat) (fields : List (Nat × Nat × Nat)) (addr len : Nat) : Desc :=
  dsc op (fields ++ [(48, 8, addr), (56, 4, len)]) 2

/-! ### Ill-formed commands -/

/-- R64: each field of a descriptor has its width; R58: 64 ring pairs. -/
theorem test_ill_formed_descriptors :
    ({ dsc 0x0C00 with ring := 64 } : Desc).wf = false ∧ ({ dsc 0x0C00 with op := 65536 } : Desc).wf = false ∧
    ({ dsc 0x0C00 with target := 256 } : Desc).wf = false ∧ ({ dsc 0x0C00 with flags := 256 } : Desc).wf = false ∧
    (Instr.nop { dsc 0x0C00 with ring := 64 }).wellFormed = false ∧ (Instr.nop { dsc 0x0C00 with ring := 63 }).wellFormed = true := by
  decide +kernel

/-- What comes in with a tick. -/
def quiet : TickIn :=
  { stopA := 0, stopB := 0, tj := 0, vin := 0, restartFails := [], authBad := [], maA := 0, maB := 0, dumps := [], met := [],
    jtag := [], chop := [] }

/-- R22: blocks 0 to 32; R121: agents 0 to 511. -/
theorem test_ill_formed_ticks :
    (Instr.tick { quiet with restartFails := [33] }).wellFormed = false ∧ (Instr.tick { quiet with restartFails := [32] }).wellFormed = true ∧
    (Instr.tick { quiet with authBad := [512] }).wellFormed = false ∧ (Instr.tick { quiet with authBad := [511] }).wellFormed = true := by
  decide +kernel

/-- R52, R6: the sizes of the BARs; offsets are multiples of 4. -/
theorem test_ill_formed_offsets :
    (Instr.registerWrite 1 .bar0 0x4000000 0).wellFormed = false ∧ (Instr.registerWrite 1 .bar0 0x3FFFFFC 0).wellFormed = true ∧
    (Instr.registerWrite 1 .bar0 2 0).wellFormed = false ∧ (Instr.registerWrite 1 .bar2 0x1000 0).wellFormed = false ∧
    (Instr.registerWrite 1 .bar4 0x2000 0).wellFormed = false ∧ (Instr.readClearRegisterRead 1 .bar0 0x4000000).wellFormed = false ∧
    (Instr.wideValueLowWordRead 1 6).wellFormed = false := by
  decide +kernel

/-- What one channel latches. -/
def latched (c : Fin 456) : EpochIn :=
  { chan := c, prValid := true, cpValid := true, half := false, jump := false, txTime := 0, code := 0, cp := 0, dop := 0,
    dir := none }

/-- R341: each channel latches once in an epoch; R473: an edge has 8 voltages and 16 currents. -/
theorem test_ill_formed_lists :
    (Instr.measurementEpoch [latched 455, latched 455]).wellFormed = false ∧
    (Instr.measurementEpoch [latched 454, latched 455]).wellFormed = true ∧
    (Instr.zeroCrossing 0 true [⟨List.replicate 7 0, List.replicate 16 0⟩]).wellFormed = false ∧
    (Instr.zeroCrossing 0 true [⟨List.replicate 8 0, List.replicate 16 0⟩]).wellFormed = true := by
  decide +kernel

/-! ### Witnesses: states and operands that meet the hypotheses of each statement -/

/-- StepRunsTheFrontCommand: an empty queue. -/
theorem witness_StepRunsTheFrontCommand : (T base).pending = [] := rfl

/-- StepKeepsTheMailboxInvariant: channel 63 holds 32 notices, lock 63 is owned by master 15; and a command that touches no
mailbox. -/
theorem witness_StepKeepsTheMailboxInvariant :
    let s : State := { T base with mb := { chans := [(63, List.replicate 32 0)], owners := [(63, 15)], epochs := [(15, 15)] },
                                   pending := [.nop (dsc 0x0C00)] }
    s.Inv ∧ (∃ s', step s = .next s' ∧ s'.Inv) ∧ touchesMailboxes (.nop (dsc 0x0C00)) = false := by
  unfold State.Inv; exact ⟨by decide +kernel, ⟨_, rfl, by decide +kernel⟩, by decide +kernel⟩

/-- WellFormedCommandsComplete. -/
theorem witness_WellFormedCommandsComplete : (Instr.registerWrite 1 .bar0 0x3FFFFFC 0).wellFormed = true := by decide +kernel

/-- A RUNNING ring pair 0 of 16 entries with a descriptor delivered; the function can write. -/
def ringOn : Mach :=
  (rg [(HIF_RP_STATUS_STATE, 0, 1), (HIF_RP_CFG_SIZE_LOG2, 0, 4), (HIF_STATUS_LINK_UP, 0, 1), (HIF_STATUS_BME, 0, 1),
       (HIF_SQ_BASE_LO_ALL, 0, 0x1000), (HIF_CQ_BASE_LO_ALL, 0, 0x3000)]).setRing 0 { delivered := [dsc 0x0C00], outstanding := 1 }

/-- DescriptorsWaitInRingOrder: a FENCE descriptor behind another waits; one with a failing buffer starts, and one whose buffer the
function cannot reach; a RESERVE_PATH so refused answers with its OUTCOME. -/
theorem witness_DescriptorsWaitInRingOrder :
    ringOn.waits ((dsc 0x0C00 [] 1).as 0x0C01) = true ∧
    ringOn.waits (({ dscBuf 0x0600 [] 0x8000 1024 with bufErr := true } : Desc).as 0x0600) = false ∧
    Descs.buf { dscBuf 0x0600 [] 0x8000 1024 with bufErr := true } = true ∧
    base.waits ((dscBuf 0x0600 [] 0x8000 1024).as 0x0600) = false ∧ base.canWrite = false ∧
    base.refusedRes (dscBuf 0x0101 [] 0x8000 8) ≠ [] := by decide +kernel

/-- CompletionEntryIsWritten: the last slot of a ring. -/
theorem witness_CompletionEntryIsWritten :
    let m := ringOn.setRing 0 { delivered := [dsc 0x0C00], outstanding := 1, cqWrite := 15 };
    m.memWf = true ∧ (dsc 0x0C00).ring < 64 ∧ m.canWrite = true ∧ (dsc 0x0C00).era = m.hif.era ∧ m.r HIF_RP_STATUS_STATE (dsc 0x0C00).ring = 1 ∧
    (m.w HIF_RP_STATUS_STATE 2).r HIF_RP_STATUS_STATE (dsc 0x0C00).ring = 2 := by decide +kernel

/-- LostCompletionsAreCounted: bus master off; a descriptor fetched before the link went down; a DISABLED ring. -/
theorem witness_LostCompletionsAreCounted :
    ((ringOn.w HIF_STATUS_BME 0).canWrite = false ∧ (ringOn.w HIF_STATUS_BME 0).r HIF_RP_STATUS_STATE 0 = 1) ∧
    (let m : Mach := { ringOn with hif := { ringOn.hif with era := 1 } };
      (dsc 0x0C00).era ≠ m.hif.era ∧ m.canWrite = true ∧ m.r HIF_RP_STATUS_STATE 0 = 1) ∧
    base.r HIF_RP_STATUS_STATE 63 = 0 := by decide +kernel

/-- Event ring 7 RUNNING with 16 entries. -/
def eventsOn : Mach :=
  rg [(HIF_ER_STATUS_STATE, 7, 1), (HIF_ER_CFG_SIZE_LOG2, 7, 4), (HIF_ER_STATUS_WR_INDEX, 7, 14), (HIF_ER_STATUS_PHASE, 7, 1),
      (HIF_STATUS_LINK_UP, 0, 1), (HIF_STATUS_BME, 0, 1)]

/-- EventEntryIsWritten: an entry that fits (the last free one), a full ring, a ring that is not RUNNING. -/
theorem witness_EventEntryIsWritten :
    (eventsOn.memWf = true ∧ eventsOn.r HIF_ER_STATUS_STATE 7 = 1 ∧ eventsOn.r HIF_ER_CFG_SIZE_LOG2 7 ≤ 16 ∧ eventsOn.canWrite = true ∧
      decide (2 ^ 4 - 1 ≤ (eventsOn.r HIF_ER_STATUS_WR_INDEX 7 + 2 ^ 4 - (eventsOn.ering 7).head) % 2 ^ 4) = false) ∧
    (let m := eventsOn.w HIF_ER_STATUS_WR_INDEX 15 7;
      decide (2 ^ 4 - 1 ≤ (m.r HIF_ER_STATUS_WR_INDEX 7 + 2 ^ 4 - (m.ering 7).head) % 2 ^ 4) = true) ∧
    base.r HIF_ER_STATUS_STATE 7 ≠ 1 := by decide +kernel

/-- DoorbellsMoveRingIndices: each clause of the three doorbells at a ring of 16 entries; 15 descriptors fit. -/
theorem witness_DoorbellsMoveRingIndices :
    (base.r HIF_RP_STATUS_STATE 63 ≠ 1 ∧ base.r HIF_ER_STATUS_STATE 7 ≠ 1 ∧ ringOn.r HIF_RP_STATUS_STATE 0 = 1) ∧
    ((0 : BitVec 16).toNat = (ringOn.ring 0).tail ∧ 2 ^ ringOn.r HIF_RP_CFG_SIZE_LOG2 0 = 16 ∧
      (14 : BitVec 16).toNat ≠ (ringOn.ring 0).tail ∧ (14 : BitVec 16).toNat < 16 ∧ (ringOn.ring 0).outstanding + (14 + 16 - (ringOn.ring 0).tail) % 16 ≤ 16 - 1) ∧
    (16 - 1 < (ringOn.ring 0).outstanding + (15 + 16 - (ringOn.ring 0).tail) % 16 ∧ 16 ≤ (16 : BitVec 16).toNat) ∧
    (let m := ringOn.setRing 0 { cqWrite := 3, cqHead := 1, outstanding := 2 };
      m.r HIF_RP_STATUS_STATE 0 = 1 ∧ (1 : BitVec 16).toNat = (m.ring 0).cqHead ∧
      (3 : BitVec 16).toNat ≠ (m.ring 0).cqHead ∧ (3 + 16 - (m.ring 0).cqHead) % 16 ≤ ((m.ring 0).cqWrite + 16 - (m.ring 0).cqHead) % 16 ∧
      ((m.ring 0).cqWrite + 16 - (m.ring 0).cqHead) % 16 < (4 + 16 - (m.ring 0).cqHead) % 16) ∧
    (eventsOn.r HIF_ER_STATUS_STATE 7 = 1 ∧ 2 ^ eventsOn.r HIF_ER_CFG_SIZE_LOG2 7 = 16 ∧ (0 : BitVec 16).toNat = (eventsOn.ering 7).head ∧
      (14 : BitVec 16).toNat ≠ (eventsOn.ering 7).head ∧
      (14 + 16 - (eventsOn.ering 7).head) % 16 ≤ (eventsOn.r HIF_ER_STATUS_WR_INDEX 7 + 16 - (eventsOn.ering 7).head) % 16 ∧
      (eventsOn.r HIF_ER_STATUS_WR_INDEX 7 + 16 - (eventsOn.ering 7).head) % 16 < (15 + 16 - (eventsOn.ering 7).head) % 16) := by decide +kernel

/-- RingsHaltWithTheirCause: RUNNING and other rings. -/
theorem witness_RingsHaltWithTheirCause :
    ringOn.r HIF_RP_STATUS_STATE 0 = 1 ∧ ringOn.r HIF_RP_STATUS_STATE 63 ≠ 1 ∧ eventsOn.r HIF_ER_STATUS_STATE 7 = 1 ∧
    eventsOn.r HIF_ER_STATUS_STATE 0 ≠ 1 := by decide +kernel

/-- Boot has reached READY, and the function can reach host memory. -/
def up : Mach := rg [(PWR_BOOT_STATUS_PHASE, 0, 5), (HIF_STATUS_LINK_UP, 0, 1), (HIF_STATUS_BME, 0, 1)]

/-- RingsAreEnabledAndDisabled: sizes 4 and 16 and aligned bases, a misaligned base, size 17; recovery mode; rings in each state. -/
theorem witness_RingsAreEnabledAndDisabled :
    (let m := rg [(HIF_RP_CFG_SIZE_LOG2, 63, 16), (HIF_SQ_BASE_LO_ALL, 63, 0x1000)] up;
      m.ready = true ∧ m.recovery = false ∧ m.r HIF_RP_STATUS_STATE 63 = 0 ∧
      ringCfgOk (m.r HIF_RP_CFG_SIZE_LOG2 63) [m.sqBase 63, m.cqBase 63] = true) ∧
    (let m := rg [(HIF_RP_CFG_SIZE_LOG2, 63, 4), (HIF_SQ_BASE_LO_ALL, 63, 0x1008)] up;
      m.ready = true ∧ m.r HIF_RP_STATUS_STATE 63 = 0 ∧ ringCfgOk (m.r HIF_RP_CFG_SIZE_LOG2 63) [m.sqBase 63, m.cqBase 63] = false) ∧
    (let m := rg [(UPD_STATUS_RECOVERY, 0, 1)] up;
      m.recovery = true ∧ m.ready = true ∧ m.r HIF_RP_STATUS_STATE 0 = 0) ∧
    (let m := rg [(HIF_ER_CFG_SIZE_LOG2, 7, 4)] up;
      m.ready = true ∧ m.r HIF_ER_STATUS_STATE 7 = 0 ∧ ringCfgOk (m.r HIF_ER_CFG_SIZE_LOG2 7) [m.erBase 7] = true) ∧
    (let m := rg [(HIF_ER_CFG_SIZE_LOG2, 7, 17)] up;
      m.ready = true ∧ m.r HIF_ER_STATUS_STATE 7 = 0 ∧ ringCfgOk (m.r HIF_ER_CFG_SIZE_LOG2 7) [m.erBase 7] = false) ∧
    (ringOn.r HIF_RP_STATUS_STATE 0 = 1 ∧ (ringOn.w HIF_RP_STATUS_STATE 2).r HIF_RP_STATUS_STATE 0 = 2 ∧
      ((ringOn.setRing 0 {}).ring 0).paused = [] ∧ ((ringOn.setRing 0 {}).ring 0).delivered = [] ∧ eventsOn.r HIF_ER_STATUS_STATE 7 = 1) := by
  decide +kernel

/-- A ring whose one new descriptor is the given 64 bytes. -/
def offered (l : List Byte) : Mach := (ringOn.setRing 0 { tail := 1, outstanding := 1 }).hostWr 0x1000 (l ++ List.replicate 64 0)

/-- DescriptorsAreFetchedAndChecked: a NOP, one whose TARGET is not its opcode's, one with an opcode of no row; a ring paused at a
LOAD_MAP. -/
theorem witness_DescriptorsAreFetchedAndChecked :
    (let m := offered [0, 0x0C, 0x0C, 0];
      let x := m.ring 0;
      let d := parseDesc 0 m.hif.era (m.hostRd (m.sqBase 0 + 64 * m.r HIF_RP_STATUS_SQ_HEAD 0) 64);
      m.kiln.loadWait = [] ∧ m.r HIF_RP_STATUS_STATE 0 = 1 ∧ m.canWrite = true ∧ m.turnOf 0 = true ∧ m.r HIF_RP_STATUS_SQ_HEAD 0 ≠ x.tail ∧ x.paused = [] ∧
      x.delivered.length + (x.cqWrite + 16 - x.cqHead) % 16 < 16 ∧ descOk d = true ∧ opcodes.contains d.op = true ∧ m.recovery = false ∧
      ((((m.countBurst 0).setRing 0 { x with paused := [d] }).w HIF_RP_STATUS_SQ_HEAD 1).maxTo HIF_FETCH_LAT_MAX_ALL 7).accepts d = true) ∧
    (let m := offered [0, 0x0C, 1, 0];
      descOk (parseDesc 0 m.hif.era (m.hostRd (m.sqBase 0 + 64 * m.r HIF_RP_STATUS_SQ_HEAD 0) 64)) = false) ∧
    (let m := offered [2, 0x0C, 0x0C, 0];
      let d := parseDesc 0 m.hif.era (m.hostRd (m.sqBase 0 + 64 * m.r HIF_RP_STATUS_SQ_HEAD 0) 64);
      descOk d = true ∧ opcodes.contains d.op = false) ∧
    (let m : Mach := { base with kiln := { base.kiln with loadWait := [dsc 0x0140] } };
      m.kiln.loadWait.any (fun d => d.ring == (0 : Fin 64)) = true) := by decide +kernel

/-- InterruptsAreSentOrKeptPending: vector 63 with a message due, MSI-X enabled and not; pending; D0 and D3. -/
theorem witness_InterruptsAreSentOrKeptPending :
    (let m := (ringOn.w HIF_VEC_COAL_TIME 1 63).setVec 63 { count := 1, masked := false, pend := true };
      let on : Mach := { m with hif := { m.hif with cfg := { m.hif.cfg with msixOn := true } } };
      m.r HIF_VEC_COAL_TIME 63 ≠ 0 ∧ 0 < (m.vec 63).count ∧ m.r HIF_VEC_COAL_TIME 63 < 1000 * (m.now - (m.vec 63).first + 1) ∧
      m.vecHeld 63 = true ∧ m.hif.cfg.msixOn = false ∧ on.r HIF_VEC_COAL_TIME 63 ≠ 0 ∧ 0 < (on.vec 63).count ∧
      on.r HIF_VEC_COAL_TIME 63 < 1000 * (on.now - (on.vec 63).first + 1) ∧ on.vecHeld 63 = false ∧ on.canWrite = true ∧
      (on.vec 63).pend = true ∧ on.hif.cfg.msixMask = false) ∧
    ((base.vec 63).masked = true ∧ base.canWrite = false ∧ (base.vec 63).pend = false) ∧
    (base.r HIF_STATUS_D_STATE = 0 ∧ (∀ v < 64, (base.vec v).pend = false) ∧ (base.w HIF_STATUS_D_STATE 3).r HIF_STATUS_D_STATE ≠ 0) ∧
    (∀ k < 64, (T base).mb.owner k ≠ 1) := by decide +kernel

/-- NopAndGetTimeComplete: both descriptors start. -/
theorem witness_NopAndGetTimeComplete : base.starts 0x0C00 (dsc 0x0C00) ∧ base.starts 0x0C01 (dsc 0x0C01) := by
  unfold Mach.starts; decide +kernel

/-- RegisterAccessCodes: a field of each code. -/
theorem witness_RegisterAccessCodes :
    (HIF_EVT_ROUTE_EN.acc = .rw ∧ HIF_EVT_ROUTE_EN.lim = .any) ∧
    regMap.any (fun g => g.fields.any (fun f => f.acc == .rws && f.lim == .any)) = true ∧
    regMap.any (fun g => g.fields.any (fun f => f.acc == .ro)) = true ∧
    ({ HIF_EVT_ROUTE_EN with acc := .wo } : Field).acc = .wo ∧ ({ HIF_EVT_ROUTE_EN with acc := .w1s } : Field).acc = .w1s ∧
    regMap.any (fun g => g.fields.any (fun f => f.acc == .rc)) = true ∧
    regMap.any (fun g => g.fields.any (fun f => f.acc == .own)) = true ∧ regMap.any (fun g => g.fields.any (fun f => f.acc == .w1c)) = true := by decide +kernel
/-- RegisterCommandsReadAndWrite: an event route (RW) at READY and a ring's configuration (RWS) while the ring is enabled; a BAR2
word past the doorbells; a clear-on-read counter; the low word of a wide value; offsets outside each BAR. -/
theorem witness_RegisterCommandsReadAndWrite :
    (accessOk .bar0 (HIF_EVT_ROUTE_EN.off 13 0) = true ∧ up.regOpen 1 (HIF_EVT_ROUTE_EN.off 13 0) = true ∧
      regAt (HIF_EVT_ROUTE_EN.off 13 0) = some (HIF_EVT_ROUTE_reg, 13, 0) ∧ up.ignoresWrite 1 (HIF_EVT_ROUTE_EN.off 13 0) 13 = false ∧
      HIF_EVT_ROUTE_reg.violates (up.setUp (HIF_EVT_ROUTE_EN.off 13 0) 13) 0 0xFFFFFFFF = false ∧
      HIF_EVT_ROUTE_reg.fields.any (fun f => f.acc == .rc) = false) ∧
    (∀ b : Mach, b.wrote up 1 HIF_EVT_ROUTE_reg 13 (0xFFFFFFFF : BitVec 32).toNat = b) ∧
    (let m := up.w HIF_RP_CTRL_ENABLE 1 63;
      m.regOpen 1 (HIF_RP_CFG_VECTOR.off 63 0) = true ∧ regAt (HIF_RP_CFG_VECTOR.off 63 0) = some (HIF_RP_CFG_reg, 63, 0) ∧
      m.ignoresWrite 1 (HIF_RP_CFG_VECTOR.off 63 0) 63 = false ∧
      HIF_RP_CFG_reg.violates (m.setUp (HIF_RP_CFG_VECTOR.off 63 0) 63) 0 0xFFFFFFFF = true) ∧
    (∀ b : Mach, b.wrote (up.w HIF_RP_CTRL_ENABLE 1 63) 1 HIF_RP_CFG_reg 63 (0xFFFFFFFF : BitVec 32).toNat = b) ∧
    (accessOk .bar2 1088 = true ∧ 1088 % 8 = 0 ∧ accessOk .bar2 8 = true ∧ 8 % 8 = 0) ∧
    (accessOk .bar0 (HIF_ER_DROP_ALL.off 7 0) = true ∧ up.regOpen 1 (HIF_ER_DROP_ALL.off 7 0) = true ∧
      regAt (HIF_ER_DROP_ALL.off 7 0) = some (HIF_ER_DROP_reg, 7, 0) ∧ Tabs.look up.hif.wide (16 * HIF_ER_DROP_ALL.off 7 0 + 1) = none ∧
      isLowWord (HIF_ER_DROP_ALL.off 7 0) = false ∧ ownRead (HIF_ER_DROP_ALL.off 7 0) = false ∧
      HIF_ER_DROP_ALL.off 7 0 ≠ TIME_NOW_NS_reg.base ∧ HIF_ER_DROP_ALL.off 7 0 ≠ TIME_NOW_S_HI_reg.base ∧
      HIF_ER_DROP_reg.fields.any (fun f => f.acc == .rc) = true) ∧
    (accessOk .bar0 0x10 = true ∧ up.regOpen 1 0x10 = true ∧ isLowWord 0x10 = true ∧ 0x10 ≠ TIME_NOW_S_LO_reg.base ∧
      regAt 0x10 = some (ID_SERIAL_LO_reg, 0, 0) ∧ Tabs.look up.hif.wide (16 * 0x10 + 1) = none) ∧
    (up.hears 0 = false ∧ base.hears 1 = false) ∧
    (accessOk .bar0 0x4000000 = false ∧ accessOk .bar2 0x1000 = false ∧ accessOk .bar4 2 = false) :=
  ⟨by decide +kernel, fun _ => rfl, by decide +kernel, fun _ => rfl, by decide +kernel, by decide +kernel, by decide +kernel,
    by decide +kernel, by decide +kernel⟩

/-- BlocksAreEnabledAndDrained: each block can be enabled at READY and taken out again; Damper with the site latched and not;
the Air region with a legal configuration and without. -/
theorem witness_BlocksAreEnabledAndDrained :
    (up.ready = true ∧ up.b (blkEnable .saggar) = false ∧ up.b (blkEnable .damper) = false) ∧
    (let m := up.w (blkEnable .saggar) 1; m.b (blkEnable .saggar) = true ∧ m.ready = true ∧ m.takes .saggar = true ∧
      (m.w (blkDraining .saggar) 1).b (blkDraining .saggar) = true ∧ (m.w (blkDraining .saggar) 1).blockIdle .saggar = true) ∧
    (let m : Mach := up.w (blkEnable .damper) 1; m.takes .damper = true ∧ m.siteLatched = true ∧ m.b (blkEnable .damper) = true) ∧
    (let m : Mach := (up.w (blkEnable .damper) 1).w DAMP_STATUS_SITE_LATCHED 0; m.takes .damper = true ∧ m.siteLatched = false) ∧
    (let m := up.w DAMP_STATUS_DRAINING 1; m.b DAMP_STATUS_DRAINING = true ∧ m.blockIdle .damper = true) ∧
    (let m := (up.w AIR_CTRL_ENABLE 1).w AIR_STATUS_DRAINING 1; m.b AIR_STATUS_DRAINING = true ∧ m.airIdle = true) ∧
    up.b AIR_CTRL_ENABLE = false := by decide +kernel

/-- BlocksAreEnabledAndDrained: the Air region with lanes at offsets 0 to 7 and a PAN identifier, and with none. -/
theorem witness_BlocksAreEnabledAndDrained_air :
    (rg [(AIR_LANE_CFG_OFFSET, 1, 1), (AIR_LANE_CFG_OFFSET, 2, 2), (AIR_LANE_CFG_OFFSET, 3, 3), (AIR_LANE_CFG_OFFSET, 4, 4),
      (AIR_LANE_CFG_OFFSET, 5, 5), (AIR_LANE_CFG_OFFSET, 6, 6), (AIR_LANE_CFG_OFFSET, 7, 9), (AIR_PAN_ID_PAN_ID, 0, 0xFFFE)] up).airCfgOk = true ∧
    up.airCfgOk = false := by
  unfold Mach.airCfgOk hopLen
  cases Config.isAM <;> decide +kernel

/-- TicksAndFaultsAreCounted: a tick in reset and outside it; the bounds of ADDEND; blocks 0 and 32; each kind of injection. -/
theorem witness_TicksAndFaultsAreCounted :
    (let m : Mach := { base with boot := { base.boot with held := true } }; m.boot.held = true) ∧ base.boot.held = false ∧
    (let m := base.wi TIME_ADDEND_ADDEND 1717986;
      m.ri TIME_ADDEND_ADDEND = 1717986 ∧ m.time.ns < 1000000000 ∧ m.time.frac < 2 ^ 32 ∧ m.time.sec + 1 < 2 ^ 48) ∧
    (base.wi TIME_ADDEND_ADDEND (-1717986)).ri TIME_ADDEND_ADDEND = -1717986 ∧
    (let m : Mach := { base with time := { base.time with stepTick := some 0 } }; m.time.stepTick = some m.now) ∧
    (base.time.stepTick ≠ some base.now ∧ classS 0 = false ∧ classS 32 = false ∧ (Tabs.val base.intc.overruns [] 0).contains base.now = false) ∧
    base.b INTC_CTRL_CORR_EVENT_EN = false ∧ (32 : Fin 34) ≠ 33 ∧ up.ready = true ∧ up.siteLatched = true ∧
    (let m := up.w DAMP_STATUS_SITE_LATCHED 0; m.siteLatched = false) ∧
    ((0x120 : BitVec 32).toNat % 64 ≤ 32 ∧ bits (0x120 : BitVec 32).toNat 8 2 = 1 ∧ (0x020 : BitVec 32).toNat % 64 < 33 ∧
      bits (0x020 : BitVec 32).toNat 8 2 = 0 ∧ bits (0x220 : BitVec 32).toNat 8 2 = 2) := by decide +kernel

/-- A map of three holding nodes 0, 1, 2 and the segments 0 → 1 and 1 → 2, one group each; fixture 3 on node 2. -/
def smallMap : SiteMap :=
  { mapId := 7, rev := 1, groups := 5, nodes := [⟨1, 1, 0x11, [0]⟩, ⟨1, 1, 0x12, [1]⟩, ⟨1, 2, 0x13, [2]⟩],
    segs := [⟨0, 1, 1000, 500, 0, 1, [3]⟩, ⟨1, 2, 1000, 500, 0, 2, [4]⟩], binds := [⟨1, 0, 3, 2⟩], image := [] }

/-- Kiln enabled in the ACTIVE role with `smallMap` and the given store. -/
def kilnOn (k : KilnStore := {}) : Mach :=
  let m := rg [(KILN_CTRL_ENABLE, 0, 1), (REDUN_STATUS_ROLE_STATE, 0, 1)] up
  { m with kiln := { m.kiln with map := some smallMap, store := k } }

/-- Agent 511 in generation 15, ADMITTED at node 0. -/
def atNode0 : KilnStore := { agents := [(511, { state := 2, gen := 15, chain := [0] })], queues := [(0, [511])] }

/-- The same agent with the path to node 1 granted. -/
def atNode1 : KilnStore :=
  { agents := [(511, { state := 2, gen := 15, chain := [0, 2 ^ 30, 1] })], queues := [(0, [511]), (1, [511]), (3, [511])] }

/-- KilnTakesTwoHundredOperations: 200 operations taken, a COMMIT_MAP taken, a swap that holds Kiln, a report to come. -/
theorem witness_KilnTakesTwoHundredOperations :
    base.starts 0x0110 (dsc 0x0110) ∧
    ¬ ({ base with kiln := { base.kiln with ops := 200 } } : Mach).kilnFree ∧ ({ base with kiln := { base.kiln with ops := 199 } } : Mach).kilnFree ∧
    ¬ ({ base with kiln := { base.kiln with closed := true } } : Mach).kilnFree ∧
    ¬ ({ base with red := { base.red with hold := true } } : Mach).kilnFree ∧
    ¬ ({ base with kiln := { base.kiln with reports := [(0, 0)] } } : Mach).kilnFree := by
  unfold Mach.starts Mach.kilnFree; decide +kernel

/-- An image of one node and one group, with its CRC. -/
def smallImage : List Byte :=
  let l := le 4 0x5250534A ++ le 2 1 ++ le 2 64 ++ le 4 7 ++ le 4 1 ++ le 4 1 ++ le 4 0 ++ le 4 1 ++ le 4 0 ++ le 4 88 ++ le 24 0 ++ le 4 0 ++
    le 1 1 ++ le 1 0 ++ le 1 1 ++ le 1 0 ++ le 4 0x99 ++ le 4 0 ++ le 4 0xFFFFFFFF ++ le 4 0xFFFFFFFF ++ le 4 0xFFFFFFFF
  l.take 60 ++ le 4 (crc32c l) ++ l.drop 64

/-- MapsAreStagedAndCommitted: a LOAD_MAP without a buffer, one of a whole good image, one with a bad header; a COMMIT_MAP of a
VALID area and with none; a write to MRAM that ends. -/
theorem witness_MapsAreStagedAndCommitted :
    (let m := kilnOn.hostWr 0x8000 smallImage;
      let d := dscBuf 0x0140 [(16, 4, 0)] 0x8000 88;
      let l := m.kilnCounted.bufRd d;
      m.starts 0x0140 d ∧ m.kilnFree ∧ m.kiln.loadWait.contains (d.as 0x0140) = false ∧ Descs.buf d = true ∧ m.kilnCounted.takes .kiln = true ∧
      m.kilnCounted.isActive = true ∧ m.kilnCounted.loadWaits (d.as 0x0140) = false ∧ Descs.fld d 16 4 = 0 ∧ 64 ≤ l.length ∧
      headerFail l = none ∧ l.length = imgLen l ∧ recordFail l = none ∧ imagePass l = none) ∧
    (let m := kilnOn.hostWr 0x8000 (0x4B :: smallImage.tail);
      let d := dscBuf 0x0140 [(16, 4, 0)] 0x8000 64;
      headerFail (m.kilnCounted.bufRd d) = some (1, 0) ∧ 64 ≤ (m.kilnCounted.bufRd d).length) ∧
    Descs.buf (dsc 0x0140) = false ∧
    (let m := kilnOn.setStage 2 smallImage (some (parseMap smallImage));
      let d := dsc 0x0141 [(16, 4, 7), (20, 4, 1)];
      let c : Mach := { m.kilnCounted with kiln := { m.kilnCounted.kiln with closed := true } };
      m.starts 0x0141 d ∧ m.kilnFree ∧ c.takes .kiln = true ∧ c.isActive = true ∧ c.stage = 2 ∧
      (c.kiln.staged.any (fun new => new.mapId == Descs.fld d 16 4 && new.rev == Descs.fld d 20 4 &&
        (c.claimedChanged new).isNone && (c.axisRebound new).isNone)) = true) ∧
    kilnOn.stage ≠ 2 ∧
    (let m : Mach := { kilnOn with kiln := { kilnOn.kiln with persist := some smallImage } };
      m.kiln.persist = some smallImage ∧ m.kiln.loadWait = []) := by
  unfold Mach.starts Mach.kilnFree; decide +kernel

/-- SpareBanksRotate: the spare is bank 16; a rotation step due; a copy that has completed, logical bank 15 in bank 0. -/
theorem witness_SpareBanksRotate :
    (let m := rg [(KILN_ROT_STATUS_SPARE, 0, 16)] up;
      m.istRuns 1 = true ∧ m.istDue 1 0 (1000 * m.r IST_PERIOD_SRAM_KILN_S) = true ∧ m.r KILN_ROT_STATUS_SPARE ≤ 16 ∧
      m.b KILN_ROT_STATUS_COPYING = false ∧ m.r INTC_BLK_FAULT_STATE 15 = 0) ∧
    (let m := rg [(KILN_ROT_STATUS_SPARE, 0, 16), (KILN_ROT_STATUS_COPYING, 0, 1), (KILN_BANK_ROLE, 16, 2), (KILN_BANK_LOGICAL, 0, 15)] up;
      let m : Mach := { m with kiln := { m.kiln with copyDone := some 0, nextLogical := 15 }, intc := { m.intc with ticks := 1 } };
      m.b KILN_ROT_STATUS_COPYING = true ∧ m.kiln.copyDone = some 0 ∧ 0 < m.now ∧ m.r KILN_ROT_STATUS_SPARE ≤ 16 ∧
      m.r KILN_BANK_ROLE (m.r KILN_ROT_STATUS_SPARE) = 2 ∧ m.bankOf m.kiln.nextLogical = some 0) := by decide +kernel

/-- AdmissionTakesAnIndex: a stale reference is refused; a FREE index becomes fixture 15; a JOINED one gets node 0 as anchor. -/
theorem witness_AdmissionTakesAnIndex :
    (let d := dsc 0x0100 [(16, 2, mkRef 511 1)];
      kilnOn.starts 0x0100 d ∧ kilnOn.kilnFree ∧ kilnOn.kilnCounted.admitCheck (d.as 0x0100) = some stSTALE_GENERATION) ∧
    (let d := dsc 0x0100 [(16, 2, mkRef 511 0), (18, 1, 1), (19, 1, 15)];
      kilnOn.kilnCounted.admitCheck (d.as 0x0100) = none ∧ Descs.fld d 18 1 = 1) ∧
    (let d := dsc 0x0100 [(16, 2, mkRef 511 15)];
      let m := kilnOn { agents := [(511, { state := 1, gen := 15 })] };
      m.starts 0x0100 d ∧ m.kilnFree ∧ m.kilnCounted.admitCheck (d.as 0x0100) = none ∧ Descs.fld d 18 1 ≠ 1 ∧ m.kiln.map = some smallMap) := by
  unfold Mach.starts Mach.kilnFree; decide +kernel

/-- RESERVE_PATH of agent 511 to node 1 by segment 0, waiting allowed or not. -/
def reserve (wait : Nat) : Desc := dsc 0x0101 [(16, 2, mkRef 511 15), (18, 1, wait), (19, 1, 2), (20, 2, 100), (24, 4, 2 ^ 30), (28, 4, 1)]

/-- PathsAreGrantedParkedOrDenied: a path that is free, one behind another agent's parked request, one to a node that ends another
chain, one that is no path. -/
theorem witness_PathsAreGrantedParkedOrDenied :
    (let m := kilnOn atNode0;
      let c := m.kilnCounted;
      m.starts 0x0101 (reserve 1) ∧ m.kilnFree ∧ c.pathCheck (reserve 1) = none ∧ m.kiln.map = some smallMap ∧
      c.conflict smallMap 511 (c.pathOf (reserve 1)) m.kiln.store.park = (none, 0)) ∧
    (let m := kilnOn { atNode0 with park := [⟨0, 1, [1], 0, 0, 2⟩] };
      let c := m.kilnCounted;
      c.pathCheck (reserve 1) = none ∧ c.conflict smallMap 511 (c.pathOf (reserve 1)) m.kiln.store.park = (some ⟨0x10, 2, mkRef 0 0, some 1⟩, 0) ∧
      Descs.fld (reserve 1) 18 1 % 2 = 1 ∧ Descs.fld (reserve 0) 18 1 % 2 = 0 ∧ c.pathCheck (reserve 0) = none ∧
      c.conflict smallMap 511 (c.pathOf (reserve 0)) m.kiln.store.park = (some ⟨0x10, 2, mkRef 0 0, some 1⟩, 0)) ∧
    (let m := kilnOn { agents := [(0, { state := 2, chain := [1] }), (511, { state := 2, gen := 15, chain := [0] })], queues := [(0, [511]), (1, [0])] };
      let c := m.kilnCounted;
      c.pathCheck (reserve 1) = none ∧ c.conflict smallMap 511 (c.pathOf (reserve 1)) m.kiln.store.park = (some ⟨0x10, 1, mkRef 0 0, some 1⟩, 0)) ∧
    (let m := kilnOn {}; m.starts 0x0101 (reserve 0) ∧ m.kilnFree ∧ (m.kilnCounted.pathCheck (reserve 0)).isSome = true) := by
  unfold Mach.starts Mach.kilnFree; decide +kernel

/-- ParkServiceGrantsInOrder: a parked request that nothing stands against any more; one whose limit of one tick has passed. -/
theorem witness_ParkServiceGrantsInOrder :
    (let m := kilnOn { atNode0 with park := [⟨511, 1, [2 ^ 30, 1], 0, 0, 2⟩] };
      let m : Mach := { m with intc := { m.intc with ticks := 1 } };
      m.kiln.map = some smallMap ∧ m.isActive = true ∧ m.kilnFree .park ∧ 0 < m.now ∧
      m.kiln.store.park[m.kiln.parkPos]? = some ⟨511, 1, [2 ^ 30, 1], 0, 0, 2⟩ ∧
      m.parkSkipped smallMap m.kiln.parkPos = false ∧
      m.kilnCounted.conflict smallMap 511 [2 ^ 30, 1] (m.kiln.store.park.take m.kiln.parkPos) = (none, 0)) ∧
    (let m := kilnOn { atNode0 with park := [⟨511, 1, [2 ^ 30, 1], 0, 1, 2⟩] };
      let m : Mach := { m with intc := { m.intc with ticks := 1 }, kiln := { m.kiln with parkPos := 1 } };
      m.parkedOf 511 = some ⟨511, 1, [2 ^ 30, 1], 0, 1, 2⟩ ∧ 0 + 1 ≤ m.now ∧ m.parkDone = true) := by
  unfold Mach.kilnFree; decide +kernel

/-- ChainsAreReleasedFromTheirEnds: RELEASE_BEHIND to node 1, TRUNCATE back to node 1 from node 2, CANCEL with a request parked and
without, a progress report at the anchor and a stale one. -/
theorem witness_ChainsAreReleasedFromTheirEnds :
    (let m := kilnOn atNode1;
      let d := dsc 0x0102 [(16, 2, mkRef 511 15), (20, 4, 1)];
      m.starts 0x0102 d ∧ m.kilnFree ∧ m.kilnTakes (kAgent d) ∧ (m.agent (refIdx (kAgent d))).state = 2 ∧ (m.agent 511).held = none ∧
      Descs.fld d 18 1 % 2 = 0 ∧ m.known (kRes d) = true ∧ (m.agent 511).chain.findIdx? (fun x => x == kRes d) = some 2) ∧
    (let m := kilnOn { agents := [(511, { state := 2, gen := 15, chain := [0, 2 ^ 30, 1, 2 ^ 30 + 1, 2] })] };
      let d := dsc 0x0103 [(16, 2, mkRef 511 15), (20, 4, 1)];
      m.starts 0x0103 d ∧ m.kilnFree ∧ m.kilnTakes (kAgent d) ∧ m.known (kRes d) = true ∧ (lastIdx (m.agent 511).chain (kRes d)).getD 0 ≠ 0 ∧
      m.isHolding (kRes d) = true ∧ (m.reachOf 511).length ≤ 3 ∧ m.parkedOf 511 = none) ∧
    (let m := kilnOn { atNode0 with park := [⟨511, 1, [2 ^ 30, 1], 0, 0, 2⟩] };
      let d := dsc 0x0104 [(16, 2, mkRef 511 15)];
      m.starts 0x0104 d ∧ m.kilnFree ∧ m.kilnTakes (kAgent d) ∧ (m.parkedOf 511).isSome = true ∧ (kilnOn atNode0).kilnTakes (kAgent d) ∧
      (kilnOn atNode0).parkedOf 511 = none) ∧
    (let m : Mach := { kilnOn atNode1 with kiln := { (kilnOn atNode1).kiln with reports := [(mkRef 511 15, 0)] } };
      m.kiln.reports = (mkRef 511 15, 0) :: [] ∧ m.kilnFree .report ∧ m.stale (mkRef 511 15) = false ∧
      (m.agent 511).chain.findIdx? (fun x => x == 0) = some 0 ∧ (m.agent 511).beyond 0 = false) ∧
    (kilnOn atNode1).stale (mkRef 511 14) = true := by
  unfold Mach.starts Mach.kilnFree Mach.kilnTakes; decide +kernel

/-- Agent 511 with a record over node 1 that expires in 1 ms. -/
def reaching (st : Nat) (h : Option Held) : KilnStore :=
  { agents := [(511, { state := st, gen := 15, chain := [0, 2 ^ 30, 1], issued := [(3, base.pt + 1)], held := h })] }

/-- AgentsAreRecoveredAndRetired: SILENT agents with an empty reach and with one; each state that RETIRE takes; a held RETIRE; an
automatic release after 0 s; an index in quarantine whose time is over. -/
theorem witness_AgentsAreRecoveredAndRetired :
    (let m := kilnOn { agents := [(511, { state := 3, gen := 15, chain := [0, 2 ^ 30, 1] })] };
      let n := kilnOn (reaching 3 none);
      let d := dsc 0x0105 [(16, 2, mkRef 511 15), (20, 4, 1)];
      m.starts 0x0105 d ∧ m.kilnFree ∧ m.kilnTakes (kAgent d) ∧ (m.agent 511).state = 3 ∧ (m.agent 511).held = none ∧ Descs.fld d 18 1 = 0 ∧
      m.known (kRes d) = true ∧ (m.agent 511).chain.findIdx? (fun x => x == kRes d) = some 2 ∧ m.parkedOf 511 = none ∧ m.reachOf 511 = [] ∧
      n.kilnTakes (kAgent d) ∧ (n.agent 511).state = 3 ∧ n.parkedOf 511 = none ∧ n.reachOf 511 ≠ []) ∧
    (let d := dsc 0x0106 [(16, 2, mkRef 511 15)];
      let m := kilnOn (reaching 2 none);
      let f := kilnOn { agents := [(511, { state := 6, gen := 15, chain := [2] })] };
      m.starts 0x0106 d ∧ m.kilnFree ∧ m.kilnTakes (kAgent d) ∧ (m.agent 511).state = 2 ∧ m.reachOf 511 ≠ [] ∧ f.kilnTakes (kAgent d) ∧
      (f.agent 511).state = 6 ∧ (f.agent 511).held = none ∧ (m.agent 511).held = none ∧ (kilnOn atNode0).kilnTakes (kAgent d) ∧ (kilnOn atNode0).reachOf 511 = []) ∧
    (let d := dsc 0x0106 [(16, 2, mkRef 511 15)];
      let m := kilnOn { agents := [(511, { state := 4, gen := 15, chain := [0], held := some (.retire d) })] };
      m.reachOf 511 = [] ∧ m.isActive = true ∧ (m.agent 511).held = some (.retire d)) ∧
    (let m := (kilnOn { agents := [(511, { state := 3, chain := [0] })] }).w KILN_SILENT_CFG_AUTOREL_EN 1;
      let m : Mach := { m.w KILN_SILENT_CFG_AUTOREL_S 4095 with intc := { m.intc with ticks := 4095000 } };
      m.b KILN_SILENT_CFG_AUTOREL_EN = true ∧ (m.agent 511).state = 3 ∧ (m.agent 511).held = none ∧ m.isActive = true ∧
      (m.agent 511).silentAt + 1000 * m.r KILN_SILENT_CFG_AUTOREL_S ≤ m.now ∧ m.reachOf 511 = []) ∧
    (let m := kilnOn { agents := [(511, { state := 5, gen := 15 })] };
      let m : Mach := { m with intc := { m.intc with ticks := 30000 } };
      (m.agent 511).state = 5 ∧ Tabs.val m.air.tab.quarAt 0 511 + 1000 * m.r AIR_QUAR_CFG_QUAR_S ≤ m.now) := by
  unfold Mach.starts Mach.kilnFree Mach.kilnTakes; refine ⟨?_, ?_, ?_, ?_, ?_⟩ <;> decide +kernel

/-- QueriesReadKilnsStore: the current generation, a stale one, and any; the last group slot of a node; a snapshot of the last agent. -/
theorem witness_QueriesReadKilnsStore :
    (let m := kilnOn atNode0;
      let d := dsc 0x0110 [(16, 2, mkRef 511 15)];
      m.starts 0x0110 d ∧ m.kilnFree ∧ refOk (kAgent d) = true ∧ m.takes .kiln = true ∧ m.stale (kAgent d) = false ∧ Descs.fld d 18 1 % 2 = 0 ∧
      m.stale (mkRef 511 14) = true ∧ Descs.fld (dsc 0x0110 [(16, 2, mkRef 511 14), (18, 1, 255)]) 18 1 % 2 = 1) ∧
    (let m := kilnOn atNode0;
      let d := dsc 0x0111 [(20, 4, 2)];
      m.starts 0x0111 d ∧ m.kilnFree ∧ m.takes .kiln = true ∧ smallMap.node (kRes d) = some ⟨1, 2, 0x13, [2]⟩ ∧ Descs.fld d 18 1 ≤ 3) ∧
    (let m := kilnOn atNode0;
      let d := dscBuf 0x0120 [(20, 4, 511), (24, 4, 1)] 0x8000 16;
      m.starts 0x0120 d ∧ m.kilnFree ∧ m.takes .kiln = true ∧ Descs.buf d = true ∧ Descs.fld d 18 1 ≤ 3 ∧
      (m.kilnCounted.section_ (Descs.fld d 18 1) (kRes d) (Descs.fld d 24 4)).any (fun l => decide (l.length ≤ Descs.len d)) = true ∧
      (m.section_ 0 511 1).any (fun l => decide (l.length ≤ Descs.len d)) = true) := by
  unfold Mach.starts Mach.kilnFree; decide +kernel

/-- ASourceLatchesAtOnce: a site source with the site free and FIX_EN_N without delay, with the longest one, and with the site
latched; sources 0 and 14. -/
theorem witness_ASourceLatchesAtOnce :
    let free : Mach := (rg [(DAMP_STATUS_SITE_LATCHED, 0, 0), (DAMP_FIX_CFG_DELAY_MS, 0, 0)]);
    let late : Mach := { rg [(DAMP_FIX_CFG_DELAY_MS, 0, 500)] free with dam := { base.dam with fixRun := true } };
    Stops.ofSite.site = true ∧ free.siteLatched = false ∧ free.r DAMP_FIX_CFG_DELAY_MS = 0 ∧ late.siteLatched = false ∧
    late.r DAMP_FIX_CFG_DELAY_MS ≠ 0 ∧ late.dam.fixRun = true ∧ base.siteLatched = true ∧ (0 : Nat) ≠ 11 ∧ (14 : Nat) ≠ 12 ∧ (14 : Nat) < 15 := by
  decide +kernel

/-- StopInputsLatchAndClear: input 3 used and not; asserting already and not; both channels high for 20 ms and for 19; channels
that differ for 10 ms; a discrepancy whose recovery is complete. -/
theorem witness_StopInputsLatchAndClear :
    (let m := rg [(DAMP_IN_CFG_USE, 3, 1), (DAMP_SRC_SRC, 0, 0)];
      m.b DAMP_IN_CFG_USE 3 = true ∧ (m.r DAMP_SRC_SRC).testBit 3 = false ∧ ((m.w DAMP_SRC_SRC 8).r DAMP_SRC_SRC).testBit 3 = true ∧
      (m.w DAMP_IN_CFG_USE 0 3).b DAMP_IN_CFG_USE 3 = false) ∧
    (let m := ({ base with intc := { base.intc with ticks := 20 } } : Mach).setStopIn 3 { highSince := some 0, lowSeen := true };
      let n := ({ base with intc := { base.intc with ticks := 19 } } : Mach).setStopIn 3 { highSince := some 0 };
      m.highLong 3 = true ∧ n.highLong 3 = false ∧ ((m.w DAMP_IN_LEVEL_DISC 8).r DAMP_IN_LEVEL_DISC).testBit 3 = true ∧ (m.stopIn 3).lowSeen = true ∧
      (m.r DAMP_IN_LEVEL_DISC).testBit 3 = false) ∧
    (let m := rg [(DAMP_IN_CFG_USE, 3, 1), (DAMP_IN_LEVEL_LEVEL_A, 0, 8), (DAMP_IN_LEVEL_LEVEL_B, 0, 0)] { base with intc := { base.intc with ticks := 10 } };
      m.b DAMP_IN_CFG_USE 3 = true ∧ (m.r DAMP_IN_LEVEL_LEVEL_A).testBit 3 ≠ (m.r DAMP_IN_LEVEL_LEVEL_B).testBit 3 ∧
      (m.stopIn 3).lastChange + 10 ≤ m.now ∧ (m.r DAMP_IN_LEVEL_DISC).testBit 3 = false ∧ (m.r DAMP_SRC_SRC).testBit 4 = false) := by
  decide +kernel

/-- SafetyPairsAndWatchdogStop: the pair's own master and another; a request of all three kinds; the site free with no source
asserting; the watchdog due, not due, not running; Damper enabled and not. -/
theorem witness_SafetyPairsAndWatchdogStop :
    ((6 : Fin 16).val = 6 ∧ (7 : Fin 16).val ≠ 6 ∧ (0x01FF3F07 : BitVec 32).getLsbD 0 = true ∧ (0x01FF3F07 : BitVec 32).getLsbD 1 = true ∧
      (0x01FF3F07 : BitVec 32).getLsbD 2 = true ∧ (base.r DAMP_SRC_SRC).testBit 7 = false ∧ (0x01FF3F00 : BitVec 32).toNat % 8 = 0) ∧
    (let m := rg [(DAMP_STATUS_SITE_LATCHED, 0, 0), (DAMP_SRC_SRC, 0, 0)];
      m.siteLatched = false ∧ (m.r DAMP_SRC_SRC).testBit 7 = false ∧ (m.r DAMP_SRC_SRC).testBit 8 = false) ∧
    (let m : Mach := { base with dam := { base.dam with wdog := some 5 }, intc := { base.intc with ticks := 5 } };
      m.dam.wdog = some 5 ∧ 5 ≤ m.now ∧ ({ m with intc := base.intc } : Mach).now < 5 ∧ base.dam.wdog = none) ∧
    (base.starts 0x0204 (dsc 0x0204) ∧ base.takes .damper = false ∧
      (rg [(DAMP_CTRL_ENABLE, 0, 1), (DAMP_WDOG_CFG_EN, 0, 1)]).takes .damper = true ∧
      (rg [(DAMP_CTRL_ENABLE, 0, 1), (DAMP_WDOG_CFG_EN, 0, 1)]).b DAMP_WDOG_CFG_EN = true) := by
  unfold Mach.starts; decide +kernel

/-- Damper enabled in the ACTIVE role, at a tick, with an arm of ticket 9 made in tick 100. -/
def armed (tick : Nat) (arm : Option DamArm := some ⟨0, Stops.ofSite, 9, 100⟩) : Mach :=
  let m := rg [(DAMP_CTRL_ENABLE, 0, 1), (REDUN_STATUS_ROLE_STATE, 0, 1), (DAMP_SRC_SRC, 0, 0)] up
  { m with dam := { m.dam with arm := arm }, intc := { m.intc with ticks := tick } }

/-- StopsAreLatchedAndReleasedInTwoSteps: the STOP. -/
theorem witness_StopsAreLatchedAndReleasedInTwoSteps_stop :
    (let d := dsc 0x0200 [(18, 1, 3)]; base.starts 0x0200 d ∧ base.stopsOf (d.as 0x0200) = none) ∧
    (let d := dsc 0x0200;
      base.starts 0x0200 d ∧ base.stopsOf (d.as 0x0200) = some Stops.ofSite ∧ Descs.fld d 18 1 = 0 ∧ base.stopStale (d.as 0x0200) = false ∧
      base.isActive = false ∧ base.latched.gains Stops.ofSite = false) ∧
    (let m := rg [(REDUN_STATUS_MIRROR, 0, 3), (DAMP_STATUS_SITE_LATCHED, 0, 0)] (armed 0);
      m.isActive = true ∧ m.mirror = 3 ∧ m.latched.gains Stops.ofSite = true) ∧
    (let d := dsc 0x0200 [(18, 1, 2), (19, 1, 1), (24, 2, mkRef 511 0)];
      (armed 0).stopsOf (d.as 0x0200) = some ⟨false, 0, 1#512 <<< 511⟩ ∧ (armed 0).takes .damper = true ∧ (armed 0).stopStale (d.as 0x0200) = false) := by
  unfold Mach.starts; decide +kernel

/-- StopsAreLatchedAndReleasedInTwoSteps: the release: an arm refused for each cause and accepted; a confirm at each bound of its
window and outside it; abandonment, lapse, the boundary. -/
theorem witness_StopsAreLatchedAndReleasedInTwoSteps_release :
    (let d := dsc 0x0201;
      (armed 0).starts 0x0201 d ∧ (armed 0).stopsOf (d.as 0x0201) = some Stops.ofSite ∧ (armed 0).takes .damper = true ∧ (armed 0).isActive = true ∧
      (armed 0).stopStale (d.as 0x0201) = false ∧ ((armed 0).w DAMP_STATUS_SITE_LATCHED 0).latched.gains Stops.ofSite = true ∧
      (armed 0).latched.gains Stops.ofSite = false ∧ ((armed 0).w DAMP_SRC_SRC 16).covering Stops.ofSite = true ∧
      (armed 0).covering Stops.ofSite = false ∧ (armed 0).dam.arm.isSome = true ∧ (armed 0 none).dam.arm = none) ∧
    (let d := dsc 0x0202 [(20, 2, 9)];
      (armed 0).starts 0x0202 d ∧ (armed 0).dam.arm = some ⟨0, Stops.ofSite, 9, 100⟩ ∧ 9 = Descs.fld d 20 2 ∧ (armed 599).now < 100 + 500 ∧
      100 + 500 ≤ (armed 600).now ∧ (armed 10100).now ≤ 100 + 10000 ∧ 100 + 10000 < (armed 10101).now) ∧
    (armed 0).starts 0x0203 (dsc 0x0203) ∧
    (let m : Mach := { armed 101 with dam := { base.dam with release := some ⟨0, Stops.ofSite, 9, 100⟩ } };
      m.dam.release = some ⟨0, Stops.ofSite, 9, 100⟩ ∧ 100 < m.now ∧ (armed 100).now ≤ 100 ∧ Stops.ofSite.site = true) := by
  unfold Mach.starts; decide +kernel

/-- DamperTestsItsPath: FIX_EN_N's delay over, running, absent; a cycle at tick index 950 with no failure, one in an unused input's
step and one at the last step; a pin mismatch with the grant and without. -/
theorem witness_DamperTestsItsPath :
    (let m : Mach := { base with dam := { base.dam with fixDue := some 5 }, intc := { base.intc with ticks := 5 } };
      m.dam.fixDue = some 5 ∧ 5 ≤ m.now ∧ ({ m with intc := base.intc } : Mach).now < 5 ∧ base.dam.fixDue = none) ∧
    (let m : Mach := { rg [(PWR_BOOT_STATUS_PHASE, 0, 2), (DAMP_IN_CFG_USE, 3, 0)] with time := { base.time with ns := 950000000 } };
      m.time.ns / 1000000 % 100 = 50 ∧ 2 ≤ m.r PWR_BOOT_STATUS_PHASE ∧ m.dam.testTick ≠ some m.now ∧ m.b DAMP_IN_CFG_USE (7 / 2) = false ∧
      base.time.ns / 1000000 % 100 ≠ 50 ∧ 8 ≤ (9 : Fin 10).val ∧ (7 : Fin 10).val < 8 ∧ (m.r DAMP_SRC_SRC).testBit 12 = false) ∧
    (base.b REDUN_STATUS_GRANTED = false ∧ (rg [(REDUN_STATUS_GRANTED, 0, 1)]).b REDUN_STATUS_GRANTED = true) := by decide +kernel

/-- The Air region in the slot of ASN 10000 + `n` (slot kinds of a slotframe of 250: offset 1 UP, 2 JOIN, 3 DOWN, 4 BCAST, 6 IDLE,
0 and 5 PERMIT), `ms` ms after its start, as far as `phase`; lanes open, served, the gate open. -/
def airIn (n ms phase : Nat) (tab : AirTab := {}) : Mach :=
  let m := rg [(TIME_STATUS_STEP_LOCK, 0, 1), (AIR_CTRL_ENABLE, 0, 1), (REDUN_STATUS_ROLE_STATE, 0, 1), (REDUN_STATUS_GRANTED, 0, 1),
    (AIR_SF_KIND_A_KINDS, 0, 0x41320), (DAMP_STATUS_GATE, 0, 0), (AIR_TX_CFG_RETRY_MAX, 0, 2), (AIR_JOIN_CTRL_JOIN_OPEN, 0, 1)] up
  { m with time := { m.time with sec := originSec + 40, ns := (4 * n + ms) * 1000000 },
           air := { m.air with slot := some (10000 + n), phase := phase, on := true, cond := true, tab := tab } }

/-- A frame in flight on lane 7, of so many µs. -/
def flight (us : Nat) : Flight := { lane := 7, chan := 0, mcs := 3, us := us, bytes := [], what := .burst }

/-- SlotsBeginAndBanksExchange: a slot due and not; the sample's and the exchange's moments; a lane that closes; a transmission of
2300 µs, one of 2301, and one on a channel with no time left. -/
theorem witness_SlotsBeginAndBanksExchange :
    (let m : Mach := { airIn 0 0 0 with air := { base.air with slot := some 9999, inFlight := [flight 100] } };
      m.slotDue = true ∧ m.air.pins.en = false ∧ m.isSafe = false ∧ (airIn 0 0 1).slotDue = false ∧
      m.asn % m.r AIR_SLOT_CFG_SF_LEN = 0 ∧ ((m.w AIR_STATUS_MODEM_FAIL 128).r AIR_STATUS_MODEM_FAIL).testBit 7 = true ∧
      (m.w AIR_STATUS_MODEM_FAIL 128).laneOpen 7 = true ∧ m.seats 7 = []) ∧
    ((airIn 0 0 1).inSlot = true ∧ (airIn 0 0 1).msInt % 4 = 0 ∧ (airIn 0 0 1).air.phase = 1 ∧ (airIn 0 0 2).air.phase ≠ 1) ∧
    (up.ready = true ∧ up.b AIR_SF_CTRL_SWITCH = false ∧ (up.w AIR_SF_CTRL_SWITCH 1).b AIR_SF_CTRL_SWITCH = true) ∧
    (let m := (airIn 0 0 2).w AIR_SF_CTRL_SWITCH 1;
      let m : Mach := { m with air := { m.air with switchAt := some 9998 } };
      m.inSlot = true ∧ m.air.phase ≤ 2 ∧ m.bankDue m.asn = true ∧
      ({ m with air := { m.air with switchAt := some 9999 } } : Mach).bankDue m.asn = false) ∧
    (let m : Mach := { base with air := { base.air with inFlight := [flight 2301] } };
      m.air.inFlight.find? (fun f => f.lane == (7 : Fin 8).val) = some (flight 2301) ∧ 2300 < (flight 2301).us ∧
      (∀ f ∈ m.air.inFlight, f.lane ≠ 6) ∧ (flight 2300).us ≤ 2300 ∧
      (((Tabs.val base.air.txLog [] (32 * 7 + 0)).filter (fun e => decide (base.now < e.1 + 1000))).map (fun e => e.2)).sum + 2300 ≤
        (if Config.isAM then 40000 else 70000) ∧
      ((if Config.isAM then 40000 else 70000) : Nat) <
        (((Tabs.val [(32 * 7, [(base.now, 70000)])] [] (32 * 7 + 0)).filter (fun e => decide (base.now < e.1 + 1000))).map (fun e => e.2)).sum
          + 2300) := by
  cases h : Config.isAM <;> decide +kernel

/-- LanesTransmitInTheirWindows: the window with the gate open and closed, in a slot of each kind, with a burst and without. -/
theorem witness_LanesTransmitInTheirWindows :
    ((airIn 0 0 2).inSlot = true ∧ (airIn 0 0 2).msInt % 4 = 0 ∧ (airIn 0 0 2).air.phase = 2 ∧ (airIn 0 0 2).air.inFlight = [] ∧
      ((({ airIn 0 0 2 with air := { (airIn 0 0 2).air with phase := 3 } } : Mach).maxTo REDUN_HELD_MAX_ALL
        ((airIn 0 0 2).air.tab.auth.filter (fun e => decide (e.2.owed > 0) && (airIn 0 0 2).authHeld e.2)).length).mayTransmit = true) ∧
      (((({ airIn 0 0 2 with air := { (airIn 0 0 2).air with phase := 3 } } : Mach).w DAMP_STATUS_GATE 1).maxTo REDUN_HELD_MAX_ALL 0).mayTransmit = false)) ∧
    ((airIn 0 0 2).slotKind = kPERMIT ∧ (airIn 5 0 2).slotKind = kPERMIT ∧ (airIn 1 0 2).slotKind = kUP ∧ (airIn 2 0 2).slotKind = kJOIN ∧
      (airIn 3 0 2).slotKind = kDOWN ∧ (airIn 4 0 2).slotKind = kBCAST ∧ (airIn 6 0 2).slotKind = kIDLE ∧ (airIn 1 0 2).dam.burst = false ∧
      ({ airIn 1 0 2 with dam := { base.dam with burst := true } } : Mach).dam.burst = true) ∧
    ((airIn 0 0 3).air.phase ≠ 2 ∧ (airIn 3 2 3).inSlot = true ∧ (airIn 3 2 3).msInt % 4 = 2 ∧ (airIn 3 2 3).air.phase = 3 ∧
      (airIn 3 2 3).air.pins.en = false ∧ ((airIn 3 2 3).w DAMP_STATUS_GATE 1).settleFlights.joinsTake.mayTransmit = false ∧
      (airIn 3 2 3).air.joins = [] ∧ (airIn 0 2 4).air.phase ≠ 3) := by decide +kernel

/-- A frame on lane 7 that is received: both copies good, the one of RF_B better. -/
def rxOf (bytes : List Byte) (mic : Option (Nat × List Byte)) : AirRx :=
  { lane := 7, a := some ⟨1, -80, 100, true⟩, b := some ⟨2, -70, -100, true⟩, bytes := bytes, mic := mic }

/-- The robot 0xE1's join request with counter 6 (R273), sealed under join key 9 in the slot of ASN 10002. -/
def joinRx (ctr : Nat := 6) : AirRx :=
  rxOf (le 2 0xEB69 ++ le 2 (base.r AIR_PAN_ID_PAN_ID) ++ le 2 0x0107 ++ le 8 0xE1 ++ le 1 0x62 ++ le 2 0x3F00 ++ le 2 0xC811 ++ le 1 2 ++ le 1 1 ++ le 1 0 ++
    le 4 ctr ++ le 8 0xABCD ++ le 1 3 ++ le 1 0) (some (9, airNonce 10002 0xFFFE 7 0))

/-- The same request as it waits for its decision. -/
def joined : JoinTaken := ⟨7, -100, joinRx.bytes, joinRx.mic⟩

/-- A join ACK and a session ACK (R296) in the slot of ASN 10003. -/
def joinAckRx : AirRx := rxOf (le 2 0x230A ++ le 1 0x62 ++ le 2 0x0F02 ++ le 2 0) (some (9, airNonce 10003 0xFFFE 7 1))
def sessionAckRx : AirRx := rxOf (le 2 0x230A ++ le 1 0x6A ++ le 1 0 ++ le 2 0x0F02 ++ le 2 0) (some (5, airNonce 10003 (mkRef 511 0) 7 1))

/-- A member of lane 7, seat 127. -/
def mem : Member := { eui := 0xE1, key := 5, lane := 7, seat := 127, pending := false, mcsMax := 3, mcs := 3, heard := 7 }

/-- A response to EUI-64 0xE1 for index 511 that waits for its ACK in slot 10003. -/
def resp : JoinResp :=
  { eui := 0xE1, jkey := 9, result := 0, idx := 511, fresh := true, content := [], skey := 77, mcsMax := 3, sends := 1, firstAt := some 0,
    waits := some 10003 }

/-- JoinsAreAnsweredAndCompleted: a request with a rising counter and one that repeats it; a standby that hears it; requests on lanes
7 and 2; the robot's ACK of a response and of a
unicast frame; a join with no answer for 2 s; an admission 120 s late. -/
theorem witness_JoinsAreAnsweredAndCompleted :
    (let m : Mach := { airIn 2 0 3 with nv := { base.nv with set := { base.nv.set with creds := [(1023, ⟨0xE1, 9, 0xFF, true, 5⟩)] } } };
      let n := (m.receive joinRx (m.listenTx joinRx.lane)).1;
      (m.receive joinRx (m.listenTx joinRx.lane)).2 = some ⟨2, -70, -100, true⟩ ∧ n.asBase = true ∧ n.slotKind = kJOIN ∧
      n.cred (leAt joinRx.bytes 6 8) = some (1023, ⟨0xE1, 9, 0xFF, true, 5⟩) ∧ base.cred (leAt joinRx.bytes 6 8) = none ∧
      (let s : Mach := { m with regs := (m.w REDUN_STATUS_ROLE_STATE 2).regs };
        s.listenTx 7 = true ∧ (s.receive joinRx true).2.isSome = true ∧ (s.receive joinRx true).1.asBase = false) ∧
      n.joinForm joined = true ∧ joined.mic = some (9, airNonce n.asn euiSrc joined.lane 0) ∧ (n.resps joined.lane).length < 16 ∧
      n.b AIR_JOIN_CTRL_JOIN_OPEN = true ∧ 5 < leAt joined.bytes 22 4 ∧ leAt (joinRx 5).bytes 22 4 ≤ 5 ∧ base.listenTx 7 = false ∧
      n.joinForm { joined with bytes := joinAckRx.bytes } = false ∧ joinAckRx.mic ≠ some (9, airNonce n.asn euiSrc joinRx.lane 0) ∧
      (let two : Mach := { m with air := { m.air with joins := [joined, { joined with lane := 2 }] } };
        two.air.joins = [joined, { joined with lane := 2 }] ∧ (2 : Fin 8).val < joined.lane.val ∧ joined.lane.val ≤ (7 : Fin 8).val)) ∧
    (let m := airIn 3 2 4 { resps := [(7, [resp])], members := [(511, { mem with pending := true })] };
      let n := (m.receive joinAckRx (m.listenAck joinAckRx.lane)).1;
      (m.receive joinAckRx (m.listenAck joinAckRx.lane)).2.isSome = true ∧ n.isActive = true ∧ n.respWaits 7 = some resp ∧ resp.result = 0 ∧
      joinAckForm joinAckRx.bytes = true ∧ joinAckRx.mic = some (resp.jkey, airNonce n.asn euiSrc joinAckRx.lane 1) ∧
      m.member 511 = some { mem with pending := true } ∧ mem.move = none ∧ base.listenAck 7 = false) ∧
    (let u : Unicast := { ies := [], dsn := 0, first := 10003, mcs := 3, lane := 7, retries := 0, move := none, frag := none, waits := some 10003 };
      let m := airIn 3 2 4 { members := [(511, { mem with sent := some u })] };
      let n := (m.receive sessionAckRx (m.listenAck sessionAckRx.lane)).1;
      (m.receive sessionAckRx (m.listenAck sessionAckRx.lane)).2.isSome = true ∧ n.isActive = true ∧ n.respWaits 7 = none ∧
      n.uniWaits 7 = some (511, { mem with sent := some u }, u) ∧ sessionAckForm sessionAckRx.bytes = true ∧
      sessionAckRx.mic = some (mem.key, airNonce n.asn (m.refOf 511) sessionAckRx.lane 1)) ∧
    (let m : Mach := { airIn 3 2 4 { resps := [(7, [resp])], members := [(511, { mem with pending := true })] } with intc := { base.intc with ticks := 2000 } };
      (m.resps 7).find? (fun r => r.eui == (0xE1 : BitVec 64).toNat && r.firstAt.any (fun t => t + 2000 ≤ (m.now : Int))) = some resp ∧
      (base.resps 7).find? (fun r => r.eui == (0xE1 : BitVec 64).toNat && r.firstAt.any (fun t => t + 2000 ≤ (base.now : Int))) = none) ∧
    (let m : Mach := { (airIn 0 0 1 { members := [(511, mem)] }).setAgent 511 { state := 1 } with intc := { base.intc with ticks := 120000 } };
      m.member 511 = some mem ∧ mem.pending = false ∧ (m.agent 511).state = 1 ∧ mem.joined + 1000 * m.r AIR_JOIN_CFG_ADMIT_S ≤ m.now ∧
      base.now < mem.joined + 1000 * base.r AIR_JOIN_CFG_ADMIT_S) := by
  refine ⟨?_, ?_, ?_, ?_, ?_⟩ <;> decide +kernel

/-- A move of member 511 to seat 0 of lane 0 in slot 10000. -/
def laneMove (acked : Bool) : LaneMove := { d := dsc 0x0303, lane := 0, seat := 0, asn := 10000, acked := acked }

/-- MembersAreMissedMovedAndEvicted: an UP slot's miss as the first, as the third, and counted already; a move asked for, under way,
before and at its slot, acknowledged and not; an eviction in JOINED and not. -/
theorem witness_MembersAreMissedMovedAndEvicted :
    (let m := airIn 1 2 4 { members := [(511, { mem with missed := 2 })] };
      let m : Mach := { m with air := { m.air with plans := [(7, [⟨10001, kUP, some 127⟩])] } };
      m.inSlot = true ∧ m.air.on = true ∧ m.air.phase = 4 ∧ m.isActive = true ∧ m.dam.burst = false ∧ m.laneServed 7 = true ∧ m.slotKind = kUP ∧
      m.air.heard.contains 7 = false ∧ m.planned 7 = some (127, 511) ∧ m.member 511 = some { mem with missed := 2 } ∧ mem.pending = false ∧ mem.move = none ∧
      m.air.counted.contains 7 = false ∧ mem.missed ≠ 2 ∧ (m.setAgent 511 { state := 2 }).agent 511 = { state := 2 } ∧
      ((m.setAgent 511 { state := 1 }).agent 511).state = 1 ∧ ({ m with air := { m.air with counted := [7] } } : Mach).air.counted.contains 7 = true) ∧
    (let d := dsc 0x0303 [(16, 2, mkRef 511 0), (18, 1, 0)];
      let m := airIn 0 0 1 { members := [(511, mem)] };
      m.starts 0x0303 d ∧ m.takes .air = true ∧ m.isActive = true ∧ refOk (Descs.fld d 16 2) = true ∧ Descs.fld d 18 1 < 8 ∧
      m.laneOpen (Descs.fld d 18 1) = true ∧ m.stale (Descs.fld d 16 2) = false ∧ m.member 511 = some mem ∧ mem.pending = false ∧ mem.lane ≠ Descs.fld d 18 1 ∧
      m.freeSeat (Descs.fld d 18 1) = some 0 ∧ (airIn 0 0 1 { members := [(511, { mem with move := some (laneMove false) })] }).freeSeat 0 = some 1) ∧
    (let m := airIn 0 0 1 { members := [(511, { mem with move := some (laneMove false) })] };
      m.member 511 = some { mem with move := some (laneMove false) } ∧ (laneMove false).open_ = false ∧ (laneMove true).acked = true ∧ m.inSlot = true ∧
      (laneMove false).asn ≤ m.asn ∧ m.asn < ({ laneMove false with asn := 10001 } : LaneMove).asn) ∧
    (let d := dsc 0x0304 [(16, 2, mkRef 511 0)];
      let m := (airIn 0 0 1 { members := [(511, mem)] }).setAgent 511 { state := 1 };
      m.starts 0x0304 d ∧ m.takes .air = true ∧ m.isActive = true ∧ refOk (Descs.fld d 16 2) = true ∧ m.stale (Descs.fld d 16 2) = false ∧
      m.member 511 = some mem ∧ (m.agent 511).state = 1 ∧ ((airIn 0 0 1).agent 511).state ≠ 1 ∧ Tabs.rising none m.air.tab.members = true) := by
  unfold Mach.starts; refine ⟨?_, ?_, ?_, ?_⟩ <;> decide +kernel

/-- The Air region with these credentials. -/
def creds (l : Tab Cred) (tab : AirTab := {}) : Mach :=
  { airIn 0 0 1 tab with nv := { base.nv with set := { base.nv.set with creds := l } } }

/-- CredentialsAreKept: a new EUI-64, a known one, a full table; one not in use and one a member holds; members and none. -/
theorem witness_CredentialsAreKept :
    (let d := dsc 0x0300 [(16, 8, 0xE1), (40, 1, 0xFF), (41, 1, 3)];
      base.starts 0x0300 d ∧ (creds []).takes .air = true ∧ (creds []).isActive = true ∧ Descs.fld d 40 1 = 0xFF ∧
      (creds []).cred (Descs.fld d 16 8) = none ∧ (creds []).nv.set.creds.length < 1024 ∧
      (creds [(1023, ⟨0xE1, 9, 7, false, 5⟩)]).cred (Descs.fld d 16 8) = some (1023, ⟨0xE1, 9, 7, false, 5⟩)) ∧
    (let full := creds ((List.range 1024).map (fun n => (n, ⟨1000 + n, 9, 7, false, 5⟩)));
      full.cred 0xE1 = none ∧ 1024 ≤ full.nv.set.creds.length) ∧
    (let d := dsc 0x0301 [(16, 8, 0xE1)];
      let m := creds [(1023, ⟨0xE1, 9, 7, false, 5⟩)];
      m.starts 0x0301 d ∧ (creds [(1023, ⟨0xE1, 9, 7, false, 5⟩)] { members := [(511, mem)] }).holderOf (Descs.fld d 16 8) = some (511, mem) ∧
      m.holderOf (Descs.fld d 16 8) = none ∧ Tabs.rising none m.nv.set.creds = true ∧ m.starts 0x0302 (dsc 0x0302 [(16, 8, 0xE1)])) ∧
    (let d := dsc 0x0305 [(16, 2, mkRef 511 3), (18, 1, 1)];
      let m := creds [] { members := [(511, mem)] };
      m.starts 0x0305 d ∧ refOk (Descs.fld d 16 2) = true ∧ (Descs.fld d 18 1).testBit 0 = true ∧ m.stale (Descs.fld d 16 2) = true ∧
      m.stale (mkRef 511 0) = false ∧ m.member 511 = some mem ∧ (creds []).member 511 = none) := by
  unfold Mach.starts; refine ⟨?_, ?_, ?_, ?_⟩ <;> decide +kernel

/-- An uplink frame of index 511 in the slot of ASN 10001 with one PROGRESS IE (R294, R308) of transaction 1, and one with none. -/
def upFrame (ie : List Byte := oapIe 7 (le 1 1 ++ le 1 0 ++ le 2 1 ++ le 4 0 ++ le 2 3 ++ le 2 400 ++ le 4 0)) : AirRx :=
  rxOf (le 2 0xAA69 ++ le 1 0 ++ le 2 (base.r AIR_PAN_ID_PAN_ID) ++ le 2 0x0107 ++ le 2 (mkRef 511 0) ++ le 1 0x6E ++ le 1 0 ++
    le 2 0x3F00 ++ ie) (some (5, airNonce 10001 (mkRef 511 0) 7 0))

/-- UplinksAreTakenOrDropped: the better of two copies, the one of RF_A while a lane sends; the bounds of the window; a planned
frame with a PROGRESS IE first and without; a slot of another kind; a frame that is new and one that repeats its DSN; retries left and none. -/
theorem witness_UplinksAreTakenOrDropped :
    (let m := airIn 1 0 3 { members := [(511, mem)] };
      let m : Mach := { m with air := { m.air with plans := [(7, [⟨10001, kUP, some 127⟩])] } };
      let n := (m.receive upFrame (m.listenTx upFrame.lane)).1;
      (m.receive upFrame (m.listenTx upFrame.lane)).2 = some ⟨2, -70, -100, true⟩ ∧ n.asBase = true ∧ refOk (leAt upFrame.bytes 7 2) = true ∧
      n.stale (leAt upFrame.bytes 7 2) = false ∧ n.upForm upFrame = true ∧ n.slotKind = kUP ∧
      n.planned 7 = some (127, refIdx (leAt upFrame.bytes 7 2)) ∧ n.member (refIdx (leAt upFrame.bytes 7 2)) = some mem ∧ mem.pending = false ∧
      upFrame.mic = some (mem.key, airNonce n.asn (leAt upFrame.bytes 7 2) upFrame.lane 0) ∧ upFrame.ies = [.progress 0 1 0 3 400 0] ∧
      firstIsProgress upFrame.ies = true ∧ firstIsProgress (upFrame []).ies = false ∧ n.upForm joinRx = false ∧ base.upKey 511 upFrame = none ∧
      ((airIn 1 0 3 { members := [(511, mem)] }).inc AIR_LANE_RX_OK_ALL 7).planned 7 = none ∧ (airIn 2 0 3).slotKind ≠ kUP ∧
      base.listenTx 7 = false) ∧
    (let m := airIn 1 0 3 { members := [(511, mem)] };
      let f : UpTaken := ⟨7, mkRef 511 0, 0, false, [.progress 0 1 0 3 400 0]⟩;
      m.stale f.ref = false ∧ m.member (refIdx f.ref) = some mem ∧ mem.move = none ∧ ({ mem with upDsn := some 0 } : Member).upDsn = some f.dsn ∧
      mem.upDsn ≠ some f.dsn ∧ txnLater mem.txn 1 = true ∧ m.red.hold = false ∧ m.isActive = true) ∧
    (let sends : Mach := { base with air := { base.air with inFlight := [flight 100] } };
      base.air.inFlight = [] ∧ (1 : Nat) < 2 ∧ sends.air.inFlight ≠ [] ∧ base.keptCopy upFrame = some ⟨2, -70, -100, true⟩ ∧
      sends.keptCopy upFrame = some ⟨1, -80, 100, true⟩ ∧ (⟨2, -70, -100, true⟩ : RxCopy).inWindow = true ∧
      (⟨2, -70, -101, true⟩ : RxCopy).inWindow = false ∧ (⟨2, -70, 101, true⟩ : RxCopy).inWindow = false ∧
      base.keptCopy { upFrame with a := none, b := some ⟨2, -70, 0, false⟩ } = some ⟨2, -70, 0, false⟩) ∧
    (let u : Unicast := { ies := [], dsn := 0, first := 10003, mcs := 3, lane := 7, retries := 1, move := none, frag := none, waits := some 10003 };
      let m := (airIn 4 0 1 { members := [(511, { mem with sent := some u, failRun := 1 })] });
      m.resps 7 = [] ∧ (m.setResps 7 []).unanswered 7 = some (511, { mem with sent := some u, failRun := 1 }, u) ∧ u.waits = some 10003 ∧ 10003 ≠ m.asn ∧
      ({ m with air := { m.air with phase := 4 } } : Mach).air.phase = 4 ∧
      u.retries < (m.setResps 7 []).r AIR_TX_CFG_RETRY_MAX ∧ (m.setResps 7 []).r AIR_TX_CFG_RETRY_MAX ≤ ({ u with retries := 2 } : Unicast).retries ∧
      mem.failRun = 0 ∧ (base.setResps 7 []).unanswered 7 = none ∧ base.resps 7 = []) := by
  refine ⟨?_, ?_, ?_, ?_⟩ <;> decide +kernel

/-- A ledger entry of task 0xFFFFFFFF for index 511. -/
def task (st : TaskState) : Task :=
  { id := 0xFFFFFFFF, ref := mkRef 511 0, state := st, reason := 0, pt := 0, late := false, payload := [], d := none, offerDue := 5, doneS := 1,
    doneDue := some 5, fromOffer := false, since := 0, leftOffer := 0 }

/-- TasksMoveThroughTheLedger: an offer of 1024 bytes to a member, one known already, one with the ledger full; a known and an
unknown task; final and open states; time limits that have come and not. -/
theorem witness_TasksMoveThroughTheLedger :
    (let d := dscBuf 0x0310 [(16, 2, mkRef 511 0), (20, 4, 0xFFFFFFFF), (24, 2, 1024), (26, 2, 600)] 0x8000 1024;
      let m := airIn 0 0 1 { members := [(511, mem)] };
      m.starts 0x0310 d ∧ m.takes .air = true ∧ m.isActive = true ∧ refOk (Descs.fld d 16 2) = true ∧ Descs.fld d 20 4 ≠ 0 ∧
      0 < Descs.fld d 24 2 ∧ Descs.fld d 24 2 ≤ 1024 ∧ Descs.buf d = true ∧ Descs.fld d 24 2 ≤ Descs.len d ∧ Descs.fld d 26 2 ≤ 600 ∧
      m.stale (Descs.fld d 16 2) = false ∧ (m.memberOf (Descs.fld d 16 2)).isSome = true ∧ m.taskOf (Descs.fld d 20 4) = none ∧ m.ledgerPlace = some 0) ∧
    (let m := airIn 0 0 1 { members := [(511, mem)], ledger := [(4095, task .accepted)] };
      m.taskOf 0xFFFFFFFF = some (4095, task .accepted) ∧ (task .accepted).ref = mkRef 511 0 ∧ (task .accepted).state ≠ .timedOut) ∧
    (let m := airIn 0 0 1 { members := [(511, mem)], ledger := (List.range 4096).map (fun n => (n, { task .offered with id := n + 1 })) };
      m.taskOf 0xFFFFFFFF = none ∧ m.ledgerPlace = none) ∧
    (let d := dsc 0x0312 [(20, 4, 0xFFFFFFFF)];
      let m := airIn 0 0 1 { ledger := [(4095, task .timedOut)] };
      m.starts 0x0311 d ∧ m.starts 0x0312 d ∧ m.taskOf (Descs.fld d 20 4) = some (4095, task .timedOut) ∧ (airIn 0 0 1).taskOf (Descs.fld d 20 4) = none ∧
      (task .timedOut).state = .timedOut ∧ (task .started).state = .started ∧ Tabs.rising none m.air.tab.ledger = true) ∧
    (let m : Mach := { airIn 0 0 1 { ledger := [(4095, task .offered)] } with intc := { base.intc with ticks := 5 } };
      Tabs.look m.air.tab.ledger (4095 : Fin 4096) = some (task .offered) ∧ (task .offered).offerDue ≤ m.now ∧ base.now < (task .offered).offerDue ∧
      (task .accepted).state ≠ .offered ∧ (task .started).doneDue = some 5 ∧ 5 ≤ m.now ∧ ({ task .done with doneDue := none } : Task).doneDue = none) := by
  unfold Mach.starts; refine ⟨?_, ?_, ?_, ?_, ?_⟩ <;> decide +kernel

/-- AntennasAndChannelsFollowTheirSignals: antenna B with its bias at 1, 2, 80 and 81 mA, and without; 99 ms and 100 ms below 2 mA; a retry due. -/
theorem witness_AntennasAndChannelsFollowTheirSignals_antennas :
    let m := rg [(GNSS_ANT_CFG_B_BIAS_EN, 0, 1)];
    let r : Mach := { m with gnss := { m.gnss with shortAt := [(1, 0)] }, intc := { m.intc with ticks := 1000 } };
    let low := fun (n : Nat) => ({ m with gnss := { m.gnss with lowMa := [(1, n)] } } : Mach);
    ((low 99).lowMa 1 < 100 ∧ (low 99).b (antBias 1) = true ∧ 100 ≤ (low 100).lowMa 1 ∧ (low 100).b (antBias 1) = true ∧
      (low 100).b (antOpen 1) = false) ∧
    (m.b (antBias 1) = true ∧ (1 : BitVec 8).toNat < 2 ∧ m.b (antOpen 1) = false ∧ 80 < (81 : BitVec 8).toNat ∧ m.b (antShort 1) = false) ∧
    (2 ≤ (2 : BitVec 8).toNat ∧ (80 : BitVec 8).toNat ≤ 80 ∧ (m.wb (antOpen 1) true).b (antOpen 1) = true ∧ (m.wb (antOpen 1) true).b (antBias 1) = true ∧
      Tabs.look m.gnss.shortAt 1 = none) ∧
    (Tabs.look r.gnss.shortAt 1 = some 0 ∧ r.b (antBias 1) = true ∧ 0 + 1000 ≤ r.now ∧ Tabs.rising none r.gnss.shortAt = true) ∧
    base.b (antBias 1) = false := by decide +kernel

/-- GNSS enabled. -/
def gnssOn (g : GnssSt := {}) : Mach := { rg [(GNSS_CTRL_ENABLE, 0, 1)] up with gnss := g }

/-- Channel 455 in a state. -/
def ch455 (st : Nat) (g : GnssSt := {}) : Mach := (gnssOn g).w GNSS_CH_STATUS_STATE st 455

/-- AntennasAndChannelsFollowTheirSignals: GPS satellite 32 on L1 of antenna B above the mask, pinned, held, and with no channel
IDLE; channel 455 released below the mask and after 10 s, pinned, locked, lost at the threshold and after 1 s below; taps written
by a master that is heard and one that is not. -/
theorem witness_AntennasAndChannelsFollowTheirSignals_channels :
    ((gnssOn).takes .gnss = true ∧ signalOk (0 : Fin 16) (32 : BitVec 8).toNat = true ∧ sigBand (0 : Fin 16) = (3 : Fin 6).val % 3 ∧
      ((gnssOn).r GNSS_SIG_EN_EN).testBit (0 : Fin 16) = true ∧ (gnssOn).b (antShort ((3 : Fin 6).val / 3)) = false ∧ (gnssOn).b GNSS_CTRL_AUTO = true ∧
      ((1000 * (gnssOn).r GNSS_ELEV_CFG_MASK_DEG : Nat) : Int) < 90000 ∧ (gnssOn { pins := [⟨0, 32, 8⟩] }).pinned 0 32 3 = true ∧
      (gnssOn).chOf 0 32 3 = none ∧ (gnssOn).gnss.waiting = [] ∧ (gnssOn).chIdle = some 0 ∧ (gnssOn).gnss.fwLate = [] ∧ (gnssOn).gnss.fwQ.length < 64 ∧
      (rg [(GNSS_CH_STATUS_SVID, 455, 32), (GNSS_CH_STATUS_PATH, 455, 3)] (ch455 2)).chOf 0 32 3 = some 455) ∧
    ((ch455 1).chActive 455 = true ∧ (ch455 1).pinned ((ch455 1).chSig 455) ((ch455 1).chSvid 455) ((ch455 1).chPath 455) = false ∧
      (ch455 1 { pins := [⟨0, 0, 1⟩] }).pinned 0 0 0 = true ∧ (ch455 1 { pins := [⟨0, 0, 1⟩] }).chActive 455 = true ∧
      (((ch455 1).w GNSS_ELEV_CFG_MASK_DEG 10).belowMask (some 7999) = true ∧ ((ch455 1).w GNSS_ELEV_CFG_MASK_DEG 10).belowMask (some 8000) = false) ∧
      (let m : Mach := { ch455 1 { chans := [(455, { outAt := some 0 })] } with intc := { base.intc with ticks := 10000 } };
        (m.gchan 455).outAt = some 0 ∧ 0 + 10000 ≤ m.now) ∧ (ch455 1).belowMask none = false ∧ ((ch455 1).gchan 455).outAt = none) ∧
    (up.hears 1 = true ∧ up.hears 0 = false) ∧
    ((ch455 1).chState 455 = 1 ∧ (ch455 2).chState 455 ≠ 1 ∧ (ch455 2).chState 455 = 2 ∧ (99 : BitVec 8).toNat < (ch455 2).r GNSS_TRK_CFG_DROP_CN0 ∧
      (ch455 2).r GNSS_TRK_CFG_DROP_CN0 ≤ (100 : BitVec 8).toNat ∧ (ch455 2).gnss.fwQ.length < 64 ∧ (ch455 2).gnss.fwLate = [] ∧
      (let m : Mach := { ch455 2 { chans := [(455, { lowAt := some 0 })] } with intc := { base.intc with ticks := 1000 } };
        (m.gchan 455).lowAt = some 0 ∧ 0 + 1000 ≤ m.now) ∧ ((ch455 2).gchan 455).lowAt = none) ∧
    64 ≤ (ch455 2 { fwQ := List.replicate 64 (base.fwRequest 0 0) }).gnss.fwQ.length := by
  refine ⟨?_, ?_, ?_, ?_, ?_⟩ <;> decide +kernel

/-- An ACQ_SEARCH for GPS satellite 32 on L1, and its request. -/
def search : Desc := dsc 0x0402 [(16, 1, 0), (17, 1, 32), (18, 1, 5), (19, 1, 10), (24, 2, 32767), (26, 1, 1), (32, 2, 20000)]
def request : AcqReq := base.acqOf search

/-- SearchesRunOnEngines: a good request and a bad one, a full queue, a signal disabled; engine 15 free, busy, with each queue; a
dwell not over, at the threshold and below it in each phase; found with and without handover, with a channel held, one IDLE, the
antenna shorted; pins free and full, AUTO and not. -/
theorem witness_SearchesRunOnEngines :
    ((gnssOn).starts 0x0402 search ∧ ((gnssOn).acqOf (search.as 0x0402)).bad = false ∧ (gnssOn).takes .gnss = true ∧
      ((gnssOn).acqOf ((dsc 0x0402 [(17, 1, 33)]).as 0x0402)).bad = true ∧ (gnssOn).gnss.hostQ.length < 64 ∧
      ((gnssOn).r GNSS_SIG_EN_EN).testBit ((gnssOn).acqOf (search.as 0x0402)).sig = true ∧
      (((gnssOn).w GNSS_SIG_EN_EN 0).r GNSS_SIG_EN_EN).testBit 0 = false ∧ 64 ≤ (gnssOn { hostQ := List.replicate 64 request }).gnss.hostQ.length) ∧
    (Tabs.look (gnssOn).gnss.engines (15 : Fin 16) = none ∧ (gnssOn).gnss.engLost.contains (15 : Fin 16).val = false ∧
      (gnssOn).r INTC_BLK_FAULT_STATE 1 ≠ 3 ∧ (gnssOn { hostQ := [request] }).gnss.hostQ = request :: [] ∧ (gnssOn).gnss.hostQ = [] ∧
      (gnssOn { fwQ := [request] }).gnss.fwQ = request :: []) ∧
    (let r : AcqRun := { req := request, start := 0, left := 2 };
      let n : Mach := { gnssOn { engines := [(15, r)] } with intc := { base.intc with ticks := 10 } };
      r.start + r.req.dwell ≤ n.now ∧ (gnssOn { engines := [(15, r)] }).now < r.start + r.req.dwell ∧ base.takes .gnss = false ∧
      Tabs.look (gnssOn { engines := [(15, r)] }).gnss.engines (15 : Fin 16) = some r ∧ (gnssOn { engines := [(15, r)] }).takes .gnss = true ∧
      r.confirm = none ∧ ({ r with confirm := some 0 } : AcqRun).confirm.isSome = true ∧ ({ r with left := 0 } : AcqRun).left = 0 ∧ (gnssOn).r GNSS_ACQ_CFG_THRESH ≤ (120 : BitVec 16).toNat ∧ (119 : BitVec 16).toNat < (gnssOn).r GNSS_ACQ_CFG_THRESH ∧ 1 < r.left ∧
      ({ r with left := 1 } : AcqRun).left ≤ 1 ∧ r.req.d = some search ∧ r.req.handover = true ∧ ({ request with handover := false } : AcqReq).handover = false ∧
      (gnssOn).chIdle = some 0 ∧ (gnssOn).chOf 0 32 5 = none ∧ (gnssOn).b (antShort (5 / 3)) = false ∧ ((gnssOn).wb (antShort 1) true).b (antShort 1) = true ∧
      (rg [(GNSS_CH_STATUS_SVID, 455, 32), (GNSS_CH_STATUS_PATH, 455, 5)] (ch455 2)).chOf 0 32 5 = some 455) ∧
    (let d := dsc 0x0403 [(16, 1, 0), (17, 1, 32), (18, 1, 63)];
      signalOk (Descs.fld d 16 1) (Descs.fld d 17 1) = true ∧ ((gnssOn).r GNSS_SIG_EN_EN).testBit (Descs.fld d 16 1) = true ∧ (gnssOn).starts 0x0403 d ∧
      (gnssOn).starts 0x0404 d ∧ Descs.fld d 18 1 < 64 ∧ (gnssOn).gnss.pins.length < 64 ∧ 64 ≤ (gnssOn { pins := List.replicate 64 ⟨0, 1, 1⟩ }).gnss.pins.length ∧
      (gnssOn).b GNSS_CTRL_AUTO = true ∧ ((gnssOn).w GNSS_CTRL_AUTO 0).b GNSS_CTRL_AUTO = false) := by
  unfold Mach.starts; refine ⟨?_, ?_, ?_, ?_⟩ <;> decide +kernel

/-- A navigation unit of GPS L1 on channel 455, and one that both antennas gave. -/
def navRaw : NavRaw := ⟨List.replicate 300 true, false⟩
def navUnit : NavUnit := { chan := 455, part := 0, d2 := false, raw := navRaw, age := 0, other := none }
def bothUnit : NavUnit := { navUnit with other := some (454, navRaw) }

/-- Channels 454 and 455 track one satellite on L1 of antennas A and B. -/
def bothAnts : Mach := rg [(GNSS_CH_STATUS_STATE, 454, 2), (GNSS_CH_STATUS_PATH, 455, 3)] (ch455 2)

/-- EpochsAndRecordsReachTheHost: reads with the smallest buffers and one too small; records waiting and none; a unit on a TRACKING
channel with room and without, of one antenna and of both, with a lower path tracking the signal; an epoch's tick. -/
theorem witness_EpochsAndRecordsReachTheHost :
    ((gnssOn).starts 0x0400 (dscBuf 0x0400 [] 0x8000 32) ∧ Descs.buf (dscBuf 0x0400 [] 0x8000 32) = true ∧ 32 ≤ Descs.len (dscBuf 0x0400 [] 0x8000 32) ∧
      (gnssOn).takes .gnss = true ∧ Descs.len (dscBuf 0x0400 [] 0x8000 24) < 32 ∧ (gnssOn).starts 0x0401 (dscBuf 0x0401 [] 0x8000 64) ∧
      64 ≤ Descs.len (dscBuf 0x0401 [] 0x8000 64) ∧ Descs.len (dscBuf 0x0401 [] 0x8000 56) < 64 ∧ (gnssOn).gnss.navQ = [] ∧
      (gnssOn { navQ := [List.replicate 64 1] }).gnss.navQ ≠ [] ∧ (gnssOn).memWf = true ∧
      (gnssOn).canWrite = true ∧ base.canWrite = false) ∧
    (0 < navNbits (navType ((ch455 2).chSig 455) navUnit.d2) navUnit.raw.syms.length ∧ navNbits 20 0 = 0 ∧ navUnit.other = none ∧
      ((List.range 456).any (fun k => (ch455 2).partner 455 k && decide ((ch455 2).chPath k < (ch455 2).chPath 455)) = false) ∧
      ((List.range 456).any (fun k => bothAnts.partner 455 k && decide (bothAnts.chPath k < bothAnts.chPath 455)) = true) ∧
      bothUnit.other = some (454, navRaw) ∧ bothAnts.takes .gnss = true ∧ bothAnts.chState 455 = 2 ∧ bothAnts.partner 455 454 = true ∧
      bothAnts.gnss.navQ.length < 1024 ∧ bothAnts.gnss.navReads = [] ∧ (ch455 2).takes .gnss = true ∧ (ch455 2).chState navUnit.chan = 2 ∧
      (ch455 2).gnss.navQ.length < 1024 ∧ (ch455 2).gnss.navReads = [] ∧ (ch455 1).chState navUnit.chan ≠ 2 ∧
      1024 ≤ (ch455 2 { navQ := List.replicate 1024 [] }).gnss.navQ.length) ∧
    (let m : Mach := { rg [(TIME_STATUS_STEP_LOCK, 0, 1)] (gnssOn) with time := { base.time with sec := originSec + 40 } };
      m.takes .gnss = true ∧ m.epochNow = true ∧ m.r INTC_BLK_FAULT_STATE 2 ≠ 3 ∧ m.gnss.last = none ∧ m.gnss.measReads = [] ∧
      ({ m with time := { m.time with ns := 1000000 } } : Mach).epochNow = false) := by
  unfold Mach.starts; refine ⟨?_, ?_, ?_⟩ <;> decide +kernel

/-- The base position at 6,300 km, SET. -/
def pos : BasePos := { x := 6300000000, state := 1 }

/-- Corrections enabled in the ACTIVE role; the position as given; a record of an MSM epoch made in the tick before. -/
def corrOn (b : BasePos) (c : CorrSt := {}) (hflags : Nat := 0) : Mach :=
  let m := rg [(CORR_CTRL_ENABLE, 0, 1), (REDUN_STATUS_ROLE_STATE, 0, 1), (TIME_STATUS_STEP_LOCK, 0, 1)] (gnssOn)
  { m with time := { m.time with sec := originSec + 40, ns := 1000000 }, intc := { m.intc with ticks := 2500 }, corr := c,
           gnss := { m.gnss with last := some (⟨20, originSec + 40, 0, 0, hflags, 40000, []⟩, 2499) },
           nv := { m.nv with set := { m.nv.set with base := b } } }

/-- A survey of 600 s begun in tick 0. -/
def surveying (dur used : Nat) : SurveyRun := { d := dsc 0x0411, start := 0, dur := dur, used := used }

/-- CorrectionsAreBuiltAndRead: positions at and beyond the bound; surveys at their bounds, running, over with half their epochs and
with fewer. -/
theorem witness_CorrectionsAreBuiltAndRead_position :
    (let d := dsc 0x0410 [(16, 8, 6300000000)];
      (corrOn pos).starts 0x0410 d ∧ (corrOn pos).takes .corr = true ∧ (corrOn pos).isActive = true ∧
      posBad ⟨sgn 64 (Descs.fld d 16 8), sgn 64 (Descs.fld d 24 8), sgn 64 (Descs.fld d 32 8), Descs.fld d 40 2, 1⟩ = false ∧
      posBad ⟨6299999999, 0, 0, 0, 1⟩ = true ∧ (corrOn pos).corr.survey = none ∧ (corrOn pos).posOk = true ∧ (corrOn {}).posOk = false) ∧
    ((corrOn pos).starts 0x0411 (dsc 0x0411 [(16, 4, 600)]) ∧ 600 ≤ Descs.fld (dsc 0x0411 [(16, 4, 600)]) 16 4 ∧ Descs.fld (dsc 0x0411 [(16, 4, 599)]) 16 4 < 600 ∧
      86400 < Descs.fld (dsc 0x0411 [(16, 4, 86401)]) 16 4 ∧ Descs.fld (dsc 0x0411 [(16, 4, 86400)]) 16 4 ≤ 86400 ∧
      (corrOn pos { survey := some (surveying 600 0) }).corr.survey.isSome = true) ∧
    ((corrOn pos { survey := some (surveying 600 0) }).corr.survey = some (surveying 600 0) ∧ (surveying 600 0).lastAt = none ∧
      (corrOn pos).b GNSS_DA_STATUS_SPOOF = false ∧ ((corrOn pos).w GNSS_DA_STATUS_SPOOF 1).b GNSS_DA_STATUS_SPOOF = true ∧
      (corrOn pos).now < (surveying 600 0).start + 1000 * (surveying 600 0).dur ∧ (surveying 2 1).start + 1000 * (surveying 2 1).dur ≤ (corrOn pos).now ∧
      2 * (surveying 2 0).used < (surveying 2 0).dur ∧ (surveying 2 1).dur ≤ 2 * (surveying 2 1).used) := by
  unfold Mach.starts; refine ⟨?_, ?_, ?_⟩ <;> decide +kernel

/-- A reference epoch of one cell. -/
def msmRef : MsmEpoch := { pt := 39000, ant := 0, iods := 1, cells := [{ sig := 0, svid := 32, gloK := 0, cp := 0, dop := 0, bad := false }] }

/-- CorrectionsAreBuiltAndRead: RTCM_READ's smallest buffer; descriptors of five strings; a build's tick at an MSM epoch and at another,
with a reference 2500 ticks old; a compact IE before and at its tick, sent and expired. -/
theorem witness_CorrectionsAreBuiltAndRead_messages :
    ((corrOn pos).starts 0x0412 (dscBuf 0x0412 [] 0x8000 64) ∧ Descs.buf (dscBuf 0x0412 [] 0x8000 64) = true ∧
      64 ≤ Descs.len (dscBuf 0x0412 [] 0x8000 64) ∧ Descs.len (dscBuf 0x0412 [] 0x8000 56) < 64) ∧
    (let m := (corrOn pos).hostWr 0x8000 [1, 65, 0, 0, 0, 0, 9];
      let d := dscBuf 0x0413 [] 0x8000 8;
      m.starts 0x0413 d ∧ m.takes .corr = true ∧ m.isActive = true ∧ Descs.buf d = true ∧
      parseStrings 5 (m.bufRd (d.as 0x0413)) = some ([[65], [], [], [], []], [9, 0])) ∧
    (base.corrBuilds = none ∧ (corrOn pos).corrBuilds = some ⟨20, originSec + 40, 0, 0, 0, 40000, []⟩ ∧
      (corrOn pos).isMsm ⟨20, originSec + 40, 0, 0, 0, 40000, []⟩ = true ∧ (corrOn pos).isMsm ⟨20, originSec + 40, 0, 0, 1, 40000, []⟩ = false ∧
      (corrOn pos {} 1).corrBuilds = some ⟨20, originSec + 40, 0, 0, 1, 40000, []⟩ ∧ (corrOn pos).corr.msmAt ≠ some (corrOn pos).now ∧
      (corrOn pos).stationDue = true ∧ (corrOn pos { stationAt := some 2500 }).stationDue = false ∧ (corrOn pos).corr.ieAt ≠ some (corrOn pos).now ∧
      (corrOn pos).corr.cand = none ∧ (corrOn pos { ref := some (msmRef, 0) }).corr.ref = some (msmRef, 0) ∧ (corrOn pos).now ≤ 0 + 2500 ∧
      msmRef.cells.length ≤ 131 ∧ (corrOn pos).corr.ref = none ∧ base.lastRecord = none ∧ (corrOn {}).lastRecord.isSome = true ∧
      (corrOn {}).corrMay = false ∧ (corrOn pos { newPos := some pos }).corr.newPos = some pos) ∧
    (let c : CorrIe := ⟨[], 40000, 2500⟩;
      base.corr.ie = none ∧ (corrOn pos { ie := some c }).corr.ie = some c ∧ c.tick ≤ (corrOn pos).now ∧ (corrOn pos).now < (⟨[], 40000, 2501⟩ : CorrIe).tick ∧
      (corrOn pos).air.corr = none ∧ diff32 (corrOn pos).pt 39984 < 18 ∧ 18 ≤ diff32 (corrOn pos).pt 39983) := by
  unfold Mach.starts; refine ⟨?_, ?_, ?_, ?_⟩ <;> decide +kernel


/-- The time unit at a tick, stepped, at 7 ms after second 40 of the origin. -/
def timeAt (t : TimeSt := {}) (l : List (Field × Nat × Nat) := []) : Mach :=
  { rg ([(TIME_CTRL_ENABLE, 0, 1), (TIME_STATUS_STEP_LOCK, 0, 1), (REDUN_STATUS_ROLE_STATE, 0, 1)] ++ l) up with
    time := { t with sec := originSec + 40, ns := 7000000 }, intc := { base.intc with ticks := 5000 } }

/-- TimeIsMeasuredSteppedAndKept: the second over and not; UTC named; MANUAL; a master heard and one not; the first second of
ST80's origin and one before it; each refusal of a step; PPS_IN 1.5 s old and younger. -/
theorem witness_TimeIsMeasuredSteppedAndKept :
    (let m := timeAt { measAt := some 4000 };
      (timeAt { measAt := some 4001 }).time.measAt = some 4001 ∧ m.now < 4001 + 1000 ∧ m.time.measAt = some 4000 ∧ 4000 + 1000 ≤ m.now ∧
      (∀ u ∈ base.time.measAt, u + 1000 ≤ base.now) ∧
      m.stepped = true ∧ m.time.frozen = none ∧ (timeAt { frozen := some 5 }).time.frozen = some 5 ∧ m.time.sec < originSec + 41 ∧
      originSec + 41 ≤ m.time.sec + 43200 ∧ m.time.sec + 43200 < originSec + 43241) ∧
    (let m := timeAt {} [(TIME_CTRL_MANUAL, 0, 1)];
      (timeAt).b TIME_CTRL_MANUAL = false ∧ m.b TIME_CTRL_MANUAL = true ∧ m.hears 1 = true ∧ m.hears 0 = false ∧ base.hears 1 = false) ∧
    (let d := dsc 0x0500 [(16, 6, originSec), (22, 4, 999999999)];
      let e := dsc 0x0500 [(16, 6, originSec - 1), (22, 4, 1000000000)];
      let u := (timeAt).w TIME_STATUS_STEP_LOCK 0;
      (timeAt).starts 0x0500 d ∧ (timeAt).starts 0x0500 e ∧ originSec ≤ Descs.fld d 16 6 ∧ Descs.fld d 22 4 < 1000000000 ∧
      Descs.fld e 16 6 < originSec ∧ 1000000000 ≤ Descs.fld e 22 4 ∧ base.isActive = false ∧ (timeAt).isActive = true ∧
      (timeAt).stepped = true ∧ u.isActive = true ∧ u.stepped = false ∧ u.b TIME_SRC_CFG_FREE_EN = true ∧
      (u.w TIME_SRC_CFG_FREE_EN 0).b TIME_SRC_CFG_FREE_EN = false) ∧
    (let d := dsc 0x0501 [(16, 6, originSec)];
      let m := timeAt {} [(TIME_SRC_CFG_EXT_EN, 0, 1)];
      let b := timeAt { extTod := some (d, originSec) } [(TIME_SRC_CFG_EXT_EN, 0, 1)];
      m.starts 0x0501 d ∧ b.starts 0x0501 d ∧ originSec ≤ Descs.fld d 16 6 ∧ m.isActive = true ∧ (timeAt).b TIME_SRC_CFG_EXT_EN = false ∧
      m.b TIME_SRC_CFG_EXT_EN = true ∧ b.time.extTod.isSome = true ∧ b.b TIME_SRC_CFG_EXT_EN = true ∧ m.time.extTod = none) ∧
    (let t := (timeAt).totalNs;
      base.time.lastPps = none ∧ (timeAt { lastPps := some (t - 1499999999) }).time.lastPps = some (t - 1499999999) ∧ t < (t - 1499999999) + 1500000000 ∧
      (timeAt { lastPps := some (t - 1500000000) }).time.lastPps = some (t - 1500000000) ∧ (t - 1500000000) + 1500000000 ≤ t) := by
  unfold Mach.starts; refine ⟨?_, ?_, ?_, ?_, ?_⟩ <;> decide +kernel

/-- A capture entry of channel 15. -/
def capEntry : CapEntry := { chan := 15, flags := 0, sec := 1, ns := 2, order := 0 }

/-- EdgesAreCapturedAndTargetsMatched: channel 15 off and on, a FIFO with room for one and a full one; an edge channel 4 does not
take; reads with the smallest buffer, of a held and of an empty channel. -/
theorem witness_EdgesAreCapturedAndTargetsMatched_captures :
    (let m := timeAt { caps := [(15, { entries := List.replicate 15 capEntry })] } [(TIME_CAP_CFG_EN, 15, 1)];
      let f := timeAt { caps := [(15, { entries := List.replicate 16 capEntry })] } [(TIME_CAP_CFG_EN, 15, 1)];
      base.edgeOk 4 true = false ∧ m.edgeOk (15 : Fin 16) true = true ∧ (15 : Fin 16) ≠ 0 ∧ m.b TIME_CAP_CFG_EN 15 = true ∧ m.takes .time = true ∧
      (m.fifo 15).entries.length < 16 ∧ m.time.capReads = [] ∧ (m.streamQ 22).part = [] ∧ f.edgeOk (15 : Fin 16) true = true ∧ f.b TIME_CAP_CFG_EN 15 = true ∧
      f.takes .time = true ∧ 16 ≤ (f.fifo 15).entries.length ∧ base.edgeOk (15 : Fin 16) false = true ∧ base.b TIME_CAP_CFG_EN 15 = false) ∧
    (let d := dscBuf 0x0504 [(20, 2, 0x8000)] 0x8000 16;
      let m := timeAt { caps := [(15, { entries := [capEntry] })] };
      m.starts 0x0504 d ∧ (timeAt).starts 0x0504 d ∧ Descs.buf d = true ∧ 16 ≤ Descs.len d ∧ m.takes .time = true ∧
      m.capHeld (Descs.fld d 20 2) ≠ [] ∧ (timeAt).capHeld (Descs.fld d 20 2) = []) := by
  unfold Mach.starts; refine ⟨?_, ?_⟩ <;> decide +kernel

/-- A COMPARE_SET of channel k for ms of second 40 of the origin. -/
def cmpSet (k ms : Nat) : Desc := dsc 0x0502 [(18, 1, k), (20, 6, originSec + 40), (26, 4, 1000000 * ms)]

/-- EdgesAreCapturedAndTargetsMatched: a channel that is none; targets now, late by all the window, and by more; unstepped; armed and
periodic channels; matches due and early; a periodic pulse due with its width at the period and below, and one before the step of its tick; an end that has come. -/
theorem witness_EdgesAreCapturedAndTargetsMatched_compares :
    (let m := timeAt;
      let a := timeAt { cmps := [(15, { armed := some (cmpSet 15 9, m.totalNs) })] };
      let w := timeAt {} [(TIME_CMP_CFG_LATE_WIN, 15, 3)];
      let p := timeAt {} [(TIME_CMP_CFG_PERIODIC, 15, 1)];
      m.starts 0x0502 (cmpSet 16 7) ∧ 15 < Descs.fld (cmpSet 16 7) 18 1 ∧ m.starts 0x0502 (cmpSet 15 7) ∧ Descs.fld (cmpSet 15 7) 18 1 ≤ 15 ∧
      m.b TIME_CMP_CFG_MODE 15 = false ∧ Descs.fld (cmpSet 15 7) 26 4 < 1000000000 ∧ m.takes .time = true ∧
      (m.totalNs : Int) - (Descs.fld (cmpSet 15 7) 20 6 * 1000000000 + Descs.fld (cmpSet 15 7) 26 4 : Nat) ≤ 0 ∧ (m.cmp 15).armed = none ∧
      m.cmpPeriodic 15 = false ∧ p.cmpPeriodic 15 = true ∧ p.starts 0x0502 (cmpSet 15 7) ∧ (a.cmp 15).armed.isSome = true ∧
      a.starts 0x0502 (cmpSet 15 7) ∧ w.starts 0x0502 (cmpSet 15 4) ∧ w.stepped = true ∧ w.r TIME_CMP_CFG_LATE_WIN 15 = 3 ∧
      (w.totalNs : Int) - (Descs.fld (cmpSet 15 4) 20 6 * 1000000000 + Descs.fld (cmpSet 15 4) 26 4 : Nat) = 1000000 * 3 ∧
      1000000 * 3 < (w.totalNs : Int) - (Descs.fld (cmpSet 15 3) 20 6 * 1000000000 + Descs.fld (cmpSet 15 3) 26 4 : Nat) ∧
      (m.w TIME_STATUS_STEP_LOCK 0).stepped = false ∧
      a.starts 0x0503 (dsc 0x0503 [(18, 1, 15)]) ∧ Descs.fld (dsc 0x0503 [(18, 1, 15)]) 18 1 ≤ 15 ∧ a.takes .time = true ∧
      (a.cmp (15 : Fin 16)).armed = some (cmpSet 15 9, m.totalNs)) ∧
    (let m := timeAt;
      m.totalNs / 1000000 ≤ (m.totalNs + 999999) / 1000000 ∧ m.totalNs / 1000000 < (m.totalNs + 1000000) / 1000000 ∧ m.stepped = true ∧
      (timeAt { cmps := [(15, { armed := some (cmpSet 15 8, m.totalNs + 1000000) })] } |>.cmp (15 : Fin 16)).armed = some (cmpSet 15 8, m.totalNs + 1000000)) ∧
    (let m := timeAt {} [(TIME_CMP_CFG_PERIODIC, 15, 1), (TIME_CMP_PERIOD_PERIOD_MS, 15, 1), (TIME_CMP_WIDTH_WIDTH_US, 15, 1000)];
      m.stepped = true ∧ m.takes .time = true ∧ m.cmpPeriodic (15 : Fin 16) = true ∧
      m.totalNs / 1000000 % m.r TIME_CMP_PERIOD_PERIOD_MS 15 = 0 ∧ (m.cmp (15 : Fin 16)).pulseMs ≠ some (m.totalNs / 1000000) ∧
      m.time.stepTick = none ∧ m.totalNs = m.totalNs / 1000000 * 1000000 ∧
      (let z : Mach := { m with time := { m.time with stepTick := some m.now, ns := 7000500 } };
        z.time.stepTick = some z.now ∧ z.totalNs ≠ z.totalNs / 1000000 * 1000000) ∧
      1000000 * m.r TIME_CMP_PERIOD_PERIOD_MS 15 ≤ 1000 * m.r TIME_CMP_WIDTH_WIDTH_US 15 ∧
      1000 * (m.w TIME_CMP_WIDTH_WIDTH_US 999 15).r TIME_CMP_WIDTH_WIDTH_US 15 < 1000000 * m.r TIME_CMP_PERIOD_PERIOD_MS 15) ∧
    (let m := timeAt { cmps := [(15, { active := true, endAt := (timeAt).totalNs + 999999 })] };
      (m.cmp (15 : Fin 16)).active = true ∧ (m.cmp (15 : Fin 16)).endAt / 1000000 ≤ m.totalNs / 1000000 ∧ (base.cmp (15 : Fin 16)).active = false) := by
  unfold Mach.starts; refine ⟨?_, ?_, ?_, ?_⟩ <;> decide +kernel

/-- A PTP event message from ETH_A to ETH_B with an EtherType, a messageType, a UDP length: 44 bytes long, correction 0. -/
def syncFrame (eth typ udp : Nat) : PtpFwd :=
  let at_ := if eth = 0x86DD then 62 else if eth = 0x0800 then 42 else 14
  { inp := 0, outp := 1, rx := 0, tx := 3073,
    frame := List.replicate 12 0 ++ (le 2 eth).reverse ++ List.replicate (at_ - 18) 0 ++ (le 2 udp).reverse ++ [0, 0] ++ le 1 typ ++ [2, 0, 44] ++
      List.replicate 42 0 }

/-- PtpMessagesAreSentAndForwarded: sending and each way of not sending, before its interval too; the rows; both delay mechanisms; the outstanding request of
port 1 and none; forwarded frames of each kind. -/
theorem witness_PtpMessagesAreSentAndForwarded :
    (let m := timeAt;
      let p := timeAt { pdOut := [(1, (65535, 100))] } [(TIME_PTP_CFG_DELAY, 0, 1)];
      m.ptpDue 0 (m.ri TIME_PTP_INTV_LOG_SYNC) = true ∧ m.ptpDue 1 (m.r TIME_PTP_INTV_LOG_ANN) = true ∧
      p.ptpDue (2 + (1 : Fin 2)) (p.ri TIME_PTP_INTV_LOG_PDELAY) = true ∧
      (let l := timeAt { ptpAt := [(0, 5000), (1, 5000), (3, 5000)] };
        l.ptpDue 0 (l.ri TIME_PTP_INTV_LOG_SYNC) = false ∧ l.ptpDue 1 (l.r TIME_PTP_INTV_LOG_ANN) = false ∧
        l.ptpDue (2 + (1 : Fin 2)) (l.ri TIME_PTP_INTV_LOG_PDELAY) = false) ∧
      m.ptpSending = true ∧ base.ptpSending = false ∧ (m.w TIME_PTP_CFG_L2 0).ptpSending = false ∧ m.b TIME_CTRL_MANUAL = false ∧
      (m.w TIME_STATUS_STATUS 2).timeState = sLOCKED ∧ (m.w TIME_STATUS_STATUS 1).timeState = sFREE ∧
      (m.w TIME_STATUS_STATUS 4).timeState = sHOLDOVER_LIMIT ∧ m.b TIME_PTP_CFG_DELAY = false ∧ p.ptpSending = true ∧
      p.b TIME_PTP_CFG_DELAY = true ∧ p.r INTC_BLK_FAULT_STATE 23 ≠ 3 ∧ Tabs.look p.time.pdOut (1 : Fin 2) = some (65535, 100) ∧
      (65535 : BitVec 16).toNat = 65535 ∧ Tabs.rising none p.time.pdOut = true ∧ Tabs.look p.time.pdOut (0 : Fin 2) = none ∧
      Tabs.look (timeAt { pdOut := [(0, (0, 100))] }).time.pdOut (0 : Fin 2) = some (0, 100)) ∧
    (let f := syncFrame;
      (f 0x86DD 0 52).peer = false ∧ base.r INTC_BLK_FAULT_STATE 23 ≠ 3 ∧ (f 0x86DD 0 52).transport = 2 ∧ (f 0x86DD 0 52).suffix = false ∧
      (f 0x86DD 3 54).peer = true ∧ (f 0x86DD 0 54).suffix = true ∧ (f 0x86DD 0 54).sync = true ∧ (f 0x0800 0 54).transport ≠ 2 ∧
      (f 0x0800 0 54).peer = false) := by
  refine ⟨?_, ?_⟩ <;> decide +kernel

/-- A unit in a role (0 none, 1 ACTIVE, 2 STANDBY) with the mate link on and a state of the mirror. -/
def pairAt (role mir : Nat) (r : RedSt := {}) (l : List (Field × Nat × Nat) := []) : Mach :=
  { rg ([(REDUN_STATUS_ROLE_STATE, 0, role), (REDUN_CTRL_MATE_EN, 0, 1), (REDUN_STATUS_MIRROR, 0, mir), (REDUN_STATUS_ALIVE_CODE, 0, 1),
         (TIME_STATUS_STEP_LOCK, 0, 1)] ++ l) up with
    red := r, time := { base.time with sec := originSec + 40 }, intc := { base.intc with ticks := 4000000 } }

/-- RolesFollowGrantAndHealth: grant held and not, before READY and after, a cold standby; each loss of grant, in a slot too; the last watchdog;
RELINQUISH at 100 ms; the window of ROLE_PREF over by each cause. -/
theorem witness_RolesFollowGrantAndHealth :
    (let g : List (Field × Nat × Nat) := [(REDUN_STATUS_GRANTED, 0, 1)];
      let c := pairAt 2 2;
      base.b REDUN_STATUS_GRANTED = false ∧ base.ready = false ∧ (pairAt 1 0 {} g).b REDUN_STATUS_GRANTED = true ∧
      c.b REDUN_STATUS_GRANTED = false ∧ c.ready = true ∧ c.recovery = false ∧ c.isSafe = false ∧ c.isActive = false ∧
      c.r REDUN_STATUS_ROLE_STATE = 2 ∧ c.b REDUN_STATUS_WARM = false ∧ c.red.finalIn = false ∧
      (pairAt 2 2 {} g).b REDUN_STATUS_GRANTED = true ∧ (pairAt 2 2 {} g).isActive = false ∧ (pairAt 1 0 {} g).isActive = true ∧
      (pairAt 1 0 {} g).r REDUN_STATUS_ALIVE_CODE ≠ 3 ∧ ((pairAt 1 0 {} g).inSlot && (pairAt 1 0 {} g).air.held && (pairAt 1 0 {} g).air.on) = false ∧
      (let a : Mach := { airIn 0 0 1 with air := { (airIn 0 0 1).air with held := true } }; (a.inSlot && a.air.held && a.air.on) = true) ∧
      (let s := pairAt 1 3 { run := some ⟨none, 5, some 0, some 0⟩ } ((REDUN_STATUS_ALIVE_CODE, 0, 3) :: g);
        s.b REDUN_STATUS_GRANTED = true ∧ s.isActive = true ∧ s.r REDUN_STATUS_ALIVE_CODE = 3 ∧ s.red.run = some ⟨none, 5, some 0, some 0⟩)) ∧
    (14 < 2 ^ INTC_SAFE_CAUSE_BLOCK.width ∧ 31 < 2 ^ INTC_SAFE_CAUSE_BLOCK.width ∧ 3 < 2 ^ INTC_SAFE_CAUSE_CAUSE.width ∧ up.isSafe = false ∧
      up.recovery = false ∧ (up.w UPD_STATUS_RECOVERY 1).recovery = true) ∧
    (let s := pairAt 0 0 { aliveAt := 3999900 } [(INTC_STATUS_SAFE_STATE, 0, 1), (REDUN_STATUS_ALIVE_CODE, 0, 3)];
      s.isSafe = true ∧ s.r REDUN_STATUS_ALIVE_CODE = 3 ∧ s.red.aliveAt + 100 ≤ s.now ∧ (pairAt 1 0).isSafe = false) ∧
    (base.red.prefEnd = none ∧
      (let p : RedSt := { prefEnd := some 4000001 };
        (pairAt 1 0 p).red.prefEnd = some 4000001 ∧ (pairAt 1 0 p).isActive = true ∧ (pairAt 2 0 { p with mateActive := true }).red.mateActive = true ∧
        (pairAt 2 0 { prefEnd := some 4000000 }).red.prefEnd = some 4000000 ∧ 4000000 ≤ (pairAt 2 0).now)) := by
  refine ⟨?_, ?_, ?_, ?_⟩ <;> decide +kernel

/-- A mate frame that arrives whole, or with its CRC broken. -/
def mateRx (seq : Nat) (body : MateBody) (ok : Bool := true) : MateRx :=
  { f := { version := 1, final := true, forward := false, warm := true, seq := seq, pt := 0xFFFFFFFF, body := body }, crcOk := ok, sfd := 0 }

/-- MateFramesAreAppliedAndAnswered: HELLO due, in its 10 ms, sent before; HELLOs with a good and bad MIC, without pair key, with
another profile, with the version ranges meeting at one version; the state's frames at SEQ 2^32 - 1; an ACK in MIRRORING, HOLDING and
STALE, of a TICK_END and of none; the oldest frame asked for again; an ACTIVE unit, which applies nothing, with frames whole and broken. -/
theorem witness_MateFramesAreAppliedAndAnswered :
    (let m := pairAt 1 0;
      m.mateOn = true ∧ m.ready = true ∧ m.recovery = false ∧ m.mirror = 0 ∧ m.red.lost = false ∧ m.red.helloAt = none ∧
      (pairAt 1 0 { helloAt := some 3999991 }).red.helloAt = some 3999991 ∧ m.now < 3999991 + 10) ∧
    (let own := base.r REDUN_VER_OWN_MIN;
      let k := fun (r : RedSt) => let m := pairAt 2 1 r; ({ m with nv := { m.nv with set := { m.nv.set with pairKey := some 5 } } } : Mach);
      let mic := some (helloMic 7 0 own own 9 5);
      (mateRx 0 (.hello 7 0 own own 9 mic)).f.body = .hello 7 0 own own 9 mic ∧ (mateRx 0 (.hello 7 0 own own 9 mic) false).crcOk = false ∧
      (pairAt 2 1).nv.set.pairKey = none ∧ mic.isSome = true ∧ mic = (k {}).nv.set.pairKey.map (helloMic 7 0 own own 9) ∧
      some (helloMic 7 0 own own 8 5) ≠ (k {}).nv.set.pairKey.map (helloMic 7 0 own own 9) ∧ (k {}).mirror ≤ 1 ∧ (k {}).red.lost = false ∧
      (k {}).red.helloSent = false ∧ (k { helloSent := true }).red.helloSent = true ∧ 255 ≠ (k {}).r ID_PROFILE_ALL ∧
      (k { helloSent := true }).r REDUN_VER_OWN_MIN ≤ own ∧ own ≤ (k { helloSent := true }).r REDUN_VER_OWN_MAX) ∧
    (let m := pairAt 2 3 { seqIn := 4294967295 };
      let b := pairAt 2 2 { seqIn := 4294967295, bulk := 2 };
      let mr := base.mirrorOf;
      m.isActive = false ∧ m.isStandby = true ∧ m.isSafe = false ∧ m.mateOn = true ∧ m.ready = true ∧
      diff32 (mateRx 4294967295 (.tick mr)).f.seq m.red.seqIn = 0 ∧ m.red.want = false ∧ m.mirror = 3 ∧ (mateRx 4294967295 (.tick mr)).f.body = .tick mr ∧
      (mateRx 0 (.tickEnd 1 0 [] none 0)).f.body = .tickEnd 1 0 [] none 0 ∧ (mateRx 0 (.latch .ofSite)).f.body = .latch .ofSite ∧
      (mateRx 0 (.bulk 2 true mr)).f.body = .bulk 2 true mr ∧ b.mirror = 2 ∧ b.red.bulk = 2 ∧ b.isStandby = true ∧ b.red.want = false ∧ b.mateOn = true) ∧
    (let x := mateRx 5 (.ack 4294967295 4294967295 0 1 0);
      x.f.body = .ack 4294967295 4294967295 0 1 0 ∧ (pairAt 1 3).isActive = true ∧ (pairAt 1 3).mateOn = true ∧ (pairAt 1 3).ready = true ∧
      (let m := pairAt 1 3 { ends := [(4294967294, 7), (4294967295, 8), (0, 9)] };
        (m.red.ends.filter (fun e => diff32 4294967295 e.1 ≥ 0)).getLast? = some (4294967295, 8) ∧
        (pairAt 1 3).red.ends.filter (fun e => diff32 4294967295 e.1 ≥ 0) = []) ∧
      x.f.forward = false ∧ 0 ≤ diff32 x.f.seq (pairAt 1 3 { seqIn := 5 }).red.seqIn ∧ 1 / 2 % 2 = 0 ∧ (pairAt 1 3).mirror = 3 ∧
      (pairAt 1 4).mirror = 4 ∧ (pairAt 1 5).mirror = 5) ∧
    (let f := (mateRx 4294967295 (.retx 0)).f;
      (mateRx 0 (.retx 4294967295)).f.body = .retx 4294967295 ∧ f.forward = false ∧ (pairAt 1 3).ready = true ∧ (pairAt 1 3).mateOn = true ∧
      (mateRx 0 (.tick base.mirrorOf) false).crcOk = false ∧ (mateRx 0 (.latch .ofSite)).crcOk = true ∧
      (pairAt 1 3 { kept := [f] }).red.kept.any (fun f => f.seq == 4294967295) = true ∧ (pairAt 1 3 { kept := [f] }).isActive = true) := by
  refine ⟨?_, ?_, ?_, ?_, ?_⟩ <;> decide +kernel

/-- A synchronised standby with lanes 0 and 1 served and the others dark, at the local slot given. -/
def watching (slot : Nat) (r : RedSt := {}) : Mach :=
  let m := pairAt 2 3 { r with txOk := true, carried := true } ((List.range 6).map (fun x => (AIR_LANE_STATUS_DARK, x + 2, 1)))
  { m with time := { m.time with ns := 4000000 * slot } }

/-- MateLinkAndSyncTimeOut: STOPs waiting; a gap of 2 ticks; links lost with the last frame 3 ticks old, and 2; ACKs 3 and 25 ticks old,
and 2 and 24; warm eligibility over; the third region received; half the lanes served and fewer, for the third slot and before. -/
theorem witness_MateLinkAndSyncTimeOut :
    (let m : Mach := { base with dam := { base.dam with stops := [(dsc 0x0201, 7, 0)] } };
      base.dam.stops = [] ∧ m.dam.stops = (dsc 0x0201, 7, 0) :: []) ∧
    (base.red.gapAt = none ∧ (pairAt 2 3 { gapAt := some 3999998 }).red.gapAt = some 3999998 ∧ 3999998 + 2 ≤ (pairAt 2 3).now ∧ (pairAt 2 3).isActive = false) ∧
    ((pairAt 2 1).mirror < 2 ∧ (pairAt 2 6).mirror = 6 ∧ (pairAt 1 4 { lost := true }).red.lost = true ∧
      (pairAt 2 3 { lastRx := some 3999998 }).red.lastRx = some 3999998 ∧ (pairAt 2 3).now < 3999998 + 3 ∧
      (let l := pairAt 2 5 { lastRx := some 3999997 };
        2 ≤ l.mirror ∧ l.mirror ≤ 5 ∧ l.red.lost = false ∧ (∀ u ∈ l.red.lastRx, u + 3 ≤ l.now) ∧ l.isActive = false) ∧
      (let l := pairAt 1 3 { lastRx := some 3999997 };
        l.mirror = 3 ∧ l.red.lost = false ∧ (∀ u ∈ l.red.lastRx, u + 3 ≤ l.now) ∧ l.isActive = true)) ∧
    ((pairAt 1 3 { ackAt := 3999997 }).isActive = true ∧ (pairAt 1 3 { ackAt := 3999997 }).mirror = 3 ∧ 3999997 + 3 ≤ (pairAt 1 3).now ∧
      (pairAt 1 3).now < (pairAt 1 3 { ackAt := 3999998 }).red.ackAt + 3 ∧ (pairAt 1 4 { ackAt := 3999975 }).mirror = 4 ∧ 3999975 + 25 ≤ (pairAt 1 4).now ∧
      (pairAt 1 4).now < (pairAt 1 4 { ackAt := 3999976 }).red.ackAt + 25) ∧
    (base.red.warmEnd = none ∧ (pairAt 2 0 { warmEnd := some 4000000 }).red.warmEnd = some 4000000 ∧ 4000000 ≤ (pairAt 2 0).now ∧
      (pairAt 2 0 { warmEnd := some 4000000 }).isStandby = true ∧ (pairAt 2 0 { warmEnd := some 4000000 }).synced = false) ∧
    (let m := pairAt 2 2 { bulk := 3 };
      m.isStandby = true ∧ m.mirror = 2 ∧ m.red.bulk = 3 ∧ m.red.want = false ∧ (pairAt 2 2 { bulk := 2 }).red.bulk ≠ 3) ∧
    (let served := (List.range 8).filter (watching 0).laneServed;
      served = [0, 1] ∧ (watching 0).synced = true ∧ (watching 0).red.txOk = true ∧ (watching 0).asn % 5 = 0 ∧ (watching 1).asn % 5 ≠ 0 ∧
      (pairAt 1 3).synced = false ∧ (watching 0).red.watched ≠ some (watching 0).asn ∧
      ({ watching 0 with red := { (watching 0).red with txOk := false } } : Mach).red.txOk = false ∧
      (let m : Mach := { watching 0 with air := { (watching 0).air with bkey := some 5 } };
        let rx : AirRx := { lane := 0, a := some ⟨1, -80, 0, true⟩, b := none, bytes := m.permitHead 0 ++ m.permitContent 0 false false [],
                            mic := some (5, airNonce m.asn (baseAddr 0) 0 0) };
        m.dam.sample.site = true ∧ m.permitGood rx = true ∧ m.permitShows rx = true ∧
        (served.filter (fun x => [rx].any (fun r => r.lane.val == x && m.permitGood r))).length = 1 ∧
        m.permitGood { rx with bytes := m.permitHead 0 ++ (m.permitContent 0 false false []).set 1 0 } = false) ∧
      (watching 0 { permitMiss := 2 }).red.permitMiss = 2 ∧ (watching 0).red.permitMiss ≠ 2) := by
  refine ⟨?_, ?_, ?_, ?_, ?_, ?_, ?_⟩ <;> decide +kernel

/-- PlannedSwapsGoTheirWay: SWAP in each condition; a period of one hour that has passed; waits and notices due and early; a quiet unit
and one that moves; slot H 3 ms and 2 ms away and further; RESYNC in each state; PAIR_SET with the link off and on. -/
theorem witness_PlannedSwapsGoTheirWay :
    (let d := dsc 0x0800 [(16, 2, 3600)];
      let m := pairAt 1 3 { mateWarm := true };
      m.starts 0x0800 d ∧ Descs.fld d 16 2 ≤ 3600 ∧ m.isActive = true ∧ m.standbyThere = true ∧ m.red.run = none ∧ m.red.swap = none ∧
      (pairAt 2 3).starts 0x0800 d ∧ (pairAt 2 3).isActive = false ∧ (pairAt 1 3).starts 0x0800 d ∧ (pairAt 1 3).standbyThere = false ∧
      (let r := pairAt 1 3 { mateWarm := true, run := some ⟨none, 5, none, none⟩ };
        r.starts 0x0800 d ∧ r.standbyThere = true ∧ r.red.run.isSome = true ∧ r.isActive = true)) ∧
    (let m := pairAt 1 3 { mateWarm := true, periodFrom := some 400000 } [(REDUN_SWAP_CFG_PERIOD_H, 0, 1)];
      m.isActive = true ∧ m.standbyThere = true ∧ m.r REDUN_SWAP_CFG_PERIOD_H ≠ 0 ∧ m.red.swap = none ∧ m.red.run = none ∧
      m.red.periodFrom = some 400000 ∧ 400000 + 3600000 * m.r REDUN_SWAP_CFG_PERIOD_H ≤ m.now ∧ base.red.periodFrom = none ∧
      (base.w REDUN_SWAP_CFG_PERIOD_H 0).r REDUN_SWAP_CFG_PERIOD_H = 0) ∧
    (let q : SwapReq := ⟨none, 400000, 0, false⟩;
      let m := pairAt 1 3 { mateWarm := true, swap := some q };
      base.red.swap = none ∧ m.red.swap = some q ∧ m.isActive = true ∧ m.red.run = none ∧ m.quiet = true ∧ (m.w DAMP_STATUS_ARMED 1).quiet = false ∧
      q.d = none ∧ q.noticed = false ∧ q.since + 3600000 ≤ m.now ∧ ({ q with noticed := true } : SwapReq).noticed = true ∧
      (let e : SwapReq := ⟨some (dsc 0x0800), 3999000, 1, false⟩;
        e.d = some (dsc 0x0800) ∧ e.since + 1000 * e.wait ≤ m.now ∧ m.now < 3999001 + 1000 * e.wait)) ∧
    (let m := fun (h : Nat) (f q : Option Nat) => pairAt 1 3 { run := some ⟨none, h, f, q⟩ };
      base.red.run = none ∧ (m 10001 none none).red.run = some ⟨none, 10001, none, none⟩ ∧ (m 10001 none none).mateOn = true ∧
      (m 10001 none none).mirror ≠ 2 ∧ 3 < (m 10001 none none).msToH 10001 ∧ (m 10001 none none).msToH 10000 = 0 ∧
      (let z := m 10001 none none;
        ({ z with time := { z.time with ns := 1000000 } } : Mach).msToH 10001 = 3 ∧ ({ z with time := { z.time with ns := 2000000 } } : Mach).msToH 10001 = 2) ∧
      (m 10001 (some 4) none).red.run = some ⟨none, 10001, some 4, none⟩) ∧
    (let d := dsc 0x0801;
      (pairAt 1 3).starts 0x0801 d ∧ (pairAt 1 3).isStandby = false ∧ (pairAt 2 4).starts 0x0801 d ∧ (pairAt 2 4).isStandby = true ∧
      (pairAt 2 4).mirror ≠ 2 ∧ (pairAt 2 4).mirror ≠ 3 ∧ (pairAt 2 2).mirror = 2 ∧ (pairAt 2 3).mirror = 3 ∧ (pairAt 2 3).isStandby = true ∧
      (pairAt 2 3).starts 0x0801 d) ∧
    ((pairAt 1 3).starts 0x0802 (dsc 0x0802) ∧ (pairAt 1 3).b REDUN_CTRL_MATE_EN = true ∧ up.starts 0x0802 (dsc 0x0802) ∧ up.b REDUN_CTRL_MATE_EN = false) := by
  unfold Mach.starts; refine ⟨?_, ?_, ?_, ?_, ?_, ?_⟩ <;> decide +kernel

/-- Saggar enabled, host queue 1023 enabled, with cells, fields and pending DEQUEUEs. -/
def sagOn (n : Nat) (l : List (Field × Nat × Nat) := []) (pend : List (Desc × Nat) := []) : Mach :=
  { rg ([(SAG_CTRL_ENABLE, 0, 1), (SAG_Q_STATUS_ENABLED, 1023, 1), (SAG_POOL_FREE_FREE, 0, 1024), (SAG_POOL_CFG_HOST_MAX, 0, 1024),
         (SAG_POOL_HOST_HOST_USED, 0, n), (SAG_Q_LIMIT_LIMIT, 1023, 1024)] ++ l) up with
    sag := { queues := [(5, {}), (1023, { cells := List.replicate n 7 })], pend := pend }, intc := { base.intc with ticks := 9 } }

/-- An ENQUEUE or DEQUEUE of n cells at queue q, with a buffer of len bytes and a wait. -/
def cellDesc (op q n len wait : Nat) : Desc := dscBuf op [(16, 2, q), (18, 2, n), (20, 2, wait)] 0x8000 len

/-- CellQueuesTakeAndGive: ENQUEUE of 1024 cells that just fit, of none, to a device queue, to a disabled queue, past the limit; DEQUEUE
with cells, empty with and without a wait, with a bad cell; waits due, one of two alike, and early; each action of QUEUE_SET. -/
theorem witness_CellQueuesTakeAndGive_descriptors :
    (let d := cellDesc 0x0B00 1023 1024 65536 0;
      let m := sagOn 0;
      m.starts 0x0B00 d ∧ hostQueue (Descs.fld d 16 2) = true ∧ 1 ≤ Descs.fld d 18 2 ∧ Descs.fld d 18 2 ≤ 1024 ∧ Descs.buf d = true ∧
      64 * Descs.fld d 18 2 ≤ Descs.len d ∧ m.takes .saggar = true ∧ m.b SAG_Q_STATUS_ENABLED 1023 = true ∧ m.sagRoom 1023 1024 = true ∧
      m.sag.pend = [] ∧ (sagOn 1).sagRoom 1023 1024 = false ∧ (sagOn 1).starts 0x0B00 d ∧ hostQueue 511 = false ∧ hostQueue 1024 = false ∧
      up.takes .saggar = false ∧ (m.w SAG_Q_STATUS_ENABLED 0 1023).b SAG_Q_STATUS_ENABLED 1023 = false) ∧
    (let d := cellDesc 0x0B01 1023 1024 64 0;
      let m := sagOn 1;
      m.starts 0x0B01 d ∧ hostQueue (Descs.fld d 16 2) = true ∧ Descs.fld d 18 2 ≤ 1024 ∧ 64 ≤ Descs.len d ∧ Descs.buf d = true ∧ m.takes .saggar = true ∧
      ((m.sagQ 1023).cells ≠ []) ∧ (0 : Fin 1024).val < min (min 1024 (m.sagQ 1023).cells.length) (Descs.len d / 64) ∧ m.wmOn 1023 = false ∧
      (sagOn 0).starts 0x0B01 d ∧ ((sagOn 0).sagQ 1023).cells = [] ∧ Descs.fld d 20 2 = 0 ∧ Descs.fld (cellDesc 0x0B01 1023 1 64 65535) 20 2 ≠ 0 ∧
      Descs.len (cellDesc 0x0B01 1023 1 56 0) < 64) ∧
    (let e := cellDesc 0x0B01 1023 1 64 9;
      (sagOn 0 [] [(e, 10)]).sag.pend.find? (fun x => Descs.fld x.1 16 2 == (1023 : Fin 1024).val && decide (x.2 ≤ (sagOn 0).now)) = none ∧
      (sagOn 0 [] [(e, 9), (e, 9)]).sag.pend.find? (fun x => Descs.fld x.1 16 2 == (1023 : Fin 1024).val && decide (x.2 ≤ (sagOn 0).now)) = some (e, 9) ∧
      [(e, 9), (e, 9)].erase (e, 9) = [(e, 9)]) ∧
    (let d := fun (a : Nat) => dsc 0x0B02 [(16, 2, 512), (18, 1, a)];
      (sagOn 0).starts 0x0B02 (d 0) ∧ (sagOn 0).starts 0x0B02 (d 3) ∧ hostQueue (Descs.fld (d 3) 16 2) = true ∧ Descs.fld (d 1) 18 1 ≤ 1 ∧
      2 ≤ Descs.fld (d 2) 18 1 ∧ Descs.fld (d 3) 18 1 ≤ 3 ∧ 3 < Descs.fld (d 4) 18 1 ∧ (sagOn 0).starts 0x0B02 (d 4)) := by
  unfold Mach.starts; refine ⟨?_, ?_, ?_, ?_⟩ <;> decide +kernel

/-- CellQueuesTakeAndGive: a device queue with room for its cells and without, emptied with a bad cell and without; a timeout due and not; watermarks crossed in both
directions; streams 22 and 23, with a timeout and without. -/
theorem witness_CellQueuesTakeAndGive_queues :
    ((sagOn 0).sagRoom (511 : Fin 512) (List.replicate 1024 (0 : BitVec 512)).length = true ∧
      (sagOn 0).sagRoom (511 : Fin 512) (List.replicate 1025 (0 : BitVec 512)).length = false ∧
      (let x : DeviceCells := ⟨0, [], [7]⟩; x.taken = 0 ∧ x.cells ≠ [] ∧ (sagOn 0).sagRoom (511 : Fin 512) x.cells.length = true) ∧
      (let m := (sagOn 0).setSagQ 511 { cells := [7, 7] };
        let x : DeviceCells := ⟨2, [1], []⟩;
        x.cells = [] ∧ x.bad = [1] ∧ (1 : Fin 1024).val < min x.taken (m.sagQ (511 : Fin 512)).cells.length ∧
        (⟨2, [], []⟩ : DeviceCells).bad = [])) ∧
    (let m := sagOn 1 [(SAG_Q_TMO_TIMEOUT, 1023, 9)];
      let x := m.sagQ (1023 : Fin 1024);
      m.r SAG_Q_TMO_TIMEOUT 1023 ≠ 0 ∧ x.cells ≠ [] ∧ x.fired = false ∧ x.since + m.r SAG_Q_TMO_TIMEOUT 1023 ≤ m.now ∧ (sagOn 0).r SAG_Q_TMO_TIMEOUT 1023 = 0) ∧
    (let m := sagOn 3 [(SAG_Q_WM_LO, 1023, 1), (SAG_Q_WM_HI, 1023, 4)];
      let a := m.setSagQ 1023 { m.sagQ 1023 with armedLo := true };
      m.wmOn 1023 = true ∧ (m.sagQ 1023).armedLo = false ∧ (m.sagQ 1023).cells.length < m.r SAG_Q_WM_HI 1023 ∧
      m.r SAG_Q_WM_HI 1023 ≤ (List.replicate 4 (0 : BitVec 512)).length ∧ a.wmOn 1023 = true ∧ (a.sagQ 1023).armedLo = true ∧
      a.r SAG_Q_WM_LO 1023 < (a.sagQ 1023).cells.length ∧ [(0 : BitVec 512)].length ≤ a.r SAG_Q_WM_LO 1023) ∧
    (let m := sagOn 0 [(SAG_SQ_IDLE_IDLE_CYC, 22, 1)];
      (m.streamQ (22 : Fin 32)).part.length < 32 ∧ 23 ≤ (23 : Fin 32).val ∧ (22 : Fin 32).val < 23 ∧ streamOwn 22 = true ∧ streamOwn 17 = false ∧
      (sagOn 0 [(SAG_SQ_IDLE_IDLE_CYC, 22, 0)]).r SAG_SQ_IDLE_IDLE_CYC (22 : Fin 32) = 0 ∧ m.r SAG_SQ_IDLE_IDLE_CYC (22 : Fin 32) ≠ 0 ∧
      ({ m with sag := { m.sag with streams := [(17, { part := List.replicate 31 1 })] } } : Mach).streamQ (17 : Fin 32) = { part := List.replicate 31 1 }) := by
  refine ⟨?_, ?_, ?_, ?_⟩ <;> decide +kernel

/-- NoticesArriveAndMastersReset: masters heard and not; channel 63 with 31 and 32 notices; words of POP_HI kept; lock 63 free and
owned; each reset. -/
theorem witness_NoticesArriveAndMastersReset :
    (base.hears (1 : Fin 16) = false ∧ up.hears (1 : Fin 16) = true ∧ base.hears (15 : Fin 16) = true ∧ base.hears (0 : Fin 16) = false) ∧
    (let x : MbSt := { chans := [(63, List.replicate 32 5)], owners := [(63, 15)], epochs := [(15, 15)], highWord := [(16 * 63 + 15, 1)] };
      Tabs.rising none x.highWord = true ∧
      (x.chan (63 : Fin 64)).length = 32 ∧ (({ chans := [(63, List.replicate 31 5)] } : MbSt).chan (63 : Fin 64)).length < 32 ∧ x.owner (0 : Fin 64) = 0 ∧
      x.owner (63 : Fin 64) ≠ 0 ∧ x.owner (63 : Fin 64) = (15 : Fin 16) ∧ x.owner (63 : Fin 64) ≠ (1 : Fin 16)) ∧
    (let m := base.w MB_CFG_RX_DOMAIN 15 63;
      m.r MB_CFG_RX_DOMAIN (63 : Fin 64) = (15 : Fin 16) ∧ m.r MB_CFG_RX_DOMAIN (62 : Fin 64) ≠ (15 : Fin 16)) := by decide +kernel

/-- Element 15 in a state with a history, restored, at second 40 of the origin. -/
def metAt (st : Nat) (x : MetEl) (l : List (Field × Nat × Nat) := []) : Mach :=
  { rg ([(MET_CTRL_ENABLE, 0, 1), (MET_EL_STATUS_STATE, 15, st), (MET_EL_ZC_ZC_TMO, 15, 100)] ++ l) up with
    met := { els := [(15, x)], restored := true }, time := { base.time with sec := originSec + 40 }, intc := { base.intc with ticks := 60000 } }

/-- An edge with a voltage at every input and a current at every input; 167,773 is over the hysteresis of 2 % of full scale (R476). -/
def edge (v i : BitVec 24) : MetEdge := ⟨List.replicate 8 v, List.replicate 16 i⟩

/-- ElementsMeterSaveAndPulse: crossings of elements off, searching with the fourth crossing in time, and locked; a sample that does not
cross; the block lost; a line lost; energy of both signs; a save due and not; the power-fail warning; the cross-check; the second; pulses that start and end; METER_READ. -/
theorem witness_ElementsMeterSaveAndPulse :
    ((metAt 0 {}).metRuns (15 : Fin 16) = false ∧ (metAt 1 { lastZc := some 59900, zcRun := 3 }).metRuns (15 : Fin 16) = true ∧
      (let m := metAt 1 { lastZc := some 59900, zcRun := 3, sign := some false };
        let at_ := fun v : BitVec 24 =>
          crossing (m.metEl (15 : Fin 16)).sign (m.metSample 15 (m.metEl 15) (m.metInputs (15 : Fin 16) (edge v 5))).sign;
        at_ 167773 = some true ∧ at_ 167772 = none ∧ m.met.kept = [] ∧ m.r INTC_BLK_FAULT_STATE 20 ≠ 3 ∧
        (m.w INTC_BLK_FAULT_STATE 3 20).r INTC_BLK_FAULT_STATE 20 = 3 ∧ clipped (0, 8388607) = true) ∧
      (metAt 1 {}).metState (15 : Fin 16) = 1 ∧ (metAt 2 {}).metState (15 : Fin 16) = 2 ∧ (metAt 2 {}).metRuns (15 : Fin 16) = true) ∧
    ((metAt 2 { lastZc := some 59899 }).metRuns (15 : Fin 16) = true ∧ ((metAt 2 { lastZc := some 59899 }).metEl (15 : Fin 16)).lastZc = some 59899 ∧
      59899 + (metAt 2 {}).r MET_EL_ZC_ZC_TMO (15 : Fin 16) < (metAt 2 {}).now ∧ ¬ 59900 + (metAt 2 {}).r MET_EL_ZC_ZC_TMO (15 : Fin 16) < (metAt 2 {}).now) ∧
    (0 ≤ ((metAt 2 {}).metEl (15 : Fin 16)).e.acc ∧ ((metAt 2 { e := { acc := -1 } }).metEl (15 : Fin 16)).e.acc < 0 ∧
      (metAt 2 { e := { acc := -1 } }).b MET_EL_CFG_ABS (15 : Fin 16) = false ∧ (metAt 2 {} [(MET_EL_CFG_ABS, 15, 1)]).b MET_EL_CFG_ABS (15 : Fin 16) = true ∧
      (metAt 2 {}).isStandby = false ∧ (metAt 2 {} [(REDUN_STATUS_ROLE_STATE, 0, 2)]).isStandby = true) ∧
    (let m := rg [(TIME_STATUS_STEP_LOCK, 0, 1)] (metAt 2 {});
      let n : Mach := { m with time := { m.time with ns := 1000000 } };
      m.met.restored = true ∧ m.met.stopped = false ∧ m.msInt % 10 = 0 ∧ n.msInt % 10 ≠ 0 ∧ m.met.savedAt ≠ some m.now ∧ m.r INTC_BLK_FAULT_STATE 20 ≠ 3 ∧
      Tabs.rising none m.nv.slots = true ∧ base.met.restored = false ∧ (2599 : BitVec 13).toNat < max 2600 (m.r PWR_VIN_VW_MV) ∧
      ¬ (4000 : BitVec 13).toNat < max 2600 (m.r PWR_VIN_VW_MV)) ∧
    (let m := rg [(REDUN_STATUS_ROLE_STATE, 0, 2), (REDUN_STATUS_MIRROR, 0, 3)] (metAt 2 { mir := some { imp := 10000 } });
      m.isStandby = true ∧ m.mirror = 3 ∧ m.met.xchkAt + 60000 ≤ m.now ∧ (m.metEl (15 : Fin 16)).mir = some { imp := 10000 } ∧ (metAt 2 {}).mirror ≠ 3) ∧
    ((metAt 2 {}).totalNs % 1000000000 < 1000000 ∧ (metAt 2 {}).met.powerAt ≠ some (metAt 2 {}).now ∧
      ¬ ({ metAt 2 {} with time := { base.time with ns := 1000000 } } : Mach).totalNs % 1000000000 < 1000000) ∧
    (let m := metAt 2 { e := { owed := 1 }, freeAt := 60000 } [(MET_PULSE_CFG_PEN, 15, 1), (REDUN_STATUS_GRANTED, 0, 1), (REDUN_STATUS_ROLE_STATE, 0, 1)];
      m.takes .metering = true ∧ m.b MET_PULSE_CFG_PEN (15 : Fin 16) = true ∧ m.b REDUN_STATUS_GRANTED = true ∧ m.isActive = true ∧
      (m.metEl (15 : Fin 16)).pulse = none ∧ 0 < (m.metEl (15 : Fin 16)).e.owed ∧ (m.metEl (15 : Fin 16)).freeAt ≤ m.now ∧ m.metState (15 : Fin 16) ≠ 3 ∧
      ((metAt 2 {}).metEl (15 : Fin 16)).e.owed = 0) ∧
    (let m := metAt 2 { pulse := some 59970 } [(MET_PULSE_CFG_WIDTH, 15, 30)];
      (m.metEl (15 : Fin 16)).pulse = some 59970 ∧ 59970 + m.r MET_PULSE_CFG_WIDTH (15 : Fin 16) ≤ m.now ∧ ((metAt 2 {}).metEl (15 : Fin 16)).pulse = none) ∧
    (let d := dscBuf 0x0600 [] 0x8000 640;
      (metAt 2 {}).starts 0x0600 d ∧ Descs.buf d = true ∧ 640 ≤ Descs.len d ∧ Descs.len (dscBuf 0x0600 [] 0x8000 632) < 640 ∧ Descs.buf (dsc 0x0600) = false ∧
      (metAt 2 {}).met.bound = [] ∧ (metAt 2 {}).metBound.met.bound ≠ []) := by
  unfold Mach.starts; refine ⟨?_, ?_, ?_, ?_, ?_, ?_, ?_, ?_, ?_⟩ <;> decide +kernel

/-- A MOVE of axis 7, and a Motion descriptor of it. -/
def moveDesc (acc : Nat := 1) : Desc := dsc 0x0700 [(16, 1, 7), (20, 4, 4294967196), (24, 4, 1000), (28, 4, acc), (32, 4, 1)]
def axDesc (op : Nat) (l : List (Nat × Nat × Nat) := []) : Desc := dsc op ((16, 1, 7) :: l)

/-- Motion enabled in the ACTIVE role, axis 7 enabled and homed, in a state. -/
def axis7 (x : Axis) (l : List (Field × Nat × Nat) := []) : Mach :=
  { rg ([(MOT_CTRL_ENABLE, 0, 1), (REDUN_STATUS_ROLE_STATE, 0, 1), (MOT_AX_CTRL_EN, 7, 1), (MOT_AX_CFG_ILK_REQ, 7, 0), (MOT_AX_VMAX_VMAX, 7, 1000), (MOT_AX_STATUS_HOMED, 7, 1),
         (MOT_AX_TRAVEL_MIN_ALL, 7, 4294967196), (MOT_AX_TRAVEL_MAX_ALL, 7, 100), (MOT_AX_STATUS_STATE, 7, 1),
         (MOT_AX_STOP_STOP_MS, 7, 10), (MOT_AX_STOP_STOP_DEC, 7, 100)] ++ l) up with
    mot := [(7, x)], intc := { base.intc with ticks := 1000 } }

/-- A move of axis 7 to -100, and a homing run. -/
def mv7 : Move := moveOf (moveDesc.as 0x0700)
def run7 : Axis := { run := some (mv7, -100) }
def home7 (kind : Nat) (p : HomePhase) : HomeRun := ⟨axDesc 0x0701, kind, true, p, 0, false⟩

/-- AxesTakeTheirCommands: MOVE at its bounds and beyond, each refusal and acceptance; HOME free, busy, stopped, with its switch active and
not; HALT at rest and in motion; RESUME in each case, with the queue full too; enables good and bad. -/
theorem witness_AxesTakeTheirCommands :
    (let m := axis7 {};
      m.starts 0x0700 moveDesc ∧ Descs.fld moveDesc 16 1 = 7 ∧ 0 < mv7.vel ∧ mv7.vel ≤ m.r MOT_AX_VMAX_VMAX 7 ∧ 0 < mv7.acc ∧ 0 < mv7.dec ∧ mv7.jerk = false ∧
      (moveOf ((moveDesc 0).as 0x0700)).acc = 0 ∧ m.starts 0x0700 (moveDesc 0) ∧ m.takes .motion = true ∧ m.b MOT_AX_CTRL_EN 7 = true ∧ (m.axis 7).stop = none ∧
      m.isActive = true ∧ (m.axis 7).count < 16 ∧ 16 ≤ ((axis7 { run7 with queue := List.replicate 15 mv7 }).axis 7).count ∧
      (axis7 {} [(REDUN_STATUS_ROLE_STATE, 0, 2)]).isActive = false ∧ (axis7 {} [(MOT_AX_CTRL_EN, 7, 0)]).b MOT_AX_CTRL_EN 7 = false ∧
      (axis7 {} [(REDUN_STATUS_ROLE_STATE, 0, 2)]).b MOT_AX_CTRL_EN 7 = true) ∧
    (let d := axDesc 0x0701 [(17, 1, 2), (18, 1, 1)];
      let m := axis7 {};
      m.starts 0x0701 d ∧ Descs.fld d 17 1 ≤ 2 ∧ Descs.fld d 18 1 ≤ 1 ∧ ¬ Descs.fld (axDesc 0x0701 [(17, 1, 3)]) 17 1 ≤ 2 ∧
      (m.axis 7).remain.isSome = false ∧ (m.axis 7).count = 0 ∧ (m.axis 7).home.isSome = false ∧ ((axis7 run7).axis 7).count ≠ 0 ∧
      (m.r MOT_STATUS_QSTOP).testBit 7 = false ∧ m.ilkBlocks 7 = false ∧ m.b MOT_AX_STATUS_CHATTER 7 = false ∧ m.limitActive 7 true = false ∧
      (axis7 {} [(MOT_AX_STATUS_SW, 7, 4)]).limitActive 7 true = true ∧ ((axis7 {} [(MOT_STATUS_QSTOP, 0, 128)]).r MOT_STATUS_QSTOP).testBit 7 = true ∧
      Descs.fld (axDesc 0x0701) 17 1 = 0 ∧ ((axis7 {} [(MOT_AX_STATUS_SW, 7, 1)]).r MOT_AX_STATUS_SW 7).testBit 0 = true ∧
      ((axis7 {} [(MOT_AX_STATUS_SW, 7, 4)]).r MOT_AX_STATUS_SW 7).testBit 0 = false) ∧
    (let m := axis7 { remain := some (mv7, -100) };
      (axis7 {}).starts 0x0702 (axDesc 0x0702) ∧ (axis7 {}).inMotion 7 = false ∧ (axis7 run7).inMotion 7 = true ∧ m.starts 0x0703 (axDesc 0x0703) ∧
      ((axis7 {}).axis 7).remain = none ∧ (m.axis 7).remain = some (mv7, -100) ∧ m.b MOT_AX_STATUS_UNCERTAIN 7 = false ∧ (m.axis 7).count < 16 ∧
      16 ≤ ((axis7 { remain := some (mv7, -100), queue := List.replicate 16 mv7 }).axis 7).count ∧
      m.moveCheck 7 (!mv7.rel) (-100) = none ∧ m.moveCheck 7 (!mv7.rel) (-101) = some 0x13 ∧ (m.w MOT_AX_STATUS_UNCERTAIN 1 7).b MOT_AX_STATUS_UNCERTAIN 7 = true ∧
      m.starts 0x0704 (axDesc 0x0704) ∧ (m.axis 7).stop = none) ∧
    (let m := axis7 {} [(MOT_AX_CTRL_EN, 7, 0)];
      let bad := axis7 {} [(MOT_AX_CTRL_EN, 7, 0), (MOT_AX_STOP_STOP_DEC, 7, 99)];
      m.b MOT_AX_CTRL_EN (7 : Fin 8) = false ∧ m.r MOT_AX_VMAX_VMAX (7 : Fin 8) ≤ m.r MOT_AX_STOP_STOP_MS (7 : Fin 8) * m.r MOT_AX_STOP_STOP_DEC (7 : Fin 8) ∧
      m.ri MOT_AX_TRAVEL_MIN_ALL (7 : Fin 8) < m.ri MOT_AX_TRAVEL_MAX_ALL (7 : Fin 8) ∧
      bad.r MOT_AX_STOP_STOP_MS (7 : Fin 8) * bad.r MOT_AX_STOP_STOP_DEC (7 : Fin 8) < bad.r MOT_AX_VMAX_VMAX (7 : Fin 8) ∧ bad.b MOT_AX_CTRL_EN (7 : Fin 8) = false) := by
  unfold Mach.starts; refine ⟨?_, ?_, ?_, ?_⟩ <;> decide +kernel

/-- AxesMoveHomeAndStop: heads of the queue that start, wait, expire and fail their check; moves at their end, too fast to rest there, and short of it; a standby; bridges on
and off; homing in each phase; switches with three and four transitions, debounced in each case, under HALT's stop too; stops with each ending; holds due. -/
theorem witness_AxesMoveHomeAndStop :
    (let q : Axis := { queue := [mv7] };
      let m := axis7 q;
      (m.axis (7 : Fin 8)).run = none ∧ (m.axis (7 : Fin 8)).remain = none ∧ (m.axis (7 : Fin 8)).home = none ∧ (m.axis (7 : Fin 8)).stop = none ∧
      m.takes .motion = true ∧ m.b MOT_AX_CTRL_EN (7 : Fin 8) = true ∧ m.isActive = true ∧ (m.axis (7 : Fin 8)).queue = mv7 :: [] ∧ mv7.sched = false ∧
      mv7.rel = false ∧ mv7.target = -100 ∧ m.moveCheck (7 : Fin 8) (!mv7.rel) mv7.target = none ∧
      (axis7 q [(MOT_AX_STATUS_HOMED, 7, 0)]).moveCheck (7 : Fin 8) (!mv7.rel) mv7.target = some 0x12 ∧
      ({ mv7 with sched := true } : Move).sched = true ∧ (axis7 q [(MOT_AX_STATUS_STATE, 7, 7)]).axState (7 : Fin 8) = 7 ∧ m.axState (7 : Fin 8) ≠ 7 ∧
      0 ≤ diff32 m.pt m.pt ∧ diff32 m.pt (m.pt + 1) < 0 ∧
      (m.r MOT_AX_CFG_LATE_WIN (7 : Fin 8) : Int) < diff32 m.pt (m.pt + 2 ^ 32 - m.r MOT_AX_CFG_LATE_WIN (7 : Fin 8) - 1) ∧
      m.moveCheck (7 : Fin 8) (!mv7.rel) (m.moveEnd (7 : Fin 8) mv7) = none) ∧
    (let m := axis7 run7 [(MOT_AX_POS_ALL, 7, 4294967196)];
      (m.axis (7 : Fin 8)).run = some (mv7, m.pos (7 : Fin 8)) ∧ (m.axis (7 : Fin 8)).stop = none ∧ (m.axis (7 : Fin 8)).queue = [] ∧
      m.joint (7 : Fin 8) mv7 (m.pos (7 : Fin 8)) = none ∧ m.canRest (7 : Fin 8) mv7.dec = true ∧ m.isActive = true ∧
      (m.w MOT_AX_VEL_ALL 1000 7).canRest (7 : Fin 8) mv7.dec = false ∧ (axis7 run7 [(REDUN_STATUS_ROLE_STATE, 0, 2)]).isActive = false ∧
      (let j := axis7 { run := some ({ mv7 with blend := true }, 0), queue := [mv7] } [(MOT_AX_VEL_ALL, 7, 4294967295)];
        (j.axis (7 : Fin 8)).run = some ({ mv7 with blend := true }, j.pos (7 : Fin 8)) ∧ (j.axis (7 : Fin 8)).stop = none ∧
        (j.joint (7 : Fin 8) { mv7 with blend := true } (j.pos (7 : Fin 8))).isSome = true ∧ j.canReach (7 : Fin 8) mv7.dec 0 = true ∧
        (j.w MOT_AX_VEL_ALL 1000 7).canReach (7 : Fin 8) mv7.dec 998 = false) ∧
      (axis7 run7).pos (7 : Fin 8) ≠ -100 ∧ ((axis7 {}).axis (7 : Fin 8)).run = none) ∧
    ((axis7 {}).b MOT_AX_STATUS_BRIDGE (7 : Fin 8) = false ∧ (axis7 {} [(MOT_AX_STATUS_BRIDGE, 7, 1)]).b MOT_AX_STATUS_BRIDGE (7 : Fin 8) = true ∧
      (axis7 {} [(MOT_AX_VEL_ALL, 7, 4294967295)]).vel (7 : Fin 8) ≠ 0) ∧
    (((axis7 { home := some (home7 2 .search) }).axis (7 : Fin 8)).home = some (home7 2 .search) ∧ ((axis7 { home := some (home7 2 .search) }).axis (7 : Fin 8)).stop = none ∧ (home7 2 .search).kind = 2 ∧ (home7 2 .search).phase = .search ∧
      (home7 1 .search).kind ≠ 2 ∧ (home7 2 .latch).phase ≠ .search ∧ (home7 0 .found).phase = .found ∧ (home7 0 .final).phase = .final) ∧
    (let w := fun (l : List Nat) => Tabs.val ((axis7 { sw := [(2, { times := l })] }).axis (7 : Fin 8)).sw {} (2 : Fin 3);
      ((w [900, 981, 981, 981]).times.filter (fun t => (axis7 {}).now < t + 20)).length = 3 ∧
      ((w [981, 981, 981, 981]).times.filter (fun t => (axis7 {}).now < t + 20)).length = 4) ∧
    (let m := axis7 { run7 with sw := [(2, { raw := true })] };
      let h := axis7 { home := some (home7 0 .search), sw := [(0, { raw := true })] };
      m.heldLong (7 : Fin 8) (Tabs.val (m.axis (7 : Fin 8)).sw {} (2 : Fin 3)) = true ∧ m.heldLong (7 : Fin 8) { raw := true, last := some 1000 } = false ∧
      h.heldLong (7 : Fin 8) (Tabs.val (h.axis (7 : Fin 8)).sw {} (0 : Fin 3)) = true ∧
      (let o : AxisStop := ⟨stSTOPPED, false, true, false, 1000, 0, 100⟩;
        ((axis7 { run7 with stop := some o, sw := [(2, { raw := true })] }).axis (7 : Fin 8)).stop = some o ∧ o.off = false) ∧
      (Tabs.val (m.axis (7 : Fin 8)).sw {} (2 : Fin 3)).raw = true ∧ (m.r MOT_AX_STATUS_SW (7 : Fin 8)).testBit (2 : Fin 3) = false ∧
      (m.axis (7 : Fin 8)).home = none ∧ (m.axis (7 : Fin 8)).stop = none ∧ (m.axis (7 : Fin 8)).run = some (mv7, -100) ∧
      (2 : Fin 3).val = (if (-100 : Int) < m.pos (7 : Fin 8) then 2 else 1) ∧
      (Tabs.val (h.axis (7 : Fin 8)).sw {} (0 : Fin 3)).raw = true ∧ (h.r MOT_AX_STATUS_SW (7 : Fin 8)).testBit (0 : Fin 3) = false ∧
      (h.axis (7 : Fin 8)).home = some (home7 0 .search) ∧ (h.axis (7 : Fin 8)).stop = none ∧ (home7 0 .search).kind = 0 ∧
      ((axis7 { sw := [(1, { raw := true })] }).axis (7 : Fin 8)).run = none) ∧
    (let k : AxisStop := ⟨stSTOPPED, true, false, false, 1000, 0, 100⟩;
      let m := axis7 { run7 with stop := some k };
      m.canRest (7 : Fin 8) k.dec = true ∧ (m.w MOT_AX_VEL_ALL 2 7).canRest (7 : Fin 8) k.dec = false ∧
      (let g := axis7 { home := some (home7 0 .final) }; g.canRest (7 : Fin 8) (g.homeAcc (7 : Fin 8)) = true) ∧
      (m.axis (7 : Fin 8)).stop = some k ∧ k.off = true ∧ k.due ≤ m.now ∧ k.dis = false ∧ (m.axis (7 : Fin 8)).run.isSome = true ∧
      m.now < ({ k with due := 1001 } : AxisStop).due ∧ ({ k with dis := true } : AxisStop).dis = true ∧
      ((axis7 { home := some (home7 0 .final) }).axis (7 : Fin 8)).stop = none) ∧
    (((axis7 { restAt := some 900 }).axis (7 : Fin 8)).restAt = some 900 ∧ 900 + 100 ≤ (axis7 {}).now ∧ (axis7 {}).now < 901 + 100) := by
  refine ⟨?_, ?_, ?_, ?_, ?_, ?_, ?_, ?_⟩ <;> decide +kernel

/-- ShardRecordsAreWrittenReadAndCleared: an entry written with the log full, with records lost and none, the block lost, in its own tick, during a clear; SEQs of the
longest body; a master that is heard, not heard, and the host before READY; cursors before, in and past the log; window states. -/
theorem witness_ShardRecordsAreWrittenReadAndCleared :
    (let e : ShardEv := ⟨List.replicate 52 1, 0, 0, 3⟩;
      let m : Mach := { base with shard := { queue := [e], lostPending := 1, scanned := true }, nv := { base.nv with shardNext := 65536 },
                                  intc := { base.intc with ticks := 1 } };
      base.shardFree = false ∧ m.shard.queue = e :: [] ∧ m.shardFree = true ∧
      ({ m with intc := base.intc } : Mach).shardFree = false ∧ (m.w SHARD_STATUS_CLEARING 1).shardFree = false ∧ 0 < m.shard.lostPending ∧ ([] : List ShardEv).length < 256 ∧
      base.shard.lostPending = 0 ∧ (m.w INTC_BLK_FAULT_STATE 3 30).shardFree = false ∧ 4294967295 < 2 ^ 32) ∧
    (let m : Mach := { up with nv := { base.nv with shardNext := 65537, shardOldest := 1 } };
      m.hears (15 : Fin 16) = true ∧ m.hears (0 : Fin 16) = false ∧ base.hears (1 : Fin 16) = false ∧ m.nv.shardNext ≤ (65537 : BitVec 32).toNat ∧
      (65536 : BitVec 32).toNat < m.nv.shardNext ∧ m.nv.shardOldest ≤ (65536 : BitVec 32).toNat ∧ (0 : BitVec 32).toNat < m.nv.shardOldest ∧
      (m.shardWin (15 : Fin 16)).adv = false ∧ (m.shardWin (15 : Fin 16)).status = 3 ∧
      (let n := m.setShardWin 15 { adv := true, status := 0 };
        (n.shardWin (15 : Fin 16)).adv = true ∧ (n.shardWin (15 : Fin 16)).status ≠ 3 ∧ n.hears (15 : Fin 16) = true)) ∧
    (let m : Mach := { base with shard := { clear := [(dsc 0x0901, 5)], scanned := true }, intc := { base.intc with ticks := 6 } };
      base.shard.clear = [] ∧ m.shard.clear = (dsc 0x0901, 5) :: [] ∧ 5 < m.now ∧ m.shardUp = true ∧ m.shard.scanned = true ∧ base.now ≤ 5 ∧
      base.shard.scanned = false) ∧
    base.starts 0x0900 (dsc 0x0900) := by
  unfold Mach.starts; refine ⟨?_, ?_, ?_, ?_⟩ <;> decide +kernel

/-- A CLEAR_CONFIRM of ticket 7 with a response. -/
def confirm (v : Nat) : Desc := { dsc 0x0901 with body := BitVec.ofNat 384 (7 + v % 2 ^ 64 * 2 ^ 32) }
theorem small_bits (x lo n : Nat) (h : x < 2 ^ 96) : bits (BitVec.ofNat 384 x).toNat lo n = x / 2 ^ lo % 2 ^ n := by
  rw [BitVec.toNat_ofNat, Nat.mod_eq_of_lt (Nat.lt_of_lt_of_le h (Nat.pow_le_pow_right (n := 2) (by decide) (by decide))), bits,
    Nat.shiftRight_eq_div_pow]
theorem confirm_response (v : Nat) (h : v < 2 ^ 64) : Descs.fld (confirm v) 20 8 = v := by
  rw [Descs.fld, confirm, small_bits _ _ _ (by omega)]; omega
theorem confirm_ticket (v : Nat) : Descs.fld (confirm v) 16 2 = 7 := by
  rw [Descs.fld, confirm, small_bits _ _ _ (by omega)]; omega

/-- ShardRecordsAreWrittenReadAndCleared: CLEAR_CONFIRM without an arm, with another ticket, at the deadline and after it, with a right
response and a wrong one, with no key. -/
theorem witness_ShardRecordsAreWrittenReadAndCleared_confirm :
    let a : ShardArm := ⟨5, 7, 6⟩;
    let m : Mach := { base with shard := { arm := some a }, nv := { base.nv with mkey := some 9 }, intc := { base.intc with ticks := 6 } };
    let late : Mach := { m with intc := { base.intc with ticks := 7 } };
    base.shard.arm = none ∧ m.shard.arm = some a ∧ a.ticket ≠ Descs.fld (dsc 0x0901) 16 2 ∧ m.now ≤ a.deadline ∧ a.deadline < late.now ∧
    m.nv.mkey = some 9 ∧ base.nv.mkey = none ∧
    (∃ d, m.starts 0x0901 d ∧ a.ticket = Descs.fld d 16 2 ∧ clearResponse 9 a.challenge = Descs.fld d 20 8) ∧
    (∃ d, a.ticket = Descs.fld d 16 2 ∧ ∀ k, m.nv.mkey = some k → clearResponse k a.challenge ≠ Descs.fld d 20 8) := by
  have hr : clearResponse 9 5 < 2 ^ 64 := Nat.mod_lt _ (by decide)
  refine ⟨by decide +kernel, by decide +kernel, by decide +kernel, by decide +kernel, by decide +kernel, by decide +kernel, by decide +kernel,
    ⟨confirm (clearResponse 9 5), ?_, (confirm_ticket _).symm, (confirm_response _ hr).symm⟩,
    ⟨confirm ((clearResponse 9 5 + 1) % 2 ^ 64), (confirm_ticket _).symm, ?_⟩⟩
  · exact ⟨rfl, rfl⟩
  · intro k hk
    obtain rfl : 9 = k := Option.some.inj hk
    rw [confirm_response _ (Nat.mod_lt _ (by decide))]; show clearResponse 9 5 ≠ _; omega

/-- A container's header and table: one part of kind t whose digest begins with b, and a length. -/
def ctr (t b len : Nat) : List Byte :=
  List.replicate 32 0 ++ le 4 len ++ List.replicate 4 0 ++ [1] ++ List.replicate 471 0 ++ le 1 t ++ List.replicate 31 0 ++ le 1 b ++ List.replicate 31 0

/-- A part that has received bytes, with a chunk in host memory. -/
def staging (recv : List Byte) (l : List (Field × Nat × Nat) := [(UPD_STATUS_STAGE, 0, 1)]) : Mach :=
  { rg l up with upd := { recv := recv } }

/-- UpdatesAreStagedTriedAndKept: chunks without buffer, on trial, out of place, of a short header; the last chunk but one, the last one. -/
theorem witness_UpdatesAreStagedTriedAndKept_staging :
    let d := dscBuf 0x0A00 [(16, 4, 576)] 0x8000 16;
    let h := dscBuf 0x0A00 [] 0x8000 511;
    let m := staging (ctr 9 0 592);
    m.starts 0x0A00 d ∧ Descs.buf d = true ∧ Descs.buf (dsc 0x0A00) = false ∧ m.r UPD_STATUS_TRIAL = 0 ∧ (m.w UPD_STATUS_TRIAL 1).r UPD_STATUS_TRIAL ≠ 0 ∧
    Descs.fld d 16 4 = m.upd.recv.length ∧ Descs.fld d 16 4 ≠ 0 ∧ m.r UPD_STATUS_STAGE = 1 ∧ up.r UPD_STATUS_STAGE ≠ 1 ∧ Descs.fld h 16 4 = 0 ∧ m.upd.sched = none ∧
    m.headerCheck (m.bufRd h) = some (1, 0x10) ∧
    (let l := m.upd.recv ++ m.bufRd d; 512 + 64 * ctrParts l ≤ 576 ∧ l.length = ctrTotal l ∧ partFail l = none) ∧
    (let l := (staging (ctr 9 0 593)).upd.recv ++ m.bufRd d; 512 + 64 * ctrParts l ≤ 576 ∧ l.length < ctrTotal l) := by
  unfold Mach.starts; decide +kernel

/-- One part of no length whose digest is another. -/
theorem partFail_one (l : List Byte) (h0 : ctrParts l = 1) (h1 : entRange (ctrEntry l 0) = false) (h2 : entLen (ctrEntry l 0) = 0)
    (h3 : Config.sha256 [] ≠ leAt (ctrEntry l 0) 32 32) : partFail l = some 0 := by
  rw [partFail, h0]
  simp [List.range, List.range.loop, h1, h2, h3]

theorem witness_UpdatesAreStagedTriedAndKept_partFails :
    ∃ b, let m := staging (ctr 1 b 592);
      let l := m.upd.recv ++ m.bufRd (dscBuf 0x0A00 [(16, 4, 576)] 0x8000 16);
      512 + 64 * ctrParts l ≤ 576 ∧ l.length = ctrTotal l ∧ partFail l = some 0 := by
  by_cases h : Config.sha256 [] = 0
  · refine ⟨1, by decide +kernel, by decide +kernel, partFail_one _ (by decide +kernel) (by decide +kernel) (by decide +kernel) ?_⟩
    rw [h]; decide +kernel
  · refine ⟨0, by decide +kernel, by decide +kernel, partFail_one _ (by decide +kernel) (by decide +kernel) (by decide +kernel) ?_⟩
    intro e; exact h (e.trans (by decide +kernel))

/-- UpdatesAreStagedTriedAndKept: ACTIVATE at its bounds and beyond, unstepped, without a READY bank, in the ACTIVE role, at once and
scheduled; the scheduled time; COMMIT and REVERT; BOOTCFG_SET; keys; a trial that succeeds, waits, or runs out. -/
theorem witness_UpdatesAreStagedTriedAndKept_trial :
    (let d := fun (s f : Nat) => dsc 0x0A01 [(16, 2, s), (18, 1, f), (20, 4, 1)];
      let m := staging [] [(UPD_STATUS_STAGE, 0, 2)];
      m.starts 0x0A01 (d 60 2) ∧ 60 ≤ Descs.fld (d 60 2) 16 2 ∧ Descs.fld (d 3600 2) 16 2 ≤ 3600 ∧ Descs.fld (d 59 2) 16 2 ≠ 0 ∧ Descs.fld (d 59 2) 16 2 < 60 ∧
      (Descs.fld (d 60 2) 18 1).testBit 1 = true ∧ (Descs.fld (d 60 2) 18 1).testBit 2 = false ∧ m.r UPD_STATUS_STAGE = 2 ∧ m.isActive = false ∧
      m.mirrorApart = false ∧ m.upd.sched = none ∧ m.upd.reset = none ∧ m.stepped = false ∧ (Descs.fld (d 0 6) 18 1).testBit 2 = true ∧ Descs.fld (d 0 6) 16 2 = 0 ∧
      up.r UPD_STATUS_STAGE ≠ 2 ∧ (m.w REDUN_STATUS_ROLE_STATE 1).isActive = true ∧ (Descs.fld (d 60 2) 18 1).testBit 3 = false ∧
      (let s := m.w TIME_STATUS_STEP_LOCK 1;
        let t : Mach := { s with time := { s.time with sec := originSec } };
        t.stepped = true ∧ t.isActive = false ∧ t.starts 0x0A01 (d 0 6) ∧ diff32 t.pt (Descs.fld (d 0 6) 20 4) < 0 ∧ t.r UPD_STATUS_STAGE = 2)) ∧
    (let a : Activation := ⟨dsc 0x0A01, ⟨300, false, false, 0⟩, false, 0, 0⟩;
      let m : Mach := { base with time := { base.time with sec := originSec }, upd := { sched := some a } };
      base.upd.sched = none ∧ m.upd.sched = some a ∧ 0 ≤ diff32 m.pt a.startPt ∧ m.isActive = false ∧ diff32 m.pt ({ a with startPt := 1 } : Activation).startPt < 0) ∧
    (let m := base.w UPD_STATUS_TRIAL 2;
      m.starts 0x0A02 (dsc 0x0A02) ∧ m.r UPD_STATUS_TRIAL = 2 ∧ base.r UPD_STATUS_TRIAL ≠ 2 ∧ m.starts 0x0A03 (dsc 0x0A03) ∧ m.starts 0x0A04 (dsc 0x0A04) ∧
      base.starts 0x0A02 (dsc 0x0A02) ∧ base.starts 0x0A03 (dsc 0x0A03) ∧
      m.starts 0x0A05 (dsc 0x0A05 [(16, 1, 2)]) ∧ 1 < Descs.fld (dsc 0x0A05 [(16, 1, 2)]) 16 1 ∧ Descs.fld (dsc 0x0A05 [(16, 1, 1)]) 16 1 ≤ 1 ∧
      m.starts 0x0A05 (dsc 0x0A05 [(16, 1, 1)]) ∧ base.starts 0x0A06 (dsc 0x0A06) ∧ base.nv.mkey = none) ∧
    (let m : Mach := { rg [(UPD_STATUS_TRIAL, 0, 1)] up with upd := { settingsRead := true, trialEnd := some 0, trial := some ⟨300, true, false, 0⟩ }, ist := { base.ist with pairs := [8, 9] } };
      m.r UPD_STATUS_TRIAL = 1 ∧ m.ready = true ∧ m.isSafe = false ∧ 8 ∈ m.ist.pairs ∧ 9 ∈ m.ist.pairs ∧ m.upd.settingsRead = true ∧ m.microcodeUp = true ∧
      (∀ u ∈ m.upd.trialEnd, m.now ≤ u) ∧ m.upd.trial = some ⟨300, true, false, 0⟩ ∧ m.upd.reset = none ∧ m.upd.trialEnd = some 0 ∧ 0 ≤ m.now ∧
      base.r UPD_STATUS_TRIAL ≠ 1) := by
  unfold Mach.starts; refine ⟨?_, ?_, ?_, ?_⟩ <;> decide +kernel

/-- UpdatesAreStagedTriedAndKept: MKEY_SET over an old key, with a wrong MIC. -/
theorem witness_UpdatesAreStagedTriedAndKept_wrongMic :
    ∃ d, Descs.fld d 32 8 ≠ aes128 9 (Descs.fld d 16 16) % 2 ^ 64 ∧ base.starts 0x0A06 d := by
  by_cases h : aes128 9 0 % 2 ^ 64 = 0
  · refine ⟨dsc 0x0A06 [(32, 8, 1)], ?_, rfl, rfl⟩
    have a : Descs.fld (dsc 0x0A06 [(32, 8, 1)]) 32 8 = 1 := by decide +kernel
    have b : Descs.fld (dsc 0x0A06 [(32, 8, 1)]) 16 16 = 0 := by decide +kernel
    rw [a, b, h]; decide
  · refine ⟨dsc 0x0A06, ?_, rfl, rfl⟩
    have a : Descs.fld (dsc 0x0A06) 32 8 = 0 := by decide +kernel
    have b : Descs.fld (dsc 0x0A06) 16 16 = 0 := by decide +kernel
    rw [a, b]; exact fun e => h e.symm

/-- ResetsLatchTheSiteAndStartAgain: the part held and not, a power failure, the command's value and another, resets due at their tick and
as grant leaves, and boot phases at their limit and past it. -/
theorem witness_ResetsLatchTheSiteAndStartAgain :
    (let m := fun (b : BootSt) => ({ base with boot := b } : Mach);
      (m { held := true }).boot.held = true ∧ base.boot.held = false ∧ (m { powerFail := true, above := 10 }).boot.powerFail = true ∧ base.boot.powerFail = false ∧
      10 ≤ (m { powerFail := true, above := 10 }).boot.above ∧ (m { powerFail := true, above := 9 }).boot.above < 10 ∧ (⟨false, false, 0⟩ : PowerUp).vbat = false ∧
      Tabs.rising none base.nv.slots = true ∧
      (0xC1A70001#32 ≠ 0xC1A70000#32) ∧ ({ base with met := { restored := true } } : Mach).met.restored = true ∧ base.met.stopped = false) ∧
    (let m := fun (r : PlannedReset) => ({ base with upd := { reset := some r } } : Mach);
      (m ⟨0, none, false⟩).upd.reset = some ⟨0, none, false⟩ ∧ 0 ≤ base.now ∧ (m ⟨1, none, true⟩).upd.reset = some ⟨1, none, true⟩ ∧
      base.b REDUN_STATUS_GRANTED = false ∧ base.upd.reset = none) ∧
    (let m := fun (p t : Nat) => ({ rg [(PWR_BOOT_STATUS_PHASE, 0, p)] with intc := { base.intc with ticks := t } } : Mach);
      (m 3 801).phase = 3 ∧ (m 3 801).boot.phaseStart + 800 < (m 3 801).now ∧ (m 4 3001).phase = 4 ∧ (m 4 3001).boot.phaseStart + 3000 < (m 4 3001).now ∧
      ¬ (m 3 800).boot.phaseStart + 800 < (m 3 800).now) := by
  refine ⟨?_, ?_, ?_⟩ <;> decide +kernel

/-- A part in a boot phase with a valid bank 1. -/
def booting (p : Nat) : Mach :=
  let m := rg [(PWR_BOOT_STATUS_PHASE, 0, p)]
  { m with nv := { m.nv with banks := [(1, { valid := true })], bootBank := 1 } }

/-- BootAdvancesAndTestsRun: every phase with its outcomes. -/
theorem witness_BootAdvancesAndTestsRun_boot :
    ((booting 1).phase = 1 ∧ (booting 1).boot.held = false ∧ (booting 2).phase ≠ 1) ∧
    ((booting 2).phase = 2 ∧ (booting 2).nv.timeouts < 3 ∧ (booting 2).r ID_STRAPS_ALL / 2 % 4 = 0 ∧ ((booting 2).bank 1).valid = true ∧
      (booting 2).nv.bootBank ≤ 1 ∧ (booting 2).nv.onTrial = none ∧ ((booting 2).w ID_STRAPS_ALL 6).r ID_STRAPS_ALL / 2 % 4 = 3 ∧
      (let m : Mach := { booting 2 with nv := { base.nv with timeouts := 3 } }; 3 ≤ m.nv.timeouts ∧ m.phase = 2) ∧
      (booting 2).bankPasses 1 true = true ∧ (booting 2).bankPasses 1 false = false ∧
      (let m : Mach := { booting 2 with nv := { (booting 2).nv with onTrial := some ⟨300, false, false, 0⟩ } };
        m.nv.onTrial.isSome = true ∧ m.phase = 2 ∧ m.bankPasses 1 false = false)) ∧
    ((booting 3).phase = 3 ∧ (booting 3).partsPass true (fun t => t ≤ 2) = true ∧ (booting 3).partsPass false (fun t => t ≤ 2) = false ∧
      (booting 3).boot.trial = false ∧ ({ booting 3 with boot := { tried := true } } : Mach).boot.tried = true) ∧
    ((booting 4).phase = 4 ∧ (booting 4).partsPass true (fun t => decide (2 < t)) = true ∧ (booting 4).isSafe = false ∧ ((booting 4).w INTC_STATUS_SAFE_STATE 1).isSafe = true ∧
      (booting 4).bootSettings = some { schema := 1 } ∧ (booting 4).b REDUN_STATUS_GRANTED = false) := by
  refine ⟨?_, ?_, ?_, ?_⟩ <;> decide +kernel

/-- A part after READY at a tick, with an idle slot begun. -/
def testing (ticks : Nat) (l : List (Field × Nat × Nat) := []) : Mach :=
  { rg ([(TIME_STATUS_STEP_LOCK, 0, 1), (IST_CTRL_EN_1_4, 0, 15), (IST_CTRL_EN_6_7, 0, 3)] ++ l) up with
    intc := { base.intc with ticks := ticks }, time := { base.time with sec := originSec },
    air := { base.air with slot := some 0, phase := 1, permitFirst := true } }

/-- BootAdvancesAndTestsRun: each test due and not, with its outcomes; the last tick of the day before coverage is overdue. -/
theorem witness_BootAdvancesAndTestsRun_tests :
    ((testing 0).istRuns 2 = true ∧ (testing 0).istDue 2 0 (1000 * (testing 0).r IST_PERIOD_SRAM_SHARED_S) = true ∧ (testing 0).ist.sharedSpare = some 16 ∧ (testing 0).ist.sharedCopy = none ∧
      (let m : Mach := { testing 0 with ist := { (testing 0).ist with sharedCopy := some 0 } };
        m.ist.sharedSpare = some 16 ∧ m.ist.sharedCopy = some 0 ∧ m.sharedDue = false) ∧
      up.ready = true ∧ base.istRuns 2 = false) ∧
    (let m := testing 5 [(GNSS_CH_STATUS_STATE, 455, 3)];
      m.istRuns 3 = true ∧ m.istDue 3 0 (1000 * m.r IST_PERIOD_GNSS_SPARE_S) = true ∧ m.gnss.test = none ∧ m.spareToTest = some 455 ∧ base.istRuns 3 = false ∧
      (let t : Mach := { m with gnss := { m.gnss with test := some (455, 5) } };
        t.gnss.test = some (455, 5) ∧ 5 ≤ t.now ∧ (455 < 456) ∧ (testing 4).now < 5)) ∧
    (let m := testing 10000;
      m.istRuns 4 = true ∧ m.istDue 4 (7 : Fin 8) 10000 = true ∧ m.inSlot = true ∧ m.air.phase ≠ 0 ∧ m.laneOfModem (7 : Fin 8) = none ∧
      (m.slotKind != kPERMIT && m.slotKind != kJOIN && !m.dam.burst) = true ∧ (m.r AIR_STATUS_MODEM_FAIL).testBit (7 : Fin 8) = false ∧
      -43 ≤ (-43 : BitVec 8).toInt ∧ (-37 : BitVec 8).toInt ≤ -37 ∧ (-44 : BitVec 8).toInt < -43 ∧ Tabs.val m.ist.laneFail 0 (7 : Fin 8) = 0 ∧
      0 < Tabs.val [((7 : Nat), (1 : Nat))] 0 (7 : Fin 8)) ∧
    ((testing 0).istRuns 6 = true ∧ (testing 0).istDue 6 0 10000 = true ∧ (∀ v ∈ [(-500 : Int), 500], -500 ≤ v ∧ v ≤ 500) ∧ (500 : Int) < 501 ∧
      (testing 0).istRuns 7 = true ∧ (testing 0).istDue 7 0 1000 = true ∧ base.istRuns 6 = false ∧ base.istRuns 7 = false) ∧
    ((testing 0).istRuns 8 = true ∧ (testing 0).istDue 8 0 1 = true ∧ (testing 0).r INTC_BLK_FAULT_STATE 18 ≠ 3 ∧ (testing 0).istRuns 9 = true ∧
      (testing 0).istDue 9 0 1 = true ∧ (testing 0).r INTC_BLK_FAULT_STATE 14 ≠ 3 ∧ base.istRuns 8 = false) ∧
    ((testing 86400000).ready = true ∧ (testing 86400000).recovery = false ∧ (testing 86400000).b IST_STATUS_OVERDUE = false ∧
      (testing 86400000).ist.start + 86400000 ≤ (testing 86400000).now ∧ ¬ (testing 86399999).ist.start + 86400000 ≤ (testing 86399999).now) := by
  refine ⟨?_, ?_, ?_, ?_, ?_, ?_⟩ <;> decide +kernel

/-- RegisterCommandsReadAndWrite: masters that are not heard. BootAdvancesAndTestsRun: a unit held in reset. -/
theorem witness_RegisterCommandsReadAndWrite_notHeard : base.hears (1 : Fin 16) = false ∧ base.hears (0 : Fin 16) = false := by decide +kernel
theorem witness_BootAdvancesAndTestsRun_held : ({ base with boot := { held := true } } : Mach).boot.held = true := rfl

/-! ### Single steps and worked examples of the spec -/

/-- Something of the state an outcome leaves. -/
def after {α : Type} (o : Res) (f : Mach → α) : Option α :=
  match o with
  | .next s => some (f s.m)
  | _ => none

/-- The worked example of the channels of one slot (07): the slot that begins at ST80 1,793,836,800 s, 20,000,000 ns, and its channels. -/
theorem test_slot_and_channels :
    ({ base with time := { base.time with sec := 1793836800, ns := 20000000 } } : Mach).asn = 54000000005 ∧
    (List.range 6).map (fun x => hopAM.getD ((54000000005 + 2 * x) % 21) 0) = [7, 2, 18, 13, 8, 3] ∧
    (List.range 6).map (fun x => hopAU.getD ((54000000005 + x) % 10) 0) = [5, 8, 1, 4, 7, 0] := by decide +kernel

/-- ST32 of ST80 10 s, 0 ns (00). -/
theorem test_st32 : ({ base with time := { base.time with sec := 10, ns := 0 } } : Mach).st32 = 1410065408 := by decide +kernel

/-- The worked example of ring pair 5 (02), step 8: a tail of 16 halts the ring pair with CAUSE 1. -/
theorem test_tail_16_halts :
    after (exec (.submissionDoorbell 5 16) (T (rg [(HIF_RP_STATUS_STATE, 5, 1), (HIF_RP_CFG_SIZE_LOG2, 5, 4)])))
      (fun m => (m.r HIF_RP_STATUS_STATE 5, m.r HIF_RP_STATUS_CAUSE 5)) = some (2, 1) := by decide +kernel

/-- The same example, step 4: 3 descriptors more. -/
theorem test_tail_wraps :
    after (exec (.submissionDoorbell 5 2) (T ((rg [(HIF_RP_STATUS_STATE, 5, 1), (HIF_RP_CFG_SIZE_LOG2, 5, 4)]).setRing 5 { tail := 15 })))
      (fun m => ((m.ring 5).tail, (m.ring 5).outstanding)) = some (2, 3) := by decide +kernel

/-- The worked example of a late compare (01): 1.25 ms late with a window of 3 ms and of 1 ms; status of the completion. -/
theorem test_late_compare :
    let d := dsc 0x0502 [(18, 1, 0), (20, 6, originSec + 100), (26, 4, 500000000)];
    let m := fun (w : Nat) =>
      let m := ringOn.setRing 0 { outstanding := 1, delivered := [d] };
      let m := rg [(PWR_BOOT_STATUS_PHASE, 0, 5), (TIME_CTRL_ENABLE, 0, 1), (TIME_STATUS_STEP_LOCK, 0, 1), (TIME_CMP_CFG_LATE_WIN, 0, w)] m;
      ({ m with time := { m.time with sec := originSec + 100, ns := 501250000 } } : Mach);
    after (exec (.compareSet d) (T (m 3))) (fun m => (m.hostRd 0x3000 16).getD 2 0) = some 1 ∧
    after (exec (.compareSet d) (T (m 1))) (fun m => (m.hostRd 0x3000 16).getD 2 0) = some 2 := by decide +kernel

/-- The worked example of a Sync through a switch in P2P mode (12): 1,536.5 ns of residence and 212.0 ns of link delay; the suffix
takes up the change of the one's complement sum, 114,589,696 being 0x06D4 × 2^16 + 0x8000. -/
theorem test_sync_correction :
    let f := syncFrame 0x86DD 0 54;
    let m := rg [(TIME_PTP_CFG_DELAY, 0, 1)];
    let m : Mach := { m with time := { m.time with links := [(0, 848)] } };
    m.tcAdd f = 114589696 ∧ beAt (f.corrected 114589696) 70 8 = 114589696 ∧ beAt (f.corrected 114589696) 106 2 + 0x06D4 + 0x8000 = 65535 ∧
    after (exec (.ptpEventForward f) (T m)) (fun m => m.r TIME_TC_FRAMES_ALL) = some 1 := by decide +kernel

/-- CRC-32's published check value, as a frame's FCS. -/
theorem test_eth_fcs : (withEthFcs [49, 50, 51, 52, 53, 54, 55, 56, 57]).drop 9 = le 4 0xCBF43926 := by decide +kernel

/-- AES-128 of FIPS 197, appendix C.1: bytes in order, the first the lowest here; deciphering leads back. -/
theorem test_aes128 :
    aes128 0x0F0E0D0C0B0A09080706050403020100 0xFFEEDDCCBBAA99887766554433221100 = 0x5AC5B47080B7CDD830047B6AD8E0C469 ∧
    unaes128 0x0F0E0D0C0B0A09080706050403020100 0x5AC5B47080B7CDD830047B6AD8E0C469 = 0xFFEEDDCCBBAA99887766554433221100 := by decide +kernel

/-- The worked example of crossings between two reads (14): queue 600 after its six operations. -/
theorem test_crossings :
    let m := rg [(SAG_Q_WM_HI, 600, 100), (SAG_Q_WM_LO, 600, 20), (SAG_POOL_FREE_FREE, 0, 1000)];
    let m := [64, 128, 138, 18, 108, 8].foldl (fun m n => m.setCells 600 (List.replicate n 0)) m;
    (m.r SAG_Q_STATUS_LEVEL 600, m.r SAG_Q_STATUS_ABOVE_HI 600, m.r SAG_Q_STATUS_HI_SEEN 600, m.r SAG_Q_STATUS_LO_SEEN 600,
      m.r SAG_Q_STATUS_CROSS_CNT 600, m.r SAG_POOL_FREE_FREE) = (8, 0, 1, 1, 4, 992) := by decide +kernel

/-- CRC-32C's published check value. -/
theorem test_crc32c : crc32c [49, 50, 51, 52, 53, 54, 55, 56, 57] = 0xE3069283 := by decide +kernel

/-- CRC-24Q's published check value (zero start) for the same bytes. -/
theorem test_crc24q : crc24q (bitsOf [49, 50, 51, 52, 53, 54, 55, 56, 57]) = 0xCDE703 := by decide +kernel

/-- A step takes the command at the front; an empty queue idles. -/
theorem test_step_order :
    (match step { T up with pending := [.lockAcquireRead 15 3, .lockAcquireRead 2 3] } with
      | .next s => decide (s.pending = [.lockAcquireRead 2 3] ∧ s.mb.owner 3 = 15)
      | _ => false) = true ∧ step (T up) = .next (T up) := by
  exact ⟨by decide +kernel, rfl⟩

/-- The worked example of a holdover (12): with the defaults and U0 = 50 ns, U is 9,988 ns at 554 s and 10,008 ns at 555 s. -/
theorem test_holdover :
    let m : Mach := { base with time := { base.time with u0 := 50 } };
    m.uncertAt 554 / 1000000 = 9988 ∧ m.uncertAt 555 / 1000000 = 10008 := by decide +kernel

/-- R503 worked by hand: S[0] to S[3] are 1, 2, 4, 5 and the last four entries are 255; the register file after reset is in order. -/
theorem test_sine_table :
    (State.reset.m.r MOT_TBL_ENTRIES 0 0 = 0x05040201 ∧ State.reset.m.r MOT_TBL_ENTRIES 7 63 = 0xFFFFFFFF ∧ sineTable.length = 256) ∧
    Tabs.rising none resetRegs = true := by
  constructor <;> decide +kernel

/-- R503 worked by hand with the default currents (IRUN 128): at position 0 coil A gets 128 and B 1; at −1 coil B is negative. -/
theorem test_coils :
    let m := fun (p : Nat) => rg [(MOT_AX_STATUS_BRIDGE, 7, 1), (MOT_AX_POS_ALL, 7, p)] resetMach;
    (m 0).coilCodes 7 = some ((128, false), (1, false)) ∧ (m 0xFFFFFFFF).coilCodes 7 = some ((128, false), (1, true)) ∧
    resetMach.coilCodes 7 = none := by decide +kernel

/-- R51, R77: the host reads the identity, BAR1's place, the fetch index of ring 0, and the write index and phase of its completion ring. -/
theorem test_host_reads :
    let m := (rg [(HIF_RP_STATUS_SQ_HEAD, 0, 7)]).setRing 0 { cqWrite := 5, phase := true };
    let out := fun (sp : Space) (off : Nat) => after (exec (.readClearRegisterRead 1 sp off) (T m)) (fun m => m.out);
    out .config 0x00 = some [.hostRead .config 0x00 0x05121E9C] ∧ out .config 0x08 = some [.hostRead .config 0x08 0x1180000B] ∧
    out .config 0x14 = some [.hostRead .config 0x14 0] ∧ out .bar2 0 = some [.hostRead .bar2 0 7] ∧
    out .bar2 0x200 = some [.hostRead .bar2 0x200 0x10005] := by decide +kernel

/-- R488 worked by hand: a GAIN of 32,768 leaves a voltage sample as it is, one of 33,816 adds 1,048 parts in 2^20. -/
theorem test_voltage_gain :
    (rg [(MET_VCAL_GAIN, 0, 32768)]).calVoltage 0 (-3) = -3 * 2 ^ 20 ∧ (rg [(MET_VCAL_GAIN, 0, 33816)]).calVoltage 0 2 = 2 * (2 ^ 20 + 1048) := by
  decide +kernel

/-- IEEE 1149.1: five edges with TMS high lead to Test-Logic-Reset from every state. -/
theorem test_tap_reset (t : TapState) : ((((t.next true).next true).next true).next true).next true = .reset := by cases t <;> rfl

/-- R530, R531: the scan of a log with records 0 and 1 and a torn slot 2; each master reads its own cursor. -/
theorem test_shard_scan :
    let log (l : List Byte) : NvSt := { base.nv with shard := [(0, recordBytes 0 [] 0), (1, recordBytes 1 [] 0), (2, l)] }
    (log []).scanNext = 2 ∧ (log []).scanTorn = true ∧ (log (recordBytes 2 [] 0)).scanNext = 3 ∧
    (log (recordBytes 2 [] 0)).scanTorn = false := by decide +kernel
theorem test_shard_cursor :
    let m := up.setShardWin 2 { cursor := 7 }
    m.readWord 2 SHARD_CURSOR_reg.base = 7 ∧ m.readWord 1 SHARD_CURSOR_reg.base = 0 := by decide +kernel

end Sys2Proof.Tests
end

section
/-! PROOFS. Well-formed commands complete: what the shared forms of a command's meaning answer (`State.on`, `State.mbox`, a
reset), and `exec` command by command. -/

namespace Sys2Proof.Machine

open Sys2Proof

/-- The answer is a next state, and its queue is that of `s`. -/
def Completes (s : State) (r : Res) : Prop := ∃ t, r = .next t ∧ t.pending = s.pending

theorem completes_next (s : State) : Completes s (.next s) := ⟨_, rfl, rfl⟩

theorem completes_on (s : State) (f : Mach → Mach) : Completes s (s.on f) := ⟨_, rfl, rfl⟩

theorem completes_mbox (s : State) (f : MbSt → Mach → MbSt × Mach) : Completes s (s.mbox f) := ⟨_, rfl, rfl⟩

theorem completes_reboot (s : State) (m : Mach) (cause : Nat) (torn : Bool) (revert : Option Nat) (held : Bool) :
    Completes s (({ s with m := m }).reboot cause torn revert held) := ⟨_, rfl, rfl⟩

theorem completes_ite (s : State) (c : Prop) [Decidable c] {a b : Res} (ha : Completes s a) (hb : Completes s b) :
    Completes s (if c then a else b) := by
  split
  · exact ha
  · exact hb

/-- A part that fails its hash leaves the unit in a reset, or on its other bank. -/
theorem completes_partBad (s : State) : Completes s s.partBad :=
  completes_ite s _ (completes_reboot s s.m 5 false (some 1) false) (completes_on s _)

/-! The commands that touch more than the part, one by one. -/

theorem completes_registerWrite (a : Fin 16) (space : Space) (off : Nat) (v : BitVec 32) (s : State)
    (h : accessOk space off = true) : Completes s (execRegisterWrite a space off v s) := by
  rw [execRegisterWrite, if_pos h]
  exact completes_on s _

theorem completes_readClearRegisterRead (a : Fin 16) (space : Space) (off : Nat) (s : State)
    (h : accessOk space off = true) : Completes s (execReadClearRegisterRead a space off s) := by
  rw [execReadClearRegisterRead, if_neg (by simp [h])]
  split
  · exact completes_mbox s _
  · exact completes_on s _

theorem completes_wideValueLowWordRead (a : Fin 16) (off : Nat) (s : State) (h : accessOk .bar0 off = true) :
    Completes s (execWideValueLowWordRead a off s) := by
  rw [execWideValueLowWordRead, if_pos h]
  exact completes_on s _

theorem completes_bootRomPhaseDone (link : Option (Fin 4 × Fin 5)) (okA okB : Bool) (s : State) :
    Completes s (execBootRomPhaseDone link okA okB s) :=
  completes_ite s _ (completes_next s) <|
    completes_ite s _ (completes_reboot s s.m 5 false (some 1) false) (completes_on s _)

theorem completes_safetyPairsPhaseDone (ok : Bool) (s : State) : Completes s (execSafetyPairsPhaseDone ok s) :=
  completes_ite s _ (completes_next s) <| completes_ite s _ (completes_on s _) (completes_partBad s)

/-- Settings that can be read lead to READY, others to a reset. -/
theorem completes_appCorePhaseDone (ok keyOk bkOk : Bool) (s : State) :
    Completes s (execAppCorePhaseDone ok keyOk bkOk s) := by
  refine completes_ite s _ (completes_next s) (completes_ite s _ (completes_partBad s) ?_)
  dsimp only
  split
  · exact completes_on { s with m := s.m.idRecords keyOk bkOk } _
  · exact completes_reboot s _ 5 false (some 4) false

/-- Every command of the table that is well formed completes; the others act through `State.on`, `State.mbox` or a reset. -/
theorem completes_exec (c : Instr) (s : State) (h : c.wellFormed = true) : Completes s (exec c s) := by
  cases c with
  | registerWrite a space off v => exact completes_registerWrite a space off v s h
  | readClearRegisterRead a space off => exact completes_readClearRegisterRead a space off s h
  | wideValueLowWordRead a off => exact completes_wideValueLowWordRead a off s h
  | powerOnReset up => exact completes_reboot s _ 1 up.torn none false
  | resetPin torn => exact completes_ite s _ (completes_next s) (completes_reboot s s.m 2 torn none false)
  | vinFallHoldInReset => exact completes_reboot s s.m 1 false none true
  | powerFailRestart => exact completes_ite s _ (completes_reboot s s.m 3 false none false) (completes_next s)
  | unitResetCommand v => exact completes_ite s _ (completes_reboot s _ 4 false none false) (completes_next s)
  | activationReset => exact completes_ite s _ (completes_reboot s _ 5 false _ false) (completes_next s)
  | bootTimeout => exact completes_ite s _ (completes_reboot s _ 6 false none false) (completes_next s)
  | bootRomPhaseDone link okA okB => exact completes_bootRomPhaseDone link okA okB s
  | safetyPairsPhaseDone ok => exact completes_safetyPairsPhaseDone ok s
  | appCorePhaseDone ok keyOk bkOk => exact completes_appCorePhaseDone ok keyOk bkOk s
  | tick inp => exact completes_mbox s _
  | mailboxPostLow m v => exact completes_mbox s _
  | mailboxPost m ch v => exact completes_mbox s _
  | mailboxPop m ch => exact completes_mbox s _
  | masterReset m => exact completes_mbox s _
  | lockAcquireRead m k => exact completes_mbox s _
  | lockReleaseWrite m k v => exact completes_mbox s _
  | pcieLinkDown after => exact completes_mbox s (fun x m => resetMaster 1 x (pcieLinkDown after m))
  | safetySiteRequest a s1 v => exact completes_on s (fun m => m.safetyWrite a s1 v.toNat)
  | safetyAgentStopRequest a s1 v => exact completes_on s (fun m => m.safetyWrite a s1 v.toNat)
  | safetyZoneStopRequest a s1 v => exact completes_on s (fun m => m.safetyWrite a s1 v.toNat)
  | _ => exact completes_on s _

/-- Settles O5: every arm of `exec` completes. -/
theorem wellFormedCommandsComplete : Obligations.WellFormedCommandsComplete := by
  unfold Obligations.WellFormedCommandsComplete
  exact completes_exec

end Sys2Proof.Machine
end

section
/-! PROOFS. What a write stores in a field (R8), by its access code. -/

namespace Sys2Proof.Machine

open Sys2Proof

/-- A set bit subtracted from a number: the number with that bit 0. -/
theorem sub_two_pow_eq_putBits (a k : Nat) (h : a.testBit k = true) : a - 2 ^ k = putBits a k 1 0 := by
  have hb : bits a k 1 = 1 := by
    have := Nat.testBit_eq_decide_div_mod_eq (x := a) (i := k)
    simp_all [bits, Nat.shiftRight_eq_div_pow]
  simp [putBits, hb, Nat.shiftLeft_eq]

/-- One step of W1C: bit `k` is cleared where it is written 1. -/
theorem clearStep_testBit (a x k i : Nat) :
    (if x.testBit k && a.testBit k then a - 2 ^ k else a).testBit i =
      (a.testBit i && !(decide (i = k) && x.testBit k)) := by
  split
  · rename_i h
    simp only [Bool.and_eq_true] at h
    rw [sub_two_pow_eq_putBits a k h.2, putBits_testBit]
    by_cases hi : i = k
    · subst hi; simp [h.1]
    · have : i < k ∨ ¬ i < k + 1 := by omega
      rcases this with h1 | h1
      · simp [h1, hi]
      · simp [h1, hi]
  · rename_i h
    by_cases hi : i = k
    · subst hi; revert h; cases x.testBit i <;> cases a.testBit i <;> simp
    · simp [hi]

/-- The bits written 1 among the first `n` are cleared, one by one. -/
theorem clearFold_testBit (x o n i : Nat) :
    ((List.range n).foldl (fun a k => if x.testBit k && a.testBit k then a - 2 ^ k else a) o).testBit i =
      (o.testBit i && !(decide (i < n) && x.testBit i)) := by
  induction n with
  | zero => simp
  | succ n ih =>
    rw [List.range_succ, List.foldl_concat, clearStep_testBit, ih]
    by_cases hi : i = n
    · subst hi; simp
    · have : i < n + 1 ↔ i < n := by omega
      simp [hi, this]

theorem Field.written_rw (f : Field) (setUp : Bool) (old v : Nat) (h : f.acc = .rw) :
    f.written setUp old v = f.lim.stored f.width (bits v f.lo f.width) := by simp [Field.written, h]

theorem Field.written_rws (f : Field) (setUp : Bool) (old v : Nat) (h : f.acc = .rws) :
    f.written setUp old v =
      if setUp then f.lim.stored f.width (bits v f.lo f.width) else bits old f.lo f.width := by
  simp [Field.written, h]

/-- A field that register writes do not change. -/
theorem Field.written_kept (f : Field) (setUp : Bool) (old v : Nat)
    (h : f.acc = .ro ∨ f.acc = .wo ∨ f.acc = .rc ∨ f.acc = .own) : f.written setUp old v = bits old f.lo f.width := by
  rcases h with h | h | h | h <;> simp [Field.written, h]

theorem Field.written_w1c_testBit (f : Field) (setUp : Bool) (old v k : Nat) (h : f.acc = .w1c) (hk : k < f.width) :
    (f.written setUp old v).testBit k = (old.testBit (f.lo + k) && !v.testBit (f.lo + k)) := by
  simp only [Field.written, h]
  rw [clearFold_testBit]
  simp [bits_testBit, hk]

theorem Field.written_w1s_testBit (f : Field) (setUp : Bool) (old v k : Nat) (h : f.acc = .w1s) (hk : k < f.width) :
    (f.written setUp old v).testBit k = (old.testBit (f.lo + k) || v.testBit (f.lo + k)) := by
  simp [Field.written, h, bits_testBit, hk]

/-- Settles O16, access code by access code. -/
theorem registerAccessCodes : Obligations.RegisterAccessCodes := by
  unfold Obligations.RegisterAccessCodes
  intro f setUp old v
  refine ⟨?stored, ?kept, fun h k hk => f.written_w1c_testBit setUp old v k h hk,
    fun h k hk => f.written_w1s_testBit setUp old v k h hk⟩
  case stored =>
    rintro (h | ⟨h, hs⟩) hl
    · rw [f.written_rw setUp old v h, hl, Lim.stored]
    · rw [f.written_rws setUp old v h, if_pos hs, hl, Lim.stored]
  case kept =>
    rintro (⟨h, hs⟩ | h)
    · rw [f.written_rws setUp old v h, if_neg (by simp [hs])]
    · exact f.written_kept setUp old v h

end Sys2Proof.Machine
end

section
/-! PROOFS. The tick and the faults of a tick (01): the clock reaches the next millisecond, what an overrun, a cell fault and an
injection record. -/

namespace Sys2Proof.Machine

open Sys2Proof

variable (m : Mach)

/-! ### The clock's step to the next millisecond (R25, R377) -/

/-- The least number of steps that lead from `now` to `next` or past it lead past it by less than one step. -/
theorem ceilSteps_bounds (now next step : Nat) (hs : 0 < step) (hn : now ≤ next) :
    next ≤ now + (next - now + step - 1) / step * step ∧ now + (next - now + step - 1) / step * step < next + step := by
  have hle := Nat.div_mul_le_self (next - now + step - 1) step
  have hlt := Nat.lt_div_mul_add hs (a := next - now + step - 1)
  omega

/-- The clock in 2^-32 ns at the first cycle at which it reaches the next whole millisecond. -/
def Mach.nextFine (m : Mach) : Nat :=
  let step := cycleStep (m.ri TIME_ADDEND_ADDEND)
  let next := ((m.time.sec * 1000000000 + m.time.ns) / 1000000 + 1) * 1000000 * 2 ^ 32
  m.time.fine + (next - m.time.fine + step - 1) / step * step

/-- The clock's tick moves the clock to that cycle, whether or not an ADDEND waits. -/
theorem Mach.clockTick_sec_ns : m.clockTick.time.sec = (m.time.setFine m.nextFine).sec ∧
    m.clockTick.time.ns = (m.time.setFine m.nextFine).ns := by
  unfold Mach.clockTick
  dsimp only
  split <;> exact ⟨rfl, rfl⟩

/-- The cycle lies in the first microsecond of the next millisecond: a cycle adds less than 5 ns. -/
theorem Mach.nextFine_bounds (hlo : -1717986 ≤ m.ri TIME_ADDEND_ADDEND) (hhi : m.ri TIME_ADDEND_ADDEND ≤ 1717986)
    (hf : m.time.frac < 2 ^ 32) :
    let ms := (m.time.sec * 1000000000 + m.time.ns) / 1000000 + 1
    ms * 1000000 ≤ m.nextFine / 2 ^ 32 ∧ m.nextFine / 2 ^ 32 < ms * 1000000 + 1000 := by
  intro ms
  have hstep : 0 < cycleStep (m.ri TIME_ADDEND_ADDEND) ∧ cycleStep (m.ri TIME_ADDEND_ADDEND) < 5 * 2 ^ 32 := by
    unfold cycleStep; omega
  have hnow : m.time.fine ≤ ms * 1000000 * 2 ^ 32 := by unfold TimeSt.fine; omega
  have hb : ms * 1000000 * 2 ^ 32 ≤ m.nextFine ∧ m.nextFine < ms * 1000000 * 2 ^ 32 + cycleStep (m.ri TIME_ADDEND_ADDEND) :=
    ceilSteps_bounds _ _ _ hstep.1 hnow
  exact ⟨(Nat.le_div_iff_mul_le (by decide)).mpr hb.1, by rw [Nat.div_lt_iff_lt_mul (by decide)]; omega⟩

/-- A clock within the next millisecond shows a millisecond count one higher. -/
theorem Mach.clockTick_msInt (hlo : -1717986 ≤ m.ri TIME_ADDEND_ADDEND) (hhi : m.ri TIME_ADDEND_ADDEND ≤ 1717986)
    (hn : m.time.ns < 1000000000) (hf : m.time.frac < 2 ^ 32) (hs : m.time.sec + 1 < 2 ^ 48) :
    m.clockTick.msInt = m.msInt + 1 := by
  have hb := m.nextFine_bounds hlo hhi hf
  obtain ⟨hsec, hns⟩ := m.clockTick_sec_ns
  simp only [Mach.msInt, hsec, hns, TimeSt.setFine]
  generalize m.nextFine / 2 ^ 32 = v at hb ⊢
  have hv : v / 1000000000 % 2 ^ 48 = v / 1000000000 := Nat.mod_eq_of_lt (by omega)
  rw [hv]
  omega

/-! What else happens in the clock's part of a tick leaves time and the tick count as they are. -/

@[simp] theorem Mach.clockTick_intc : m.clockTick.intc = m.intc := by
  unfold Mach.clockTick; dsimp only; split <;> rfl

@[simp] theorem Mach.sharedRename_time : m.sharedRename.time = m.time := by unfold Mach.sharedRename; split <;> rfl
@[simp] theorem Mach.sharedRename_intc : m.sharedRename.intc = m.intc := by unfold Mach.sharedRename; split <;> rfl
@[simp] theorem Mach.rtcTick_time : m.rtcTick.time = m.time := by unfold Mach.rtcTick; split <;> rfl
@[simp] theorem Mach.rtcTick_intc : m.rtcTick.intc = m.intc := by unfold Mach.rtcTick; split <;> rfl
@[simp] theorem Mach.calibrate_time : m.calibrate.time = m.time := by unfold Mach.calibrate; split <;> rfl
@[simp] theorem Mach.calibrate_intc : m.calibrate.intc = m.intc := by unfold Mach.calibrate; split <;> rfl

/-- A conditional update leaves a component that the update leaves. -/
theorem Mach.when_keeps {α : Type} (g : Mach → α) (c : Bool) (f : Mach → Mach) (h : ∀ x : Mach, g (f x) = g x) :
    g (m.when c f) = g m := by
  unfold Mach.when
  split
  · exact h m
  · rfl

@[simp] theorem Mach.gateTick_time : m.gateTick.time = m.time :=
  m.when_keeps Mach.time _ _ fun _ => Mach.when_keeps _ Mach.time _ _ fun _ => rfl
@[simp] theorem Mach.gateTick_intc : m.gateTick.intc = m.intc :=
  m.when_keeps Mach.intc _ _ fun _ => Mach.when_keeps _ Mach.intc _ _ fun _ => rfl

theorem Mach.tickClock_time : m.tickClock.time = m.clockTick.time := by simp [Mach.tickClock]

theorem Mach.tickClock_now : m.tickClock.now = m.now + 1 := by simp [Mach.tickClock, Mach.now]

theorem Mach.tickClock_msInt : m.tickClock.msInt = m.clockTick.msInt := by simp only [Mach.msInt, m.tickClock_time]

/-! ### TICK -/

/-- TICK of a unit held in reset: the test port and the real-time clock only (R563, R580). -/
theorem execTick_held (i : TickIn) (s : State) (h : s.m.boot.held = true) :
    exec (.tick i) s = .next (s.having (s.m.jtagTick i.jtag).rtcOn) := by
  have ht : tick i s.mb s.m = (s.mb, (s.m.jtagTick i.jtag).rtcOn) := if_pos h
  change s.mbox (tick i) = _
  rw [State.mbox, ht]
  rfl

/-- TICK of any other unit: the tick's end, the resets of masters, the next tick's begin. -/
theorem execTick_runs (i : TickIn) (s : State) (h : s.m.boot.held = false) :
    let m := s.m.jtagTick i.jtag
    let r := ((m.restarts i.restartFails).flatMap m.mastersOf).foldl (fun r k => resetMaster k r.1 r.2) (s.mb, m.tickEnd i)
    exec (.tick i) s = .next { s with mb := r.1, m := r.2.tickBegin i } := by
  intro m r
  have ht : tick i s.mb s.m = (r.1, r.2.tickBegin i) := if_neg fun hh : s.m.boot.held = true => by simp [h] at hh
  change s.mbox (tick i) = _
  rw [State.mbox, ht]

/-! ### Overruns (R17, R27 to R29) -/

/-- In the tick of the time step an overrun is exempt. -/
theorem guardPointOverrun_stepTick (b : Nat) (h : m.time.stepTick = some m.now) : guardPointOverrun b m = m :=
  if_pos (by simpa using h)

/-- In any other tick it is recorded, and raised for the tick's end. -/
theorem guardPointOverrun_raises (b : Nat) (h : m.time.stepTick ≠ some m.now) :
    guardPointOverrun b m = (m.overrun b).raise b .overrun :=
  if_neg (by simpa using h)

/-- The first overrun of a tick of a block not of class S: seen, counted, kept for the next 15 ticks. -/
theorem Mach.overrun_first (b : Nat) (hst : m.time.stepTick ≠ some m.now) (hc : classS b = false)
    (hl : (Tabs.val m.intc.overruns [] b).contains m.now = false) :
    ∃ l, m.overrun b = (({ m with intc := { m.intc with overruns := Tabs.put m.intc.overruns b l } }).w
      INTC_BLK_FAULT_OVERRUN 1 b).inc INTC_BLK_FAULT_OVERRUN_CNT b := by
  refine ⟨(Tabs.val m.intc.overruns [] b).filter (fun t => m.now ≤ t + 15) ++ [m.now], ?_⟩
  unfold Mach.overrun
  dsimp only
  rw [if_neg (by rw [hl]; simpa using hst), Mach.when, if_neg (by simp [hc])]

/-- OVERRUN and OVERRUN_CNT lie in one register. -/
theorem INTC_BLK_FAULT_OVERRUN_CNT_off (b : Nat) : INTC_BLK_FAULT_OVERRUN_CNT.off b 0 = INTC_BLK_FAULT_OVERRUN.off b 0 := rfl

/-- OVERRUN set and OVERRUN_CNT advanced, in a part. -/
theorem Mach.regs_overrun_counted (b : Nat) :
    let t := (m.w INTC_BLK_FAULT_OVERRUN 1 b).inc INTC_BLK_FAULT_OVERRUN_CNT b
    t.r INTC_BLK_FAULT_OVERRUN b = 1 ∧
    t.r INTC_BLK_FAULT_OVERRUN_CNT b = min (m.r INTC_BLK_FAULT_OVERRUN_CNT b + 1) (2 ^ INTC_BLK_FAULT_OVERRUN_CNT.width - 1) ∧
    regsKept [INTC_BLK_FAULT_OVERRUN.off b 0] m t := by
  have hcnt : (m.w INTC_BLK_FAULT_OVERRUN 1 b).r INTC_BLK_FAULT_OVERRUN_CNT b = m.r INTC_BLK_FAULT_OVERRUN_CNT b :=
    m.r_w_field _ _ _ _ _ _ _ rfl rfl (by decide) (by decide)
  refine ⟨?seen, ?count, ?kept⟩
  case seen =>
    rw [Mach.inc, Mach.incBy,
      Mach.r_w_field _ INTC_BLK_FAULT_OVERRUN_CNT INTC_BLK_FAULT_OVERRUN _ _ _ _ _ rfl rfl (by decide) (by decide),
      m.r_w_same _ _ _ _ (by decide)]
    decide
  case count =>
    rw [Mach.inc, Mach.incBy, Mach.r_w_same _ _ _ _ _ (by decide), hcnt]
    exact Nat.mod_eq_of_lt (Nat.lt_of_le_of_lt (Nat.min_le_right _ _) (by decide))
  case kept =>
    intro off ho
    have ho : off ≠ INTC_BLK_FAULT_OVERRUN.off b 0 := by simpa using ho
    rw [Mach.inc, Mach.incBy, Mach.look_w_ne _ _ _ _ _ _ (by rwa [INTC_BLK_FAULT_OVERRUN_CNT_off]), m.look_w_ne _ _ _ _ _ ho]

/-- GUARD_POINT_OVERRUN of a block not of class S, its first in this tick. -/
theorem execGuardPointOverrun_first (b : Fin 33) (s : State) (hst : s.m.time.stepTick ≠ some s.m.now)
    (hc : classS b = false) (hl : (Tabs.val s.m.intc.overruns [] b).contains s.m.now = false) :
    ∃ m' : Mach, exec (.guardPointOverrun b) s = .next (s.having ({ s.m with regs := m'.regs, intc := m'.intc })) ∧
      m'.r INTC_BLK_FAULT_OVERRUN b = 1 ∧
      m'.r INTC_BLK_FAULT_OVERRUN_CNT b =
        min (s.m.r INTC_BLK_FAULT_OVERRUN_CNT b + 1) (2 ^ INTC_BLK_FAULT_OVERRUN_CNT.width - 1) ∧
      m'.intc.faults = s.m.intc.faults ++ [(b.val, .overrun)] ∧ regsKept [INTC_BLK_FAULT_OVERRUN.off b 0] s.m m' := by
  obtain ⟨l, hl⟩ := s.m.overrun_first b hst hc hl
  obtain ⟨hseen, hcount, hkept⟩ :=
    Mach.regs_overrun_counted { s.m with intc := { s.m.intc with overruns := Tabs.put s.m.intc.overruns b l } } b
  have hg := guardPointOverrun_raises s.m b hst
  rw [hl] at hg
  refine ⟨guardPointOverrun b s.m, ?_, ?_⟩
  · change s.on (guardPointOverrun b) = _
    rw [State.on, hg]
    rfl
  · rw [hg]
    exact ⟨hseen, hcount, rfl, hkept⟩

/-! ### Cell faults (R20, R21, R48, R50) -/

/-- A corrected error posts its event only while CORR_EVENT_EN is 1. -/
theorem Mach.blkEvent_corrected (b old new : Nat) (h : m.b INTC_CTRL_CORR_EVENT_EN = false) : m.blkEvent b old new 3 = m := by
  simp [Mach.blkEvent, Mach.when, h]

theorem Mach.interEvent_corrected (h : m.b INTC_CTRL_CORR_EVENT_EN = false) : m.interEvent 3 = m := by
  simp [Mach.interEvent, Mach.when, h]

/-- The fault registers of the blocks stand apart from INTC_CTRL. -/
theorem Mach.w_blkFault_corrEventEn (f : Field) (v b : Nat) (hb : f.base = 0x20100) :
    (m.w f v b).b INTC_CTRL_CORR_EVENT_EN = m.b INTC_CTRL_CORR_EVENT_EN := by
  refine Mach.b_congr _ _ _ (m.look_w_ne _ _ _ _ _ ?_)
  simp only [Field.off, INTC_CTRL_CORR_EVENT_EN, hb]
  omega

theorem Mach.corrected_quiet (b : Nat) (h : m.b INTC_CTRL_CORR_EVENT_EN = false) :
    m.corrected b = (m.w INTC_BLK_FAULT_CORR_SEEN 1 b).inc INTC_BLK_FAULT_CORR_CNT b := by
  refine Mach.blkEvent_corrected _ _ _ _ ?_
  rw [Mach.inc, Mach.incBy, Mach.w_blkFault_corrEventEn _ _ _ _ rfl, m.w_blkFault_corrEventEn _ _ _ rfl, h]

/-- A cell fault of a block is that block's. -/
theorem cellFaultDetected_block (b : Nat) (corrected spare : Bool) (cell : Nat) (hb : b ≠ 33) :
    cellFaultDetected b corrected spare cell m = if corrected then m.corrected b else m.uncorrectable b (some cell) spare :=
  if_neg (by simpa [interconnect] using hb)

/-! ### Injection (R47) -/

theorem intcInject_refused (v : Nat) (hr : m.ready = true) (hl : m.siteLatched = false) :
    intcInject v m = m.inc INTC_INJECT_REFUSED_ALL := by simp [intcInject, hr, hl]

/-- While the site is latched an injection into a block acts by its kind. -/
theorem intcInject_latched (v : Nat) (hr : m.ready = true) (hl : m.siteLatched = true) (hb : v % 64 ≤ 32) :
    (bits v 8 2 = 0 → intcInject v m = m.corrected (v % 64)) ∧
    (bits v 8 2 = 1 → intcInject v m = m.uncorrectable (v % 64) none false) ∧
    (bits v 8 2 = 2 → intcInject v m = guardPointOverrun (v % 64) m) := by
  have hb : ¬ 32 < v % 64 := by omega
  refine ⟨?_, ?_, ?_⟩ <;> intro hk <;> simp [intcInject, hr, hl, hb, hk]

/-- Settles O19, clause by clause: TICK, the clock, overruns, cell faults, the interconnect, injection. -/
theorem ticksAndFaultsAreCounted : Obligations.TicksAndFaultsAreCounted := by
  unfold Obligations.TicksAndFaultsAreCounted
  refine ⟨?tick, ?clock, ?overrun, ?cell, ?inter, ?inject⟩
  case tick => exact fun i s => ⟨execTick_held i s, execTick_runs i s⟩
  case clock =>
    intro m hlo hhi hn hf hs
    exact ⟨m.tickClock_now, m.tickClock_msInt.trans (m.clockTick_msInt hlo hhi hn hf hs)⟩
  case overrun =>
    refine fun b s => ⟨fun h => ?_, execGuardPointOverrun_first b s⟩
    change s.on (guardPointOverrun b) = _
    rw [State.on, guardPointOverrun_stepTick _ _ h]
  case cell =>
    intro b spare cell s hb
    have hb : (b : Nat) ≠ 33 := fun h => hb (Fin.ext h)
    refine ⟨?_, fun he => ?_⟩
    · change s.on (cellFaultDetected b false spare cell) = _
      rw [State.on, cellFaultDetected_block _ _ _ _ _ hb]
      rfl
    · change s.on (cellFaultDetected b true spare cell) = _
      rw [State.on, cellFaultDetected_block _ _ _ _ _ hb, if_pos rfl, s.m.corrected_quiet b he]
      rfl
  case inter =>
    refine fun spare cell s => ⟨rfl, fun he => ?_⟩
    change s.on (fun m => m.interEvent 3) = _
    rw [State.on, s.m.interEvent_corrected he]
  case inject =>
    intro v s hr
    have hx : exec (.intcInject v) s = .next (s.having (intcInject v.toNat s.m)) := rfl
    refine ⟨fun hl => ?refused, fun hl hb hk => ?uncorrectable, fun h hl => ⟨fun hk => ?corrected, fun hk => ?overrun⟩⟩
    case refused => rw [hx, intcInject_refused _ _ hr hl]
    case uncorrectable => rw [hx, (intcInject_latched _ _ hr hl hb).2.1 hk]; rfl
    case corrected =>
      rw [hx, (intcInject_latched _ _ hr hl (by omega)).1 hk]
      change _ = s.on (cellFaultDetected (v.toNat % 64) true false 0)
      rw [State.on, cellFaultDetected_block _ _ _ _ _ (by omega)]
      rfl
    case overrun => rw [hx, (intcInject_latched _ _ hr hl (by omega)).2.2 hk]; rfl

end Sys2Proof.Machine
end

section
/-! PROOFS. Register commands (R6 to R9, R52, R75): the write of a register and of a doorbell, plain and wide reads, accesses that
are not heard. -/

namespace Sys2Proof.Machine

open Sys2Proof

variable (m : Mach)

/-! ### Writes -/

/-- A register write at an offset of its BAR acts on the part. -/
theorem exec_registerWrite (a : Fin 16) (space : Space) (off : Nat) (v : BitVec 32) (s : State) (h : accessOk space off = true) :
    exec (.registerWrite a space off v) s = .next (s.having (registerWrite a space off v.toNat s.m)) := if_pos h

/-- A master's number in 1 to 15 is not the number never issued. -/
theorem master_beq_zero (a : Fin 16) (h : a ≠ 0) : ((a : Nat) == 0) = false := by
  simpa using Fin.val_ne_zero_iff.mpr h

/-- A register without an effect beside its fields is stored by their access codes; a write that would change an RWS field
outside the set-up phase is counted with its offset (R8, R9). -/
theorem Mach.writeReg_fields (a : Fin 16) (off i j v : Nat) (g : Reg) (ha : a ≠ 0) (ho : m.regOpen a off = true)
    (hg : regAt off = some (g, i, j)) (hi : m.ignoresWrite a off i = false) (hw : ∀ b : Mach, b.wrote m a g i v = b) :
    let old := (Tabs.val m.regs (BitVec.ofNat 32 g.reset) off).toNat
    let x := m.asTaken g v
    let m' := { m with regs := Tabs.put m.regs off (BitVec.ofNat 32 (g.written (m.setUp off i) old x)) }
    m.writeReg a off v =
      if g.violates (m.setUp off i) old x then (m'.inc INTC_RWS_VIOL_ALL).w INTC_RWS_VIOL_ADDR_ALL off else m' := by
  simp only [Mach.writeReg, master_beq_zero a ha, ho, hg, hi, hw, Bool.not_true, Bool.or_self, Bool.false_eq_true, if_false]

/-- The write of a doorbell's low word acts as its doorbell; that of a high word has no effect (R74). -/
theorem exec_registerWrite_bar2 (off : Nat) (v : BitVec 32) (s : State) (h : accessOk .bar2 off = true) :
    exec (.registerWrite 1 .bar2 off v) s =
      .next (s.having (if off % 8 = 0 then ringDoorbell (off / 8) (v.toNat % 2 ^ 16) s.m else s.m)) := by
  rw [exec_registerWrite _ _ _ _ _ h]
  simp [registerWrite, Mach.writeDoorbell, Mach.when]

/-- A word of BAR2 within the 4 KB. -/
theorem accessOk_bar2 (off : Nat) (h4 : off % 4 = 0) (hlt : off < 0x1000) : accessOk .bar2 off = true := by
  simp [accessOk, h4, hlt]

/-- The low word of the submission doorbell of a ring. -/
theorem exec_registerWrite_submission (r : Fin 64) (v : BitVec 32) (s : State) :
    exec (.registerWrite 1 .bar2 (8 * r.val) v) s = exec (.submissionDoorbell r (v.setWidth 16)) s := by
  have hk : 8 * r.val / 8 = r.val := by omega
  have hv : (v.setWidth 16).toNat = v.toNat % 2 ^ 16 := BitVec.toNat_setWidth ..
  rw [exec_registerWrite_bar2 _ _ _ (accessOk_bar2 _ (by omega) (by omega)), if_pos (by omega), hk, ringDoorbell,
    if_pos r.isLt, ← hv]
  rfl

/-- The low word of the completion doorbell of a ring. -/
theorem exec_registerWrite_completion (r : Fin 64) (v : BitVec 32) (s : State) :
    exec (.registerWrite 1 .bar2 (512 + 8 * r.val) v) s = exec (.completionDoorbell r (v.setWidth 16)) s := by
  have hk : (512 + 8 * r.val) / 8 = 64 + r.val := by omega
  have hr : 64 + r.val - 64 = r.val := by omega
  have hv : (v.setWidth 16).toNat = v.toNat % 2 ^ 16 := BitVec.toNat_setWidth ..
  rw [exec_registerWrite_bar2 _ _ _ (accessOk_bar2 _ (by omega) (by omega)), if_pos (by omega), hk, ringDoorbell,
    if_neg (by omega), if_pos (by omega), hr, ← hv]
  rfl

/-- The high word of a doorbell. -/
theorem exec_registerWrite_highWord (r : Fin 64) (v : BitVec 32) (s : State) :
    exec (.registerWrite 1 .bar2 (8 * r.val + 4) v) s = .next s := by
  rw [exec_registerWrite_bar2 _ _ _ (accessOk_bar2 _ (by omega) (by omega)), if_neg (by omega)]
  rfl

/-- An offset past the 136 doorbells is counted (R75). -/
theorem ringDoorbell_unused (k v : Nat) (h : 136 ≤ k) : ringDoorbell k v m = m.inc HIF_BAD_DB_ALL := by
  rw [ringDoorbell, if_neg (by omega), if_neg (by omega), if_neg (by omega)]

/-! ### Reads -/

/-- Where no register has a read of its own, none of a mailbox or a lock stands. -/
theorem ownRead_find_none (off : Nat) (h : ownRead off = false) :
    MB_POP_LO_reg.find off = none ∧ MB_POP_HI_reg.find off = none ∧ LOCK_reg.find off = none := by
  simp only [ownRead, List.any_cons, Bool.or_eq_false_iff, Option.isSome_eq_false_iff, Option.isNone_iff_eq_none] at h
  obtain ⟨hlo, hhi, hlock, -⟩ := h
  exact ⟨hlo, hhi, hlock⟩

theorem mboxRead_none (space : Space) (a off : Nat) (h : space = .bar0 → ownRead off = false) :
    mboxRead space a off = none := by
  by_cases hs : space = .bar0
  · obtain ⟨hlo, hhi, hlock⟩ := ownRead_find_none off (h hs)
    simp [mboxRead, hs, hlo, hhi, hlock]
  · simp [mboxRead, hs]

/-- A read that acts on no mailbox and no lock acts on the part. -/
theorem exec_readClearRegisterRead (a : Fin 16) (space : Space) (off : Nat) (s : State) (h : accessOk space off = true)
    (ho : space = .bar0 → ownRead off = false) :
    exec (.readClearRegisterRead a space off) s = .next (s.having (readClearRegisterRead a space off s.m)) := by
  change execReadClearRegisterRead a space off s = _
  rw [execReadClearRegisterRead, if_neg (by simp [h]), mboxRead_none space a off ho]
  rfl

/-- A read of a register without a read of its own: the high word captured, the word given, its RC fields cleared. -/
theorem Mach.readBar0_open (a off : Nat) (hns : off ≠ TIME_NOW_NS_reg.base) (hown : ownRead off = false)
    (ho : m.regOpen a off = true) : m.readBar0 a off = ((m.captureHigh a off).readReg a off).clearRc off := by
  have hst : off ≠ SHARD_WIN_STATUS_reg.base := by rintro rfl; exact absurd hown (by decide +kernel)
  have hwin : off ≠ SHARD_WINDOW_ALL.off 15 0 := by rintro rfl; exact absurd hown (by decide +kernel)
  simp only [Mach.readBar0, beq_iff_eq, if_neg hns, if_neg hst, if_neg hwin, Mach.when, ho, if_true]

/-- The read of an ordinary register returns its word with WO and reserved bits 0. -/
theorem Mach.readWord_shown (a off i j : Nat) (g : Reg) (ho : m.regOpen a off = true) (hg : regAt off = some (g, i, j))
    (hown : ownRead off = false) (hlo : off ≠ TIME_NOW_S_LO_reg.base) (hhi : off ≠ TIME_NOW_S_HI_reg.base) :
    m.readWord a off = g.shown (Tabs.val m.regs (BitVec.ofNat 32 g.reset) off).toNat := by
  simp only [Mach.readWord, ho, Bool.not_true, Bool.false_eq_true, if_false, beq_iff_eq, if_neg hlo, if_neg hhi,
    shardWord_none m a off hown, hg]

/-- With no word captured for the master a read gives the register's own word. -/
theorem Mach.readReg_uncaptured (a off : Nat) (h : Tabs.look m.hif.wide (16 * off + a) = none) :
    m.readReg a off = m.emit (.read a off (BitVec.ofNat 32 (m.readWord a off))) := by
  simp only [Mach.readReg, h]

/-- The RC fields of a register cleared: its word with these fields 0, or nothing where it has none. -/
theorem Mach.clearRc_eq (off i j : Nat) (g : Reg) (hg : regAt off = some (g, i, j)) :
    let old := (Tabs.val m.regs (BitVec.ofNat 32 g.reset) off).toNat
    let new := g.fields.foldl (fun b f => if f.acc == .rc then putBits b f.lo f.width 0 else b) old
    m.clearRc off =
      { m with regs := if g.fields.any (fun f => f.acc == .rc) then Tabs.put m.regs off (BitVec.ofNat 32 new) else m.regs } := by
  simp only [Mach.clearRc, hg]
  split <;> rfl

/-! ### Low words and captured high words (R6) -/

/-- Nanoseconds and high seconds of the time now are no low words. -/
theorem isLowWord_ne (off : Nat) (h : isLowWord off = true) :
    off ≠ TIME_NOW_NS_reg.base ∧ off ≠ TIME_NOW_S_HI_reg.base := by
  constructor <;> (rintro rfl; exact absurd h (by decide +kernel))

/-- A read of a low word captures the high word for the master, then reads the low one. -/
theorem Mach.captureHigh_low (a off : Nat) (hlow : isLowWord off = true)
    (h : Tabs.look m.hif.wide (16 * off + a) = none) :
    m.captureHigh a off = m.capture a (off + 4) (m.readWord a (off + 4)) := by
  simp [Mach.captureHigh, Mach.when, hlow, h]

theorem Mach.captureHigh_other (a off : Nat) (h : isLowWord off = false) : m.captureHigh a off = m := by
  simp [Mach.captureHigh, Mach.when, h]

/-- A read of an ordinary register with no word captured. -/
theorem exec_readClearRegisterRead_register (a : Fin 16) (off i j : Nat) (g : Reg) (s : State)
    (h : accessOk .bar0 off = true) (ha : a ≠ 0) (ho : s.m.regOpen a off = true) (hg : regAt off = some (g, i, j))
    (hw : Tabs.look s.m.hif.wide (16 * off + a) = none) (hlow : isLowWord off = false) (hown : ownRead off = false)
    (hns : off ≠ TIME_NOW_NS_reg.base) (hhi : off ≠ TIME_NOW_S_HI_reg.base) :
    exec (.readClearRegisterRead a .bar0 off) s =
      .next (s.having ((s.m.emit (.read a off (BitVec.ofNat 32
        (g.shown (Tabs.val s.m.regs (BitVec.ofNat 32 g.reset) off).toNat)))).clearRc off)) := by
  have hlo : off ≠ TIME_NOW_S_LO_reg.base := by rintro rfl; exact absurd hlow (by decide +kernel)
  have hread : readClearRegisterRead a .bar0 off s.m = s.m.readBar0 a off :=
    if_pos (by simp [bne, master_beq_zero a ha])
  rw [exec_readClearRegisterRead a .bar0 off s h fun _ => hown, hread, s.m.readBar0_open a off hns hown ho,
    s.m.captureHigh_other a off hlow, s.m.readReg_uncaptured a off hw, s.m.readWord_shown a off i j g ho hg hown hlo hhi]

/-- A captured word changes no word that a read returns from the registers. -/
@[simp] theorem Mach.capture_readWord (a off v b o : Nat) : (m.capture a off v).readWord b o = m.readWord b o := rfl

/-- A word captured at another offset does not stand in a read's way. -/
theorem Mach.capture_look (a off v o : Nat) (h : o ≠ off) :
    Tabs.look (m.capture a off v).hif.wide (16 * o + a) = Tabs.look m.hif.wide (16 * o + a) :=
  Tabs.look_put_ne _ _ (by omega)

/-- WIDE_VALUE_LOW_WORD_READ at an offset of BAR0 acts on the part. -/
theorem exec_wideValueLowWordRead (a : Fin 16) (off : Nat) (s : State) (h : accessOk .bar0 off = true) :
    exec (.wideValueLowWordRead a off) s = .next (s.having (wideValueLowWordRead a off s.m)) := if_pos h

theorem wideValueLowWordRead_low (a : Fin 16) (off : Nat) (ha : a ≠ 0) (ho : m.regOpen a off = true)
    (hlow : isLowWord off = true) (hw : Tabs.look m.hif.wide (16 * off + a) = none) :
    wideValueLowWordRead a off m = ((m.capture a (off + 4) (m.readWord a (off + 4))).emit (.read a off
      (BitVec.ofNat 32 (m.readWord a off)))).clearRc off := by
  have hread : wideValueLowWordRead a off m = m.readBar0 a off := if_pos (by simp [hlow, bne, master_beq_zero a ha])
  rw [hread, m.readBar0_open a off (isLowWord_ne off hlow).1 (ownRead_lowWord off hlow) ho, m.captureHigh_low a off hlow hw,
    Mach.readReg_uncaptured _ _ _ (by rw [Mach.capture_look _ _ _ _ _ (by omega), hw]), Mach.capture_readWord]

/-! ### Accesses that are not heard (R35, R566) -/

theorem postLow_deaf (a v : Nat) (x : MbSt) (h : m.hears a = false) : postLow a v x m = (x, m) := by
  simp [postLow, h]

theorem post_deaf (a c v : Nat) (x : MbSt) (h : m.hears a = false) : post a c v x m = (x, m) := by
  simp [post, h]

theorem lockWrite_deaf (a k v : Nat) (x : MbSt) (h : m.hears a = false) : lockWrite a k v x m = (x, m) := by
  simp [lockWrite, h]

theorem pop_deaf (a c : Nat) (x : MbSt) (h : m.hears a = false) :
    pop a c x m = (x, m.deafRead a (MB_POP_LO_ALL.off c 0)) := by
  simp [pop, h]

theorem lockRead_deaf (a k : Nat) (x : MbSt) (h : m.hears a = false) :
    lockRead a k x m = (x, m.deafRead a (LOCK_OWNER.off k 0)) := by
  simp [lockRead, h]

/-- A change of mailboxes and part that changes the part only. -/
theorem State.mbox_part (s : State) (f : MbSt → Mach → MbSt × Mach) (t : Mach) (h : f s.mb s.m = (s.mb, t)) :
    s.mbox f = .next (s.having t) := by
  rw [State.mbox, h]
  rfl

/-- A read that is not heard answers the host 0, and no other master. -/
theorem Mach.deafRead_fin (a : Fin 16) (off : Nat) :
    m.deafRead a off = m.when (a == 1) (fun x => x.emit (.read 1 off 0)) := by
  have h : ((a : Nat) == 1) = (a == 1) := by
    rw [Bool.eq_iff_iff, beq_iff_eq, beq_iff_eq]
    exact (Fin.ext_iff (b := (1 : Fin 16))).symm
  rw [Mach.deafRead, h]

/-- Settles O17, clause by clause. -/
theorem registerCommandsReadAndWrite : Obligations.RegisterCommandsReadAndWrite := by
  unfold Obligations.RegisterCommandsReadAndWrite
  refine ⟨?write, ?unused, ?doorbells, ?doorbellRead, ?read, ?wide, ?deaf, fun s => rfl, ?outside⟩
  case write =>
    intro a off i j v g s hok ha ho hg hi hw old up x m'
    have h := s.m.writeReg_fields a off i j v.toNat g ha ho hg hi hw
    rw [exec_registerWrite _ _ _ _ _ hok]
    exact ⟨fun hv => by rw [registerWrite, h, if_neg (Bool.eq_false_iff.mp hv)],
      fun hv => by rw [registerWrite, h, if_pos hv]⟩
  case unused =>
    intro off v s hok h8 hoff
    rw [exec_registerWrite_bar2 _ _ _ hok, if_pos h8, ringDoorbell_unused _ _ _ (by omega)]
  case doorbells =>
    exact fun r v s => ⟨exec_registerWrite_submission r v s, exec_registerWrite_completion r v s,
      exec_registerWrite_highWord r v s⟩
  case doorbellRead =>
    intro off s hok h8
    rw [exec_readClearRegisterRead 1 .bar2 off s hok (by simp)]
    simp [readClearRegisterRead, Mach.when, h8]
  case read =>
    intro a off i j g s hok ha ho hg hw hlow hown hns hhi w
    have h := exec_readClearRegisterRead_register a off i j g s hok ha ho hg hw hlow hown hns hhi
    rw [Mach.clearRc_eq _ off i j g hg] at h
    refine ⟨_, h, fun o hne => ?_, fun hrc => ?_, fun hrc => ?_⟩
    · split
      · exact Tabs.look_put_ne _ _ hne
      · rfl
    · rw [if_pos hrc, Tabs.val_put_same]
      rfl
    · rw [if_neg (by simp [hrc])]
      rfl
  case wide =>
    intro a off i j g s hok ha ho hlow hg hw
    refine ⟨?_, fun hlo => s.m.readWord_shown a off i j g ho hg (ownRead_lowWord off hlow) hlo (isLowWord_ne off hlow).2⟩
    rw [exec_wideValueLowWordRead _ _ _ hok, wideValueLowWordRead_low _ a off ha ho hlow hw]
  case deaf =>
    intro a c k v s h
    refine ⟨s.mbox_part _ _ (postLow_deaf _ _ _ _ h), s.mbox_part _ _ (post_deaf _ _ _ _ _ h),
      s.mbox_part _ _ (lockWrite_deaf _ _ _ _ _ h), ?_, ?_⟩
    · rw [← Mach.deafRead_fin]
      exact s.mbox_part _ _ (pop_deaf _ _ _ _ h)
    · rw [← Mach.deafRead_fin]
      exact s.mbox_part _ _ (lockRead_deaf _ _ _ _ h)
  case outside =>
    intro a space off v s
    exact ⟨fun h => if_neg (by simp [h]), fun h => if_pos (by simp [h]), fun h => if_neg (by simp [h])⟩

end Sys2Proof.Machine
end

section
/-! PROOFS. Kiln's tick (R31, R109, R130, R433), and the enable bits of the blocks (R41, R42, R223, R230). -/

namespace Sys2Proof.Machine

open Sys2Proof

variable (m : Mach)

/-! ### Commands that act on the part -/

/-- A command that acts on the part. -/
theorem State.on_eq (s : State) (f : Mach → Mach) (t : Mach) (h : f s.m = t) : s.on f = .next (s.having t) := by
  rw [State.on, h]
  rfl

/-- A command that leaves the part as it is. -/
theorem State.on_same (s : State) (f : Mach → Mach) (h : f s.m = s.m) : s.on f = .next s := s.on_eq f s.m h

/-! ### Kiln's operations in a tick -/

/-- While Kiln takes no operation, one waits. -/
theorem Mach.kilnOp_waits (f : Mach → Mach) (st : KilnStep) (h : ¬ m.kilnFree st) : m.kilnOp f st = m := by
  obtain ⟨hf, -⟩ | ⟨-, he⟩ := m.kilnOp_cases f st
  · exact absurd hf h
  · exact he

/-- A descriptor that starts is executed by its block, whatever a refusal of it would return. -/
theorem Mach.desc_starts_res (op : Nat) (d : Desc) (f : Desc → Mach → Mach) (res : Desc → List Byte)
    (h : m.starts op d) : m.desc op d f res = f (d.as op) m := by
  obtain ⟨hw, hb⟩ := h
  change (if m.waits (d.as op) then m else if m.bufFails d then _ else f (d.as op) m) = _
  rw [hw, hb]
  rfl

/-- A descriptor that starts while Kiln takes no operation waits. -/
theorem Mach.desc_kilnOp_waits (op : Nat) (d : Desc) (f : Desc → Mach → Mach) (res : Desc → List Byte)
    (hs : m.starts op d) (h : ¬ m.kilnFree) : m.desc op d (fun d m => m.kilnOp (f d)) res = m := by
  rw [m.desc_starts_res op d _ _ hs, m.kilnOp_waits _ _ h]

theorem loadMap_waits (d : Desc) (hs : m.starts 0x0140 d) (h : ¬ m.kilnFree) : loadMap d m = m := by
  rw [loadMap, m.desc_starts_res _ d _ _ hs]
  split
  · rfl
  · exact m.kilnOp_waits _ _ h

/-- Each of Kiln's descriptors is one operation of its tick. -/
theorem execDescKiln_waits (e : Nat × (Desc → Instr)) (he : e ∈ descKiln) (d : Desc) (s : State)
    (hs : s.m.starts e.1 d) (h : ¬ s.m.kilnFree) : exec (e.2 d) s = .next s := by
  have hon : ∀ f : Mach → Mach, f s.m = s.m → s.on f = .next s := fun f hf => by rw [State.on, hf]
  simp only [descKiln, List.mem_cons, List.not_mem_nil, or_false] at he
  rcases he with rfl | rfl | rfl | rfl | rfl | rfl | rfl | rfl | rfl | rfl | rfl | rfl
  case inr.inr.inr.inl => exact hon (loadMap d) (loadMap_waits s.m d hs h)
  all_goals exact hon _ (s.m.desc_kilnOp_waits _ d _ _ hs h)

/-- The counters of Kiln's tick after one more operation. -/
theorem Mach.kilnCounted_ops :
    m.kilnCounted.r KILN_OPS_ALL = min (m.r KILN_OPS_ALL + 1) (2 ^ KILN_OPS_ALL.width - 1) := by
  unfold Mach.kilnCounted Mach.maxTo Mach.inc Mach.incBy
  rw [Mach.r_w_ne _ _ _ _ _ _ _ _ (by decide), Mach.r_w_ne _ _ _ _ _ _ _ _ (by decide), Mach.r_w_same _ _ _ _ _ (by decide)]
  exact Nat.mod_eq_of_lt (Nat.lt_of_le_of_lt (Nat.min_le_right _ _) (by decide))

/-- Settles O20: every one of the twelve is an operation of Kiln's tick, and an operation taken is counted. -/
theorem kilnTakesTwoHundredOperations : Obligations.KilnTakesTwoHundredOperations :=
  ⟨execDescKiln_waits, fun m => ⟨rfl, m.kilnCounted_ops, rfl, rfl⟩⟩

/-! ### Enable bits -/

/-- The enable and the draining bit of a block are bits of two registers. -/
theorem blkEnable_bit (b : Blk) : (blkEnable b).width = 1 ∧ (blkEnable b).lo + (blkEnable b).width ≤ 32 := by
  cases b <;> decide

theorem blkDraining_bit (b : Blk) : (blkDraining b).width = 1 ∧ (blkDraining b).lo + (blkDraining b).width ≤ 32 := by
  cases b <;> decide

theorem blkEnable_off_ne (b : Blk) : (blkDraining b).off 0 0 ≠ (blkEnable b).off 0 0 := by
  cases b <;> decide

/-- A bit reads as it was written. -/
theorem Mach.b_w_bit (f : Field) (v : Nat) (hf : f.width = 1 ∧ f.lo + f.width ≤ 32) : (m.w f v).b f = (v % 2 != 0) := by
  rw [Mach.b, m.r_w_same f v 0 0 hf.2, hf.1, Nat.pow_one]

/-- A block taken out of service: both bits read 0. -/
theorem Mach.drained_bits (b : Blk) :
    let t := (m.w (blkDraining b) 0).w (blkEnable b) 0
    t.b (blkEnable b) = false ∧ t.b (blkDraining b) = false := by
  refine ⟨Mach.b_w_bit _ _ _ (blkEnable_bit b), ?_⟩
  rw [Mach.b, Mach.r_w_ne _ _ _ _ _ _ _ _ (blkEnable_off_ne b)]
  exact m.b_w_bit _ _ (blkDraining_bit b)

/-- BLOCK_ENABLE of a block that can rise (R42). -/
theorem blockEnable_rises (b : Blk) (hr : m.ready = true) (he : m.b (blkEnable b) = false) (hb : b ≠ .air) :
    blockEnable b m = (m.w (blkEnable b) 1).blockStarts b := by
  have hn : ¬ (!m.ready || m.b (blkEnable b)) = true := by simp [hr, he]
  cases b
  case air => exact absurd rfl hb
  all_goals exact if_neg hn

theorem blockEnable_enabled (b : Blk) (he : m.b (blkEnable b) = true) : blockEnable b m = m := if_pos (by simp [he])

/-- BLOCK_DISABLE of Damper while the site is not latched (R223). -/
theorem blockDisable_damper_refused (hr : m.ready = true) (hl : m.siteLatched = false) :
    blockDisable .damper m = m.inc DAMP_REQ_REFUSED_ALL := by
  rw [blockDisable, if_neg (by simp [hr]), if_pos (by simp [hl])]

theorem blockDisable_drains (b : Blk) (hr : m.ready = true) (ht : m.takes b = true)
    (hb : b ≠ .damper ∨ m.siteLatched = true) : blockDisable b m = (m.w (blkDraining b) 1).drainStarts b := by
  have hl : ¬ (b == .damper && !m.siteLatched) = true := by
    rcases hb with hb | hb <;> simp [hb]
  rw [blockDisable, if_neg (by simp [hr]), if_neg hl, if_neg (by simp [ht])]

theorem drainComplete_idle (b : Blk) (hd : m.b (blkDraining b) = true) (hi : m.blockIdle b = true) :
    drainComplete b m = ((m.w (blkDraining b) 0).w (blkEnable b) 0).drainEnds b := if_pos (by simp [hd, hi])

/-- Only the Air region and Damper do something as their enable bit falls. -/
theorem Mach.drainEnds_none (b : Blk) (ha : b ≠ .air) (hd : b ≠ .damper) : m.drainEnds b = m := by
  cases b
  case air => exact absurd rfl ha
  case damper => exact absurd rfl hd
  all_goals rfl

/-- AIR_ENABLE judges the configuration (R230). -/
theorem airEnable_judges (hr : m.ready = true) (he : m.b AIR_CTRL_ENABLE = false) :
    airEnable m = if m.airCfgOk then ((m.w AIR_CTRL_ENABLE 1).w AIR_CTRL_CFG_ERR 0).airRefresh else m.w AIR_CTRL_CFG_ERR 1 :=
  if_neg (by simp [hr, he])

/-- Settles O18, clause by clause: enable, disable, the end of a drain, the Air region. -/
theorem blocksAreEnabledAndDrained : Obligations.BlocksAreEnabledAndDrained := by
  unfold Obligations.BlocksAreEnabledAndDrained
  refine ⟨?rises, ?enabled, ?disable, ?refused, ?complete, ?damper, ?air, ?airEnable⟩
  case rises =>
    intro b s hr he hb
    refine ⟨s.on_eq (blockEnable b) _ (blockEnable_rises _ b hr he hb), Mach.b_w_bit _ _ _ (blkEnable_bit b), ?_⟩
    rintro (rfl | rfl | rfl | rfl) <;> rfl
  case enabled => exact fun b s he => s.on_same (blockEnable b) (blockEnable_enabled _ b he)
  case disable =>
    refine fun b s hr ht => ⟨fun hb => ⟨?_, Mach.b_w_bit _ _ _ (blkDraining_bit b)⟩, ?_⟩
    · exact s.on_eq (blockDisable b) _ (blockDisable_drains _ b hr ht hb)
    · rintro rfl hl
      exact s.on_eq (blockDisable .damper) _ (blockDisable_damper_refused _ hr hl)
  case refused => exact fun s hr hl => s.on_eq (blockDisable .damper) _ (blockDisable_damper_refused _ hr hl)
  case complete =>
    intro b s hd hi ha hb
    refine ⟨s.on_eq (drainComplete b) _ ?_, s.m.drained_bits b⟩
    rw [drainComplete_idle _ b hd hi, Mach.drainEnds_none _ b ha hb]
  case damper =>
    intro s hd hi
    obtain ⟨he, hdr⟩ := s.m.drained_bits .damper
    exact ⟨_, s.on_eq (drainComplete .damper) _ (drainComplete_idle _ .damper hd hi), he, hdr, rfl⟩
  case air => exact fun s hd hi => s.on_eq (drainComplete .air) _ (drainComplete_idle _ .air hd hi)
  case airEnable =>
    intro s hr he
    have h := airEnable_judges s.m hr he
    exact ⟨fun hc => s.on_eq airEnable _ (by rw [h, if_pos hc]), fun hc => s.on_eq airEnable _ (by rw [h, if_neg (by simp [hc])])⟩

end Sys2Proof.Machine
end

section
/-! PROOFS. Captures and compares of the time unit (12): the FIFO of a channel, the decision of a target, pulses. -/

namespace Sys2Proof.Machine

open Sys2Proof

variable (m : Mach)

/-! ### Stream queues (R456, R458) -/

@[simp] theorem Mach.setStream_streamQ (q : Nat) (x : StreamQ) : (m.setStream q x).streamQ q = x :=
  Tabs.val_put_same _ _ _ _

/-- Its registers are those of the queue. -/
theorem Mach.setStream_r (q : Nat) (x : StreamQ) (f : Field) (i j : Nat) (h : f.off i j ≠ SAG_SQ_STATUS_LEVEL.off q 0) :
    (m.setStream q x).r f i j = m.r f i j := by
  unfold Mach.setStream Mach.wb
  rw [Mach.r_w_ne _ SAG_SQ_STATUS_EMPTY _ _ _ _ _ _ h, Mach.r_w_ne _ SAG_SQ_STATUS_FULL _ _ _ _ _ _ h,
    Mach.r_w_ne _ _ _ _ _ _ _ _ h]
  rfl

/-! ### The FIFO of a capture channel (R391, R392) -/

@[simp] theorem Mach.setFifo_fifo (k : Nat) (f : CapFifo) : (m.setFifo k f).fifo k = f := Tabs.val_put_same _ _ _ _

theorem Mach.setFifo_fifo_ne (k j : Nat) (f : CapFifo) (h : j ≠ k) : (m.setFifo k f).fifo j = m.fifo j :=
  Tabs.val_put_ne _ _ _ h

/-- Parts of one time unit hold the same FIFOs. -/
theorem Mach.fifo_congr {a b : Mach} (j : Nat) (h : a.time = b.time) : a.fifo j = b.fifo j := by rw [Mach.fifo, h, Mach.fifo]

/-- The entry that an edge makes. -/
def Mach.capEntry (m : Mach) (k t : Nat) (half falling : Bool) : CapEntry :=
  ⟨k, b2n (!m.stepped) + 2 * b2n falling + 4 * b2n (m.fifo k).overflow + 8 * b2n half, t / 1000000000, t % 1000000000,
    m.time.capOrder⟩

/-- The part after an edge that its channel's FIFO has room for, before waiting CAPTURE_READs are served. -/
def Mach.capStored (m : Mach) (k t : Nat) (half falling : Bool) : Mach :=
  let e := m.capEntry k t half falling
  let x := ((m.setFifo k ⟨(m.fifo k).entries ++ [e], false⟩).streamWrite 22 e.bytes).streamEnd 22 true
  { x with time := { x.time with capOrder := x.time.capOrder + 1 } }

theorem Mach.capStore_room (k t : Nat) (half falling : Bool) (hroom : (m.fifo k).entries.length < 16)
    (hreads : m.time.capReads = []) : m.capStore k t half falling = m.capStored k t half falling := by
  have hw : ∀ x : Mach, x.time.capReads = [] → x.capWake = x := fun x h => by rw [Mach.capWake, h]; rfl
  unfold Mach.capStore
  dsimp only
  rw [if_neg (by omega)]
  exact hw (m.capStored k t half falling) hreads

/-- The edge's entry joins its FIFO, no other changes; queue 22 has passed all of it. -/
theorem Mach.capStored_fifo (k t : Nat) (half falling : Bool) :
    let f := m.fifo k
    let x := m.capStored k t half falling
    x.fifo k = ⟨f.entries ++ [m.capEntry k t half falling], false⟩ ∧ (∀ j, j ≠ k → x.fifo j = m.fifo j) ∧
      (x.streamQ 22).part = [] := by
  refine ⟨m.setFifo_fifo k _, fun j hj => m.setFifo_fifo_ne k j _ hj, ?_⟩
  exact congrArg StreamQ.part (Mach.setStream_streamQ _ 22 _)

/-- The level of the FIFO follows. -/
theorem Mach.capStored_level (k : Fin 16) (t : Nat) (half falling : Bool) (hroom : (m.fifo k).entries.length < 16) :
    (m.capStored k t half falling).r TIME_CAP_STATUS_LEVEL k = (m.fifo k).entries.length + 1 := by
  have hq : TIME_CAP_STATUS_LEVEL.off k 0 ≠ SAG_SQ_STATUS_LEVEL.off 22 0 := by
    simp only [Field.off, TIME_CAP_STATUS_LEVEL, SAG_SQ_STATUS_LEVEL]; omega
  have hl : (m.setFifo k ⟨(m.fifo k).entries ++ [m.capEntry k t half falling], false⟩).r TIME_CAP_STATUS_LEVEL k =
      ((m.fifo k).entries.length + 1) % 2 ^ 5 := by
    unfold Mach.setFifo
    rw [Mach.r_w_same _ _ _ _ _ (by decide)]
    simp [TIME_CAP_STATUS_LEVEL]
  change (Mach.setStream _ 22 _).r TIME_CAP_STATUS_LEVEL k = _
  rw [Mach.setStream_r _ _ _ _ _ _ hq]
  change (Mach.setStream _ 22 _).r TIME_CAP_STATUS_LEVEL k = _
  rw [Mach.setStream_r _ _ _ _ _ _ hq, hl]
  exact Nat.mod_eq_of_lt (by omega)

/-- An edge that its channel's full FIFO has no room for. -/
theorem Mach.capStore_full (k t : Nat) (half falling : Bool) (h : 16 ≤ (m.fifo k).entries.length) :
    m.capStore k t half falling = (((m.setFifo k { m.fifo k with overflow := true }).incBy TIME_CAP_STATUS_DROPS 1 k).event
      0x0505 2 29 (le 1 k)) := if_pos h

/-- It is lost, and noted by the channel's overflow and drop count. -/
theorem Mach.capStore_lost (k : Fin 16) (t : Nat) (half falling : Bool) (h : 16 ≤ (m.fifo k).entries.length) :
    let x := m.capStore k t half falling
    x.fifo k = { m.fifo k with overflow := true } ∧ (∀ j, j ≠ k.val → x.fifo j = m.fifo j) ∧
      x.r TIME_CAP_STATUS_DROPS k = min (m.r TIME_CAP_STATUS_DROPS k + 1) (2 ^ TIME_CAP_STATUS_DROPS.width - 1) := by
  intro x
  have hx : x.time = (m.setFifo k { m.fifo k with overflow := true }).time := by
    simp only [x, m.capStore_full k t half falling h, Mach.incBy, Mach.event_time, Mach.w_time]
  refine ⟨(Mach.fifo_congr _ hx).trans (m.setFifo_fifo k _), fun j hj => (Mach.fifo_congr _ hx).trans
    (m.setFifo_fifo_ne k j _ hj), ?_⟩
  have hb : (m.setFifo k { m.fifo k with overflow := true }).r TIME_CAP_STATUS_DROPS k = m.r TIME_CAP_STATUS_DROPS k :=
    Mach.r_w_field _ TIME_CAP_STATUS_LEVEL TIME_CAP_STATUS_DROPS _ _ _ _ _ rfl rfl (by decide) (by decide)
  have hq : quietOff (TIME_CAP_STATUS_DROPS.off k 0) := by
    simp only [quietOff, Field.off, TIME_CAP_STATUS_DROPS]; omega
  simp only [x, m.capStore_full k t half falling h]
  rw [Mach.r_event _ _ _ _ _ _ _ _ hq, Mach.incBy, Mach.r_w_same _ _ _ _ _ (by decide), hb]
  exact Nat.mod_eq_of_lt (Nat.lt_of_le_of_lt (Nat.min_le_right _ _) (by decide))

/-! ### CAPTURE_INPUT_EDGE -/

/-- The time of an edge in the tick in progress. -/
def Mach.edgeAt (m : Mach) (ns : Nat) : Nat := m.totalNs / 1000000 * 1000000 + ns

theorem captureInputEdge_selected (k ns : Nat) (half falling : Bool) (h : m.edgeOk k falling = true) :
    captureInputEdge k ns half falling m =
      let x := if m.b TIME_CAP_CFG_EN k && m.takes .time then m.capStore k (m.edgeAt ns) half falling else m
      if k == 0 then x.ppsEdge (m.edgeAt ns) else x := by
  rw [captureInputEdge, if_neg (by simp [h])]
  rfl

/-- On a channel other than 0 an edge is captured, or it has no effect. -/
theorem captureInputEdge_captures (k ns : Nat) (half falling : Bool) (h : m.edgeOk k falling = true) (hk : k ≠ 0) :
    captureInputEdge k ns half falling m =
      if m.b TIME_CAP_CFG_EN k && m.takes .time then m.capStore k (m.edgeAt ns) half falling else m := by
  rw [captureInputEdge_selected m k ns half falling h]
  dsimp only
  rw [if_neg (by simpa using hk)]

/-- On channel 0 it goes to EXTERNAL either way. -/
theorem captureInputEdge_pps (ns : Nat) (half falling : Bool) (h : m.edgeOk 0 falling = true) :
    captureInputEdge 0 ns half falling m =
      (if m.b TIME_CAP_CFG_EN 0 && m.takes .time then m.capStore 0 (m.edgeAt ns) half falling else m).ppsEdge (m.edgeAt ns) := by
  rw [captureInputEdge_selected m 0 ns half falling h]
  rfl

/-! ### CAPTURE_READ -/

theorem captureRead_takes (d : Desc) (hs : m.starts 0x0504 d) (hb : Descs.buf d = true) (hl : 16 ≤ Descs.len d)
    (ht : m.takes .time = true) : captureRead d m =
      if (m.capHeld (Descs.fld d 20 2)).isEmpty then
        { m with time := { m.time with capReads := m.time.capReads ++ [d.as 0x0504] } }
      else m.capServe (d.as 0x0504) := by
  have hf : firstOf [(!Descs.buf (d.as 0x0504) || decide (Descs.len (d.as 0x0504) < 16), stRANGE),
      (!m.takes .time, stNOT_ENABLED)] = none := by
    change firstOf [(!Descs.buf d || decide (Descs.len d < 16), stRANGE), (!m.takes .time, stNOT_ENABLED)] = none
    simp [firstOf, hb, ht, hl]
  rw [captureRead, m.desc_starts _ d _ hs]
  dsimp only
  rw [hf]
  rfl

/-! ### A compare channel -/

@[simp] theorem Mach.cmpDrive_time (k : Nat) (active : Bool) : (m.cmpDrive k active).time = m.time := by
  unfold Mach.cmpDrive; split <;> rfl

@[simp] theorem Mach.cmpDrive_b (k : Nat) (active : Bool) (f : Field) (i j : Nat) :
    (m.cmpDrive k active).b f i j = m.b f i j := by
  unfold Mach.cmpDrive; split <;> rfl

theorem Mach.setCmp_time (k : Nat) (c : CmpChan) :
    (m.setCmp k c).time = { m.time with cmps := Tabs.put m.time.cmps k c } :=
  Mach.when_keeps _ Mach.time _ _ fun x => x.cmpDrive_time k _

theorem Mach.setCmp_cmp (k : Nat) (c : CmpChan) : (m.setCmp k c).cmp k = c := by
  rw [Mach.cmp, m.setCmp_time]; exact Tabs.val_put_same _ _ _ _

theorem Mach.setCmp_cmp_ne (k j : Nat) (c : CmpChan) (h : j ≠ k) : (m.setCmp k c).cmp j = m.cmp j := by
  rw [Mach.cmp, m.setCmp_time]; exact Tabs.val_put_ne _ _ _ h

/-- ARMED shows whether a target waits. -/
theorem Mach.setCmp_armed (k : Nat) (c : CmpChan) : (m.setCmp k c).b TIME_CMP_STATUS_ARMED k = c.armed.isSome := by
  refine (Mach.when_keeps _ (fun x => x.b TIME_CMP_STATUS_ARMED k) _ _ fun x => x.cmpDrive_b k _ _ _ _).trans ?_
  unfold Mach.b Mach.wb
  rw [Mach.r_w_field _ TIME_CMP_STATUS_RUNNING TIME_CMP_STATUS_ARMED _ _ _ _ _ rfl rfl (by decide) (by decide),
    Mach.r_w_same _ _ _ _ _ (by decide)]
  cases c.armed.isSome <;> rfl

/-- A fired channel is active, with no target left. -/
theorem Mach.cmpFire_cmp (k : Nat) (d : Desc) (at_ st : Nat) :
    (m.cmpFire k d at_ st).cmp k = { m.cmp k with armed := none, active := true, periodic := false,
                                                  endAt := at_ + 1000 * m.r TIME_CMP_WIDTH_WIDTH_US k } := by
  rw [Mach.cmp, Mach.cmpFire, Mach.complete_time]
  exact m.setCmp_cmp k _

/-- A channel is periodic as its PERIODIC has it while it is idle (R405). -/
theorem Mach.cmpPeriodic_idle (k : Nat) :
    ((m.cmp k).active = true → m.cmpPeriodic k = (m.cmp k).periodic) ∧
    ((m.cmp k).active = false → (m.cmp k).armed.isSome = true → m.cmpPeriodic k = false) ∧
    ((m.cmp k).active = false → (m.cmp k).armed = none → m.cmpPeriodic k = m.b TIME_CMP_CFG_PERIODIC k) := by
  refine ⟨fun h => if_pos h, fun h ha => ?_, fun h ha => ?_⟩ <;> simp [Mach.cmpPeriodic, h, ha]

/-! ### COMPARE_SET and COMPARE_CANCEL (R44, R394) -/

/-- The late rule of R44, by the lateness of a target. -/
theorem Mach.cmpDecide_early (k : Nat) (d : Desc) (target : Nat) (late : Int) (h : late ≤ 0) :
    m.cmpDecide k d target late = m.setCmp k { m.cmp k with armed := some (d, target) } := by
  simp [Mach.cmpDecide, dueOf, h]

theorem Mach.cmpDecide_late (k : Nat) (d : Desc) (target : Nat) (late : Int) (h : 0 < late)
    (hw : late ≤ 1000000 * (m.r TIME_CMP_CFG_LATE_WIN k : Int)) : m.cmpDecide k d target late = m.cmpFire k d m.totalNs stLATE := by
  simp [Mach.cmpDecide, dueOf, hw, Int.not_le.mpr h]

theorem Mach.cmpDecide_expired (k : Nat) (d : Desc) (target : Nat) (late : Int) (h : 0 < late)
    (hw : 1000000 * (m.r TIME_CMP_CFG_LATE_WIN k : Int) < late) :
    m.cmpDecide k d target late = (m.setCmp k { m.cmp k with armed := none }).complete d stEXPIRED := by
  simp [Mach.cmpDecide, dueOf, Int.not_le.mpr hw, Int.not_le.mpr h]

theorem compareSet_noChannel (d : Desc) (hs : m.starts 0x0502 d) (hk : 15 < Descs.fld d 18 1) :
    compareSet d m = m.complete (d.as 0x0502) stRANGE := by
  have hk : (decide (Descs.fld (d.as 0x0502) 18 1 > 15)) = true := decide_eq_true hk
  rw [compareSet, m.desc_starts _ d _ hs]
  simp only [firstOf, hk, Bool.true_or, if_true]

/-- COMPARE_SET in FULL mode of a channel that there is. -/
theorem compareSet_full (d : Desc) (hs : m.starts 0x0502 d) (hk : Descs.fld d 18 1 ≤ 15)
    (hm : m.b TIME_CMP_CFG_MODE (Descs.fld d 18 1) = false) (hn : Descs.fld d 26 4 < 1000000000)
    (ht : m.takes .time = true) :
    let k := Descs.fld d 18 1
    let target := Descs.fld d 20 6 * 1000000000 + Descs.fld d 26 4
    compareSet d m =
      if m.cmpPeriodic k || (m.cmp k).armed.isSome then m.complete (d.as 0x0502) 0x12
      else if m.stepped then m.cmpDecide k (d.as 0x0502) target ((m.totalNs : Int) - target)
      else m.setCmp k { m.cmp k with armed := some (d.as 0x0502, target) } := by
  intro k target
  have hfld : ∀ o n, Descs.fld (d.as 0x0502) o n = Descs.fld d o n := fun _ _ => rfl
  rw [compareSet, m.desc_starts _ d _ hs]
  simp only [hfld, firstOf, hm, ht, gt_iff_lt, ge_iff_le, decide_eq_false (Nat.not_lt.mpr hk),
    decide_eq_false (Nat.not_le.mpr hn), Bool.not_false, Bool.not_true, Bool.and_false, Bool.false_and, Bool.or_false,
    Bool.false_eq_true, if_false]
  by_cases hb : (m.cmpPeriodic k || (m.cmp k).armed.isSome) = true
  · rw [if_pos hb, if_pos hb]
  · rw [if_neg hb, if_neg hb]

theorem compareCancel_takes (d : Desc) (hs : m.starts 0x0503 d) (hk : Descs.fld d 18 1 ≤ 15) (ht : m.takes .time = true) :
    let k := Descs.fld d 18 1
    (∀ e u, (m.cmp k).armed = some (e, u) → compareCancel d m =
      (((m.setCmp k { m.cmp k with armed := none }).complete e 0x13).complete (d.as 0x0503) stOK (le 1 0))) ∧
    ((m.cmp k).armed = none → compareCancel d m = m.complete (d.as 0x0503) stOK (le 1 1)) := by
  intro k
  have hfld : ∀ o n, Descs.fld (d.as 0x0503) o n = Descs.fld d o n := fun _ _ => rfl
  rw [compareCancel, m.desc_starts _ d _ hs]
  simp only [hfld, firstOf, ht, gt_iff_lt, decide_eq_false (Nat.not_lt.mpr hk), Bool.not_true, Bool.false_eq_true, if_false]
  exact ⟨fun e u h => by rw [h], fun h => by rw [h]⟩

/-! ### COMPARE_MATCH, COMPARE_PERIODIC_PULSE, COMPARE_PULSE_END (R393 to R395) -/

theorem compareMatch_idle (k : Nat) (h : (m.cmp k).armed = none) : compareMatch k m = m := by rw [compareMatch, h]

theorem compareMatch_armed (k : Nat) (e : Desc) (u : Nat) (h : (m.cmp k).armed = some (e, u)) :
    compareMatch k m = if m.stepped && m.byTickEnd u then m.cmpFire k e u stOK else m := by rw [compareMatch, h]

/-- A pulse of a periodic channel begins in this tick. -/
def Mach.pulseDue (m : Mach) (k : Nat) : Prop :=
  let ms := m.totalNs / 1000000
  m.stepped = true ∧ m.takes .time = true ∧ m.cmpPeriodic k = true ∧ ms % m.r TIME_CMP_PERIOD_PERIOD_MS k = 0 ∧
    (m.cmp k).pulseMs ≠ some ms ∧ (m.time.stepTick = some m.now → m.totalNs = ms * 1000000)

/-- The condition as COMPARE_PERIODIC_PULSE tests it. -/
theorem Mach.pulseDue_iff (k : Nat) : m.pulseDue k ↔
    (m.stepped && m.takes .time && m.cmpPeriodic k && m.totalNs / 1000000 % m.r TIME_CMP_PERIOD_PERIOD_MS k == 0 &&
      (m.cmp k).pulseMs != some (m.totalNs / 1000000) &&
      (m.time.stepTick != some m.now || m.totalNs == m.totalNs / 1000000 * 1000000)) = true := by
  simp only [Mach.pulseDue, Bool.and_eq_true, Bool.or_eq_true, bne_iff_ne, beq_iff_eq, and_assoc, imp_iff_not_or, ne_eq]

theorem comparePeriodicPulse_due (k : Nat) (h : m.pulseDue k) :
    let ms := m.totalNs / 1000000
    let p := m.r TIME_CMP_PERIOD_PERIOD_MS k
    let w := 1000 * m.r TIME_CMP_WIDTH_WIDTH_US k
    comparePeriodicPulse k m = m.setCmp k { m.cmp k with
      active := true, periodic := true, pulseMs := some ms,
      endAt := ms * 1000000 + (if 1000000 * p ≤ w then 500000 * p else w) } := if_pos ((m.pulseDue_iff k).mp h)

theorem comparePeriodicPulse_notDue (k : Nat) (h : ¬ m.pulseDue k) : comparePeriodicPulse k m = m :=
  if_neg fun hc => h ((m.pulseDue_iff k).mpr hc)

/-- Settles O46, clause by clause: edges, reads, the compare descriptors, matches and pulses. -/
theorem edgesAreCapturedAndTargetsMatched : Obligations.EdgesAreCapturedAndTargetsMatched := by
  unfold Obligations.EdgesAreCapturedAndTargetsMatched
  refine ⟨?edge, ?read, ?set, ?cancel, ?match_, ?pulse, ?pulseEnd, fun m k => m.cmpPeriodic_idle k,
    fun m k c => ⟨m.setCmp_cmp k c, fun j h => m.setCmp_cmp_ne k j c h, m.setCmp_armed k c⟩⟩
  case edge =>
    intro k ns half falling s
    have hx := s.on_eq (captureInputEdge k ns half falling)
    refine ⟨fun h => hx _ (if_pos (by simp [h])), fun h hk he => hx _ ?off, fun h hk => ?pps, fun h hk he ht => ?capture⟩
    case off =>
      rw [captureInputEdge_captures _ _ _ _ _ h (Fin.val_ne_of_ne hk), he]
      rfl
    case pps =>
      subst hk
      have hp := captureInputEdge_pps s.m ns half falling h
      refine ⟨fun he ht => hx _ ?_, fun hn => hx _ ?_⟩
      · exact hp.trans (by rw [if_pos (by simp [he, ht])]; rfl)
      · exact hp.trans (by rw [if_neg (by rcases hn with h | h <;> simp [h])]; rfl)
    case capture =>
      have hc : captureInputEdge k ns half falling s.m = s.m.capStore k (s.m.edgeAt ns) half falling := by
        rw [captureInputEdge_captures _ _ _ _ _ h (Fin.val_ne_of_ne hk), if_pos (by simp [he, ht])]
      refine ⟨fun hroom hreads => ?room, fun hfull => ?full⟩
      case room =>
        obtain ⟨hk, hj, hpart⟩ := s.m.capStored_fifo k (s.m.edgeAt ns) half falling
        refine ⟨s.m.capStored k (s.m.edgeAt ns) half falling, hx _ ?_, ?_, ?_, hj, ?_, hpart⟩
        · rw [hc, s.m.capStore_room k _ _ _ hroom hreads]
          rfl
        · rw [hk]
          rfl
        · rw [hk]
        · exact s.m.capStored_level k _ _ _ hroom
      case full =>
        obtain ⟨hk, hj, hdrops⟩ := s.m.capStore_lost k (s.m.edgeAt ns) half falling hfull
        exact ⟨_, hx _ hc, by rw [hk], by rw [hk], hj, hdrops⟩
  case read =>
    intro d s hs hb hl ht
    have h := captureRead_takes s.m d hs hb hl ht
    refine ⟨fun hh => s.on_eq (captureRead d) _ ?_, fun hh => s.on_eq (captureRead d) _ ?_⟩
    · rw [h, hh]
      rfl
    · rw [h, if_neg (by simpa using hh)]
  case set =>
    intro d s hs e k target late win
    have hx := s.on_eq (compareSet d)
    refine ⟨fun hk => hx _ (compareSet_noChannel _ d hs hk), fun hk hm hn ht => ?_⟩
    have h := compareSet_full s.m d hs hk hm hn ht
    refine ⟨fun hbusy => hx _ ?busy, fun hper harm => ?_⟩
    case busy => exact h.trans (if_pos (by simpa using hbusy))
    replace h := h.trans (if_neg (by simp [k, hper, harm]))
    refine ⟨fun hw => hx _ ?armed, fun hst hlate hwin => hx _ ?late, fun hst hlate hwin => hx _ ?expired⟩
    case armed =>
      rcases hw with hst | hle
      · exact h.trans (if_neg (by simp [hst]))
      · refine h.trans ?_
        split
        · exact s.m.cmpDecide_early _ _ _ _ hle
        · rfl
    case late => exact h.trans ((if_pos hst).trans (s.m.cmpDecide_late _ _ _ _ hlate hwin))
    case expired => exact h.trans ((if_pos hst).trans (s.m.cmpDecide_expired _ _ _ _ hlate hwin))
  case cancel =>
    intro d s hs hk ht k
    obtain ⟨harmed, hnone⟩ := compareCancel_takes s.m d hs hk ht
    exact ⟨fun e u h => s.on_eq (compareCancel d) _ (harmed e u h), fun h => s.on_eq (compareCancel d) _ (hnone h)⟩
  case match_ =>
    intro k s
    refine ⟨fun h => s.on_same (compareMatch k) (compareMatch_idle _ k h), fun e u h => ?_⟩
    have hm := compareMatch_armed s.m k e u h
    refine ⟨fun hst hu => ⟨s.on_eq (compareMatch k) _ ?_, s.m.cmpFire_cmp k e u stOK⟩, fun hn => s.on_same (compareMatch k) ?_⟩
    · rw [hm, if_pos (by simp [hst, Mach.byTickEnd, hu])]
    · rw [hm, if_neg]
      rcases hn with hst | hu
      · simp [hst]
      · simp [Mach.byTickEnd, hu]
  case pulse =>
    intro k s ms p w due
    exact ⟨fun h => s.on_eq (comparePeriodicPulse k) _ (comparePeriodicPulse_due _ k h),
      fun h => s.on_same (comparePeriodicPulse k) (comparePeriodicPulse_notDue _ k h)⟩
  case pulseEnd =>
    intro k s
    exact ⟨fun ha he => s.on_eq (comparePulseEnd k) _ (if_pos (by simp [ha, Mach.byTickEnd, he])),
      fun ha => s.on_same (comparePulseEnd k) (if_neg (by simp [ha]))⟩

end Sys2Proof.Machine
end

section
/-! PROOFS. What the role of the unit is judged by (13, R21, R213, R413): a view of the part that keeps the fields and the state
the statements about roles speak of, and how writes of registers, events and completions show in it. -/

namespace Sys2Proof.Machine

open Sys2Proof

variable (m : Mach)

/-! ### The view -/

/-- The fields of the view: safe state, latches and gate, role and ALIVE code, recovery mode; with the clock its step. -/
def roleFields (clk : Bool) : List Field :=
  [INTC_STATUS_SAFE_STATE, INTC_SAFE_CAUSE_CAUSE, INTC_SAFE_CAUSE_BLOCK, DAMP_STATUS_SITE_LATCHED, DAMP_STATUS_GATE, DAMP_SRC_SRC,
    DAMP_SRC_SEEN_SEEN, DAMP_ZONE_LO_ALL, DAMP_ZONE_HI_ALL, REDUN_STATUS_ROLE_STATE, REDUN_STATUS_ALIVE_CODE,
    REDUN_STATUS_GRANTED, REDUN_STATUS_ROLE, REDUN_STATUS_WARM, REDUN_STATUS_MIRROR, REDUN_SWAPS_ALL, UPD_STATUS_RECOVERY] ++
    if clk then [TIME_STATUS_STEP_LOCK] else []

/-- The state of the view beside registers. `clock` and `tables` (parked requests, members, tables to be wiped) are in it only
where they are asked for. -/
structure RoleSt where
  run : Bool
  fixRun : Bool
  agents : BitVec 512
  flights : List Flight
  slot : Option Nat
  held : Bool
  on : Bool
  periodFrom : Option Nat
  swapRun : Option SwapRun
  hold : Bool
  ticks : Nat
  clock : Option (Nat × Nat)
  tables : Option (List Parked × Tab Member × Bool)

/-- The fields' values and the state. -/
abbrev RoleView := (Field → Nat) × RoleSt

def Mach.roleReg (m : Mach) (clk : Bool) (g : Field) : Nat := if g ∈ roleFields clk then m.r g else 0

def Mach.roleSt (m : Mach) (clk tab : Bool) : RoleSt where
  run := m.dam.run
  fixRun := m.dam.fixRun
  agents := m.dam.agents
  flights := m.air.inFlight
  slot := m.air.slot
  held := m.air.held
  on := m.air.on
  periodFrom := m.red.periodFrom
  swapRun := m.red.run
  hold := m.red.hold
  ticks := m.intc.ticks
  clock := if clk then some (m.time.sec, m.time.ns) else none
  tables := if tab then some (m.kiln.store.park, m.air.tab.members, m.air.wipe) else none

/-- The view of a part, with clock and tables where they are asked for. -/
def Mach.roleView (m : Mach) (clk tab : Bool) : RoleView := (m.roleReg clk, m.roleSt clk tab)

/-- A view with a field set. -/
def RoleView.put (v : RoleView) (f : Field) (x : Nat) : RoleView := (Function.update v.1 f x, v.2)

/-- A view with its state changed. -/
def RoleView.set (v : RoleView) (f : RoleSt → RoleSt) : RoleView := (v.1, f v.2)

variable {clk tab : Bool}

theorem mem_roleFields {g : Field} (h : g ∈ roleFields false) : g ∈ roleFields clk :=
  List.mem_append_left _ (by simpa [roleFields] using h)

theorem mem_roleFields_true {g : Field} (h : g ∈ roleFields clk) : g ∈ roleFields true := by
  cases clk
  · exact mem_roleFields h
  · exact h

/-- A field of the view, read. -/
theorem Mach.roleView_reg (g : Field) (h : g ∈ roleFields false) : (m.roleView clk tab).1 g = m.r g :=
  if_pos (mem_roleFields h)

@[simp] theorem Mach.roleView_snd : (m.roleView clk tab).2 = m.roleSt clk tab := rfl

@[simp] theorem RoleView.put_reg_same (v : RoleView) (f : Field) (x : Nat) : (v.put f x).1 f = x :=
  Function.update_self ..

theorem RoleView.put_reg_ne (v : RoleView) (f g : Field) (x : Nat) (h : g ≠ f) : (v.put f x).1 g = v.1 g :=
  Function.update_of_ne h ..

@[simp] theorem RoleView.put_snd (v : RoleView) (f : Field) (x : Nat) : (v.put f x).2 = v.2 := rfl
@[simp] theorem RoleView.set_fst (v : RoleView) (f : RoleSt → RoleSt) : (v.set f).1 = v.1 := rfl
@[simp] theorem RoleView.set_snd (v : RoleView) (f : RoleSt → RoleSt) : (v.set f).2 = f v.2 := rfl

/-- Parts with the same fields and state have the same view. -/
theorem Mach.roleView_congr {a b : Mach} (hr : ∀ g ∈ roleFields clk, b.r g = a.r g)
    (hs : b.roleSt clk tab = a.roleSt clk tab) : b.roleView clk tab = a.roleView clk tab := by
  refine Prod.ext (funext fun g => ?_) hs
  change (if g ∈ roleFields clk then b.r g else 0) = if g ∈ roleFields clk then a.r g else 0
  split
  · exact hr g ‹_›
  · rfl

/-- The blocks whose state the view holds. -/
theorem Mach.roleSt_congr {a b : Mach} (hd : b.dam = a.dam) (ha : b.air = a.air) (hr : b.red = a.red) (hi : b.intc = a.intc)
    (ht : b.time = a.time) (hk : b.kiln = a.kiln) : b.roleSt clk tab = a.roleSt clk tab := by
  simp only [Mach.roleSt, hd, ha, hr, hi, ht, hk]

/-! ### Writes of registers -/

/-- A field stands apart from those of the view: each is at another offset, or on other bits of the register. -/
def Field.outside (f : Field) (i j : Nat) : Bool :=
  (roleFields true).all (fun g => decide (g.off 0 0 ≠ f.off i j) ||
    (decide (g.off 0 0 = f.off i j) && g.reset == f.reset && decide (f.lo + f.width ≤ 32) &&
      (decide (g.lo + g.width ≤ f.lo) || decide (f.lo + f.width ≤ g.lo))))

theorem Mach.w_outside (f : Field) (v i j : Nat) (h : f.outside i j = true) :
    (m.w f v i j).roleView clk tab = m.roleView clk tab := by
  refine Mach.roleView_congr (fun g hg => ?_) rfl
  have hg := List.all_eq_true.mp h g (mem_roleFields_true hg)
  simp only [Bool.or_eq_true, Bool.and_eq_true, decide_eq_true_eq, beq_iff_eq] at hg
  rcases hg with ho | ⟨⟨⟨ho, hr⟩, hw⟩, hd⟩
  · exact m.r_w_ne f g v i j 0 0 ho
  · exact m.r_w_field f g v i j 0 0 ho hr hw hd

/-- A bank of at most 16 registers in the windows of the other blocks. -/
def Field.bank (f : Field) : Bool :=
  (decide (0x100008 ≤ f.base) && decide (f.base + f.step * 16 < 0x480000)) ||
    (decide (0x480068 ≤ f.base) && decide (f.base + f.step * 16 < 0x700000))

theorem roleFields_off : ∀ g ∈ roleFields true, ∀ off, g.off 0 0 = off →
    off < 0x100008 ∨ (0x480000 ≤ off ∧ off < 0x480068) ∨ 0x700000 ≤ off := by
  rintro g hg _ rfl
  revert g
  decide

theorem Mach.w_bank {i : Nat} (hi : i < 16) (m : Mach) (f : Field) (v : Nat) (hb : f.bank = true) :
    (m.w f v i).roleView clk tab = m.roleView clk tab := by
  refine Mach.roleView_congr (fun g hg => m.r_w_ne f g v i 0 0 0 fun ho => ?_) rfl
  have hg := roleFields_off g (mem_roleFields_true hg) _ ho
  have hs : f.step * i ≤ f.step * 16 := Nat.mul_le_mul_left _ (by omega)
  simp only [Field.bank, Bool.or_eq_true, Bool.and_eq_true, decide_eq_true_eq] at hb
  simp only [Field.off, Nat.mul_zero, Nat.add_zero] at hg
  omega

/-- The fields of the view lie in their registers, on bits of their own. -/
theorem roleFields_apart : ∀ f ∈ roleFields true, f.lo + f.width ≤ 32 ∧ ∀ g ∈ roleFields true, g ≠ f →
    g.off 0 0 ≠ f.off 0 0 ∨
      (g.off 0 0 = f.off 0 0 ∧ g.reset = f.reset ∧ (g.lo + g.width ≤ f.lo ∨ f.lo + f.width ≤ g.lo)) := by
  decide

/-- A write of a field of the view. -/
theorem Mach.w_roleView (f : Field) (v : Nat) (h : f ∈ roleFields false) :
    (m.w f v).roleView clk tab = (m.roleView clk tab).put f (v % 2 ^ f.width) := by
  have hf : f ∈ roleFields clk := mem_roleFields h
  obtain ⟨hw, ha⟩ := roleFields_apart f (mem_roleFields h)
  refine Prod.ext (funext fun g => ?_) rfl
  by_cases hgf : g = f
  · subst hgf
    rw [RoleView.put_reg_same]
    exact (if_pos hf).trans (m.r_w_same g v 0 0 hw)
  · rw [RoleView.put_reg_ne _ _ _ _ hgf]
    change (if g ∈ roleFields clk then (m.w f v).r g else 0) = if g ∈ roleFields clk then m.r g else 0
    split
    · rename_i hg
      rcases ha g (mem_roleFields_true hg) hgf with ho | ⟨ho, hr, hd⟩
      · exact m.r_w_ne f g v 0 0 0 0 ho
      · exact m.r_w_field f g v 0 0 0 0 ho hr hw hd
    · rfl

/-- Without the clock in the view its step does not show. -/
theorem Mach.w_stepLock (v : Nat) : (m.w TIME_STATUS_STEP_LOCK v).roleView false tab = m.roleView false tab := by
  refine Mach.roleView_congr (fun g hg => m.r_w_ne _ g v 0 0 0 0 ?_) rfl
  revert g
  decide

/-! ### Lists of changes, events, completions -/

/-- Changes one by one leave what each of them leaves. -/
theorem Mach.each_keeps {α β : Type} (g : Mach → β) (l : List α) (f : Mach → α → Mach)
    (h : ∀ (x : Mach) (a : α), a ∈ l → g (f x a) = g x) : g (m.each l f) = g m := by
  induction l generalizing m with
  | nil => rfl
  | cons a l ih =>
    exact (ih (f m a) fun x b hb => h x b (List.mem_cons_of_mem a hb)).trans (h m a List.mem_cons_self)

theorem Mach.each_roleView {α : Type} (l : List α) (f : Mach → α → Mach)
    (h : ∀ (x : Mach) (a : α), a ∈ l → (f x a).roleView clk tab = x.roleView clk tab) :
    (m.each l f).roleView clk tab = m.roleView clk tab := m.each_keeps (fun x => x.roleView clk tab) l f h

theorem Mach.when_roleView (c : Bool) (f : Mach → Mach) (h : ∀ x : Mach, (f x).roleView clk tab = x.roleView clk tab) :
    (m.when c f).roleView clk tab = m.roleView clk tab := m.when_keeps (fun x => x.roleView clk tab) c f h

/-- A change for each of the first 8 or 16 of something. -/
theorem Mach.eachBank_roleView {n : Nat} (hn : n ≤ 16) (f : Mach → Nat → Mach)
    (h : ∀ (x : Mach) (a : Nat), a < 16 → (f x a).roleView clk tab = x.roleView clk tab) :
    (m.each (List.range n) f).roleView clk tab = m.roleView clk tab :=
  m.each_roleView _ _ fun x a ha => h x a (Nat.lt_of_lt_of_le (List.mem_range.mp ha) hn)

theorem roleFields_quiet : ∀ g ∈ roleFields true, quietOff (g.off 0 0) := by
  unfold quietOff
  decide

@[simp] theorem Mach.event_roleView (code sev src : Nat) (args : List Byte) :
    (m.event code sev src args).roleView clk tab = m.roleView clk tab :=
  Mach.roleView_congr (fun g hg => m.r_event _ _ _ _ g 0 0 (roleFields_quiet g (mem_roleFields_true hg)))
    (Mach.roleSt_congr (by simp) (by simp) (by simp) (by simp) (by simp) (by simp))

@[simp] theorem Mach.complete_roleView (d : Desc) (st : Nat) (res : List Byte) :
    (m.complete d st res).roleView clk tab = m.roleView clk tab :=
  Mach.roleView_congr (fun g hg => m.r_complete _ _ _ g 0 0 (roleFields_quiet g (mem_roleFields_true hg)))
    (Mach.roleSt_congr (by simp) (by simp) (by simp) (by simp) (by simp) (by simp))

@[simp] theorem Mach.emit_roleView (e : Emission) : (m.emit e).roleView clk tab = m.roleView clk tab := rfl

@[simp] theorem Mach.flushDelivered_roleView (p : Desc → Bool) (st : Nat) :
    (m.flushDelivered p st).roleView clk tab = m.roleView clk tab :=
  m.each_roleView _ _ fun x d _ => x.complete_roleView d st _

end Sys2Proof.Machine
end

section
/-! PROOFS. The view of the role through the operations of the other blocks: axes, metering, corrections, Kiln's and the Air
region's tables, time. -/

namespace Sys2Proof.Machine

open Sys2Proof

variable (m : Mach) {clk tab : Bool}

/-! ### Axes (16) -/

section Axes

variable {a : Nat} (ha : a < 16)
include ha

theorem Mach.setAxis_roleView (x : Axis) : (m.setAxis a x).roleView clk tab = m.roleView clk tab := by
  unfold Mach.setAxis Mach.wi
  rw [Mach.w_bank ha _ _ _ (by decide), Mach.w_bank ha _ _ _ (by decide)]
  rfl

theorem Mach.setAxState_roleView (st : Nat) : (m.setAxState a st).roleView clk tab = m.roleView clk tab :=
  Mach.w_bank ha _ _ _ (by decide)

theorem Mach.setVel_roleView (v : Int) : (m.setVel a v).roleView clk tab = m.roleView clk tab := by
  unfold Mach.setVel Mach.wi
  rw [Mach.w_outside _ _ _ _ _ (by decide), Mach.w_bank ha _ _ _ (by decide)]

theorem Mach.bridgesOff_roleView : (m.bridgesOff a).roleView clk tab = m.roleView clk tab := by
  unfold Mach.bridgesOff
  rw [Mach.w_bank ha _ _ _ (by decide), Mach.setVel_roleView _ ha]
  split
  · rfl
  · rw [Mach.w_bank ha _ _ _ (by decide), Mach.w_bank ha _ _ _ (by decide)]

omit ha in
@[simp] theorem Mach.motDone_roleView (d : Desc) (st b28 : Nat) :
    (m.motDone a d st b28).roleView clk tab = m.roleView clk tab := m.complete_roleView d st _

theorem Mach.endMotion_roleView (st hfail : Nat) : (m.endMotion a st hfail).roleView clk tab = m.roleView clk tab := by
  unfold Mach.endMotion
  dsimp only
  rw [Mach.each_roleView _ _ _ fun x d _ => x.motDone_roleView d stOK 0]
  split <;> split <;> simp only [Mach.motDone_roleView, Mach.setAxis_roleView _ ha]

theorem Mach.flushAxis_roleView : (m.flushAxis a).roleView clk tab = m.roleView clk tab := by
  unfold Mach.flushAxis
  dsimp only
  rw [Mach.each_roleView _ _ _ fun x mv _ => x.motDone_roleView _ _ _, Mach.setAxis_roleView _ ha]

/-- An axis that its stop switches off: its queue flushed, EN written 0. -/
theorem Mach.axisOff_roleView : ((m.flushAxis a).w MOT_AX_CTRL_EN 0 a).roleView clk tab = m.roleView clk tab := by
  rw [Mach.w_bank ha _ _ _ (by decide), Mach.flushAxis_roleView _ ha]

theorem Mach.finishStop_roleView (k : AxisStop) : (m.finishStop a k).roleView clk tab = m.roleView clk tab := by
  have hend : ∀ x : Mach, ((x.endMotion a k.status k.hfail).axisStopEvent a k.status).roleView clk tab = x.roleView clk tab :=
    fun x => (Mach.event_roleView _ _ _ _ _).trans (x.endMotion_roleView ha _ _)
  unfold Mach.finishStop
  dsimp only
  rw [Mach.setAxState_roleView _ ha]
  split <;> split <;> simp only [Mach.axisOff_roleView _ ha, hend, Mach.bridgesOff_roleView _ ha, Mach.setVel_roleView _ ha]

theorem Mach.stopSlow_roleView (k : AxisStop) : (m.stopSlow a k).roleView clk tab = m.roleView clk tab := by
  unfold Mach.stopSlow
  dsimp only
  split
  · rw [Mach.setAxState_roleView _ ha, Mach.setAxis_roleView _ ha]
  · split
    · split <;> split <;>
        simp only [Mach.setAxState_roleView _ ha, Mach.axisOff_roleView _ ha, Mach.bridgesOff_roleView _ ha]
    · rfl

theorem Mach.stopCat_roleView (st : Nat) : (m.stopCat a st).roleView clk tab = m.roleView clk tab := by
  unfold Mach.stopCat
  split
  · exact m.stopSlow_roleView ha _
  · split
    · exact m.finishStop_roleView ha _
    · exact m.stopSlow_roleView ha _

theorem Mach.axisHeld_roleView : (m.axisHeld a).roleView clk tab = m.roleView clk tab := m.setAxis_roleView ha _

/-- An axis at standstill, uncertain, with its bridges off. -/
theorem Mach.axisStill_roleView (st : Nat) :
    (((((m.w MOT_AX_STATUS_UNCERTAIN 1 a).w MOT_AX_STATUS_HOMED 0 a).w MOT_AX_STATUS_BRIDGE 0 a).setVel a 0).setAxState a
      st).roleView clk tab = m.roleView clk tab := by
  rw [Mach.setAxState_roleView _ ha, Mach.setVel_roleView _ ha, Mach.w_bank ha _ _ _ (by decide),
    Mach.w_bank ha _ _ _ (by decide), Mach.w_bank ha _ _ _ (by decide)]

theorem Mach.axisTaken_roleView : (m.axisTaken a).roleView clk tab = m.roleView clk tab := by
  unfold Mach.axisTaken
  dsimp only
  split
  · exact m.axisHeld_roleView ha
  · exact (Mach.axisStill_roleView _ ha 5).trans (m.setAxis_roleView ha _)

theorem Mach.axisCold_roleView : (m.axisCold a).roleView clk tab = m.roleView clk tab :=
  (Mach.axisStill_roleView _ ha _).trans (m.setAxis_roleView ha _)

end Axes

@[simp] theorem Mach.quickStop_roleView : m.quickStop.roleView clk tab = m.roleView clk tab := by
  unfold Mach.quickStop
  refine (Mach.when_roleView _ _ _ fun x => x.each_roleView _ _ fun y a ha => y.stopCat_roleView ?_ _).trans
    (m.w_outside _ _ _ _ (by decide))
  have h8 := List.mem_range.mp (List.mem_filter.mp (List.mem_filter.mp ha).1).1
  omega

@[simp] theorem Mach.motionRelease_roleView : m.motionRelease.roleView clk tab = m.roleView clk tab := by
  refine m.eachBank_roleView (by decide) _ fun x a ha => ?_
  split
  · dsimp only
    rw [Mach.setAxState_roleView _ ha, Mach.endMotion_roleView _ ha, Mach.bridgesOff_roleView _ ha]
    exact x.when_roleView _ _ fun y => y.w_bank ha _ _ (by decide)
  · rfl

@[simp] theorem Mach.motionLost_roleView : m.motionLost.roleView clk tab = m.roleView clk tab := by
  unfold Mach.motionLost
  dsimp only
  rw [Mach.eachBank_roleView _ (by decide) _ fun x a ha => ?_, Mach.motionRelease_roleView]
  rw [Mach.each_roleView _ _ _ fun y mv _ => y.motDone_roleView _ _ _, Mach.setAxis_roleView _ ha]

/-! ### Metering (15) -/

theorem Mach.setMetEl_roleView {d : Nat} (hd : d < 16) (x : MetEl) :
    (m.setMetEl d x).roleView clk tab = m.roleView clk tab := by
  unfold Mach.setMetEl Mach.metShow
  dsimp only
  iterate 9 rw [Mach.w_bank hd _ _ _ (by decide)]
  rfl

theorem Mach.metWrapped_roleView {d : Nat} (hd : d < 16) (old new : MetEnergy) :
    (m.metWrapped d old new).roleView clk tab = m.roleView clk tab :=
  (Mach.when_roleView _ _ _ fun x => x.w_bank hd _ _ (by decide)).trans
    (m.when_roleView _ _ fun x => x.w_bank hd _ _ (by decide))

@[simp] theorem Mach.metTakeover_roleView : m.metTakeover.roleView clk tab = m.roleView clk tab := by
  refine m.eachBank_roleView (by decide) _ fun x d hd => ?_
  dsimp only
  split
  · rfl
  · rw [Mach.metWrapped_roleView _ hd, Mach.setMetEl_roleView _ hd]

@[simp] theorem Mach.metCold_roleView : m.metCold.roleView clk tab = m.roleView clk tab :=
  m.eachBank_roleView (by decide) _ fun x _ hd => x.setMetEl_roleView hd _

@[simp] theorem Mach.xchkClear_roleView : m.xchkClear.roleView clk tab = m.roleView clk tab :=
  m.eachBank_roleView (by decide) _ fun x _ hd => x.w_bank hd _ _ (by decide)

@[simp] theorem Mach.xchkStart_roleView : m.xchkStart.roleView clk tab = m.roleView clk tab :=
  Mach.eachBank_roleView _ (by decide) _ fun x _ hd => x.setMetEl_roleView hd _

@[simp] theorem Mach.pulseRelease_roleView : m.pulseRelease.roleView clk tab = m.roleView clk tab := by
  refine m.eachBank_roleView (by decide) _ fun x d hd => ?_
  dsimp only
  split
  · exact x.setMetEl_roleView hd _
  · rfl

@[simp] theorem Mach.dockPin_roleView (d : Nat) (want : Option (Nat × Bool)) :
    (m.dockPin d want).roleView clk tab = m.roleView clk tab := by
  unfold Mach.dockPin
  extract_lets old met m1 m2
  clear_value old
  have h2 : m2.roleView clk tab = m.roleView clk tab := by
    unfold m2
    split
    · exact m1.when_roleView _ _ fun x => x.emit_roleView _
    · rfl
  split
  · rfl
  · split
    · exact (m2.emit_roleView _).trans h2
    · exact h2

@[simp] theorem Mach.dockOutputs_roleView : m.dockOutputs.roleView clk tab = m.roleView clk tab := by
  refine (Mach.eachBank_roleView _ (by decide) _ fun x d hd => ?_).trans (m.w_outside _ _ _ _ (by decide))
  dsimp only [Mach.wb]
  rw [Mach.dockPin_roleView, Mach.w_bank hd _ _ _ (by decide), Mach.w_bank hd _ _ _ (by decide)]

/-! ### Corrections (11) -/

@[simp] theorem Mach.surveyLost_roleView : m.surveyLost.roleView clk tab = m.roleView clk tab := by
  unfold Mach.surveyLost
  split
  · exact Mach.w_outside _ _ _ _ _ (by decide)
  · rfl

@[simp] theorem Mach.corrForget_roleView : m.corrForget.roleView clk tab = m.roleView clk tab :=
  (Mach.w_outside _ _ _ _ _ (by decide)).trans (Mach.w_outside _ _ _ _ _ (by decide))

/-! ### Kiln and the Air region (04, 05, 07, 08) -/

@[simp] theorem Mach.signShow_roleView : m.signShow.roleView clk tab = m.roleView clk tab := m.w_outside _ _ _ _ (by decide)

@[simp] theorem Mach.setAuthKey_roleView (key id : Nat) : (m.setAuthKey key id).roleView clk tab = m.roleView clk tab :=
  (Mach.w_outside _ _ _ _ _ (by decide)).trans (Mach.w_outside _ _ _ _ _ (by decide))

@[simp] theorem Mach.setBeaconKey_roleView (key id : Nat) : (m.setBeaconKey key id).roleView clk tab = m.roleView clk tab :=
  (Mach.w_outside _ _ _ _ _ (by decide)).trans (Mach.w_outside _ _ _ _ _ (by decide))

/-- The authority key and the beacon key drawn anew, each where `c` has it. -/
def Mach.renewAuth (m : Mach) (c : Bool) : Mach :=
  if c then m.draw.2.draw.2.setAuthKey (m.draw.1 % 2 ^ 128) (nextKeyId m.nv.keyId m.draw.2.draw.1) else m
def Mach.renewBeacon (m : Mach) (c : Bool) : Mach :=
  if c then m.draw.2.draw.2.setBeaconKey (m.draw.1 % 2 ^ 128) (nextKeyId m.nv.bkId m.draw.2.draw.1) else m

theorem Mach.newKeys_eq (cold : Bool) : m.newKeys cold =
    let x := m.renewAuth (cold || m.kiln.key.isNone)
    x.renewBeacon (cold || x.air.bkey.isNone) := rfl

@[simp] theorem Mach.renewAuth_roleView (c : Bool) : (m.renewAuth c).roleView clk tab = m.roleView clk tab := by
  unfold Mach.renewAuth
  split
  · exact Mach.setAuthKey_roleView _ _ _
  · rfl

@[simp] theorem Mach.renewBeacon_roleView (c : Bool) : (m.renewBeacon c).roleView clk tab = m.roleView clk tab := by
  unfold Mach.renewBeacon
  split
  · exact Mach.setBeaconKey_roleView _ _ _
  · rfl

@[simp] theorem Mach.newKeys_roleView (cold : Bool) : (m.newKeys cold).roleView clk tab = m.roleView clk tab := by
  rw [Mach.newKeys_eq, Mach.renewBeacon_roleView, Mach.renewAuth_roleView]

/-- Kiln's store and the Air tables show in the view's tables. -/
theorem Mach.setStore_roleView (k : KilnStore) : (m.setStore k).roleView clk tab =
    (m.roleView clk tab).set fun r => { r with tables := r.tables.map fun p => (k.park, p.2) } := by
  unfold Mach.setStore
  dsimp only
  iterate 4 rw [Mach.w_outside _ _ _ _ _ (by decide)]
  cases tab <;> rfl

theorem Mach.setTab_roleView (t : AirTab) : (m.setTab t).roleView clk tab =
    (m.roleView clk tab).set fun r => { r with tables := r.tables.map fun p => (p.1, t.members, p.2.2) } := by
  cases tab <;> rfl

/-- A register at another offset than those of the view, written whole. -/
theorem Mach.wWord_outside (f : Field) (v i j : Nat) (h : ∀ g ∈ roleFields true, g.off 0 0 ≠ f.off i j) :
    (m.wWord f v i j).roleView clk tab = m.roleView clk tab :=
  Mach.roleView_congr (fun g hg => Mach.r_congr g 0 0 (Tabs.look_put_ne _ _ (h g (mem_roleFields_true hg)))) rfl

@[simp] theorem Mach.airShow_roleView : m.airShow.roleView clk tab = m.roleView clk tab := by
  unfold Mach.airShow
  dsimp only [Mach.wb]
  split
  · rw [Mach.wWord_outside _ _ _ _ _ (by decide), Mach.w_outside _ _ _ _ _ (by decide), Mach.w_outside _ _ _ _ _ (by decide),
      Mach.eachBank_roleView _ (by decide) _ fun x a ha => ?_, Mach.w_outside _ _ _ _ _ (by decide),
      Mach.w_outside _ _ _ _ _ (by decide)]
    iterate 3 rw [Mach.w_bank ha _ _ _ (by decide)]
  · iterate 8 rw [Mach.w_outside _ _ _ _ _ (by decide)]
    rw [Mach.eachBank_roleView _ (by decide) _ fun x a ha => ?_, Mach.w_outside _ _ _ _ _ (by decide),
      Mach.w_outside _ _ _ _ _ (by decide)]
    iterate 3 rw [Mach.w_bank ha _ _ _ (by decide)]

end Sys2Proof.Machine
end

section
/-! PROOFS. The view of the role through the time unit (12): what a takeover may do to it, up to a step of the clock. -/

namespace Sys2Proof.Machine

open Sys2Proof

variable (m : Mach) {clk tab : Bool}

@[simp] theorem Mach.airRefresh_roleView : m.airRefresh.roleView clk tab = m.roleView clk tab := by
  change (((((m.w AIR_STATUS_STEPPED _).w AIR_STATUS_GRANTED _).w AIR_STATUS_ACTIVE _).w AIR_STATUS_GATE _).w
    AIR_STATUS_TX_OK _).roleView clk tab = _
  iterate 5 rw [Mach.w_outside _ _ _ _ _ (by decide)]

@[simp] theorem Mach.setQual_roleView (src : Nat) (v : Bool) : (m.setQual src v).roleView clk tab = m.roleView clk tab :=
  m.w_outside _ _ _ _ (by decide)

@[simp] theorem Mach.setUncert_roleView (u : Nat) : (m.setUncert u).roleView clk tab = m.roleView clk tab :=
  m.w_outside _ _ _ _ (by decide)

@[simp] theorem Mach.leapShow_roleView : m.leapShow.roleView clk tab = m.roleView clk tab := by
  unfold Mach.leapShow
  dsimp only [Mach.wb]
  rw [Mach.w_outside _ _ _ _ _ (by decide), Mach.w_outside _ _ _ _ _ (by decide)]
  split
  · exact Mach.w_outside _ _ _ _ _ (by decide)
  · rfl

@[simp] theorem Mach.timeShow_roleView : m.timeShow.roleView clk tab = m.roleView clk tab := by
  unfold Mach.timeShow
  dsimp only [Mach.wb]
  iterate 6 rw [Mach.w_outside _ _ _ _ _ (by decide)]
  exact m.leapShow_roleView

@[simp] theorem Mach.setTimeState_roleView (st : Nat) : (m.setTimeState st).roleView clk tab = m.roleView clk tab := by
  unfold Mach.setTimeState
  dsimp only
  split
  · exact m.timeShow_roleView
  · rw [Mach.event_roleView, Mach.timeShow_roleView, Mach.w_outside _ _ _ _ _ (by decide)]

@[simp] theorem Mach.useSource_roleView (src st : Nat) : (m.useSource src st).roleView clk tab = m.roleView clk tab := by
  unfold Mach.useSource
  dsimp only
  rw [Mach.setTimeState_roleView, Mach.w_outside _ _ _ _ _ (by decide), Mach.setUncert_roleView]
  rfl

@[simp] theorem Mach.notAccepted_roleView (src : Nat) : (m.notAccepted src).roleView clk tab = m.roleView clk tab := by
  unfold Mach.notAccepted
  split
  · exact m.w_outside _ _ _ _ (by decide)
  · split
    · rfl
    · rw [Mach.event_roleView, Mach.w_outside _ _ _ _ _ (by decide)]

@[simp] theorem Mach.tryAccept_roleView (src : Nat) : (m.tryAccept src).roleView clk tab = m.roleView clk tab := by
  unfold Mach.tryAccept
  split
  · exact m.useSource_roleView _ _
  · exact m.notAccepted_roleView _

@[simp] theorem Mach.changeSource_roleView (src : Nat) : (m.changeSource src).roleView clk tab = m.roleView clk tab :=
  m.useSource_roleView src m.timeState

@[simp] theorem Mach.timeLost_roleView : m.timeLost.roleView clk tab = m.roleView clk tab := by
  unfold Mach.timeLost
  dsimp only
  rw [Mach.setTimeState_roleView]
  split <;> rfl

/-! ### The armed compares as the step judges them -/

@[simp] theorem Mach.cmpDrive_roleView (k : Nat) (active : Bool) :
    (m.cmpDrive k active).roleView clk tab = m.roleView clk tab := by unfold Mach.cmpDrive; split <;> rfl

theorem Mach.setCmp_roleView {k : Nat} (hk : k < 16) (c : CmpChan) :
    (m.setCmp k c).roleView clk tab = m.roleView clk tab := by
  unfold Mach.setCmp
  dsimp only [Mach.wb]
  rw [Mach.when_roleView _ _ _ fun x => x.cmpDrive_roleView _ _, Mach.w_bank hk _ _ _ (by decide),
    Mach.w_bank hk _ _ _ (by decide)]
  rfl

theorem Mach.cmpFire_roleView {k : Nat} (hk : k < 16) (d : Desc) (at_ st : Nat) :
    (m.cmpFire k d at_ st).roleView clk tab = m.roleView clk tab :=
  (Mach.complete_roleView _ _ _ _).trans (m.setCmp_roleView hk _)

theorem Mach.cmpDecide_roleView {k : Nat} (hk : k < 16) (d : Desc) (target : Nat) (late : Int) :
    (m.cmpDecide k d target late).roleView clk tab = m.roleView clk tab := by
  unfold Mach.cmpDecide
  split
  · exact m.setCmp_roleView hk _
  · exact m.cmpFire_roleView hk _ _ _
  · rw [Mach.complete_roleView, Mach.setCmp_roleView _ hk]

@[simp] theorem Mach.cmpsAtStep_roleView : m.cmpsAtStep.roleView clk tab = m.roleView clk tab := by
  refine m.eachBank_roleView (by decide) _ fun x k hk => ?_
  split
  · exact x.cmpDecide_roleView hk _ _ _
  · rfl

/-! ### The step, and a takeover's clock (R383, R435) -/

/-- The clock and the offset to the mate's do not show in the view without it. -/
theorem Mach.clock_roleView (t : TimeSt) (o : Int) :
    ({ m with time := t, red := { m.red with tt := o } } : Mach).roleView false tab = m.roleView false tab := rfl

/-- A step shows in the clock only. -/
theorem Mach.timeStep_roleView (src at_ ns err : Nat) :
    (m.timeStep src at_ ns err).roleView false tab = m.roleView false tab := by
  unfold Mach.timeStep
  extract_lets delta t used red set_ stepped uncert state
  have h1 : set_.roleView false tab = m.roleView false tab := m.clock_roleView _ _
  have h2 : stepped.roleView false tab = set_.roleView false tab :=
    (Mach.event_roleView _ _ _ _ _).trans ((Mach.w_outside _ _ _ _ _ (by decide)).trans (set_.w_stepLock 1))
  rw [Mach.signShow_roleView, Mach.cmpsAtStep_roleView, Mach.airRefresh_roleView,
    show state.roleView false tab = uncert.roleView false tab from Mach.setTimeState_roleView _ _,
    show uncert.roleView false tab = stepped.roleView false tab from Mach.setUncert_roleView _ _, h2, h1]

theorem Mach.stepFrom_roleView (src : Nat) (off : Int) (tol : Nat) :
    (m.stepFrom src off tol).roleView false tab = m.roleView false tab := Mach.timeStep_roleView _ _ _ _ _

theorem Mach.timeEval_roleView (edge : Bool) : (m.timeEval edge).roleView false tab = m.roleView false tab := by
  unfold Mach.timeEval
  dsimp only
  split
  · have hfar : (m.w TIME_SRC_STATUS_FAR 0).roleView false tab = m.roleView false tab := m.w_outside _ _ _ _ (by decide)
    split
    · rw [Mach.timeLost_roleView, hfar]
    · exact hfar
  · split
    · split
      · exact m.stepFrom_roleView _ _ _
      · rfl
    · split
      · exact m.tryAccept_roleView _
      · split
        · rfl
        · split
          · rw [Mach.tryAccept_roleView, Mach.timeLost_roleView]
          · split
            · exact m.changeSource_roleView _
            · exact m.notAccepted_roleView _

@[simp] theorem Mach.timeTakeover_roleView : m.timeTakeover.roleView false tab = m.roleView false tab := by
  have hq : ∀ t : TimeSt, ({ m.setQual 3 false with time := t } : Mach).roleView false tab = m.roleView false tab :=
    fun t => m.setQual_roleView 3 false
  unfold Mach.timeTakeover
  dsimp only
  split
  · rw [Mach.timeShow_roleView, Mach.succeedMate, Mach.useSource_roleView]
    exact hq _
  · rw [Mach.timeShow_roleView, Mach.timeEval_roleView]
    exact hq _

end Sys2Proof.Machine
end

section
/-! PROOFS. What the gate, the latches and Damper's outputs change in the view of the role (06, R187 to R199, R213). -/

namespace Sys2Proof.Machine

open Sys2Proof

variable (m : Mach) {clk tab : Bool}

/-! ### Views with latches -/

/-- The stops latched, as the view has them. -/
def RoleView.latched (v : RoleView) : Stops :=
  ⟨v.1 DAMP_STATUS_SITE_LATCHED != 0, BitVec.ofNat 64 (v.1 DAMP_ZONE_LO_ALL + 2 ^ 32 * v.1 DAMP_ZONE_HI_ALL), v.2.agents⟩

/-- The view with stops latched. -/
def RoleView.latch (v : RoleView) (s : Stops) : RoleView :=
  ((((v.set fun r => { r with agents := s.agents }).put DAMP_STATUS_SITE_LATCHED (b2n s.site)).put DAMP_ZONE_LO_ALL
    (s.zones.toNat % 2 ^ 32)).put DAMP_ZONE_HI_ALL (s.zones.toNat / 2 ^ 32 % 2 ^ 32))

theorem Mach.latched_eq : m.latched = (m.roleView clk tab).latched := by
  unfold RoleView.latched
  rw [m.roleView_reg _ (by decide), m.roleView_reg _ (by decide), m.roleView_reg _ (by decide)]
  rfl

theorem RoleView.put_latched (v : RoleView) (f : Field) (x : Nat)
    (h : DAMP_STATUS_SITE_LATCHED ≠ f ∧ DAMP_ZONE_LO_ALL ≠ f ∧ DAMP_ZONE_HI_ALL ≠ f) : (v.put f x).latched = v.latched := by
  obtain ⟨hs, hl, hh⟩ := h
  simp only [RoleView.latched, RoleView.put_reg_ne _ _ _ _ hs, RoleView.put_reg_ne _ _ _ _ hl, RoleView.put_reg_ne _ _ _ _ hh,
    RoleView.put_snd]

theorem RoleView.set_latched (v : RoleView) (f : RoleSt → RoleSt) (h : ∀ r, (f r).agents = r.agents) :
    (v.set f).latched = v.latched := by
  simp only [RoleView.latched, RoleView.set_fst, RoleView.set_snd, h]

/-- The stops set are those latched. -/
theorem RoleView.latch_latched (v : RoleView) (s : Stops) : (v.latch s).latched = s := by
  have hs : (b2n s.site != 0) = s.site := by cases s.site <;> rfl
  have hz : s.zones.toNat % 2 ^ 32 + 2 ^ 32 * (s.zones.toNat / 2 ^ 32 % 2 ^ 32) = s.zones.toNat := by
    have := s.zones.isLt
    omega
  simp (disch := decide) only [RoleView.latched, RoleView.latch, RoleView.put_reg_ne, RoleView.put_reg_same, RoleView.put_snd,
    RoleView.set_snd, hs, hz, BitVec.ofNat_toNat, BitVec.setWidth_eq]

/-- No zone is latched where the latched stops name none. -/
theorem Mach.zoneLatches_eq_zero (h : BitVec.ofNat 64 m.zoneLatches = 0) : m.zoneLatches = 0 := by
  have hlo := m.r_lt DAMP_ZONE_LO_ALL 0 0
  have hhi := m.r_lt DAMP_ZONE_HI_ALL 0 0
  have hlt : m.zoneLatches < 2 ^ 64 := by
    unfold Mach.zoneLatches
    change _ < 2 ^ 32 at hlo
    change _ < 2 ^ 32 at hhi
    omega
  have hmod : m.zoneLatches % 2 ^ 64 = 0 := congrArg BitVec.toNat h
  rwa [Nat.mod_eq_of_lt hlt] at hmod

theorem RoleView.put_self (v : RoleView) (f : Field) : v.put f (v.1 f) = v := Prod.ext (Function.update_eq_self f v.1) rfl

/-- A field of a view written again. -/
theorem Mach.roleView_put_self (f : Field) (h : f ∈ roleFields false) :
    (m.roleView clk tab).put f (m.r f) = m.roleView clk tab := by
  rw [← m.roleView_reg f h (clk := clk) (tab := tab), RoleView.put_self]

/-! ### Outputs (R193, R213, R214) -/

@[simp] theorem Mach.setStopOut_roleView (run : Bool) :
    (m.setStopOut run).roleView clk tab = (m.roleView clk tab).set fun r => { r with run := run } := by
  unfold Mach.setStopOut
  dsimp only [Mach.wb]
  rw [Mach.w_outside _ _ _ _ _ (by decide), Mach.w_outside _ _ _ _ _ (by decide)]
  rfl

@[simp] theorem Mach.setFixEn_roleView (run : Bool) :
    (m.setFixEn run).roleView clk tab = (m.roleView clk tab).set fun r => { r with fixRun := run } := by
  unfold Mach.setFixEn
  dsimp only [Mach.wb]
  rw [Mach.w_outside _ _ _ _ _ (by decide)]
  rfl

/-- STOP_OUT goes at once, FIX_EN_N at once or later. -/
theorem Mach.releaseOutputs_roleView : ∃ fix, m.releaseOutputs.roleView clk tab =
    (m.roleView clk tab).set fun r => { r with run := false, fixRun := fix } := by
  unfold Mach.releaseOutputs
  dsimp only
  split
  · exact ⟨false, by rw [Mach.setFixEn_roleView, Mach.setStopOut_roleView]; rfl⟩
  · refine ⟨m.dam.fixRun, ?_⟩
    split <;> exact m.setStopOut_roleView false

/-- Outputs driven as grant and the site latch have it. -/
theorem Mach.driveOutputs_roleView : ∃ fix, m.driveOutputs.roleView clk tab =
    (m.roleView clk tab).set fun r => { r with run := m.b REDUN_STATUS_GRANTED && !m.siteLatched, fixRun := fix } := by
  let run := m.b REDUN_STATUS_GRANTED && !m.siteLatched
  refine ⟨run && !m.plantFenced, ?_⟩
  change ((m.setStopOut run).setFixEn (run && !m.plantFenced)).roleView clk tab = _
  rw [Mach.setFixEn_roleView, Mach.setStopOut_roleView]
  rfl

/-! ### The transmit gate (R193, R242) -/

theorem Mach.chargeTx_roleView (x : Fin 8) (chan us : Nat) : (m.chargeTx x chan us).roleView clk tab = m.roleView clk tab :=
  Mach.w_bank (by omega) _ _ _ (by decide)

theorem Mach.corrCut_roleView (f : Flight) : (m.corrCut f).roleView clk tab = m.roleView clk tab :=
  m.when_roleView _ _ fun x => x.w_outside _ _ _ _ (by decide)

theorem Mach.cutFlight_roleView (f : Flight) : (m.cutFlight f).roleView clk tab = m.roleView clk tab := by
  refine (Mach.chargeTx_roleView _ _ _ _).trans ((Mach.emit_roleView _ _).trans ?_)
  exact Mach.corrCut_roleView _ f

theorem Mach.paRest_roleView : m.paRest.roleView clk tab = m.roleView clk tab := by
  unfold Mach.paRest; split <;> rfl

@[simp] theorem Mach.gateClose_roleView : m.gateClose.roleView clk tab =
    ((m.roleView clk tab).put DAMP_STATUS_GATE 1).set fun r => { r with flights := [] } := by
  have hset : ∀ (x : Mach) (l : List Flight) (v : RoleView), x.roleView clk tab = v →
      (x.setFlight [] l []).roleView clk tab = v.set fun r => { r with flights := [] } := by
    rintro x l _ rfl
    rfl
  refine (Mach.paRest_roleView _).trans (hset _ _ _ ?_)
  refine (Mach.each_roleView _ _ _ fun x f _ => x.cutFlight_roleView f).trans ?_
  unfold Mach.incBy
  iterate 3 rw [Mach.w_outside _ _ _ _ _ (by decide)]
  exact m.w_roleView DAMP_STATUS_GATE 1 (by decide)

/-! ### Latches -/

@[simp] theorem Mach.setLatches_roleView (s : Stops) :
    (m.setLatches s).roleView clk tab = (m.roleView clk tab).latch s := by
  unfold Mach.setLatches
  dsimp only [Mach.wb]
  rw [Mach.eachBank_roleView _ (by decide) _ fun x w hw => x.w_bank hw _ _ (by decide), Mach.w_roleView _ _ _ (by decide),
    Mach.w_roleView _ _ _ (by decide), Mach.w_roleView _ _ _ (by decide)]
  have hb : b2n s.site % 2 ^ DAMP_STATUS_SITE_LATCHED.width = b2n s.site := by cases s.site <;> rfl
  rw [hb]
  rfl

@[simp] theorem Mach.armEnd_roleView (why : Nat) : (m.armEnd why).roleView clk tab = m.roleView clk tab := by
  unfold Mach.armEnd Mach.inc Mach.incBy
  split
  · rfl
  · rw [Mach.event_roleView, Mach.w_outside _ _ _ _ _ (by decide), Mach.w_outside _ _ _ _ _ (by decide)]
    rfl

@[simp] theorem Mach.setCause_roleView (src detail : Nat) : (m.setCause src detail).roleView clk tab = m.roleView clk tab := by
  unfold Mach.setCause
  iterate 3 rw [Mach.w_outside _ _ _ _ _ (by decide)]

@[simp] theorem Mach.mateSend_roleView (final : Bool) (body : MateBody) :
    (m.mateSend final body).roleView clk tab = m.roleView clk tab := by
  unfold Mach.mateSend; split <;> rfl

/-- No parked request shows in the view: there is none, or the tables are not asked for. -/
def RoleSt.noPark (r : RoleSt) : Prop := ∀ p ∈ r.tables, p.1 = []

theorem Mach.withdrawPark_none (i outcome res : Nat) (h : m.kiln.store.park = []) : m.withdrawPark i outcome res = m := by
  unfold Mach.withdrawPark Mach.parkedOf
  rw [h]
  rfl

theorem Mach.withdrawPark_roleView (i outcome res : Nat) (h : (m.roleSt clk tab).noPark) :
    (m.withdrawPark i outcome res).roleView clk tab = m.roleView clk tab := by
  cases tab
  · unfold Mach.withdrawPark Mach.inc Mach.incBy
    split
    · rfl
    · rw [show ∀ (x : Mach) (p : Parked), (x.parkEvent p outcome res).roleView clk false = x.roleView clk false from
        fun x p => x.event_roleView _ _ _ _, Mach.w_outside _ _ _ _ _ (by decide)]
      exact Mach.setStore_roleView _ _
  · rw [m.withdrawPark_none _ _ _ (h _ rfl)]

/-- What an assertion leaves of the view of the latches and of the outputs it may release. -/
theorem Mach.gainStops_roleView (what : Stops) (h : (m.roleSt clk tab).noPark) :
    ∃ run fix, (m.gainStops what).roleView clk tab =
      ((m.roleView clk tab).latch (m.latched.join what)).set fun r => { r with run := run, fixRun := fix } := by
  have hout : ∀ (x : Mach) (c : Bool), ∃ run fix, (x.when c Mach.releaseOutputs).roleView clk tab =
      (x.roleView clk tab).set fun r => { r with run := run, fixRun := fix } := by
    intro x c
    unfold Mach.when
    split
    · obtain ⟨fix, hf⟩ := x.releaseOutputs_roleView (clk := clk) (tab := tab)
      exact ⟨false, fix, hf⟩
    · exact ⟨x.dam.run, x.dam.fixRun, rfl⟩
  have hpark : ∀ (l : List Nat) (x : Mach), (x.roleSt clk tab).noPark →
      (x.each l (fun m i => m.withdrawPark i 2)).roleView clk tab = x.roleView clk tab := by
    intro l
    induction l with
    | nil => exact fun _ _ => rfl
    | cons i l ih =>
      intro x hx
      have hi := x.withdrawPark_roleView i 2 noRes hx
      exact (ih _ (by rw [← Mach.roleView_snd, hi]; exact hx)).trans hi
  have hsend : ∀ (x : Mach) (c : Bool) (b : MateBody),
      (if c then (x.w DAMP_STATUS_BURSTS_LEFT 3).when x.isActive (fun m => m.mateSend false b) else x).roleView clk tab =
        x.roleView clk tab := by
    intro x c b
    split
    · exact (Mach.when_roleView _ _ _ fun y => y.mateSend_roleView _ _).trans (x.w_outside _ _ _ _ (by decide))
    · rfl
  obtain ⟨run, fix, ho⟩ := hout (m.setLatches (m.latched.join what)) (what.site && !m.latched.site)
  rw [Mach.setLatches_roleView] at ho
  refine ⟨run, fix, (hsend _ _ _).trans ((Mach.quickStop_roleView _).trans ((hpark _ _ ?_).trans ho))⟩
  rw [← Mach.roleView_snd, ho]
  exact h

/-- The view after a source's assertion, the outputs aside. -/
def RoleView.asserted (v : RoleView) (seen : Nat) (what : Stops) : RoleView :=
  (((v.put DAMP_SRC_SEEN_SEEN seen).put DAMP_STATUS_GATE 1).set fun r => { r with flights := [] }).latch (v.latched.join what)

/-- The fields of the view that an assertion changes. -/
def assertedFields : List Field :=
  [DAMP_STATUS_SITE_LATCHED, DAMP_ZONE_LO_ALL, DAMP_ZONE_HI_ALL, DAMP_SRC_SEEN_SEEN, DAMP_STATUS_GATE]

theorem RoleView.asserted_other (v : RoleView) (seen : Nat) (what : Stops) (g : Field) (h : g ∉ assertedFields) :
    (v.asserted seen what).1 g = v.1 g := by
  simp only [assertedFields, List.mem_cons, List.not_mem_nil, or_false, not_or] at h
  obtain ⟨hsite, hlo, hhi, hseen, hgate⟩ := h
  simp only [RoleView.asserted, RoleView.latch, RoleView.set_fst, RoleView.put_reg_ne _ _ _ _ hsite,
    RoleView.put_reg_ne _ _ _ _ hlo, RoleView.put_reg_ne _ _ _ _ hhi, RoleView.put_reg_ne _ _ _ _ hseen,
    RoleView.put_reg_ne _ _ _ _ hgate]

theorem Mach.assertSource_roleView (src detail : Nat) (what : Stops) (h : (m.roleSt clk tab).noPark) :
    ∃ run fix, (m.assertSource src detail what).roleView clk tab =
      ((m.roleView clk tab).asserted ((m.r DAMP_SRC_SEEN_SEEN ||| (1 <<< src)) % 2 ^ 15) what).set
        fun r => { r with run := run, fixRun := fix } := by
  unfold Mach.assertSource
  extract_lets seen noted fresh caused armless again dam own gated
  have hown : own.roleView clk tab =
      (m.roleView clk tab).put DAMP_SRC_SEEN_SEEN ((m.r DAMP_SRC_SEEN_SEEN ||| (1 <<< src)) % 2 ^ 15) := by
    have hnoted : noted.roleView clk tab = (m.w DAMP_SRC_SEEN_SEEN (seen ||| 1 <<< src)).roleView clk tab :=
      Mach.w_outside _ _ _ _ _ (by decide)
    have hcaused : caused.roleView clk tab = noted.roleView clk tab := noted.when_roleView _ _ fun x => x.setCause_roleView _ _
    have hagain : own.roleView clk tab = armless.roleView clk tab := armless.when_roleView _ _ fun _ => rfl
    rw [hagain, show armless.roleView clk tab = caused.roleView clk tab from caused.armEnd_roleView 1, hcaused, hnoted,
      Mach.w_roleView _ _ _ (by decide)]
    rfl
  have hgate : own.gateClose.roleView clk tab = ((own.roleView clk tab).put DAMP_STATUS_GATE 1).set
      fun r => { r with flights := [] } := own.gateClose_roleView
  obtain ⟨run, fix, hg⟩ := own.gateClose.gainStops_roleView what (clk := clk) (tab := tab)
    (by rw [← Mach.roleView_snd, hgate, hown]; exact h)
  refine ⟨run, fix, (gated.when_roleView _ _ fun x => x.event_roleView _ _ _ _).trans (hg.trans ?_)⟩
  rw [Mach.latched_eq own.gateClose (clk := clk) (tab := tab), hgate, hown]
  rw [RoleView.set_latched _ _ (by intro; rfl), RoleView.put_latched _ _ _ (by decide), RoleView.put_latched _ _ _ (by decide)]
  rfl

/-- The stops latched after an assertion. -/
theorem RoleView.asserted_latched (v : RoleView) (seen : Nat) (what : Stops) :
    (v.asserted seen what).latched = v.latched.join what := RoleView.latch_latched _ _

end Sys2Proof.Machine
end

section
/-! PROOFS. The operations of the roles in the view of the role (13): ALIVE, MIRROR, the end of the ACTIVE role, what a standby
keeps. -/

namespace Sys2Proof.Machine

open Sys2Proof

variable (m : Mach) {clk tab : Bool}

/-! ### Fields of REDUN_STATUS -/

/-- A field of the view of a part, from what the view is. -/
theorem Mach.r_of_roleView {v : RoleView} (h : m.roleView clk tab = v) (g : Field) (hg : g ∈ roleFields false) : m.r g = v.1 g := by
  rw [← h, m.roleView_reg g hg]

section

variable {m} {v : RoleView} (h : m.roleView clk tab = v)
include h

/-- The state of a part, from what its view is. -/
theorem Mach.run_of_roleView : m.dam.run = v.2.run := by rw [← h]; rfl
theorem Mach.fixRun_of_roleView : m.dam.fixRun = v.2.fixRun := by rw [← h]; rfl
theorem Mach.flights_of_roleView : m.air.inFlight = v.2.flights := by rw [← h]; rfl
theorem Mach.periodFrom_of_roleView : m.red.periodFrom = v.2.periodFrom := by rw [← h]; rfl
theorem Mach.swapRun_of_roleView : m.red.run = v.2.swapRun := by rw [← h]; rfl
theorem Mach.hold_of_roleView : m.red.hold = v.2.hold := by rw [← h]; rfl

theorem Mach.outputsReleased_of_roleView (hr : v.2.run = false) (hf : v.2.fixRun = false) : m.outputsReleased :=
  ⟨(Mach.run_of_roleView h).trans hr, (Mach.fixRun_of_roleView h).trans hf⟩

end

/-- The tables of a part, from what its view of them is. -/
theorem Mach.tables_of_roleSt {m : Mach} {p : List Parked × Tab Member × Bool} (h : (m.roleSt clk true).tables = some p) :
    m.kiln.store.park = p.1 ∧ m.air.tab.members = p.2.1 ∧ m.air.wipe = p.2.2 := by
  cases h
  exact ⟨rfl, rfl, rfl⟩

@[simp] theorem Mach.setRole_roleView (st : Nat) (h : st < 8) :
    (m.setRole st).roleView clk tab = (m.roleView clk tab).put REDUN_STATUS_ROLE_STATE st := by
  unfold Mach.setRole
  dsimp only
  split
  · rename_i he
    rw [← eq_of_beq he]
    exact (m.roleView_put_self _ (by decide)).symm
  · rw [Mach.event_roleView, Mach.w_roleView _ _ _ (by decide),
      show st % 2 ^ REDUN_STATUS_ROLE_STATE.width = st from Nat.mod_eq_of_lt h]

@[simp] theorem Mach.setAlive_roleView (c : Nat) (h : c < 8) :
    (m.setAlive c).roleView clk tab = (m.roleView clk tab).put REDUN_STATUS_ALIVE_CODE c := by
  unfold Mach.setAlive
  split
  · rename_i he
    rw [← eq_of_beq he]
    exact (m.roleView_put_self _ (by decide)).symm
  · rw [Mach.w_roleView _ _ _ (by decide), show c % 2 ^ REDUN_STATUS_ALIVE_CODE.width = c from Nat.mod_eq_of_lt h]
    rfl

@[simp] theorem Mach.setMirror_roleView (v : Nat) (h : v < 8) :
    (m.setMirror v).roleView clk tab = (m.roleView clk tab).put REDUN_STATUS_MIRROR v := by
  unfold Mach.setMirror
  dsimp only [Mach.wb]
  rw [Mach.w_outside _ _ _ _ _ (by decide), Mach.w_roleView _ _ _ (by decide),
    show v % 2 ^ REDUN_STATUS_MIRROR.width = v from Nat.mod_eq_of_lt h]

@[simp] theorem Mach.bulkStart_roleView (want : Bool) :
    (m.bulkStart want).roleView clk tab = (m.roleView clk tab).put REDUN_STATUS_MIRROR 2 := by
  unfold Mach.bulkStart Mach.inc Mach.incBy
  dsimp only
  rw [Mach.w_outside _ _ _ _ _ (by decide), Mach.w_outside _ _ _ _ _ (by decide), Mach.setMirror_roleView _ _ (by decide)]
  rfl

/-- A bulk transfer that begins or not changes MIRROR at most. -/
theorem Mach.when_bulkStart_roleView (c want : Bool) : ∃ x, (m.when c (fun m => m.bulkStart want)).roleView clk tab =
    (m.roleView clk tab).put REDUN_STATUS_MIRROR x := by
  unfold Mach.when
  split
  · exact ⟨2, m.bulkStart_roleView want⟩
  · exact ⟨_, (m.roleView_put_self _ (by decide)).symm⟩

theorem Mach.mirrorLeave_roleView : ∃ x, m.mirrorLeave.roleView clk tab =
    (m.roleView clk tab).put REDUN_STATUS_MIRROR x := by
  unfold Mach.mirrorLeave
  split
  · refine ⟨if m.red.lost then 0 else 2, ?_⟩
    rw [Mach.setMirror_roleView _ _ (by split <;> decide)]
    rfl
  · exact ⟨_, (m.roleView_put_self _ (by decide)).symm⟩

@[simp] theorem Mach.swapShow_roleView : m.swapShow.roleView clk tab = m.roleView clk tab := by
  unfold Mach.swapShow
  dsimp only [Mach.wb]
  rw [Mach.w_outside _ _ _ _ _ (by decide), Mach.w_outside _ _ _ _ _ (by decide)]

/-- A source's bit of DAMP_SRC is replaced. -/
theorem Mach.setSrc_eq (src : Nat) (on : Bool) :
    m.setSrc src on = m.w DAMP_SRC_SRC (putBits (m.r DAMP_SRC_SRC) src 1 (b2n on)) := by
  unfold Mach.setSrc putBits
  cases on <;> rfl

theorem Mach.setSrc_roleView (src : Nat) (on : Bool) : (m.setSrc src on).roleView clk tab =
    (m.roleView clk tab).put DAMP_SRC_SRC (putBits (m.r DAMP_SRC_SRC) src 1 (b2n on) % 2 ^ 15) := by
  rw [Mach.setSrc_eq, Mach.w_roleView _ _ _ (by decide)]
  rfl

theorem RoleView.put_comm (v : RoleView) {f g : Field} (x y : Nat) (h : f ≠ g) : (v.put f x).put g y = (v.put g y).put f x :=
  Prod.ext (Function.update_comm h _ _ _) rfl

/-- A change of ALIVE that may be. -/
theorem Mach.when_alive_roleView (c : Bool) (f : Mach → Mach) (n : Nat)
    (hf : (f m).roleView clk tab = (m.roleView clk tab).put REDUN_STATUS_ALIVE_CODE n) :
    ∃ x, (m.when c f).roleView clk tab = (m.roleView clk tab).put REDUN_STATUS_ALIVE_CODE x := by
  unfold Mach.when
  split
  · exact ⟨n, hf⟩
  · exact ⟨_, (m.roleView_put_self _ (by decide)).symm⟩

/-- A standby's synchronisation shows in ALIVE and WARM only. -/
theorem Mach.syncEval_roleView : ∃ x y, m.syncEval.roleView clk tab =
    ((m.roleView clk tab).put REDUN_STATUS_ALIVE_CODE x).put REDUN_STATUS_WARM y := by
  unfold Mach.syncEval
  split
  · refine ⟨m.r REDUN_STATUS_ALIVE_CODE, m.r REDUN_STATUS_WARM, ?_⟩
    rw [m.roleView_put_self _ (by decide), m.roleView_put_self _ (by decide)]
  · extract_lets carried r1 m1 r2 m2 shown
    have h1 : m1.roleView clk tab = m.roleView clk tab := rfl
    have h2 : m2.roleView clk tab = m.roleView clk tab := rfl
    have hs : shown.roleView clk tab =
        (m.roleView clk tab).put REDUN_STATUS_WARM (b2n m1.red.warmEnd.isSome % 2 ^ REDUN_STATUS_WARM.width) := by
      rw [← h1]
      exact m1.w_roleView _ _ (by decide)
    split
    · obtain ⟨x, hx⟩ := m2.when_alive_roleView (!m2.drivesSync) (fun m => (m.setAlive 1).xchkStart) 1
        ((Mach.xchkStart_roleView _).trans (m2.setAlive_roleView 1 (by decide))) (clk := clk) (tab := tab)
      exact ⟨x, _, by rw [Mach.w_roleView _ _ _ (by decide), hx, h2]⟩
    · split
      · refine ⟨2, b2n m1.red.warmEnd.isSome % 2 ^ REDUN_STATUS_WARM.width, ?_⟩
        rw [Mach.setAlive_roleView _ 2 (by decide)]
        refine .trans ?_ (RoleView.put_comm _ _ _ (by decide))
        exact congrArg (fun v => v.put REDUN_STATUS_ALIVE_CODE 2) hs
      · refine ⟨m.r REDUN_STATUS_ALIVE_CODE, b2n m1.red.warmEnd.isSome % 2 ^ REDUN_STATUS_WARM.width, ?_⟩
        rw [m.roleView_put_self _ (by decide), hs]

end Sys2Proof.Machine
end

section
/-! PROOFS. The ends of a role in the view of the role (13, R413, R433): what leaves with it, and what an unsynchronised unit
keeps. -/

namespace Sys2Proof.Machine

open Sys2Proof

variable (m : Mach) {clk tab : Bool}

/-- The view without a swap. -/
def RoleView.unswapped (v : RoleView) : RoleView := v.set fun r => { r with swapRun := none, hold := false }

@[simp] theorem Mach.swapLost_roleView : m.swapLost.roleView clk tab = (m.roleView clk tab).unswapped := by
  unfold Mach.swapLost
  extract_lets w r red m1 m2
  have h2 : m2.roleView clk tab = m1.roleView clk tab :=
    (Mach.w_outside _ _ _ _ _ (by decide)).trans (Mach.w_outside _ _ _ _ _ (by decide))
  rw [Mach.each_roleView _ _ _ fun x d _ => x.complete_roleView d _ _,
    Mach.each_roleView _ _ _ fun x d _ => x.complete_roleView d _ _, h2]
  rfl

@[simp] theorem Mach.setStore_roleView_noTab (k : KilnStore) : (m.setStore k).roleView clk false = m.roleView clk false :=
  m.setStore_roleView k

@[simp] theorem Mach.setTab_roleView_noTab (t : AirTab) : (m.setTab t).roleView clk false = m.roleView clk false :=
  m.setTab_roleView t

@[simp] theorem Mach.failActive_roleView : m.failActive.roleView clk false = (m.roleView clk false).unswapped := by
  unfold Mach.failActive
  extract_lets m1 m2 m3 m4 m5
  have h1 : m1.roleView clk false = (m.roleView clk false).unswapped :=
    (Mach.motionLost_roleView _).trans m.swapLost_roleView
  have h2 : m2.roleView clk false = m1.roleView clk false := m1.flushDelivered_roleView _ _
  have h3 : m3.roleView clk false = m2.roleView clk false := m2.setStore_roleView_noTab _
  have h4 : m4.roleView clk false = m3.roleView clk false := m3.setTab_roleView_noTab _
  have h5 : m5.roleView clk false = m4.roleView clk false := m4.surveyLost_roleView
  rw [← h1, ← h2, ← h3, ← h4, ← h5]
  clear_value m5
  rfl

/-- The view of a unit whose ACTIVE role has ended for the state `st`, MIRROR aside. -/
def RoleView.left (v : RoleView) (st : Nat) : RoleView :=
  ((((v.put DAMP_STATUS_GATE 1).set fun r => { r with flights := [], run := false, fixRun := false }).put
    REDUN_STATUS_ROLE_STATE st).put REDUN_STATUS_ROLE 0).unswapped

theorem RoleView.left_other (v : RoleView) (st : Nat) (g : Field)
    (h : g ∉ [DAMP_STATUS_GATE, REDUN_STATUS_ROLE_STATE, REDUN_STATUS_ROLE]) : (v.left st).1 g = v.1 g := by
  simp only [List.mem_cons, List.not_mem_nil, or_false, not_or] at h
  obtain ⟨hgate, hstate, hrole⟩ := h
  simp only [RoleView.left, RoleView.unswapped, RoleView.set_fst, RoleView.put_reg_ne _ _ _ _ hgate,
    RoleView.put_reg_ne _ _ _ _ hstate, RoleView.put_reg_ne _ _ _ _ hrole]

theorem Mach.leaveActive_roleView (st : Nat) (h : st < 8) : ∃ x, (m.leaveActive st).roleView clk false =
    ((m.roleView clk false).left st).put REDUN_STATUS_MIRROR x := by
  unfold Mach.leaveActive
  extract_lets m1 m2
  have h1 : m1.roleView clk false = ((m.roleView clk false).put DAMP_STATUS_GATE 1).set
      fun r => { r with flights := [], run := false, fixRun := false } := by
    rw [Mach.setFixEn_roleView, Mach.setStopOut_roleView, Mach.gateClose_roleView]
    rfl
  have h2 : m2.roleView clk false = (m1.roleView clk false).put REDUN_STATUS_ROLE_STATE st := by
    rw [Mach.setRole_roleView _ _ h, Mach.armEnd_roleView]
  obtain ⟨x, hx⟩ := (m2.w REDUN_STATUS_ROLE 0).airRefresh.failActive.pulseRelease.dockOutputs.signShow.mirrorLeave_roleView
    (clk := clk) (tab := false)
  refine ⟨x, hx.trans ?_⟩
  rw [Mach.signShow_roleView, Mach.dockOutputs_roleView, Mach.pulseRelease_roleView, Mach.failActive_roleView,
    Mach.airRefresh_roleView, Mach.w_roleView _ _ _ (by decide), h2, h1]
  rfl

/-! ### What an unsynchronised unit keeps -/

/-- The view with its tables changed. -/
def RoleView.tables (v : RoleView) (f : List Parked × Tab Member × Bool → List Parked × Tab Member × Bool) : RoleView :=
  v.set fun r => { r with tables := r.tables.map f }

@[simp] theorem Mach.mirrorDiscard_roleView : m.mirrorDiscard.roleView clk tab =
    (m.roleView clk tab).tables fun p => ([], [], p.2.2) := by
  unfold Mach.mirrorDiscard
  extract_lets k m1 m2 m3
  have h2 : m2.roleView clk tab = (m.roleView clk tab).tables fun p => ([], [], p.2.2) := by
    rw [Mach.setTab_roleView, Mach.setStore_roleView]
    cases tab <;> rfl
  rw [Mach.airShow_roleView, Mach.signShow_roleView]
  iterate 4 rw [Mach.w_outside _ _ _ _ _ (by decide)]
  exact h2

@[simp] theorem Mach.airWipe_roleView : m.airWipe.roleView clk false = m.roleView clk false := by
  unfold Mach.airWipe
  exact Mach.when_roleView _ _ _ fun x => (Mach.airShow_roleView _).trans (x.setTab_roleView_noTab _)

/-- A slot that the unit serves is in progress. -/
def Mach.serving (m : Mach) : Bool := m.inSlot && m.air.held && m.air.on

/-- What the view has of it. -/
def RoleView.slotPart (v : RoleView) : Nat × Option (Nat × Nat) × Option Nat × Bool × Bool :=
  (v.1 TIME_STATUS_STEP_LOCK, v.2.clock, v.2.slot, v.2.held, v.2.on)

theorem Mach.serving_congr {a b : Mach} (h : (b.roleView true tab).slotPart = (a.roleView true tab).slotPart) :
    b.serving = a.serving := by
  obtain ⟨hr, hs⟩ := Prod.ext_iff.mp h
  obtain ⟨hclock, hs⟩ := Prod.ext_iff.mp hs
  obtain ⟨hslot, hs⟩ := Prod.ext_iff.mp hs
  obtain ⟨hheld, hon⟩ := Prod.ext_iff.mp hs
  replace hr : b.r TIME_STATUS_STEP_LOCK = a.r TIME_STATUS_STEP_LOCK := hr
  replace hslot : b.air.slot = a.air.slot := hslot
  replace hheld : b.air.held = a.air.held := hheld
  replace hon : b.air.on = a.air.on := hon
  obtain ⟨hsec, hns⟩ : b.time.sec = a.time.sec ∧ b.time.ns = a.time.ns := Prod.ext_iff.mp (Option.some.inj hclock)
  simp only [Mach.serving, Mach.inSlot, Mach.stepped, Mach.b, Mach.asn, Mach.msInt, hr, hsec, hns, hslot, hheld, hon]

/-- The Air tables stand for the slot in progress, to be wiped after it. -/
def Mach.tabStands (m : Mach) (t : AirTab) : Mach :=
  let m := m.setTab t
  ({ m with air := { m.air with wipe := true } }).airShow

theorem Mach.tabStands_roleView (t : AirTab) : (m.tabStands t).roleView clk tab =
    (m.roleView clk tab).tables fun p => (p.1, t.members, true) := by
  refine (Mach.airShow_roleView _).trans ?_
  cases tab <;> rfl

theorem Mach.discardLate_eq : m.discardLate =
    if m.mirrorDiscard.serving then m.mirrorDiscard.tabStands m.air.tab else m.mirrorDiscard := rfl

@[simp] theorem Mach.discardLate_roleView : m.discardLate.roleView clk false = m.roleView clk false := by
  rw [Mach.discardLate_eq]
  split
  · rw [Mach.tabStands_roleView, Mach.mirrorDiscard_roleView]
    rfl
  · exact m.mirrorDiscard_roleView

/-- The tables after a role lost inside a slot that the unit served, or outside one: they stand, or they are gone. -/
theorem Mach.discardLate_tables : ∃ members wipe, (m.serving = false → members = []) ∧ (m.serving = true → wipe = true) ∧
    (m.discardLate.roleSt false true).tables = some ([], members, wipe) := by
  have hd : m.mirrorDiscard.serving = m.serving := 
    Mach.serving_congr (tab := false) (congrArg RoleView.slotPart m.mirrorDiscard_roleView)
  have ht : m.mirrorDiscard.roleView false true = (m.roleView false true).tables fun p => ([], [], p.2.2) :=
    m.mirrorDiscard_roleView
  rw [Mach.discardLate_eq, hd, ← Mach.roleView_snd]
  split
  · rename_i hs
    exact ⟨m.air.tab.members, true, fun h => absurd (h.symm.trans hs) (by decide), fun _ => rfl,
      by rw [Mach.tabStands_roleView, ht]; rfl⟩
  · rename_i hs
    exact ⟨[], m.air.wipe, fun _ => rfl, fun h => absurd h hs, by rw [ht]; rfl⟩

end Sys2Proof.Machine
end

section
/-! PROOFS. The ways to the ACTIVE role in the view of the role (13, R218, R413, R434, R435). -/

namespace Sys2Proof.Machine

open Sys2Proof

variable (m : Mach) {clk tab : Bool}

/-! ### The parts of a takeover -/

/-- What every takeover begins with. -/
def Mach.takeBegin (m : Mach) : Mach :=
  let planned := m.red.finalIn && m.mirror == 3 && m.isStandby
  let m := (m.airWipe.corrForget.setRole 1).w REDUN_STATUS_ROLE 1
  let m := { m with red := { m.red with
    prefEnd := none, finalIn := false, carried := false, warmEnd := none, permitMiss := 0, watched := none, gapAt := none,
    want := false, ackSeq := none, ackAt := m.now, ends := [], ackPt := none, mateWarm := planned, periodFrom := some m.now } }
  (m.w REDUN_STATUS_WARM 0).timeTakeover

/-- What is done from the start-up state, after FINAL, by a warm-eligible standby, and by another unit. -/
def Mach.takeBy (m : Mach) (start planned warm : Bool) : Mach :=
  if start then m.newKeys false
  else if planned then ((m.each (List.range 8) Mach.axisHeld).metTakeover.newKeys false).inc REDUN_SWAPS_ALL
  else if warm then m.takeWarm
  else m.takeCold

/-- What every takeover ends with. -/
def Mach.takeEnd (m : Mach) (planned : Bool) : Mach :=
  let m := m.when (!planned && 2 ≤ m.mirror && m.mirror ≤ 5) (fun m => m.bulkStart false)
  let m := ((m.setAlive 1).xchkClear).driveOutputs
  ((m.quickStop.dockOutputs).airRefresh).signShow.swapShow

theorem Mach.takeRole_eq : m.takeRole =
    let planned := m.red.finalIn && m.mirror == 3 && m.isStandby
    (m.takeBegin.takeBy (m.r REDUN_STATUS_ROLE_STATE == 0) planned (m.b REDUN_STATUS_WARM)).takeEnd planned := rfl

/-! ### Their views -/

theorem Mach.takeBegin_roleView : m.takeBegin.roleView false false =
    ((((m.roleView false false).put REDUN_STATUS_ROLE_STATE 1).put REDUN_STATUS_ROLE 1).set
      fun r => { r with periodFrom := some r.ticks }).put REDUN_STATUS_WARM 0 := by
  unfold Mach.takeBegin
  extract_lets planned m1 red m2
  have h1 : m1.roleView false false =
      ((m.roleView false false).put REDUN_STATUS_ROLE_STATE 1).put REDUN_STATUS_ROLE 1 := by
    rw [Mach.w_roleView _ _ _ (by decide), Mach.setRole_roleView _ _ (by decide), Mach.corrForget_roleView,
      Mach.airWipe_roleView]
    rfl
  have h2 : m2.roleView false false = (m1.roleView false false).set fun r => { r with periodFrom := some r.ticks } := rfl
  rw [Mach.timeTakeover_roleView, Mach.w_roleView _ _ _ (by decide), h2, h1]
  rfl

theorem Mach.takeEnd_roleView (planned : Bool) : ∃ x fix, (m.takeEnd planned).roleView clk tab =
    (((m.roleView clk tab).put REDUN_STATUS_MIRROR x).put REDUN_STATUS_ALIVE_CODE 1).set
      fun r => { r with run := m.b REDUN_STATUS_GRANTED && !m.siteLatched, fixRun := fix } := by
  unfold Mach.takeEnd
  extract_lets m1 m2
  obtain ⟨x, hx⟩ := m.when_bulkStart_roleView (!planned && 2 ≤ m.mirror && m.mirror ≤ 5) false (clk := clk) (tab := tab)
  obtain ⟨fix, hf⟩ := (m1.setAlive 1).xchkClear.driveOutputs_roleView (clk := clk) (tab := tab)
  have hv : (m1.setAlive 1).xchkClear.roleView clk tab =
      ((m.roleView clk tab).put REDUN_STATUS_MIRROR x).put REDUN_STATUS_ALIVE_CODE 1 := by
    rw [Mach.xchkClear_roleView, Mach.setAlive_roleView _ _ (by decide), hx]
  have hr : ∀ g ∈ roleFields false, g ≠ REDUN_STATUS_MIRROR → g ≠ REDUN_STATUS_ALIVE_CODE →
      (m1.setAlive 1).xchkClear.r g = m.r g := by
    intro g hg hm ha
    rw [Mach.r_of_roleView _ hv g hg, RoleView.put_reg_ne _ _ _ _ ha, RoleView.put_reg_ne _ _ _ _ hm, m.roleView_reg g hg]
  refine ⟨x, fix, ?_⟩
  rw [Mach.swapShow_roleView, Mach.signShow_roleView, Mach.airRefresh_roleView, Mach.dockOutputs_roleView,
    Mach.quickStop_roleView, hf, hv]
  simp only [Mach.b, Mach.siteLatched, hr REDUN_STATUS_GRANTED (by decide) (by decide) (by decide),
    hr DAMP_STATUS_SITE_LATCHED (by decide) (by decide) (by decide)]

/-- A cold takeover latches the site alone, and its tables are gone. -/
theorem Mach.takeCold_roleView : ∃ seen run fix, m.takeCold.roleView clk tab =
    ((((m.roleView clk tab).tables fun p => ([], [], p.2.2)).latch ⟨m.siteLatched, 0, 0⟩).asserted seen Stops.ofSite).set
      fun r => { r with run := run, fixRun := fix } := by
  unfold Mach.takeCold
  extract_lets m1 empty m2
  have h1 : m1.roleView clk tab = (m.roleView clk tab).tables fun p => ([], [], p.2.2) := by
    rw [Mach.metCold_roleView, Mach.eachBank_roleView _ (by decide) _ fun x a ha => x.axisCold_roleView ha,
      Mach.mirrorDiscard_roleView]
  have hs : m1.siteLatched = m.siteLatched := by
    unfold Mach.siteLatched Mach.b
    rw [Mach.r_of_roleView _ h1 _ (by decide), RoleView.tables, RoleView.set_fst, m.roleView_reg _ (by decide)]
  have hl : (m1.setLatches { Stops.empty with site := m1.siteLatched }).roleView clk tab =
      ((m.roleView clk tab).tables fun p => ([], [], p.2.2)).latch ⟨m.siteLatched, 0, 0⟩ := by
    rw [Mach.setLatches_roleView, h1, hs]
    rfl
  obtain ⟨run, fix, ha⟩ := (m1.setLatches { Stops.empty with site := m1.siteLatched }).assertSource_roleView 14 0 Stops.ofSite
    (clk := clk) (tab := tab) (by
      rw [← Mach.roleView_snd, hl]
      rintro p hp
      obtain ⟨q, -, rfl⟩ := Option.map_eq_some_iff.mp hp
      rfl)
  refine ⟨((m1.setLatches { Stops.empty with site := m1.siteLatched }).r DAMP_SRC_SEEN_SEEN ||| 1 <<< 14) % 2 ^ 15, run, fix, ?_⟩
  rw [Mach.event_roleView]
  exact (Mach.w_outside _ _ _ _ _ (by decide)).trans ((Mach.newKeys_roleView _ _).trans (ha.trans (by rw [hl])))

/-! ### What a takeover leaves as its beginning has set it -/

/-- Two views with the same role, grant and begin of the role. -/
def RoleView.sameRole (v w : RoleView) : Prop :=
  v.1 REDUN_STATUS_ROLE_STATE = w.1 REDUN_STATUS_ROLE_STATE ∧ v.1 REDUN_STATUS_ROLE = w.1 REDUN_STATUS_ROLE ∧
    v.1 REDUN_STATUS_GRANTED = w.1 REDUN_STATUS_GRANTED ∧ v.2.periodFrom = w.2.periodFrom

theorem RoleView.sameRole_rfl (v : RoleView) : v.sameRole v := ⟨rfl, rfl, rfl, rfl⟩

theorem Mach.takeWarm_roleView : m.takeWarm.roleView clk tab = m.roleView clk tab := by
  unfold Mach.takeWarm Mach.inc Mach.incBy
  dsimp only
  rw [Mach.event_roleView, Mach.w_outside _ _ _ _ _ (by decide), Mach.newKeys_roleView, Mach.metTakeover_roleView,
    Mach.eachBank_roleView _ (by decide) _ fun x a ha => x.axisTaken_roleView ha]

theorem Mach.takeBy_sameRole (start planned warm : Bool) :
    ((m.takeBy start planned warm).roleView clk tab).sameRole (m.roleView clk tab) := by
  unfold Mach.takeBy
  split
  · rw [Mach.newKeys_roleView]
    exact RoleView.sameRole_rfl _
  · split
    · have hs : ∀ (x : Mach) (v : RoleView), x.roleView clk tab = v → ((x.inc REDUN_SWAPS_ALL).roleView clk tab).sameRole v := by
        rintro x _ rfl
        unfold Mach.inc Mach.incBy
        rw [Mach.w_roleView _ _ _ (by decide)]
        exact ⟨RoleView.put_reg_ne _ _ _ _ (by decide), RoleView.put_reg_ne _ _ _ _ (by decide),
          RoleView.put_reg_ne _ _ _ _ (by decide), rfl⟩
      refine hs _ _ ?_
      rw [Mach.newKeys_roleView, Mach.metTakeover_roleView, Mach.eachBank_roleView _ (by decide) _ fun x a ha => x.axisHeld_roleView ha]
    · split
      · rw [Mach.takeWarm_roleView]
        exact RoleView.sameRole_rfl _
      · obtain ⟨seen, run, fix, h⟩ := m.takeCold_roleView (clk := clk) (tab := tab)
        rw [h]
        refine ⟨?_, ?_, ?_, rfl⟩ <;>
          simp (disch := decide) only [RoleView.asserted, RoleView.latch, RoleView.tables, RoleView.set_fst, RoleView.put_reg_ne]

/-- The role that a takeover begins with. -/
theorem Mach.takeBegin_role : m.takeBegin.r REDUN_STATUS_ROLE_STATE = 1 ∧ m.takeBegin.r REDUN_STATUS_ROLE = 1 ∧
    m.takeBegin.r REDUN_STATUS_GRANTED = m.r REDUN_STATUS_GRANTED ∧ m.takeBegin.red.periodFrom = some m.now := by
  have hb := m.takeBegin_roleView
  have hr := fun g hg => Mach.r_of_roleView _ hb g hg
  refine ⟨?_, ?_, ?_, Mach.periodFrom_of_roleView hb⟩
  · rw [hr _ (by decide)]
    simp (disch := decide) only [RoleView.set_fst, RoleView.put_reg_ne, RoleView.put_reg_same]
  · rw [hr _ (by decide)]
    simp (disch := decide) only [RoleView.set_fst, RoleView.put_reg_ne, RoleView.put_reg_same]
  · rw [hr _ (by decide)]
    simp (disch := decide) only [RoleView.set_fst, RoleView.put_reg_ne, Mach.roleView_reg]

/-- What the ACTIVE role is known by after a takeover. -/
theorem Mach.takeRole_active (hg : m.b REDUN_STATUS_GRANTED = true) :
    m.takeRole.isActive = true ∧ m.takeRole.b REDUN_STATUS_GRANTED = true ∧ m.takeRole.r REDUN_STATUS_ALIVE_CODE = 1 ∧
      m.takeRole.b REDUN_STATUS_ROLE = true ∧ m.takeRole.dam.run = !m.takeRole.siteLatched ∧
      m.takeRole.red.periodFrom = some m.now := by
  rw [Mach.takeRole_eq]
  extract_lets planned
  obtain ⟨hst, hro, hgr, hpf⟩ := m.takeBegin.takeBy_sameRole (m.r REDUN_STATUS_ROLE_STATE == 0) planned
    (m.b REDUN_STATUS_WARM) (clk := false) (tab := false)
  generalize m.takeBegin.takeBy _ _ _ = t at hst hro hgr hpf ⊢
  obtain ⟨hst0, hro0, hgr0, hpf0⟩ := m.takeBegin_role
  simp (disch := decide) only [Mach.roleView_reg, hst0, hro0, hgr0] at hst hro hgr
  obtain ⟨x, fix, he⟩ := t.takeEnd_roleView planned (clk := false) (tab := false)
  have hr := fun g hg => Mach.r_of_roleView _ he g hg
  have hkeep : ∀ g ∈ roleFields false, g ≠ REDUN_STATUS_MIRROR → g ≠ REDUN_STATUS_ALIVE_CODE →
      (t.takeEnd planned).r g = t.r g := by
    intro g hg hm ha
    rw [hr g hg, RoleView.set_fst, RoleView.put_reg_ne _ _ _ _ ha, RoleView.put_reg_ne _ _ _ _ hm, t.roleView_reg g hg]
  have hgt : t.b REDUN_STATUS_GRANTED = true := by rw [← hg, Mach.b, Mach.b, hgr]
  refine ⟨?_, ?_, ?_, ?_, ?_, ?_⟩
  · rw [Mach.isActive, hkeep _ (by decide) (by decide) (by decide), hst]
    rfl
  · rw [Mach.b, hkeep _ (by decide) (by decide) (by decide)]
    exact hgt
  · rw [hr _ (by decide), RoleView.set_fst, RoleView.put_reg_same]
  · rw [Mach.b, hkeep _ (by decide) (by decide) (by decide), hro]
    rfl
  · have hrun : (t.takeEnd planned).dam.run = (t.b REDUN_STATUS_GRANTED && !t.siteLatched) :=
      Mach.run_of_roleView he
    rw [hrun, hgt, Mach.siteLatched, Mach.siteLatched, Mach.b, Mach.b, hkeep _ (by decide) (by decide) (by decide)]
    rfl
  · exact (Mach.periodFrom_of_roleView he).trans (hpf.trans hpf0)

/-- The latches and tables of a cold takeover. -/
theorem Mach.takeCold_latches (planned : Bool) : (m.takeCold.takeEnd planned).siteLatched = true ∧
    (m.takeCold.takeEnd planned).zoneLatches = 0 ∧ (m.takeCold.takeEnd planned).dam.agents = 0 ∧
    (m.takeCold.takeEnd planned).kiln.store.park = [] ∧ (m.takeCold.takeEnd planned).air.tab.members = [] := by
  obtain ⟨seen, run, fix, hc⟩ := m.takeCold_roleView (clk := false) (tab := true)
  obtain ⟨x, fix', he⟩ := m.takeCold.takeEnd_roleView planned (clk := false) (tab := true)
  rw [hc] at he
  obtain ⟨hpark, hmem, -⟩ := Mach.tables_of_roleSt (m := m.takeCold.takeEnd planned) (clk := false)
    (p := ([], [], m.air.wipe)) (by rw [← Mach.roleView_snd, he]; rfl)
  have hl : (m.takeCold.takeEnd planned).latched = Stops.ofSite := by
    rw [Mach.latched_eq _ (clk := false) (tab := true), he, RoleView.set_latched _ _ (by intro; rfl),
      RoleView.put_latched _ _ _ (by decide), RoleView.put_latched _ _ _ (by decide), RoleView.set_latched _ _ (by intro; rfl),
      RoleView.asserted_latched, RoleView.latch_latched]
    simp only [Stops.join, Stops.ofSite, Bool.or_true, BitVec.or_self]
  obtain ⟨hsite, hzones, hagents⟩ := (Stops.mk.injEq ..).mp hl
  exact ⟨hsite, Mach.zoneLatches_eq_zero _ hzones, hagents, hpark, hmem⟩

/-- What a cold takeover leaves. -/
theorem Mach.takeRole_cold (hp : m.red.finalIn = false) (hs : m.r REDUN_STATUS_ROLE_STATE = 2)
    (hw : m.b REDUN_STATUS_WARM = false) : m.takeRole.siteLatched = true ∧ m.takeRole.zoneLatches = 0 ∧
      m.takeRole.dam.agents = 0 ∧ m.takeRole.kiln.store.park = [] ∧ m.takeRole.air.tab.members = [] := by
  have hby : m.takeRole = m.takeBegin.takeCold.takeEnd false := by
    rw [Mach.takeRole_eq, hp, hs, hw]
    rfl
  rw [hby]
  exact m.takeBegin.takeCold_latches false

end Sys2Proof.Machine
end

section
/-! PROOFS. Loss of grant and the chip safe state in the view of the role (R21, R413, R433). -/

namespace Sys2Proof.Machine

open Sys2Proof

variable (m : Mach) {clk tab : Bool}

/-! ### Grant lost without a swap (R413) -/

/-- Grant has left: the unit is a standby that keeps no mirrored state. -/
def Mach.grantLeft (m : Mach) : Mach := ((m.assertSource 10 0 Stops.ofSite).leaveActive 2).discardLate

/-- Its bulk transfer and its ALIVE code. -/
def Mach.grantAfter (m : Mach) : Mach :=
  let m := (m.setSrc 9 false).setAlive 2
  let m := m.when (2 ≤ m.mirror && m.mirror ≤ 5) (fun m => m.bulkStart true)
  (m.timeShow.syncEval).swapShow

theorem Mach.grantRemoved_lost (hg : m.b REDUN_STATUS_GRANTED = true) (ha : (m.w REDUN_STATUS_GRANTED 0).isActive = true)
    (hr : (m.w REDUN_STATUS_GRANTED 0).r REDUN_STATUS_ALIVE_CODE ≠ 3) :
    grantRemoved m = (m.w REDUN_STATUS_GRANTED 0).grantLeft.grantAfter := by
  have hr : ((m.w REDUN_STATUS_GRANTED 0).r REDUN_STATUS_ALIVE_CODE == 3) = false := beq_false_of_ne hr
  unfold grantRemoved
  dsimp only
  rw [hg, ha, hr]
  rfl

/-- SYNC_LOSS asserts no longer. -/
def RoleView.src9 (v : RoleView) : RoleView := v.put DAMP_SRC_SRC (putBits (v.1 DAMP_SRC_SRC) 9 1 0 % 2 ^ 15)

theorem Mach.setSrc9_roleView : (m.setSrc 9 false).roleView clk tab = (m.roleView clk tab).src9 := by
  rw [Mach.setSrc_roleView, RoleView.src9, m.roleView_reg _ (by decide)]
  rfl

theorem Mach.grantAfter_roleView : ∃ x a y, m.grantAfter.roleView clk tab =
    (((((m.roleView clk tab).src9.put REDUN_STATUS_ALIVE_CODE 2).put REDUN_STATUS_MIRROR x).put
      REDUN_STATUS_ALIVE_CODE a).put REDUN_STATUS_WARM y) := by
  unfold Mach.grantAfter
  extract_lets m1 m2
  have h1 : m1.roleView clk tab = (m.roleView clk tab).src9.put REDUN_STATUS_ALIVE_CODE 2 := by
    rw [Mach.setAlive_roleView _ _ (by decide), Mach.setSrc9_roleView]
  obtain ⟨x, hx⟩ := m1.when_bulkStart_roleView (2 ≤ m1.mirror && m1.mirror ≤ 5) true (clk := clk) (tab := tab)
  obtain ⟨a, y, he⟩ := m2.timeShow.syncEval_roleView (clk := clk) (tab := tab)
  refine ⟨x, a, y, ?_⟩
  rw [Mach.swapShow_roleView, he, Mach.timeShow_roleView, hx, h1]

/-- The view of a unit that has left the ACTIVE role for `st` with the site latched by a source. -/
def RoleView.stopped (v : RoleView) (seen st : Nat) : RoleView := (v.asserted seen Stops.ofSite).left st

theorem RoleView.stopped_regs (v : RoleView) (seen st : Nat) : (v.stopped seen st).1 REDUN_STATUS_ROLE_STATE = st ∧
    (v.stopped seen st).1 DAMP_STATUS_SITE_LATCHED = 1 ∧ (v.stopped seen st).1 DAMP_SRC_SEEN_SEEN = seen ∧
    (v.stopped seen st).1 DAMP_STATUS_GATE = 1 := by
  have hsite : ∀ s : Stops, b2n (s.join Stops.ofSite).site = 1 := by
    intro s
    simp only [Stops.join, Stops.ofSite, Bool.or_true]
    rfl
  refine ⟨?_, ?_, ?_, ?_⟩ <;>
    simp (disch := decide) only [RoleView.stopped, RoleView.left, RoleView.unswapped, RoleView.asserted, RoleView.latch,
      RoleView.set_fst, RoleView.put_reg_ne, RoleView.put_reg_same, hsite]

/-- The fields that a stop with the end of the role leaves. -/
theorem RoleView.stopped_other (v : RoleView) (seen st : Nat) (g : Field) (ha : g ∉ assertedFields)
    (hl : g ∉ [DAMP_STATUS_GATE, REDUN_STATUS_ROLE_STATE, REDUN_STATUS_ROLE]) : (v.stopped seen st).1 g = v.1 g := by
  rw [RoleView.stopped, RoleView.left_other _ _ _ hl, RoleView.asserted_other _ _ _ _ ha]

/-- The source's assertion and the end of the role. -/
theorem Mach.assertLeave_roleView (src detail st : Nat) (h : st < 8) : ∃ x,
    ((m.assertSource src detail Stops.ofSite).leaveActive st).roleView clk false =
      ((m.roleView clk false).stopped ((m.r DAMP_SRC_SEEN_SEEN ||| (1 <<< src)) % 2 ^ 15) st).put REDUN_STATUS_MIRROR x := by
  obtain ⟨run, fix, ha⟩ := m.assertSource_roleView src detail Stops.ofSite (clk := clk) (tab := false) (by rintro _ ⟨⟩)
  obtain ⟨x, hx⟩ := (m.assertSource src detail Stops.ofSite).leaveActive_roleView st h (clk := clk)
  exact ⟨x, hx.trans (by rw [ha]; rfl)⟩

theorem Mach.grantLeft_roleView : ∃ x, m.grantLeft.roleView clk false =
    ((m.roleView clk false).stopped ((m.r DAMP_SRC_SEEN_SEEN ||| (1 <<< 10)) % 2 ^ 15) 2).put REDUN_STATUS_MIRROR x := by
  unfold Mach.grantLeft
  rw [Mach.discardLate_roleView]
  exact m.assertLeave_roleView 10 0 2 (by decide)

theorem RoleView.put_slotPart (v : RoleView) (f : Field) (x : Nat) (h : TIME_STATUS_STEP_LOCK ≠ f) :
    (v.put f x).slotPart = v.slotPart := by
  simp only [RoleView.slotPart, RoleView.put_reg_ne _ _ _ _ h, RoleView.put_snd]

theorem RoleView.stopped_slotPart (v : RoleView) (seen st : Nat) : (v.stopped seen st).slotPart = v.slotPart := by
  simp (disch := decide) only [RoleView.slotPart, RoleView.stopped, RoleView.left, RoleView.unswapped, RoleView.asserted,
    RoleView.latch, RoleView.set_fst, RoleView.put_reg_ne]
  rfl

/-- A slot that the unit serves is served still as grant leaves. -/
theorem Mach.assertLeave_serving (src detail st : Nat) (h : st < 8) :
    ((m.assertSource src detail Stops.ofSite).leaveActive st).serving = m.serving := by
  obtain ⟨x, hx⟩ := m.assertLeave_roleView src detail st h (clk := true)
  refine Mach.serving_congr (tab := false) ?_
  rw [hx, RoleView.put_slotPart _ _ _ (by decide), RoleView.stopped_slotPart]

/-- The tables of a unit that has lost grant. -/
theorem Mach.grantLost_tables : ∃ members wipe, (m.serving = false → members = []) ∧ (m.serving = true → wipe = true) ∧
    (m.grantLeft.grantAfter.roleSt false true).tables = some ([], members, wipe) := by
  obtain ⟨members, wipe, hm, hw, ht⟩ :=
    ((m.assertSource 10 0 Stops.ofSite).leaveActive 2).discardLate_tables
  rw [m.assertLeave_serving 10 0 2 (by decide)] at hm hw
  obtain ⟨x, a, y, he⟩ := m.grantLeft.grantAfter_roleView (clk := false) (tab := true)
  exact ⟨members, wipe, hm, hw, by rw [← Mach.roleView_snd, he]; exact ht⟩

/-- What a unit has latched and released that has lost grant. -/
theorem Mach.grantLost_stops (t : Mach) (hg : m.r REDUN_STATUS_GRANTED = 0) (ht : t = m.grantLeft.grantAfter) :
    t.isStandby = true ∧ t.b REDUN_STATUS_GRANTED = false ∧ t.siteLatched = true ∧
      (t.r DAMP_SRC_SEEN_SEEN).testBit 10 = true ∧ t.r DAMP_STATUS_GATE = 1 ∧ t.outputsReleased ∧ t.air.inFlight = [] := by
  obtain ⟨x, hl⟩ := m.grantLeft_roleView (clk := false)
  obtain ⟨x', a, y, he⟩ := m.grantLeft.grantAfter_roleView (clk := false) (tab := false)
  rw [hl, ← ht] at he
  have hr := fun g hg => Mach.r_of_roleView _ he g hg
  obtain ⟨hst, hsite, hsn, hgate⟩ := (m.roleView false false).stopped_regs ((m.r DAMP_SRC_SEEN_SEEN ||| 1 <<< 10) % 2 ^ 15) 2
  have hseen : ((m.r DAMP_SRC_SEEN_SEEN ||| 1 <<< 10) % 2 ^ 15).testBit 10 = true := by
    rw [Nat.testBit_mod_two_pow, Nat.testBit_or, show Nat.testBit (1 <<< 10) 10 = true by decide, Bool.or_true]
    rfl
  refine ⟨?_, ?_, ?_, ?_, ?_, Mach.outputsReleased_of_roleView he rfl rfl, Mach.flights_of_roleView he⟩
  · rw [Mach.isStandby, hr _ (by decide)]
    simp (disch := decide) only [RoleView.src9, RoleView.put_reg_ne, hst]
    rfl
  · rw [Mach.b, hr _ (by decide)]
    simp (disch := decide) only [RoleView.src9, RoleView.put_reg_ne, RoleView.stopped_other, Mach.roleView_reg, hg]
    rfl
  · rw [Mach.siteLatched, Mach.b, hr _ (by decide)]
    simp (disch := decide) only [RoleView.src9, RoleView.put_reg_ne, hsite]
    rfl
  · rw [hr _ (by decide)]
    simp (disch := decide) only [RoleView.src9, RoleView.put_reg_ne, hsn, hseen]
  · rw [hr _ (by decide)]
    simp (disch := decide) only [RoleView.src9, RoleView.put_reg_ne, hgate]

end Sys2Proof.Machine
end

section
/-! PROOFS. Grant given up by a swap, and the chip safe state, in the view of the role (R21, R433). -/

namespace Sys2Proof.Machine

open Sys2Proof

variable (m : Mach) {clk tab : Bool}

/-! ### Grant removed after RELINQUISH of a swap (R433) -/

theorem Mach.grantRemoved_swap (r : SwapRun) (hg : m.b REDUN_STATUS_GRANTED = true)
    (ha : (m.w REDUN_STATUS_GRANTED 0).isActive = true) (hr : (m.w REDUN_STATUS_GRANTED 0).r REDUN_STATUS_ALIVE_CODE = 3)
    (hs : m.red.run = some r) : grantRemoved m = (m.w REDUN_STATUS_GRANTED 0).swapDone r := by
  have hs : (m.w REDUN_STATUS_GRANTED 0).red.run = some r := hs
  unfold grantRemoved
  dsimp only
  rw [hg, ha, hr, hs]
  rfl

theorem Mach.swapDone_roleView (r : SwapRun) : ∃ x a y, (m.swapDone r).roleView clk false =
    ((((((m.roleView clk false).left 2).put REDUN_STATUS_MIRROR x).put REDUN_SWAPS_ALL
      (min (m.r REDUN_SWAPS_ALL + 1) (2 ^ REDUN_SWAPS_ALL.width - 1))).src9.put REDUN_STATUS_MIRROR 3).put
        REDUN_STATUS_ALIVE_CODE a).put REDUN_STATUS_WARM y := by
  unfold Mach.swapDone
  extract_lets pt red m1 m2 m3 red' m4 m5
  have h2 : m2.roleView clk false = (m.roleView clk false).unswapped :=
    (m1.w_outside _ _ _ _ (by decide))
  obtain ⟨x, hx⟩ := m2.leaveActive_roleView 2 (by decide) (clk := clk)
  rw [h2] at hx
  have hl : (m2.leaveActive 2).roleView clk false = ((m.roleView clk false).left 2).put REDUN_STATUS_MIRROR x := hx
  have hn : (m2.leaveActive 2).r REDUN_SWAPS_ALL = m.r REDUN_SWAPS_ALL := by
    rw [Mach.r_of_roleView _ hl _ (by decide)]
    simp (disch := decide) only [RoleView.left, RoleView.unswapped, RoleView.set_fst, RoleView.put_reg_ne, Mach.roleView_reg]
  have h3 : m3.roleView clk false = (((m.roleView clk false).left 2).put REDUN_STATUS_MIRROR x).put REDUN_SWAPS_ALL
      (min (m.r REDUN_SWAPS_ALL + 1) (2 ^ REDUN_SWAPS_ALL.width - 1)) := by
    rw [← hl, ← hn]
    refine (Mach.w_roleView _ _ _ (by decide)).trans ?_
    rw [Nat.mod_eq_of_lt (by
      have := Nat.two_pow_pos REDUN_SWAPS_ALL.width
      omega)]
  have h4 : m4.roleView clk false = m3.roleView clk false := rfl
  obtain ⟨a, y, he⟩ := ((m4.setSrc 9 false).setMirror 3).timeShow.syncEval_roleView (clk := clk) (tab := false)
  refine ⟨x, a, y, ?_⟩
  rw [Mach.each_roleView _ _ _ fun z d _ => z.complete_roleView d _ _, he, Mach.timeShow_roleView,
    Mach.setMirror_roleView _ _ (by decide), Mach.setSrc9_roleView, h4, h3]

/-- The end of the role leaves the latches. -/
theorem RoleView.left_latched (v : RoleView) (st : Nat) : (v.left st).latched = v.latched := by
  rw [RoleView.left, RoleView.unswapped, RoleView.set_latched _ _ (by intro; rfl), RoleView.put_latched _ _ _ (by decide),
    RoleView.put_latched _ _ _ (by decide), RoleView.set_latched _ _ (by intro; rfl), RoleView.put_latched _ _ _ (by decide)]

/-- What a unit keeps that has given up grant by a swap. -/
theorem Mach.swapDone_standby (r : SwapRun) (t : Mach) (ht : t = m.swapDone r) :
    t.isStandby = true ∧ t.mirror = 3 ∧ t.latched = m.latched ∧ t.r DAMP_SRC_SEEN_SEEN = m.r DAMP_SRC_SEEN_SEEN ∧
      t.outputsReleased ∧ t.red.run = none ∧ t.red.hold = false ∧
      t.r REDUN_SWAPS_ALL = min (m.r REDUN_SWAPS_ALL + 1) (2 ^ REDUN_SWAPS_ALL.width - 1) := by
  obtain ⟨x, a, y, he⟩ := m.swapDone_roleView r (clk := false)
  rw [← ht] at he
  have hr := fun g hg => Mach.r_of_roleView _ he g hg
  refine ⟨?_, ?_, ?_, ?_, Mach.outputsReleased_of_roleView he rfl rfl, Mach.swapRun_of_roleView he, Mach.hold_of_roleView he, ?_⟩
  · rw [Mach.isStandby, hr _ (by decide)]
    simp (disch := decide) only [RoleView.src9, RoleView.left, RoleView.unswapped, RoleView.set_fst, RoleView.put_reg_ne,
      RoleView.put_reg_same]
    rfl
  · rw [Mach.mirror, hr _ (by decide)]
    simp (disch := decide) only [RoleView.put_reg_ne, RoleView.put_reg_same]
  · rw [Mach.latched_eq t (clk := false) (tab := false), he, Mach.latched_eq m (clk := false) (tab := false), RoleView.src9]
    iterate 6 rw [RoleView.put_latched _ _ _ (by decide)]
    rw [RoleView.left_latched]
  · rw [hr _ (by decide)]
    simp (disch := decide) only [RoleView.src9, RoleView.left, RoleView.unswapped, RoleView.set_fst, RoleView.put_reg_ne,
      Mach.roleView_reg]
  · rw [hr _ (by decide)]
    simp (disch := decide) only [RoleView.src9, RoleView.put_reg_ne, RoleView.put_reg_same]

/-! ### The chip safe state (R21) -/

/-- The fields of the view that Damper's sources leave. -/
def offStops : List Field :=
  [INTC_STATUS_SAFE_STATE, INTC_SAFE_CAUSE_CAUSE, INTC_SAFE_CAUSE_BLOCK, REDUN_STATUS_ALIVE_CODE, UPD_STATUS_RECOVERY]

/-- A source level asserts, and what is not Damper's stands. -/
theorem Mach.levelAssert_regs (src detail : Nat) (what : Stops) (hs : src < 15) :
    ((m.levelAssert src detail what).r DAMP_SRC_SRC).testBit src = true ∧
      ∀ g ∈ offStops, (m.levelAssert src detail what).r g = m.r g := by
  have hoff : ∀ g ∈ offStops, g ∈ roleFields false ∧ g ≠ DAMP_SRC_SRC ∧ g ∉ assertedFields := by decide
  unfold Mach.levelAssert
  split
  · rename_i hset
    exact ⟨hset, fun _ _ => rfl⟩
  · obtain ⟨run, fix, ha⟩ := (m.setSrc src true).assertSource_roleView src detail what (clk := false) (tab := false)
      (by rintro _ ⟨⟩)
    rw [Mach.setSrc_roleView] at ha
    constructor
    · rw [Mach.r_of_roleView _ ha _ (by decide)]
      simp (disch := decide) only [RoleView.set_fst, RoleView.asserted, RoleView.latch, RoleView.put_reg_ne,
        RoleView.put_reg_same]
      rw [Nat.testBit_mod_two_pow, putBits_testBit, if_neg (Nat.lt_irrefl src), if_pos (Nat.lt_succ_self src), Nat.sub_self,
        decide_eq_true hs]
      rfl
    · intro g hg
      obtain ⟨hm, hsrc, hother⟩ := hoff g hg
      rw [Mach.r_of_roleView _ ha g hm, RoleView.set_fst, RoleView.asserted_other _ _ _ g hother,
        RoleView.put_reg_ne _ _ _ _ hsrc, m.roleView_reg g hm]

/-- The cause and the block of the safe state, shown. -/
def Mach.safeCause (m : Mach) (cause blk : Nat) : Mach :=
  ((m.w INTC_STATUS_SAFE_STATE 1).w INTC_SAFE_CAUSE_CAUSE cause).w INTC_SAFE_CAUSE_BLOCK blk

/-- The end of the role for the safe state. -/
def Mach.safeLeave (m : Mach) : Mach :=
  let m := (m.leaveActive 3).w REDUN_STATUS_WARM 0
  let m := { m with red := { m.red with warmEnd := none } }
  let m := m.when (!m.recovery) (fun m => m.setAlive 3)
  if m.r UPD_STATUS_TRIAL == 0 then m
  else
    let reset : PlannedReset := ⟨m.now, some 3, false⟩
    { m with upd := { m.upd with reset := some reset } }

theorem Mach.enterSafe_eq (cause blk : Nat) (h : m.isSafe = false) :
    m.enterSafe cause blk = ((m.safeCause cause blk).levelAssert 11 0 Stops.ofSite).safeLeave := by
  unfold Mach.enterSafe
  rw [h]
  rfl

theorem Mach.safeCause_regs (cause blk : Nat) (hc : cause < 2 ^ INTC_SAFE_CAUSE_CAUSE.width)
    (hb : blk < 2 ^ INTC_SAFE_CAUSE_BLOCK.width) :
    (m.safeCause cause blk).r INTC_STATUS_SAFE_STATE = 1 ∧ (m.safeCause cause blk).r INTC_SAFE_CAUSE_CAUSE = cause ∧
      (m.safeCause cause blk).r INTC_SAFE_CAUSE_BLOCK = blk ∧
      (m.safeCause cause blk).r REDUN_STATUS_ALIVE_CODE = m.r REDUN_STATUS_ALIVE_CODE ∧
      (m.safeCause cause blk).r UPD_STATUS_RECOVERY = m.r UPD_STATUS_RECOVERY := by
  have hv : (m.safeCause cause blk).roleView false false =
      (((m.roleView false false).put INTC_STATUS_SAFE_STATE 1).put INTC_SAFE_CAUSE_CAUSE cause).put INTC_SAFE_CAUSE_BLOCK blk := by
    unfold Mach.safeCause
    rw [Mach.w_roleView _ _ _ (by decide), Mach.w_roleView _ _ _ (by decide), Mach.w_roleView _ _ _ (by decide),
      Nat.mod_eq_of_lt hc, Nat.mod_eq_of_lt hb]
    rfl
  have hr := fun g hg => Mach.r_of_roleView _ hv g hg
  refine ⟨?_, ?_, ?_, ?_, ?_⟩ <;> rw [hr _ (by decide)] <;>
    simp (disch := decide) only [RoleView.put_reg_ne, RoleView.put_reg_same, Mach.roleView_reg]

/-- In recovery mode ALIVE stays as it was. -/
theorem Mach.safeLeave_roleView : ∃ x, m.safeLeave.roleView clk false =
    ((((m.roleView clk false).left 3).put REDUN_STATUS_MIRROR x).put REDUN_STATUS_WARM 0).put REDUN_STATUS_ALIVE_CODE
      (if m.recovery then m.r REDUN_STATUS_ALIVE_CODE else 3) := by
  unfold Mach.safeLeave
  extract_lets m1 red m2 m3 reset m4
  obtain ⟨x, hx⟩ := m.leaveActive_roleView 3 (by decide) (clk := clk)
  have h2 : m2.roleView clk false =
      (((m.roleView clk false).left 3).put REDUN_STATUS_MIRROR x).put REDUN_STATUS_WARM 0 := by
    rw [← hx]
    exact Mach.w_roleView _ _ _ (by decide)
  have hkeep : ∀ g ∈ [UPD_STATUS_RECOVERY, REDUN_STATUS_ALIVE_CODE], m2.r g = m.r g := by
    intro g hg
    have hne : g ∈ roleFields false ∧ g ≠ REDUN_STATUS_WARM ∧ g ≠ REDUN_STATUS_MIRROR ∧
        g ∉ [DAMP_STATUS_GATE, REDUN_STATUS_ROLE_STATE, REDUN_STATUS_ROLE] := by
      revert g
      decide
    obtain ⟨hm, hwarm, hmir, hleft⟩ := hne
    rw [Mach.r_of_roleView _ h2 g hm, RoleView.put_reg_ne _ _ _ _ hwarm, RoleView.put_reg_ne _ _ _ _ hmir,
      RoleView.left_other _ _ _ hleft, m.roleView_reg g hm]
  have hrec : m2.recovery = m.recovery := congrArg (· != 0) (hkeep _ (by decide))
  have h3 : m3.roleView clk false = (m2.roleView clk false).put REDUN_STATUS_ALIVE_CODE
      (if m.recovery then m.r REDUN_STATUS_ALIVE_CODE else 3) := by
    change (if !m2.recovery then m2.setAlive 3 else m2).roleView clk false = _
    rw [hrec]
    cases m.recovery
    · exact m2.setAlive_roleView 3 (by decide)
    · rw [← hkeep _ (by decide)]
      exact (m2.roleView_put_self _ (by decide)).symm
  refine ⟨x, ?_⟩
  rw [← h2, ← h3]
  split
  · rfl
  · rfl

/-- What a unit is in the chip safe state. -/
theorem Mach.enterSafe_facts (cause blk : Nat) (hc : cause < 2 ^ INTC_SAFE_CAUSE_CAUSE.width)
    (hb : blk < 2 ^ INTC_SAFE_CAUSE_BLOCK.width) (t : Mach) (ht : t = m.enterSafe cause blk) (hs : m.isSafe = false) :
    t.isSafe = true ∧ t.isActive = false ∧ t.r REDUN_STATUS_ALIVE_CODE = (if m.recovery then m.r REDUN_STATUS_ALIVE_CODE else 3) ∧
      t.b REDUN_STATUS_WARM = false ∧ t.r INTC_SAFE_CAUSE_CAUSE = cause ∧ t.r INTC_SAFE_CAUSE_BLOCK = blk ∧
      t.outputsReleased ∧ (t.r DAMP_SRC_SRC).testBit 11 = true := by
  obtain ⟨hsafe, hcause, hblk, halive, hrec⟩ := m.safeCause_regs cause blk hc hb
  obtain ⟨hsrc, hoff⟩ := (m.safeCause cause blk).levelAssert_regs 11 0 Stops.ofSite (by decide)
  rw [m.enterSafe_eq cause blk hs] at ht
  generalize (m.safeCause cause blk).levelAssert 11 0 Stops.ofSite = a at ht hsrc hoff
  obtain ⟨x, hv⟩ := a.safeLeave_roleView (clk := false)
  rw [← ht] at hv
  have hr := fun g hg => Mach.r_of_roleView _ hv g hg
  have hkeep : ∀ g ∈ [INTC_STATUS_SAFE_STATE, INTC_SAFE_CAUSE_CAUSE, INTC_SAFE_CAUSE_BLOCK, DAMP_SRC_SRC], t.r g = a.r g := by
    intro g hg
    have hne : g ∈ roleFields false ∧ g ≠ REDUN_STATUS_ALIVE_CODE ∧ g ≠ REDUN_STATUS_WARM ∧ g ≠ REDUN_STATUS_MIRROR ∧
        g ∉ [DAMP_STATUS_GATE, REDUN_STATUS_ROLE_STATE, REDUN_STATUS_ROLE] := by
      revert g
      decide
    obtain ⟨hm, halive, hwarm, hmir, hleft⟩ := hne
    rw [hr g hm, RoleView.put_reg_ne _ _ _ _ halive, RoleView.put_reg_ne _ _ _ _ hwarm, RoleView.put_reg_ne _ _ _ _ hmir,
      RoleView.left_other _ _ _ hleft, a.roleView_reg g hm]
  have harec : a.recovery = m.recovery := congrArg (· != 0) ((hoff _ (by decide)).trans hrec)
  refine ⟨?_, ?_, ?_, ?_, ?_, ?_, Mach.outputsReleased_of_roleView hv rfl rfl, ?_⟩
  · rw [Mach.isSafe, Mach.b, hkeep _ (by decide), hoff _ (by decide), hsafe]
    rfl
  · rw [Mach.isActive, hr _ (by decide)]
    simp (disch := decide) only [RoleView.left, RoleView.unswapped, RoleView.set_fst, RoleView.put_reg_ne,
      RoleView.put_reg_same]
    rfl
  · rw [hr _ (by decide), RoleView.put_reg_same, harec, hoff _ (by decide), halive]
  · rw [Mach.b, hr _ (by decide), RoleView.put_reg_ne _ _ _ _ (by decide), RoleView.put_reg_same]
    rfl
  · rw [hkeep _ (by decide), hoff _ (by decide), hcause]
  · rw [hkeep _ (by decide), hoff _ (by decide), hblk]
  · rw [hkeep _ (by decide)]
    exact hsrc

end Sys2Proof.Machine
end

section
/-! PROOFS. The role follows grant and health: the statement of O48. -/

namespace Sys2Proof.Machine

open Sys2Proof

variable (m : Mach)

/-! ### The part with GRANTED written -/

theorem Mach.granted_r (v : Nat) (g : Field) (hg : g ∈ PWR_BOOT_STATUS_PHASE :: roleFields false) (h : g ≠ REDUN_STATUS_GRANTED) :
    (m.w REDUN_STATUS_GRANTED v).r g = m.r g := by
  rcases List.mem_cons.mp hg with rfl | hg
  · exact m.r_w_ne _ _ _ _ _ _ _ (by decide)
  · rw [Mach.r_of_roleView _ (m.w_roleView (clk := false) (tab := false) REDUN_STATUS_GRANTED v (by decide)) g hg,
      RoleView.put_reg_ne _ _ _ _ h, m.roleView_reg g hg]

theorem Mach.granted_b (v : Nat) (g : Field) (hg : g ∈ PWR_BOOT_STATUS_PHASE :: roleFields false) (h : g ≠ REDUN_STATUS_GRANTED) :
    (m.w REDUN_STATUS_GRANTED v).b g = m.b g := congrArg (· != 0) (m.granted_r v g hg h)

theorem Mach.granted_isActive (v : Nat) : (m.w REDUN_STATUS_GRANTED v).isActive = m.isActive :=
  congrArg (· == 1) (m.granted_r v _ (by decide) (by decide))

theorem Mach.granted_serving (v : Nat) : (m.w REDUN_STATUS_GRANTED v).serving = m.serving := by
  refine Mach.serving_congr (tab := false) ?_
  rw [Mach.w_roleView _ _ _ (by decide), RoleView.put_slotPart _ _ _ (by decide)]

theorem Mach.granted_latched (v : Nat) : (m.w REDUN_STATUS_GRANTED v).latched = m.latched := by
  rw [Mach.latched_eq _ (clk := false) (tab := false), Mach.w_roleView _ _ _ (by decide), RoleView.put_latched _ _ _ (by decide),
    ← Mach.latched_eq]

/-! ### Grant acquired -/

theorem grantAcquired_held (h : m.b REDUN_STATUS_GRANTED = true) : grantAcquired m = m := if_pos h

/-- Grant taken: the role at READY outside recovery and the safe state, else only the bit. -/
theorem grantAcquired_eq (h : m.b REDUN_STATUS_GRANTED = false) : grantAcquired m =
    if m.ready && !m.recovery && !m.isSafe && !m.isActive then (m.w REDUN_STATUS_GRANTED 1).takeRole
    else (m.w REDUN_STATUS_GRANTED 1).airRefresh := by
  have hready : (m.w REDUN_STATUS_GRANTED 1).ready = m.ready := congrArg (· == 5) (m.granted_r 1 _ (by decide) (by decide))
  have hrec : (m.w REDUN_STATUS_GRANTED 1).recovery = m.recovery := m.granted_b 1 _ (by decide) (by decide)
  have hsafe : (m.w REDUN_STATUS_GRANTED 1).isSafe = m.isSafe := m.granted_b 1 _ (by decide) (by decide)
  unfold grantAcquired
  dsimp only
  rw [h, hready, hrec, hsafe, m.granted_isActive]
  rfl

/-! ### Grant removed -/

theorem grantRemoved_none (h : m.b REDUN_STATUS_GRANTED = false) : grantRemoved m = m := if_pos (by rw [h]; rfl)

theorem grantRemoved_inactive (h : m.b REDUN_STATUS_GRANTED = true) (ha : m.isActive = false) : grantRemoved m =
    (((m.w REDUN_STATUS_GRANTED 0).setStopOut false).setFixEn false).airRefresh := by
  unfold grantRemoved
  dsimp only
  rw [h, m.granted_isActive, ha]
  rfl

/-! ### The ends of the hold and of the preference window -/

theorem relinquishHoldEnd_eq (hs : m.isSafe = true) (ha : m.r REDUN_STATUS_ALIVE_CODE = 3) (ht : m.red.aliveAt + 100 ≤ m.now) :
    relinquishHoldEnd m = m.setAlive 0 := by
  unfold relinquishHoldEnd
  rw [hs, ha, decide_eq_true ht]
  rfl

theorem relinquishHoldEnd_notSafe (hs : m.isSafe = false) : relinquishHoldEnd m = m := by
  unfold relinquishHoldEnd
  rw [hs]
  rfl

theorem Mach.setAlive_r (c : Nat) (h : c < 8) : (m.setAlive c).r REDUN_STATUS_ALIVE_CODE = c := by
  rw [Mach.r_of_roleView _ (m.setAlive_roleView (clk := false) (tab := false) c h) _ (by decide), RoleView.put_reg_same]

theorem rolePrefWindowEnd_none (h : m.red.prefEnd = none) : rolePrefWindowEnd m = m := by
  unfold rolePrefWindowEnd
  rw [h]

theorem rolePrefWindowEnd_due (u : Nat) (h : m.red.prefEnd = some u)
    (hd : m.isActive = true ∨ m.red.mateActive = true ∨ u ≤ m.now) : rolePrefWindowEnd m =
      ({ m with red := { m.red with prefEnd := none } }).wb REDUN_STATUS_ROLE m.isActive := by
  unfold rolePrefWindowEnd
  rw [h]
  exact if_pos (by simpa [or_assoc] using hd)

/-- A unit ACTIVE with grant. -/
theorem Mach.takeRole_granted : let t := (m.w REDUN_STATUS_GRANTED 1).takeRole
    t.isActive = true ∧ t.b REDUN_STATUS_GRANTED = true ∧ t.r REDUN_STATUS_ALIVE_CODE = 1 ∧ t.b REDUN_STATUS_ROLE = true ∧
      t.dam.run = !t.siteLatched ∧ t.red.periodFrom = some m.now := by
  refine (m.w REDUN_STATUS_GRANTED 1).takeRole_active ?_
  rw [Mach.b, Mach.r_w_same _ _ _ _ _ (by decide)]
  rfl

theorem Mach.takeRole_granted_cold (hs : m.r REDUN_STATUS_ROLE_STATE = 2) (hw : m.b REDUN_STATUS_WARM = false)
    (hf : m.red.finalIn = false) : let t := (m.w REDUN_STATUS_GRANTED 1).takeRole
    t.siteLatched = true ∧ t.zoneLatches = 0 ∧ t.dam.agents = 0 ∧ t.kiln.store.park = [] ∧ t.air.tab.members = [] :=
  (m.w REDUN_STATUS_GRANTED 1).takeRole_cold hf ((m.granted_r 1 _ (by decide) (by decide)).trans hs)
    ((m.granted_b 1 _ (by decide) (by decide)).trans hw)

/-- Settles O48, by a view of the part that keeps what the role is judged by: each operation of a takeover, of a loss of grant and
of the safe state is an equation of views, and the claims are read from the last of them. -/
theorem rolesFollowGrantAndHealth : Obligations.RolesFollowGrantAndHealth := by
  unfold Obligations.RolesFollowGrantAndHealth
  refine ⟨?acquired, ?removed, ?health, ?safe, ?hold, ?pref⟩
  case acquired =>
    intro s
    refine ⟨fun h => s.on_same _ (grantAcquired_held _ h), fun h hr => s.on_eq grantAcquired _ ?_,
      fun h hr hrec hs ha => ⟨(s.m.w REDUN_STATUS_GRANTED 1).takeRole, s.on_eq grantAcquired _ ?_, ?_⟩⟩
    · rw [grantAcquired_eq _ h, hr]
      rfl
    · rw [grantAcquired_eq _ h, hr, hrec, hs, ha]
      rfl
    · obtain ⟨hact, hgr, halive, hrole, hrun, hper⟩ := s.m.takeRole_granted
      exact ⟨hact, hgr, halive, hrole, hrun, hper, s.m.takeRole_granted_cold⟩
  case removed =>
    intro s
    refine ⟨fun h => s.on_same _ (grantRemoved_none _ h), fun h ha => s.on_eq grantRemoved _ (grantRemoved_inactive _ h ha),
      fun h ha hr => ?lost, fun r h ha hr hs => ?swap⟩
    case lost =>
      refine ⟨(s.m.w REDUN_STATUS_GRANTED 0).grantLeft.grantAfter, s.on_eq grantRemoved _ (s.m.grantRemoved_lost h
        ((s.m.granted_isActive 0).trans ha) (by rwa [s.m.granted_r 0 _ (by decide) (by decide)])), ?_⟩
      obtain ⟨hst, hg, hsite, hseen, hgate, hout, hfl⟩ := (s.m.w REDUN_STATUS_GRANTED 0).grantLost_stops _
        (s.m.r_w_same _ _ _ _ (by decide)) rfl
      obtain ⟨members, wipe, hm, hw, ht⟩ := (s.m.w REDUN_STATUS_GRANTED 0).grantLost_tables
      rw [Mach.granted_serving] at hm hw
      obtain ⟨hpark, hmem, hwipe⟩ := Mach.tables_of_roleSt ht
      exact ⟨hst, hg, hsite, hseen, hgate, hout, hfl, hpark, fun hs => hmem.trans (hm hs), fun hs => hwipe.trans (hw hs)⟩
    case swap =>
      refine ⟨(s.m.w REDUN_STATUS_GRANTED 0).swapDone r, s.on_eq grantRemoved _ (s.m.grantRemoved_swap r h
        ((s.m.granted_isActive 0).trans ha) ((s.m.granted_r 0 _ (by decide) (by decide)).trans hr) hs), ?_⟩
      obtain ⟨hst, hmir, hlat, hseen, hout, hrun, hhold, hswaps⟩ :=
        (s.m.w REDUN_STATUS_GRANTED 0).swapDone_standby r _ rfl
      rw [Mach.granted_latched] at hlat
      rw [Mach.granted_r _ _ _ (by decide) (by decide)] at hseen hswaps
      exact ⟨hst, hmir, hlat, hseen, hout, hrun, hhold, hswaps⟩
  case health =>
    intro w s
    refine ⟨fun h => s.on_same (healthWordTimeout w) ?_, fun h => s.on_eq (healthWordTimeout w) _ ?_⟩
    · exact if_neg (by simp [h])
    · refine (if_pos h).trans ?_
      fin_cases w <;> rfl
  case safe =>
    refine fun m cause blk hc hb => ⟨fun h => if_pos h, fun h => ?_⟩
    obtain ⟨hsafe, hact, halive, hwarm, hcause, hblk, hout, hsrc⟩ := m.enterSafe_facts cause blk hc hb _ rfl h
    exact ⟨hsafe, hact, fun hr => halive.trans (if_neg (by simp [hr])), fun hr => halive.trans (if_pos hr), hwarm, hcause,
      hblk, hout, hsrc⟩
  case hold =>
    exact fun s => ⟨fun hs ha ht => ⟨s.on_eq relinquishHoldEnd _ (relinquishHoldEnd_eq _ hs ha ht), s.m.setAlive_r 0 (by decide)⟩,
      fun hs => s.on_same _ (relinquishHoldEnd_notSafe _ hs)⟩
  case pref =>
    refine fun s => ⟨fun h => s.on_same _ (rolePrefWindowEnd_none _ h), fun u h hd =>
      ⟨s.m.wb REDUN_STATUS_ROLE s.m.isActive, s.on_eq rolePrefWindowEnd _ (rolePrefWindowEnd_due _ u h hd), ?_, ?_⟩⟩
    · rw [Mach.b, Mach.wb, Mach.r_w_same _ _ _ _ _ (by decide)]
      cases s.m.isActive <;> rfl
    · exact fun off hoff => Tabs.look_put_ne _ _ (by simpa using hoff)

end Sys2Proof.Machine
end

section
/-! PROOFS. Rings, entries and indices of the host interface (02): reads of host memory and of registers after a write, what an
interrupt keeps, and a completion's entry (R68, R69) or its loss (R54). -/

namespace Sys2Proof.Machine

open Sys2Proof

variable (m : Mach)

/-! ### Reads of host memory -/

/-- A range of host memory that holds the bytes of a list, read. -/
theorem Mach.hostRd_of_hostByte (l : List Byte) (a : Nat) (h : ∀ (k : Nat) (hk : k < l.length), m.hostByte (a + k) = l[k]) :
    m.hostRd a l.length = l := by
  induction l generalizing a with
  | nil => rfl
  | cons v l ih =>
    refine congrArg₂ List.cons (h 0 (Nat.zero_lt_succ _)) (ih (a + 1) fun k hk => ?_)
    rw [Nat.add_assoc, Nat.add_comm 1 k]
    exact h (k + 1) (Nat.succ_lt_succ hk)

/-- Bytes just written, read. -/
theorem Mach.hostRd_hostWr (a : Nat) (l : List Byte) (h : m.memWf = true) : (m.hostWr a l).hostRd a l.length = l :=
  Mach.hostRd_of_hostByte _ l a fun k hk => hostPuts_inside l m.hostMem a k h hk

theorem Mach.hostByte_hostWr_outside (a : Nat) (l : List Byte) (b : Nat) (h : m.memWf = true)
    (hb : b < a ∨ a + l.length ≤ b) : (m.hostWr a l).hostByte b = m.hostByte b :=
  hostPuts_outside l m.hostMem a b h hb

/-- An entry whose end is written before its beginning, read. -/
theorem Mach.hostRd_hostWr_two (a : Nat) (hd tl : List Byte) (h : m.memWf = true) :
    ((m.hostWr (a + hd.length) tl).hostWr a hd).hostRd a (hd ++ tl).length = hd ++ tl := by
  have htl := m.hostWr_memWf (a + hd.length) tl h
  refine Mach.hostRd_of_hostByte _ _ a fun k hk => ?_
  rw [List.getElem_append]
  split
  · exact hostPuts_inside hd _ a k htl ‹_›
  · rename_i hge
    rw [List.length_append] at hk
    rw [Mach.hostByte_hostWr_outside _ _ _ _ htl (by omega), show a + k = a + hd.length + (k - hd.length) by omega]
    exact hostPuts_inside tl _ _ _ h (by omega)

/-! ### Fields -/

/-- Fields on other bits of registers of the same kind, whatever the indexes. -/
theorem Mach.r_w_bits (f g : Field) (v i j k l : Nat) (hr : g.reset = f.reset) (hw : f.lo + f.width ≤ 32)
    (hd : g.lo + g.width ≤ f.lo ∨ f.lo + f.width ≤ g.lo) : (m.w f v i j).r g k l = m.r g k l := by
  by_cases ho : g.off k l = f.off i j
  · exact m.r_w_field f g v i j k l ho hr hw hd
  · exact m.r_w_ne f g v i j k l ho

/-- Parts with the same registers give the same value of a field. -/
theorem Mach.r_of_regs {a b : Mach} (h : a.regs = b.regs) (f : Field) (i j : Nat) : a.r f i j = b.r f i j :=
  Mach.r_congr f i j (by rw [h])

/-- A counter after one more event. -/
theorem Mach.r_inc_same (f : Field) (i : Nat) (hw : f.lo + f.width ≤ 32) :
    (m.inc f i).r f i = min (m.r f i + 1) (2 ^ f.width - 1) := by
  rw [Mach.inc, Mach.incBy, m.r_w_same f _ i 0 hw]
  exact Nat.mod_eq_of_lt (Nat.lt_of_le_of_lt (Nat.min_le_right _ _) (Nat.sub_lt (Nat.two_pow_pos _) Nat.one_pos))

/-! ### Rings of the host interface -/

@[simp] theorem Mach.setRing_ring (r : Nat) (x : Ring) : (m.setRing r x).ring r = x := Tabs.val_put_same ..

@[simp] theorem Mach.setERing_ering (e : Nat) (x : ERing) : (m.setERing e x).ering e = x := Tabs.val_put_same ..

/-- The vectors are all that an interrupt changes in the host interface. -/
theorem Mach.fireVec_hif (v : Nat) : ∃ l, (m.fireVec v).hif = { m.hif with vecs := l } := by
  simp only [Mach.fireVec]
  split <;> exact ⟨_, rfl⟩

theorem Mach.notify_hif (v : Nat) : ∃ l, (m.notify v).hif = { m.hif with vecs := l } := by
  dsimp only [Mach.notify]
  generalize (⟨_, _, _, _⟩ : Vec) = x
  split
  · exact (m.setVec v x).fireVec_hif v
  · exact ⟨_, rfl⟩

@[simp] theorem Mach.notify_rings (v : Nat) : (m.notify v).hif.rings = m.hif.rings := by
  obtain ⟨l, h⟩ := m.notify_hif v
  rw [h]

@[simp] theorem Mach.notify_erings (v : Nat) : (m.notify v).hif.erings = m.hif.erings := by
  obtain ⟨l, h⟩ := m.notify_hif v
  rw [h]

/-- HIF_RP_INFLIGHT is another register than those of a ring's state and of the counters of the host interface. -/
theorem Mach.showRing_r (r : Nat) (g : Field) (k : Nat) (h : g.off k 0 ≠ HIF_RP_INFLIGHT_ALL.off r 0) :
    (m.showRing r).r g k = m.r g k := m.r_w_ne _ g _ r 0 k 0 h

theorem HIF_RP_STATUS_off_ne_INFLIGHT (q r : Nat) : HIF_RP_STATUS_STATE.off q 0 ≠ HIF_RP_INFLIGHT_ALL.off r 0 := by
  simp only [Field.off, HIF_RP_STATUS_STATE, HIF_RP_INFLIGHT_ALL]
  omega

/-- A ring that is not draining does not settle. -/
theorem Mach.settleRing_stays (r : Nat) (h : m.r HIF_RP_STATUS_STATE r ≠ 3) : m.settleRing r = m := by
  rw [Mach.settleRing, if_neg]
  simp [h]

/-! ### Completions -/

/-- A descriptor of one of the unit's own rings ends at its ring. -/
theorem Mach.complete_own (d : Desc) (st : Nat) (res : List Byte) (hd : d.ring < 64) :
    m.complete d st res = (m.undeliver d).finish d st res := if_neg (by simpa [foreignRing] using hd)

/-- A completion that can be written, of a ring that does not drain. -/
theorem Mach.complete_written (d : Desc) (st : Nat) (res : List Byte) (hd : d.ring < 64) (hw : m.canWrite = true)
    (he : d.era = m.hif.era) (hs : m.r HIF_RP_STATUS_STATE d.ring = 1 ∨ m.r HIF_RP_STATUS_STATE d.ring = 2) :
    m.complete d st res = ((m.undeliver d).putCpl d st res).showRing d.ring := by
  have hst : (((m.undeliver d).putCpl d st res).showRing d.ring).r HIF_RP_STATUS_STATE d.ring =
      m.r HIF_RP_STATUS_STATE d.ring := by
    rw [Mach.showRing_r _ _ _ _ (HIF_RP_STATUS_off_ne_INFLIGHT _ _)]
    exact Mach.r_of_regs (Mach.putCpl_regs _ _ _ _) _ _ _
  have hc : ((m.undeliver d).canWrite && (m.undeliver d).r HIF_RP_STATUS_STATE d.ring != 0 &&
      d.era == (m.undeliver d).hif.era) = true := by
    change (m.canWrite && m.r HIF_RP_STATUS_STATE d.ring != 0 && d.era == m.hif.era) = true
    rcases hs with hs | hs <;> simp [hw, he, hs]
  rw [m.complete_own d st res hd, Mach.finish, if_pos hc]
  exact Mach.settleRing_stays _ _ (by omega)

/-- A completion that the host cannot be given. -/
theorem Mach.complete_lost (d : Desc) (st : Nat) (res : List Byte) (hd : d.ring < 64)
    (h : (m.canWrite = false ∨ d.era ≠ m.hif.era) ∧ m.r HIF_RP_STATUS_STATE d.ring = 1 ∨
      m.r HIF_RP_STATUS_STATE d.ring = 0) :
    m.complete d st res = ((m.undeliver d).inc HIF_LOST_CPL_ALL).showRing d.ring := by
  have hst : (((m.undeliver d).inc HIF_LOST_CPL_ALL).showRing d.ring).r HIF_RP_STATUS_STATE d.ring =
      m.r HIF_RP_STATUS_STATE d.ring := by
    rw [Mach.showRing_r _ _ _ _ (HIF_RP_STATUS_off_ne_INFLIGHT _ _)]
    refine Mach.r_w_ne _ _ _ _ _ _ _ _ ?_
    simp only [Field.off, HIF_RP_STATUS_STATE, HIF_LOST_CPL_ALL]
    omega
  have hc : ((m.undeliver d).canWrite && (m.undeliver d).r HIF_RP_STATUS_STATE d.ring != 0 &&
      d.era == (m.undeliver d).hif.era) = false := by
    change (m.canWrite && m.r HIF_RP_STATUS_STATE d.ring != 0 && d.era == m.hif.era) = false
    rcases h with ⟨h | h, -⟩ | h <;> simp [h]
  rw [m.complete_own d st res hd, Mach.finish, if_neg (by simp [hc])]
  exact Mach.settleRing_stays _ _ (by omega)

@[simp] theorem Mach.undeliver_ring (d : Desc) : (m.undeliver d).ring d.ring =
    { m.ring d.ring with delivered := dropFirst (fun e => e == d) (m.ring d.ring).delivered } := Mach.setRing_ring ..

/-- The ring of a completion written: the next slot, the phase flipped as the index wraps. -/
theorem Mach.putCpl_ring (d : Desc) (st : Nat) (res : List Byte) :
    let x := m.ring d.ring
    let wr := (x.cqWrite + 1) % 2 ^ m.r HIF_RP_CFG_SIZE_LOG2 d.ring
    (m.putCpl d st res).ring d.ring = { x with cqWrite := wr, phase := if wr = 0 then !x.phase else x.phase } := by
  dsimp only [Mach.putCpl]
  rw [Mach.ring, Mach.notify_rings]
  exact Mach.setRing_ring ..

/-- Bytes 0 to 3 of a completion entry (R68). -/
def Mach.cplHead (m : Mach) (d : Desc) (st : Nat) : List Byte :=
  le 2 d.tag.toNat ++ le 1 st ++ le 1 (b2n (m.ring d.ring).phase)

theorem Mach.cplHead_length (d : Desc) (st : Nat) : (m.cplHead d st).length = 4 := rfl

theorem Mach.cplTail_length (d : Desc) (res : List Byte) : (m.cplTail d res).length = 28 := by
  simp only [Mach.cplTail, List.length_append, le_length, List.length_take, List.length_replicate]
  omega

theorem Mach.putCpl_mem (d : Desc) (st : Nat) (res : List Byte) :
    let a := m.cqBase d.ring + 32 * (m.ring d.ring).cqWrite
    (m.putCpl d st res).hostMem = ((m.hostWr (a + 4) (m.cplTail d res)).hostWr a (m.cplHead d st)).hostMem :=
  Mach.notify_hostMem _ _

/-- A read of host memory looks at host memory only. -/
theorem Mach.hostRd_congr {a b : Mach} (h : a.hostMem = b.hostMem) (p n : Nat) : a.hostRd p n = b.hostRd p n := by
  induction n generalizing p with
  | zero => rfl
  | succ n ih => simp only [Mach.hostRd, h, ih]

/-- Settles O7: the completion is written in the slot of the ring's write index, its end before its beginning (R68, R69). -/
theorem completionEntryIsWritten : Obligations.CompletionEntryIsWritten := by
  unfold Obligations.CompletionEntryIsWritten
  intro m d st res hwf hd hw he hs x a t
  have ht : t = ((m.undeliver d).putCpl d st res).showRing d.ring := m.complete_written d st res hd hw he hs
  have hmem : t.hostMem = ((m.hostWr (a + 4) (m.cplTail d res)).hostWr a (m.cplHead d st)).hostMem := by
    rw [ht]
    refine ((m.undeliver d).putCpl_mem d st res).trans ?_
    simp only [Mach.cplHead, Mach.undeliver_ring]
    rfl
  have htl := m.hostWr_memWf (a + 4) (m.cplTail d res) hwf
  have hlen : (m.cplHead d st ++ m.cplTail d res).length = 32 := by
    rw [List.length_append, m.cplHead_length, m.cplTail_length]
  have hring : t.ring d.ring = _ := (congrArg (fun n : Mach => n.ring d.ring) ht).trans ((m.undeliver d).putCpl_ring d st res)
  rw [Mach.undeliver_ring] at hring
  refine ⟨?_, fun b hb => ?_, ?_, ?_, ?_, ?_⟩
  · have h := m.hostRd_hostWr_two a (m.cplHead d st) (m.cplTail d res) hwf
    rw [hlen, m.cplHead_length] at h
    rw [Mach.hostRd_congr hmem, h]
    simp [Mach.cplHead, Mach.cplTail, x]
  · rw [Mach.hostByte, hmem]
    refine (Mach.hostByte_hostWr_outside _ _ _ _ htl ?_).trans (m.hostByte_hostWr_outside _ _ _ hwf ?_)
    · rw [m.cplHead_length]; omega
    · rw [m.cplTail_length]; omega
  · rw [Mach.memWf, hmem]
    exact Mach.hostWr_memWf _ _ _ htl
  · rw [hring]; rfl
  · rw [hring]; rfl
  · rw [hring]

/-- Settles O8: the completion is counted and its ring's memory and messages are left alone (R54). -/
theorem lostCompletionsAreCounted : Obligations.LostCompletionsAreCounted := by
  unfold Obligations.LostCompletionsAreCounted
  intro m d st res hd h t
  have ht : t = ((m.undeliver d).inc HIF_LOST_CPL_ALL).showRing d.ring := m.complete_lost d st res hd h
  rw [ht]
  refine ⟨rfl, rfl, ?_, ?_⟩
  · rw [Mach.showRing_r _ _ HIF_LOST_CPL_ALL 0 (by simp only [Field.off, HIF_LOST_CPL_ALL, HIF_RP_INFLIGHT_ALL]; omega)]
    exact (m.undeliver d).r_inc_same HIF_LOST_CPL_ALL 0 (by decide)
  · exact congrArg Ring.delivered (m.undeliver_ring d)

end Sys2Proof.Machine
end

section
/-! PROOFS. Event rings and halts (R71 to R73, R81): an event's entry or its loss, what an event keeps of rings, and the state and
cause of a ring that halts. -/

namespace Sys2Proof.Machine

open Sys2Proof

variable (m : Mach)

/-! ### An event at its ring -/

/-- An event ring after one more sequence number. -/
def Mach.erTaken (m : Mach) (e : Nat) : ERing := { m.ering e with seq := ((m.ering e).seq + 1) % 2 ^ 32 }

/-- No slot of an event ring is free. -/
def Mach.erFull (m : Mach) (e : Nat) : Bool :=
  decide (2 ^ m.r HIF_ER_CFG_SIZE_LOG2 e - 1 ≤
    (m.r HIF_ER_STATUS_WR_INDEX e + 2 ^ m.r HIF_ER_CFG_SIZE_LOG2 e - (m.ering e).head) % 2 ^ m.r HIF_ER_CFG_SIZE_LOG2 e)

/-- An event's entry in its ring (R71). -/
def Mach.erEntry (m : Mach) (e code sev src : Nat) (args : List Byte) : List Byte :=
  le 2 code ++ le 1 sev ++ le 1 (m.r HIF_ER_STATUS_PHASE e) ++ le 4 (m.ering e).seq ++ le 6 m.time.sec ++
    le 4 m.time.ns ++ le 1 src ++ le 1 (b2n m.stepped) ++ (args ++ List.replicate 12 0).take 12

theorem Mach.erEntry_length (e code sev src : Nat) (args : List Byte) : (m.erEntry e code sev src args).length = 32 := by
  simp only [Mach.erEntry, List.length_append, le_length, List.length_take, List.length_replicate]
  omega

/-- The part with an entry written, its ring's index and phase moved on. -/
def Mach.erWritten (m : Mach) (e code sev src : Nat) (args : List Byte) : Mach :=
  let wr := (m.r HIF_ER_STATUS_WR_INDEX e + 1) % 2 ^ m.r HIF_ER_CFG_SIZE_LOG2 e
  let ph := m.r HIF_ER_STATUS_PHASE e
  (((m.setERing e (m.erTaken e)).hostWr (m.erBase e + 32 * m.r HIF_ER_STATUS_WR_INDEX e) (m.erEntry e code sev src args)).w
    HIF_ER_STATUS_WR_INDEX wr e).w HIF_ER_STATUS_PHASE (if wr = 0 then 1 - ph else ph) e

variable (e code sev src : Nat) (args : List Byte)

/-- What an event can do at its ring: it is dropped and counted, or written and the ring's vector told (R73). -/
theorem Mach.toRing_eq : m.toRing e code sev src args =
    if m.r HIF_ER_STATUS_STATE e != 1 || m.erFull e || !m.canWrite then (m.setERing e (m.erTaken e)).inc HIF_ER_DROP_ALL e
    else (m.erWritten e code sev src args).notify ((m.erWritten e code sev src args).r HIF_ER_CFG_VECTOR e) := rfl

theorem Mach.toRing_dropped (h : m.r HIF_ER_STATUS_STATE e ≠ 1 ∨ m.erFull e = true ∨ m.canWrite = false) :
    m.toRing e code sev src args = (m.setERing e (m.erTaken e)).inc HIF_ER_DROP_ALL e := by
  rw [m.toRing_eq, if_pos]
  rcases h with h | h | h <;> simp [h]

theorem Mach.toRing_written (h : m.r HIF_ER_STATUS_STATE e = 1) (hf : m.erFull e = false) (hw : m.canWrite = true) :
    m.toRing e code sev src args =
      (m.erWritten e code sev src args).notify ((m.erWritten e code sev src args).r HIF_ER_CFG_VECTOR e) := by
  rw [m.toRing_eq, if_neg (by simp [h, hf, hw])]

/-- Either way the event takes a sequence number of its ring (R71). -/
@[simp] theorem Mach.toRing_erings : (m.toRing e code sev src args).hif.erings = Tabs.put m.hif.erings e (m.erTaken e) := by
  rw [m.toRing_eq]
  split
  · rfl
  · exact Mach.notify_erings _ _

@[simp] theorem Mach.toRing_rings : (m.toRing e code sev src args).hif.rings = m.hif.rings := by
  rw [m.toRing_eq]
  split
  · rfl
  · exact Mach.notify_rings _ _

theorem Mach.toRing_ering_same : (m.toRing e code sev src args).ering e = m.erTaken e := by
  rw [Mach.ering, m.toRing_erings, Tabs.val_put_same]

/-- Heads of event rings are the host's. -/
theorem Mach.toRing_head (q : Nat) : ((m.toRing e code sev src args).ering q).head = (m.ering q).head := by
  by_cases h : q = e
  · rw [h, m.toRing_ering_same]
    rfl
  · rw [Mach.ering, m.toRing_erings, Tabs.val_put_ne _ _ _ h]
    rfl

theorem Mach.erWritten_wrIndex : (m.erWritten e code sev src args).r HIF_ER_STATUS_WR_INDEX e =
    (m.r HIF_ER_STATUS_WR_INDEX e + 1) % 2 ^ m.r HIF_ER_CFG_SIZE_LOG2 e % 2 ^ HIF_ER_STATUS_WR_INDEX.width := by
  rw [Mach.erWritten, Mach.r_w_bits _ _ _ _ _ _ _ _ (by decide) (by decide) (by decide), Mach.r_w_same _ _ _ _ _ (by decide)]

/-- Settles O9: an event is written in the slot of its ring's write index, or dropped and counted. -/
theorem eventEntryIsWritten : Obligations.EventEntryIsWritten := by
  unfold Obligations.EventEntryIsWritten
  intro m e code sev src args _ hwf x n wr full a t
  refine ⟨congrArg ERing.seq (m.toRing_ering_same e code sev src args), m.toRing_head e code sev src args e,
    fun hs _ hf hw => ?_, fun h => ?_⟩
  · have ht : t = _ := m.toRing_written e code sev src args hs hf hw
    have hmem : t.hostMem = (m.hostWr a (m.erEntry e code sev src args)).hostMem := by rw [ht, Mach.notify_hostMem]; rfl
    have hlen := m.erEntry_length e code sev src args
    refine ⟨?_, fun b hb => ?_, ?_⟩
    · rw [Mach.hostRd_congr hmem, ← hlen]
      exact m.hostRd_hostWr a _ hwf
    · rw [Mach.hostByte, hmem]
      exact m.hostByte_hostWr_outside a _ b hwf (by omega)
    · rw [ht, Mach.r_of_regs (Mach.notify_regs _ _)]
      exact m.erWritten_wrIndex e code sev src args
  · have ht : t = _ := m.toRing_dropped e code sev src args h
    rw [ht]
    exact ⟨rfl, (m.setERing e (m.erTaken e)).r_inc_same HIF_ER_DROP_ALL e (by decide)⟩

/-! ### What an event keeps -/

/-- What a record for the Shard log and an entry in an event ring preserve, an event preserves. -/
theorem Mach.event_preserves (P : Mach → Prop) (hm : P m) (hp : ∀ (x : Mach) (v : ShardEv), P x → P (x.shardPush v))
    (ht : ∀ (x : Mach) (e : Nat), e < 8 → P x → P (x.toRing e code sev src args)) : P (m.event code sev src args) := by
  have ho : ∀ x : Mach, P x → P (x.offer code sev src args) := by
    intro x hx
    rw [Mach.offer]
    split
    · exact ht x _ (x.r_lt HIF_EVT_ROUTE_RING _ 0) hx
    · exact hx
  rw [Mach.event]
  refine ho _ ?_
  rw [Mach.when]
  split
  · exact hp m _ hm
  · exact hm

theorem Mach.event_keeps {α : Type} (g : Mach → α) (hp : ∀ (x : Mach) (v : ShardEv), g (x.shardPush v) = g x)
    (ht : ∀ (x : Mach) (e : Nat), e < 8 → g (x.toRing e code sev src args) = g x) :
    g (m.event code sev src args) = g m :=
  m.event_preserves code sev src args (fun x => g x = g m) rfl (fun x v h => (hp x v).trans h) fun x e he h => (ht x e he).trans h

/-- A field that no event writes: below the registers of the event rings, or state and cause of one of them. -/
def EventKept (g : Field) (k : Nat) : Prop :=
  g.off k 0 < 0x42000 ∨ (g ∈ [HIF_ER_STATUS_STATE, HIF_ER_STATUS_CAUSE] ∧ k < 8)

theorem EventKept.off_lt {g : Field} {k : Nat} (h : EventKept g k) : g.off k 0 < 0x43000 := by
  simp only [EventKept, List.mem_cons, List.not_mem_nil, or_false] at h
  rcases h with h | ⟨rfl | rfl, hk⟩
  · omega
  all_goals
    simp only [Field.off, HIF_ER_STATUS_STATE, HIF_ER_STATUS_CAUSE]
    omega

theorem Mach.shardPush_eventKept (v : ShardEv) (g : Field) (k : Nat) (h : EventKept g k) : (m.shardPush v).r g k = m.r g k := by
  have ho := h.off_lt
  rw [Mach.shardPush]
  split
  · exact Mach.r_w_ne _ _ _ _ _ _ _ _ (Nat.ne_of_lt (Nat.lt_trans ho (by decide)))
  · exact Mach.r_w_ne _ _ _ _ _ _ _ _ (Nat.ne_of_lt (Nat.lt_trans ho (by decide)))

/-- A write of a field from the registers of the event rings on. -/
theorem Mach.r_w_below (f g : Field) (v i k : Nat) (h : g.off k 0 < 0x42000) (hf : 0x42000 ≤ f.base) :
    (m.w f v i).r g k = m.r g k :=
  m.r_w_ne _ _ _ _ _ _ _ (by simp only [Field.off] at h ⊢; omega)

/-- State and cause of an event ring share no bit with what an entry moves, and the counter of drops is another register. -/
theorem Mach.toRing_eventKept (g : Field) (k : Nat) (h : EventKept g k) : (m.toRing e code sev src args).r g k = m.r g k := by
  rw [m.toRing_eq]
  simp only [EventKept, List.mem_cons, List.not_mem_nil, or_false] at h
  split
  · rcases h with h | ⟨rfl | rfl, -⟩
    · exact Mach.r_w_below _ _ _ _ _ _ h (by decide)
    all_goals
      refine Mach.r_w_ne _ _ _ _ _ _ _ _ ?_
      simp only [Field.off, HIF_ER_STATUS_STATE, HIF_ER_STATUS_CAUSE, HIF_ER_DROP_ALL]
      omega
  · rw [Mach.r_of_regs (Mach.notify_regs _ _), Mach.erWritten]
    rcases h with h | ⟨rfl | rfl, -⟩
    · rw [Mach.r_w_below _ _ _ _ _ _ h (by decide), Mach.r_w_below _ _ _ _ _ _ h (by decide)]
      rfl
    all_goals
      rw [Mach.r_w_bits _ _ _ _ _ _ _ _ (by decide) (by decide) (by decide),
        Mach.r_w_bits _ _ _ _ _ _ _ _ (by decide) (by decide) (by decide)]
      rfl

theorem Mach.event_eventKept (g : Field) (k : Nat) (h : EventKept g k) : (m.event code sev src args).r g k = m.r g k :=
  m.event_keeps _ _ _ _ (fun x => x.r g k) (fun x v => x.shardPush_eventKept v g k h)
    (fun x e _ => x.toRing_eventKept e _ _ _ _ g k h)

@[simp] theorem Mach.event_rings : (m.event code sev src args).hif.rings = m.hif.rings :=
  m.event_keeps _ _ _ _ (fun x => x.hif.rings) (fun x v => by rw [x.shardPush_hif]) (fun x e _ => x.toRing_rings e _ _ _ _)

theorem Mach.event_head (q : Nat) : ((m.event code sev src args).ering q).head = (m.ering q).head :=
  m.event_keeps _ _ _ _ (fun x => (x.ering q).head) (fun x v => by rw [Mach.ering, x.shardPush_hif, Mach.ering])
    (fun x e _ => x.toRing_head e _ _ _ _ q)

/-- With no event ring RUNNING an event writes nothing to the host. -/
theorem Mach.event_hostMem (h : ∀ q < 8, m.r HIF_ER_STATUS_STATE q ≠ 1) : (m.event code sev src args).hostMem = m.hostMem := by
  have kept : ∀ q < 8, EventKept HIF_ER_STATUS_STATE q := fun q hq => .inr ⟨by simp, hq⟩
  refine (m.event_preserves code sev src args
    (fun x => (∀ q < 8, x.r HIF_ER_STATUS_STATE q ≠ 1) ∧ x.hostMem = m.hostMem) ⟨h, rfl⟩
    (fun x v hx => ?_) (fun x e he hx => ?_)).2
  · exact ⟨fun q hq => (x.shardPush_eventKept v _ q (kept q hq)).trans_ne (hx.1 q hq), (x.shardPush_hostMem v).trans hx.2⟩
  · refine ⟨fun q hq => (x.toRing_eventKept e _ _ _ _ _ q (kept q hq)).trans_ne (hx.1 q hq), ?_⟩
    rw [x.toRing_dropped e _ _ _ _ (.inl (hx.1 e he))]
    exact hx.2

/-! ### Halts (R81) -/

/-- STATE and CAUSE of a bank of rings, as they lie in their registers. -/
structure StatusBank (st ca : Field) (n : Nat) : Prop where
  state : ∀ k < n, EventKept st k
  cause : ∀ k < n, EventKept ca k
  reset : st.reset = ca.reset
  bits : st.lo + st.width ≤ 32 ∧ ca.lo + ca.width ≤ 32 ∧ st.lo + st.width ≤ ca.lo
  widths : 2 ≤ st.width ∧ 3 ≤ ca.width
  apart : ∀ j k : Nat, j ≠ k → st.off j 0 ≠ st.off k 0

theorem statusBank_pairs : StatusBank HIF_RP_STATUS_STATE HIF_RP_STATUS_CAUSE 64 where
  state k hk := .inl (by simp only [Field.off, HIF_RP_STATUS_STATE]; omega)
  cause k hk := .inl (by simp only [Field.off, HIF_RP_STATUS_CAUSE]; omega)
  reset := rfl
  bits := by decide
  widths := by decide
  apart j k h := by dsimp only [Field.off, HIF_RP_STATUS_STATE]; omega

theorem statusBank_events : StatusBank HIF_ER_STATUS_STATE HIF_ER_STATUS_CAUSE 8 where
  state _ hk := .inr ⟨by simp, hk⟩
  cause _ hk := .inr ⟨by simp, hk⟩
  reset := rfl
  bits := by decide
  widths := by decide
  apart j k h := by dsimp only [Field.off, HIF_ER_STATUS_STATE]; omega

/-- A ring of a bank shown HALTED with a cause, and its event posted. -/
theorem Mach.halted_status {st ca : Field} {n : Nat} (hb : StatusBank st ca n) (r cause : Nat) (hr : r < n) (hc : cause < 8) :
    let t := ((m.w st 2 r).w ca cause r).event code sev src args
    t.r st r = 2 ∧ t.r ca r = cause ∧ ∀ q < n, q ≠ r → t.r st q = m.r st q := by
  obtain ⟨hst, hca, hres, ⟨hl, hl', hd⟩, ⟨hw, hw'⟩, hap⟩ := hb
  have hbits : ∀ (x : Mach) (q : Nat), (x.w ca cause r).r st q = x.r st q :=
    fun x q => x.r_w_bits ca st _ _ _ _ _ hres hl' (.inl hd)
  refine ⟨?_, ?_, fun q hq hne => ?_⟩
  · rw [Mach.event_eventKept _ _ _ _ _ _ _ (hst r hr), hbits, Mach.r_w_same _ _ _ _ _ hl]
    exact Nat.mod_eq_of_lt (Nat.lt_of_lt_of_le (by decide : 2 < 2 ^ 2) (Nat.pow_le_pow_right Nat.two_pos hw))
  · rw [Mach.event_eventKept _ _ _ _ _ _ _ (hca r hr), Mach.r_w_same _ _ _ _ _ hl']
    exact Nat.mod_eq_of_lt (Nat.lt_of_lt_of_le hc (Nat.pow_le_pow_right Nat.two_pos hw'))
  · rw [Mach.event_eventKept _ _ _ _ _ _ _ (hst q hq), hbits]
    exact m.r_w_ne _ _ _ _ _ _ _ (hap q r hne)

/-- A ring pair that is not RUNNING does not halt. -/
theorem Mach.haltRing_other (r cause : Nat) (h : m.r HIF_RP_STATUS_STATE r ≠ 1) : m.haltRing r cause = m :=
  if_neg (by simpa using h)

theorem Mach.haltRing_running (r cause : Nat) (h : m.r HIF_RP_STATUS_STATE r = 1) : m.haltRing r cause =
    ((m.w HIF_RP_STATUS_STATE 2 r).w HIF_RP_STATUS_CAUSE cause r).event 0x0C01 3 22 (le 1 r ++ le 1 cause) :=
  if_pos (by simpa using h)

theorem Mach.haltERing_other (r cause : Nat) (h : m.r HIF_ER_STATUS_STATE r ≠ 1) : m.haltERing r cause = m :=
  if_neg (by simpa using h)

theorem Mach.haltERing_running (r cause : Nat) (h : m.r HIF_ER_STATUS_STATE r = 1) : m.haltERing r cause =
    ((m.w HIF_ER_STATUS_STATE 2 r).w HIF_ER_STATUS_CAUSE cause r).event 0x0C01 3 22 (le 1 (128 + r) ++ le 1 cause) :=
  if_pos (by simpa using h)

/-- Settles O11: STATE and CAUSE are written where the ring runs, and the event of the halt leaves them and the rings. -/
theorem ringsHaltWithTheirCause : Obligations.RingsHaltWithTheirCause := by
  unfold Obligations.RingsHaltWithTheirCause
  refine ⟨fun m r cause hc => ⟨fun h => ?_, m.haltRing_other r cause⟩,
    fun m e cause hc => ⟨fun h => ?_, m.haltERing_other e cause⟩⟩
  · rw [m.haltRing_running r cause h]
    obtain ⟨hst, hca, hq⟩ := m.halted_status 0x0C01 3 22 (le 1 r ++ le 1 cause) statusBank_pairs r cause r.isLt hc
    exact ⟨hst, hca, fun q hne => hq q q.isLt (Fin.val_ne_of_ne hne), Mach.event_rings _ _ _ _ _⟩
  · rw [m.haltERing_running e cause h]
    obtain ⟨hst, hca, hq⟩ := m.halted_status 0x0C01 3 22 (le 1 (128 + e) ++ le 1 cause) statusBank_events e cause e.isLt hc
    exact ⟨hst, hca, fun q hne => hq q q.isLt (Fin.val_ne_of_ne hne), Mach.event_rings _ _ _ _ _⟩

end Sys2Proof.Machine
end

section
/-! PROOFS. Doorbells, and the enable and disable of rings (R60, R61, R74, R75, R82). -/

namespace Sys2Proof.Machine

open Sys2Proof

variable (m : Mach)

/-! ### Doorbells (R75, R83) -/

/-- A doorbell of a ring that is not RUNNING is counted. -/
theorem submissionDoorbell_idle (r v : Nat) (h : m.r HIF_RP_STATUS_STATE r ≠ 1) :
    submissionDoorbell r v m = m.inc HIF_BAD_DB_ALL := if_pos (by simpa using h)

theorem submissionDoorbell_running (r v : Nat) (h : m.r HIF_RP_STATUS_STATE r = 1) :
    let n := m.rpSize r
    let x := m.ring r
    let add := (v + n - x.tail) % n
    submissionDoorbell r v m = if v = x.tail then m else if n ≤ v then m.haltRing r 1 else
      if n - 1 < x.outstanding + add then m.haltRing r 6
      else m.setRing r { x with tail := v, outstanding := x.outstanding + add } :=
  if_neg (by simp [h])

theorem completionDoorbell_idle (r v : Nat) (h : m.r HIF_RP_STATUS_STATE r ≠ 1) :
    completionDoorbell r v m = m.inc HIF_BAD_DB_ALL := if_pos (by simpa using h)

theorem completionDoorbell_running (r v : Nat) (h : m.r HIF_RP_STATUS_STATE r = 1) :
    let n := m.rpSize r
    let x := m.ring r
    let freed := (v + n - x.cqHead) % n
    completionDoorbell r v m = if v = x.cqHead then m
      else if n ≤ v ∨ (x.cqWrite + n - x.cqHead) % n < freed then m.haltRing r 2
      else m.setRing r { x with cqHead := v, outstanding := x.outstanding - freed } := by
  simp only [completionDoorbell, h, bne_self_eq_false, Bool.false_eq_true, if_false, Bool.or_eq_true,
    decide_eq_true_eq, gt_iff_lt]

theorem eventRingDoorbell_idle (e v : Nat) (h : m.r HIF_ER_STATUS_STATE e ≠ 1) :
    eventRingDoorbell e v m = m.inc HIF_BAD_DB_ALL := if_pos (by simpa using h)

theorem eventRingDoorbell_running (e v : Nat) (h : m.r HIF_ER_STATUS_STATE e = 1) :
    let n := m.erSize e
    let x := m.ering e
    eventRingDoorbell e v m = if v = x.head then m
      else if n ≤ v ∨ (m.r HIF_ER_STATUS_WR_INDEX e + n - x.head) % n < (v + n - x.head) % n then m.haltERing e 2
      else m.setERing e { x with head := v } := by
  simp only [eventRingDoorbell, h, bne_self_eq_false, Bool.false_eq_true, if_false, Bool.or_eq_true,
    decide_eq_true_eq, gt_iff_lt]

/-- Settles O10, doorbell by doorbell and row by row. -/
theorem doorbellsMoveRingIndices : Obligations.DoorbellsMoveRingIndices := by
  unfold Obligations.DoorbellsMoveRingIndices
  refine ⟨?submission, ?completion, ?events⟩
  case submission =>
    intro r v s x n add
    have on : ∀ t, submissionDoorbell r v.toNat s.m = t → exec (.submissionDoorbell r v) s = .next (s.having t) :=
      s.on_eq (submissionDoorbell r v.toNat)
    have run := submissionDoorbell_running s.m r v.toNat
    exact ⟨fun h => on _ (submissionDoorbell_idle s.m r _ h), fun h hv => on s.m ((run h).trans (if_pos hv)),
      fun h hv hn hroom => on _ ((run h).trans ((if_neg hv).trans ((if_neg (Nat.not_le.mpr hn)).trans
        (if_neg (Nat.not_lt.mpr hroom))))),
      fun h hv hn => on _ ((run h).trans ((if_neg hv).trans (if_pos hn))),
      fun h hv hn hfull => on _ ((run h).trans ((if_neg hv).trans ((if_neg (Nat.not_le.mpr hn)).trans (if_pos hfull))))⟩
  case completion =>
    intro r v s x n freed written
    have on : ∀ t, completionDoorbell r v.toNat s.m = t → exec (.completionDoorbell r v) s = .next (s.having t) :=
      s.on_eq (completionDoorbell r v.toNat)
    have run := completionDoorbell_running s.m r v.toNat
    exact ⟨fun h => on _ (completionDoorbell_idle s.m r _ h), fun h hv => on s.m ((run h).trans (if_pos hv)),
      fun h hv hn hf => on _ ((run h).trans ((if_neg hv).trans
        (if_neg (not_or.mpr ⟨Nat.not_le.mpr hn, Nat.not_lt.mpr hf⟩)))),
      fun h hv hbad => on _ ((run h).trans ((if_neg hv).trans (if_pos hbad)))⟩
  case events =>
    intro e v s x n freed written
    have on : ∀ t, eventRingDoorbell e v.toNat s.m = t → exec (.eventRingDoorbell e v) s = .next (s.having t) :=
      s.on_eq (eventRingDoorbell e v.toNat)
    have run := eventRingDoorbell_running s.m e v.toNat
    exact ⟨fun h => on _ (eventRingDoorbell_idle s.m e _ h), fun h hv => on s.m ((run h).trans (if_pos hv)),
      fun h hv hn hf => on _ ((run h).trans ((if_neg hv).trans
        (if_neg (not_or.mpr ⟨Nat.not_le.mpr hn, Nat.not_lt.mpr hf⟩)))),
      fun h hv hbad => on _ ((run h).trans ((if_neg hv).trans (if_pos hbad)))⟩

/-! ### Enable (R60, R61) -/

/-- A write of a listed register keeps the others. -/
theorem Mach.w_regsKept {l : List Nat} {a b : Mach} (h : regsKept l a b) (f : Field) (v i : Nat) (hf : f.off i 0 ∈ l) :
    regsKept l a (b.w f v i) := fun off hoff =>
  (b.look_w_ne f v i 0 off fun he => hoff (he ▸ hf)).trans (h off hoff)

theorem HIF_RP_CTRL_off_ne_STATUS (r : Nat) : HIF_RP_CTRL_ENABLE.off r 0 ≠ HIF_RP_STATUS_STATE.off r 0 := by
  simp only [Field.off, HIF_RP_CTRL_ENABLE, HIF_RP_STATUS_STATE]
  omega

theorem HIF_ER_CTRL_off_ne_STATUS (e : Nat) : HIF_ER_CTRL_ENABLE.off e 0 ≠ HIF_ER_STATUS_STATE.off e 0 := by
  simp only [Field.off, HIF_ER_CTRL_ENABLE, HIF_ER_STATUS_STATE]
  omega

theorem HIF_RP_CTRL_off_ne_INFLIGHT (r : Nat) : HIF_RP_CTRL_ENABLE.off r 0 ≠ HIF_RP_INFLIGHT_ALL.off r 0 := by
  simp only [Field.off, HIF_RP_CTRL_ENABLE, HIF_RP_INFLIGHT_ALL]
  omega

theorem Mach.b_w_same (f : Field) (v i : Nat) (hw : f.lo + f.width ≤ 32) : (m.w f v i).b f i = (v % 2 ^ f.width != 0) :=
  congrArg (· != 0) (m.r_w_same f v i 0 hw)

theorem Mach.b_w_bits (f g : Field) (v i : Nat) (hr : g.reset = f.reset) (hw : f.lo + f.width ≤ 32)
    (hd : g.lo + g.width ≤ f.lo ∨ f.lo + f.width ≤ g.lo) : (m.w f v i).b g i = m.b g i :=
  congrArg (· != 0) (m.r_w_bits f g v i 0 i 0 hr hw hd)

theorem Mach.b_w_ne (f g : Field) (v i : Nat) (ho : g.off i 0 ≠ f.off i 0) : (m.w f v i).b g i = m.b g i :=
  congrArg (· != 0) (m.r_w_ne f g v i 0 i 0 ho)

/-- A ring pair started: RUNNING, its indices 0. -/
def Mach.ringStarted (m : Mach) (r : Nat) : Mach :=
  ((((m.setRing r {}).w HIF_RP_CTRL_ENABLE 1 r).w HIF_RP_CTRL_CFG_ERR 0 r).w HIF_RP_STATUS_STATE 1 r).w HIF_RP_STATUS_SQ_HEAD 0 r

theorem Mach.ringStarted_fields (r : Nat) :
    (m.ringStarted r).r HIF_RP_STATUS_STATE r = 1 ∧ (m.ringStarted r).r HIF_RP_STATUS_SQ_HEAD r = 0 ∧
    (m.ringStarted r).b HIF_RP_CTRL_ENABLE r = true ∧ (m.ringStarted r).b HIF_RP_CTRL_CFG_ERR r = false := by
  have ho := HIF_RP_CTRL_off_ne_STATUS r
  unfold Mach.ringStarted
  refine ⟨?_, Mach.r_w_same _ _ _ _ _ (by decide), ?_, ?_⟩
  · rw [Mach.r_w_bits _ _ _ _ _ _ _ _ (by decide) (by decide) (by decide), Mach.r_w_same _ _ _ _ _ (by decide)]
    rfl
  · rw [Mach.b_w_ne _ _ _ _ _ (by exact ho), Mach.b_w_ne _ _ _ _ _ (by exact ho),
      Mach.b_w_bits _ _ _ _ _ (by decide) (by decide) (by decide), Mach.b_w_same _ _ _ _ (by decide)]
    rfl
  · rw [Mach.b_w_ne _ _ _ _ _ (by exact ho), Mach.b_w_ne _ _ _ _ _ (by exact ho), Mach.b_w_same _ _ _ _ (by decide)]
    rfl

theorem Mach.ringStarted_regsKept (r : Nat) :
    regsKept [HIF_RP_STATUS_STATE.off r 0, HIF_RP_CTRL_ENABLE.off r 0] m (m.ringStarted r) :=
  have hc : HIF_RP_CTRL_ENABLE.off r 0 ∈ [HIF_RP_STATUS_STATE.off r 0, HIF_RP_CTRL_ENABLE.off r 0] := by simp
  have hs : HIF_RP_STATUS_STATE.off r 0 ∈ [HIF_RP_STATUS_STATE.off r 0, HIF_RP_CTRL_ENABLE.off r 0] := by simp
  Mach.w_regsKept (Mach.w_regsKept (Mach.w_regsKept (Mach.w_regsKept (fun _ _ => rfl) HIF_RP_CTRL_ENABLE 1 r hc)
    HIF_RP_CTRL_CFG_ERR 0 r hc) HIF_RP_STATUS_STATE 1 r hs) HIF_RP_STATUS_SQ_HEAD 0 r hs

/-- An enable write that the ring pair hears, judged by its configuration. -/
theorem ringPairEnable_hears (r : Fin 64) (hr : m.ready = true) (hrec : m.recovery = false ∨ r = 0)
    (hs : m.r HIF_RP_STATUS_STATE r = 0) : ringPairEnable r m =
      if ringCfgOk (m.r HIF_RP_CFG_SIZE_LOG2 r) [m.sqBase r, m.cqBase r] then m.ringStarted r
      else m.w HIF_RP_CTRL_CFG_ERR 1 r := by
  refine if_neg ?_
  rcases hrec with h | rfl
  · simp [hr, h, hs]
  · simpa [hr] using hs

/-- In recovery mode ring pair 0 is the only one (R552). -/
theorem ringPairEnable_recovery (r : Fin 64) (hrec : m.recovery = true) (h : r ≠ 0) : ringPairEnable r m = m := by
  have : (r : Nat) ≠ 0 := Fin.val_ne_zero_iff.mpr h
  exact if_pos (by simp [hrec, this])

/-- An event ring started: RUNNING, its index 0 and its phase 1; its SEQ goes on. -/
def Mach.eringStarted (m : Mach) (e : Nat) : Mach :=
  (((((m.setERing e { seq := (m.ering e).seq }).w HIF_ER_CTRL_ENABLE 1 e).w HIF_ER_CTRL_CFG_ERR 0 e).w HIF_ER_STATUS_STATE 1 e).w
    HIF_ER_STATUS_WR_INDEX 0 e).w HIF_ER_STATUS_PHASE 1 e

/-- An event ring stopped: DISABLED, its index 0; its SEQ goes on. -/
def Mach.eringStopped (m : Mach) (e : Nat) : Mach :=
  (((((m.setERing e { seq := (m.ering e).seq }).w HIF_ER_STATUS_STATE 0 e).w HIF_ER_STATUS_CAUSE 0 e).w HIF_ER_CTRL_ENABLE 0 e).w
    HIF_ER_STATUS_WR_INDEX 0 e).w HIF_ER_STATUS_PHASE 1 e

theorem Mach.eringStarted_fields (e : Nat) :
    (m.eringStarted e).r HIF_ER_STATUS_STATE e = 1 ∧ (m.eringStarted e).r HIF_ER_STATUS_WR_INDEX e = 0 ∧
    (m.eringStarted e).r HIF_ER_STATUS_PHASE e = 1 ∧ (m.eringStarted e).b HIF_ER_CTRL_ENABLE e = true ∧
    (m.eringStarted e).b HIF_ER_CTRL_CFG_ERR e = false := by
  have ho := HIF_ER_CTRL_off_ne_STATUS e
  unfold Mach.eringStarted
  refine ⟨?_, ?_, Mach.r_w_same _ _ _ _ _ (by decide), ?_, ?_⟩
  · rw [Mach.r_w_bits _ _ _ _ _ _ _ _ (by decide) (by decide) (by decide),
      Mach.r_w_bits _ _ _ _ _ _ _ _ (by decide) (by decide) (by decide), Mach.r_w_same _ _ _ _ _ (by decide)]
    rfl
  · rw [Mach.r_w_bits _ _ _ _ _ _ _ _ (by decide) (by decide) (by decide), Mach.r_w_same _ _ _ _ _ (by decide)]
    rfl
  · rw [Mach.b_w_ne _ _ _ _ _ (by exact ho), Mach.b_w_ne _ _ _ _ _ (by exact ho), Mach.b_w_ne _ _ _ _ _ (by exact ho),
      Mach.b_w_bits _ _ _ _ _ (by decide) (by decide) (by decide), Mach.b_w_same _ _ _ _ (by decide)]
    rfl
  · rw [Mach.b_w_ne _ _ _ _ _ (by exact ho), Mach.b_w_ne _ _ _ _ _ (by exact ho), Mach.b_w_ne _ _ _ _ _ (by exact ho),
      Mach.b_w_same _ _ _ _ (by decide)]
    rfl

theorem Mach.eringStopped_fields (e : Nat) :
    (m.eringStopped e).r HIF_ER_STATUS_STATE e = 0 ∧ (m.eringStopped e).b HIF_ER_CTRL_ENABLE e = false ∧
    (m.eringStopped e).r HIF_ER_STATUS_WR_INDEX e = 0 := by
  have ho := HIF_ER_CTRL_off_ne_STATUS e
  unfold Mach.eringStopped
  refine ⟨?_, ?_, ?_⟩
  · rw [Mach.r_w_bits _ _ _ _ _ _ _ _ (by decide) (by decide) (by decide),
      Mach.r_w_bits _ _ _ _ _ _ _ _ (by decide) (by decide) (by decide), Mach.r_w_ne _ _ _ _ _ _ _ _ ho.symm,
      Mach.r_w_bits _ _ _ _ _ _ _ _ (by decide) (by decide) (by decide), Mach.r_w_same _ _ _ _ _ (by decide)]
    rfl
  · rw [Mach.b_w_ne _ _ _ _ _ (by exact ho), Mach.b_w_ne _ _ _ _ _ (by exact ho), Mach.b_w_same _ _ _ _ (by decide)]
    rfl
  · rw [Mach.r_w_bits _ _ _ _ _ _ _ _ (by decide) (by decide) (by decide), Mach.r_w_same _ _ _ _ _ (by decide)]
    rfl

theorem HIF_ER_CTRL_mem (e : Nat) :
    HIF_ER_CTRL_ENABLE.off e 0 ∈ [HIF_ER_STATUS_STATE.off e 0, HIF_ER_CTRL_ENABLE.off e 0] := by simp

theorem HIF_ER_STATUS_mem (e : Nat) :
    HIF_ER_STATUS_STATE.off e 0 ∈ [HIF_ER_STATUS_STATE.off e 0, HIF_ER_CTRL_ENABLE.off e 0] := by simp

theorem Mach.eringStarted_regsKept (e : Nat) :
    regsKept [HIF_ER_STATUS_STATE.off e 0, HIF_ER_CTRL_ENABLE.off e 0] m (m.eringStarted e) :=
  have hc := HIF_ER_CTRL_mem e
  have hs := HIF_ER_STATUS_mem e
  Mach.w_regsKept (Mach.w_regsKept (Mach.w_regsKept (Mach.w_regsKept (Mach.w_regsKept (fun _ _ => rfl)
    HIF_ER_CTRL_ENABLE 1 e hc) HIF_ER_CTRL_CFG_ERR 0 e hc) HIF_ER_STATUS_STATE 1 e hs) HIF_ER_STATUS_WR_INDEX 0 e hs)
    HIF_ER_STATUS_PHASE 1 e hs

theorem Mach.eringStopped_regsKept (e : Nat) :
    regsKept [HIF_ER_STATUS_STATE.off e 0, HIF_ER_CTRL_ENABLE.off e 0] m (m.eringStopped e) :=
  have hc := HIF_ER_CTRL_mem e
  have hs := HIF_ER_STATUS_mem e
  Mach.w_regsKept (Mach.w_regsKept (Mach.w_regsKept (Mach.w_regsKept (Mach.w_regsKept (fun _ _ => rfl)
    HIF_ER_STATUS_STATE 0 e hs) HIF_ER_STATUS_CAUSE 0 e hs) HIF_ER_CTRL_ENABLE 0 e hc) HIF_ER_STATUS_WR_INDEX 0 e hs)
    HIF_ER_STATUS_PHASE 1 e hs

theorem eventRingEnable_hears (e : Nat) (hr : m.ready = true) (hs : m.r HIF_ER_STATUS_STATE e = 0) :
    eventRingEnable e m = if ringCfgOk (m.r HIF_ER_CFG_SIZE_LOG2 e) [m.erBase e] then m.eringStarted e
      else m.w HIF_ER_CTRL_CFG_ERR 1 e := if_neg (by simp [hr, hs])

/-! ### Disable (R82) -/

/-- A ring pair DISABLED: its indices 0. -/
theorem Mach.ringOff_fields (r : Nat) :
    (m.ringOff r).r HIF_RP_STATUS_STATE r = 0 ∧ (m.ringOff r).b HIF_RP_CTRL_ENABLE r = false ∧
    (m.ringOff r).r HIF_RP_STATUS_SQ_HEAD r = 0 ∧ (m.ringOff r).ring r = {} := by
  have ho := (HIF_RP_CTRL_off_ne_STATUS r).symm
  have hi := HIF_RP_STATUS_off_ne_INFLIGHT r r
  unfold Mach.ringOff
  refine ⟨?_, ?_, ?_, Mach.setRing_ring ..⟩
  · rw [Mach.showRing_r _ _ _ _ hi, Mach.r_w_ne _ _ _ _ _ _ _ _ ho,
      Mach.r_w_bits _ _ _ _ _ _ _ _ (by decide) (by decide) (by decide),
      Mach.r_w_bits _ _ _ _ _ _ _ _ (by decide) (by decide) (by decide), Mach.r_w_same _ _ _ _ _ (by decide)]
    rfl
  · rw [Mach.showRing, Mach.b_w_ne _ _ _ _ _ (HIF_RP_CTRL_off_ne_INFLIGHT r), Mach.b_w_same _ _ _ _ (by decide)]
    rfl
  · rw [Mach.showRing_r _ _ _ _ (by exact hi), Mach.r_w_ne _ _ _ _ _ _ _ _ (by exact ho), Mach.r_w_same _ _ _ _ _ (by decide)]
    rfl

/-- A ring pair that drains with nothing in flight is DISABLED. -/
theorem Mach.settleRing_idle (r : Nat) (hs : m.r HIF_RP_STATUS_STATE r = 3) (hi : (m.ring r).inflight = 0) :
    m.settleRing r = m.ringOff r := if_pos (by simp [hs, hi])

/-- A ring pair whose disable begins: DRAINING, without a cause. -/
def Mach.draining (m : Mach) (r : Nat) : Mach := (m.w HIF_RP_STATUS_STATE 3 r).w HIF_RP_STATUS_CAUSE 0 r

theorem Mach.draining_state (r : Nat) : (m.draining r).r HIF_RP_STATUS_STATE r = 3 := by
  rw [Mach.draining, Mach.r_w_bits _ _ _ _ _ _ _ _ (by decide) (by decide) (by decide), Mach.r_w_same _ _ _ _ _ (by decide)]
  rfl

theorem ringDisable_pair (r : Fin 64) (h : m.r HIF_RP_STATUS_STATE r = 1 ∨ m.r HIF_RP_STATUS_STATE r = 2) :
    ringDisable (.pair r) m =
      ((m.draining r).each (m.ring r).paused (fun m d => m.dropPaused r d stFLUSHED)).settleRing r :=
  if_pos (by simpa using h)

theorem ringDisable_events (e : Fin 8) (h : m.r HIF_ER_STATUS_STATE e = 1 ∨ m.r HIF_ER_STATUS_STATE e = 2) :
    ringDisable (.events e) m = m.eringStopped e := if_pos (by simpa using h)

/-- Settles O12: enable and disable of ring pairs and of event rings. -/
theorem ringsAreEnabledAndDisabled : Obligations.RingsAreEnabledAndDisabled := by
  unfold Obligations.RingsAreEnabledAndDisabled
  refine ⟨?pair, fun r s hrec h => s.on_same _ (ringPairEnable_recovery s.m r hrec h), ?events, ?disable, ?disableEvents⟩
  case pair =>
    intro r s hr hrec hs
    have hen := ringPairEnable_hears s.m r hr hrec hs
    refine ⟨fun hcfg => ⟨s.m.ringStarted r, s.on_eq (ringPairEnable r) _ (hen.trans (if_pos hcfg)), rfl, ?_⟩,
      fun hcfg => s.on_eq (ringPairEnable r) _ (hen.trans (if_neg (by simp [hcfg])))⟩
    obtain ⟨hst, hhead, hon, herr⟩ := s.m.ringStarted_fields r
    exact ⟨hst, hhead, hon, herr, s.m.ringStarted_regsKept r⟩
  case events =>
    intro e s hr hs
    have hen := eventRingEnable_hears s.m e hr hs
    refine ⟨fun hcfg => ⟨s.m.eringStarted e, s.on_eq (eventRingEnable e) _ (hen.trans (if_pos hcfg)), rfl, ?_⟩,
      fun hcfg => s.on_eq (eventRingEnable e) _ (hen.trans (if_neg (by simp [hcfg])))⟩
    obtain ⟨hst, hwr, hph, hon, herr⟩ := s.m.eringStarted_fields e
    exact ⟨hst, hwr, hph, hon, herr, s.m.eringStarted_regsKept e⟩
  case disable =>
    intro r s h
    have hdis := ringDisable_pair s.m r h
    refine ⟨s.on_eq (ringDisable (.pair r)) _ hdis, fun hp hd => ⟨(s.m.draining r).ringOff r,
      s.on_eq (ringDisable (.pair r)) _ ?_, (s.m.draining r).ringOff_fields r⟩⟩
    have hin : ((s.m.draining r).ring r).inflight = 0 := by
      change (s.m.ring r).paused.length + (s.m.ring r).delivered.length = 0
      rw [hp, hd]
      rfl
    rw [hdis, hp]
    exact (s.m.draining r).settleRing_idle r (s.m.draining_state r) hin
  case disableEvents =>
    intro e s h
    obtain ⟨hst, hoff, hwr⟩ := s.m.eringStopped_fields e
    exact ⟨s.m.eringStopped e, s.on_eq (ringDisable (.events e)) _ (ringDisable_events s.m e h), hst, hoff, hwr,
      Mach.setERing_ering .., s.m.eringStopped_regsKept e⟩

end Sys2Proof.Machine
end

section
/-! PROOFS. Descriptors (R62 to R67, R81, R85, R129): those that wait, those whose buffer fails, those that are fetched. -/

namespace Sys2Proof.Machine

open Sys2Proof

variable (m : Mach)

/-! ### Commands that are descriptors -/

/-- A command is a descriptor of its opcode, refused with the RESULT its block states. -/
def IsDescriptor (e : Nat × (Desc → Instr)) : Prop :=
  ∃ (f : Desc → Mach → Mach) (res : Mach → Desc → List Byte),
    (∀ (d : Desc) (s : State), exec (e.2 d) s = .next (s.having (s.m.desc e.1 d f (res s.m)))) ∧
    ∀ (m : Mach) (d : Desc), res m (d.as e.1) = m.refusedRes (d.as e.1)

section
variable (op : Nat) (c : Desc → Instr) (f : Desc → Mach → Mach)

/-- A descriptor of Kiln returns its fields with nothing done (R129). -/
theorem isDescriptor_kiln (res : Mach → Desc → List Byte) (ho : op / 256 = 1)
    (h : ∀ (d : Desc) (s : State), exec (c d) s = .next (s.having (s.m.desc op d f (res s.m))))
    (hr : ∀ (m : Mach) (d : Desc), res m (d.as op) = m.denyRes (d.as op)) : IsDescriptor (op, c) :=
  ⟨f, res, h, fun m d => (hr m d).trans (if_pos (by simpa [Desc.as] using ho)).symm⟩

/-- A descriptor of Motion returns the axis as it stands. -/
theorem isDescriptor_motion (ho : op / 256 = 7)
    (h : ∀ (d : Desc) (s : State), exec (c d) s =
      .next (s.having (s.m.desc op d f (fun e => s.m.motRes (Descs.fld e 16 1))))) : IsDescriptor (op, c) :=
  ⟨f, fun m e => m.motRes (Descs.fld e 16 1), h, fun m d =>
    ((if_neg (by simp [Desc.as, ho])).trans (if_pos (by simp [Desc.as, ho]))).symm⟩

/-- A descriptor of another block returns nothing. -/
theorem isDescriptor_plain (hk : op / 256 ≠ 1) (hm : op / 256 ≠ 7)
    (h : ∀ (d : Desc) (s : State), exec (c d) s = .next (s.having (s.m.desc op d f))) : IsDescriptor (op, c) :=
  ⟨f, fun _ _ => [], h, fun m d => ((if_neg (by simpa [Desc.as] using hk)).trans (if_neg (by simpa [Desc.as] using hm))).symm⟩

end

theorem descKiln_isDescriptor : ∀ e ∈ descKiln, IsDescriptor e := by
  intro e he
  simp only [descKiln, List.mem_cons, List.not_mem_nil, or_false] at he
  rcases he with rfl | rfl | rfl | rfl | rfl | rfl | rfl | rfl | rfl | rfl | rfl | rfl
  case inr.inr.inr.inl => exact isDescriptor_kiln _ _ _ (fun m _ => m.loadRes (0, 0)) (by decide) (fun _ _ => rfl) fun _ _ => rfl
  case inr.inr.inr.inr.inl =>
    exact isDescriptor_kiln _ _ _ (fun _ d => commitRes d (0, 0)) (by decide) (fun _ _ => rfl) fun _ _ => rfl
  all_goals exact isDescriptor_kiln _ _ _ Mach.denyRes (by decide) (fun _ _ => rfl) fun _ _ => rfl

theorem descAir_isDescriptor : ∀ e ∈ descAir, IsDescriptor e := by
  intro e he
  simp only [descAir, List.mem_cons, List.not_mem_nil, or_false] at he
  rcases he with rfl | rfl | rfl | rfl | rfl | rfl | rfl | rfl | rfl | rfl | rfl | rfl | rfl | rfl
  all_goals exact isDescriptor_plain _ _ _ (by decide) (by decide) fun _ _ => rfl

theorem descGnss_isDescriptor : ∀ e ∈ descGnss, IsDescriptor e := by
  intro e he
  simp only [descGnss, List.mem_cons, List.not_mem_nil, or_false] at he
  rcases he with rfl | rfl | rfl | rfl | rfl | rfl | rfl | rfl | rfl | rfl | rfl | rfl | rfl | rfl
  all_goals exact isDescriptor_plain _ _ _ (by decide) (by decide) fun _ _ => rfl

/-- The five of Motion stand behind the first three. -/
theorem descRest_isDescriptor : ∀ e ∈ descRest, IsDescriptor e := by
  intro e he
  simp only [descRest, List.mem_cons, List.not_mem_nil, or_false] at he
  rcases he with rfl | rfl | rfl | rfl | rfl | rfl | rfl | rfl | rfl | rfl | rfl | rfl | rfl | rfl | rfl | rfl | rfl | rfl |
    rfl | rfl | rfl | rfl | rfl
  iterate 3 exact isDescriptor_plain _ _ _ (by decide) (by decide) fun _ _ => rfl
  iterate 5 exact isDescriptor_motion _ _ _ (by decide) fun _ _ => rfl
  all_goals exact isDescriptor_plain _ _ _ (by decide) (by decide) fun _ _ => rfl

theorem descCommands_isDescriptor (e : Nat × (Desc → Instr)) (he : e ∈ descCommands) : IsDescriptor e := by
  simp only [descCommands, List.mem_append] at he
  rcases he with ((he | he) | he) | he
  · exact descKiln_isDescriptor e he
  · exact descAir_isDescriptor e he
  · exact descGnss_isDescriptor e he
  · exact descRest_isDescriptor e he

/-- A descriptor that is held back has no effect, whatever a refusal of it would return. -/
theorem Mach.desc_waits_res (op : Nat) (d : Desc) (f : Desc → Mach → Mach) (res : Desc → List Byte)
    (h : m.waits (d.as op) = true) : m.desc op d f res = m := if_pos h

/-- Settles O6: of every descriptor alike, by the shared form of their commands. -/
theorem descriptorsWaitInRingOrder : Obligations.DescriptorsWaitInRingOrder := by
  unfold Obligations.DescriptorsWaitInRingOrder
  intro e he d s
  obtain ⟨f, res, hexec, hres⟩ := descCommands_isDescriptor e he
  refine ⟨fun hw => ?_, fun hw hb hf => ?_⟩
  · rw [hexec, s.m.desc_waits_res _ _ _ _ hw]
    rfl
  · have hfail : s.m.bufFails d = true := by
      rw [Mach.bufFails, hb]
      rcases hf with hf | hf <;> simp [hf]
    rw [hexec, s.m.desc_fails _ _ _ _ hw hfail, hres]

/-! ### NOP and GET_TIME (R85) -/

/-- Settles O15: a descriptor that starts is executed, and both commands do nothing but complete (R85). -/
theorem nopAndGetTimeComplete : Obligations.NopAndGetTimeComplete := by
  unfold Obligations.NopAndGetTimeComplete
  exact ⟨fun d s h => s.on_eq (nop d) _ (s.m.desc_starts _ d _ h), fun d s h => s.on_eq (getTime d) _ (s.m.desc_starts _ d _ h)⟩

end Sys2Proof.Machine
end

section
/-! PROOFS. The fetch of descriptors (R62, R63, R66, R76, R81, R114): a burst of one from a ring whose turn it is and that holds
nothing back. -/

namespace Sys2Proof.Machine

open Sys2Proof

variable (m : Mach)

/-! ### Fetches that fetch nothing -/

/-- A fetch that fails on the link halts its ring (R81). -/
theorem descriptorFetch_error (r n lat : Nat) :
    descriptorFetch r n true lat m = (m.when (m.r HIF_RP_STATUS_STATE r == 1) Mach.linkError).haltRing r 3 := rfl

/-- Behind a LOAD_MAP that waits nothing is fetched (R114). -/
theorem descriptorFetch_paused (r n lat : Nat) (h : m.ringPaused r = true) : descriptorFetch r n false lat m = m :=
  if_pos h

/-! ### A burst of one descriptor -/

/-- Ring `r` has a descriptor to fetch, a slot to reserve, its turn, and holds none back. -/
structure Mach.FetchReady (m : Mach) (r : Nat) : Prop where
  noLoad : m.kiln.loadWait = []
  running : m.r HIF_RP_STATUS_STATE r = 1
  writes : m.canWrite = true
  ahead : m.r HIF_RP_STATUS_SQ_HEAD r ≠ (m.ring r).tail
  nonePaused : (m.ring r).paused = []
  turn : m.turnOf r = true
  slot : (m.ring r).delivered.length + ((m.ring r).cqWrite + m.rpSize r - (m.ring r).cqHead) % m.rpSize r < m.rpSize r

/-- The descriptor at a ring's fetch index. -/
def Mach.nextDesc (m : Mach) (r : Nat) : Desc :=
  parseDesc r m.hif.era (m.hostRd (m.sqBase r + 64 * m.r HIF_RP_STATUS_SQ_HEAD r) 64)

/-- The part with the next descriptor of a ring fetched, and the latency recorded. -/
def Mach.fetched (m : Mach) (r lat : Nat) : Mach :=
  (((m.countBurst r).setRing r { m.ring r with paused := [m.nextDesc r] }).w HIF_RP_STATUS_SQ_HEAD
    ((m.r HIF_RP_STATUS_SQ_HEAD r + 1) % m.rpSize r) r).maxTo HIF_FETCH_LAT_MAX_ALL lat

@[simp] theorem Mach.fetched_ring (r lat : Nat) : (m.fetched r lat).ring r = { m.ring r with paused := [m.nextDesc r] } :=
  Mach.setRing_ring ..

theorem Mach.fetched_recovery (r lat : Nat) : (m.fetched r lat).recovery = m.recovery := by
  refine congrArg (· != 0) ((Mach.r_w_ne _ _ UPD_STATUS_RECOVERY _ _ _ 0 0 (by decide)).trans ?_)
  exact Mach.r_w_bits _ _ UPD_STATUS_RECOVERY _ _ _ 0 0 (by decide) (by decide) (by decide)

theorem Mach.deliver_zero (r : Nat) : m.deliver r 0 = m := rfl

/-- The one descriptor at a ring: refused under R66, or delivered where its block can take it. -/
theorem Mach.deliver_one (r : Nat) (x : Ring) (d : Desc) (h : m.ring r = { x with paused := [d] }) :
    m.deliver r 1 =
      if !descOk d then m.dropPaused r d stBAD_DESCRIPTOR
      else if !opcodes.contains d.op || (m.recovery && d.target != 10) then m.dropPaused r d stUNSUPPORTED
      else if m.accepts d then (m.setRing r { x with paused := [] }).arrive d else m := by
  simp only [Mach.deliver, h]

variable {m} {r : Nat}

theorem Mach.FetchReady.canFetch (h : m.FetchReady r) : m.canFetch r = true := by
  obtain ⟨-, hrun, hw, hne, hp, -, hslot⟩ := h
  simp [Mach.canFetch, Ring.inflight, hrun, hw, hne, hp, hslot]

theorem Mach.FetchReady.not_ringPaused (h : m.FetchReady r) : m.ringPaused r = false := by
  rw [Mach.ringPaused, h.noLoad]
  rfl

/-- The burst fetches the descriptor and offers it to its block. -/
theorem Mach.FetchReady.descriptorFetch (h : m.FetchReady r) (lat : Nat) :
    descriptorFetch r 1 false lat m = ((m.fetched r lat).deliver r 1).showRing r := by
  have hp := h.nonePaused
  have hwant : m.wantsFetch r = true := by simp [Mach.wantsFetch, h.canFetch, h.not_ringPaused, hp]
  have hone : (m.countBurst r).fetchOne r = ((m.countBurst r).setRing r { m.ring r with paused := [m.nextDesc r] }).w
      HIF_RP_STATUS_SQ_HEAD ((m.r HIF_RP_STATUS_SQ_HEAD r + 1) % m.rpSize r) r := by
    have hc : (m.countBurst r).canFetch r = true := h.canFetch
    refine (if_pos hc).trans ?_
    change ((m.countBurst r).setRing r { m.ring r with paused := (m.ring r).paused ++ [m.nextDesc r] }).w _ _ r = _
    rw [hp]
    rfl
  have hgot : ((m.countBurst r).fetchMany r 1).maxTo HIF_FETCH_LAT_MAX_ALL lat = m.fetched r lat :=
    congrArg (fun x : Mach => x.maxTo HIF_FETCH_LAT_MAX_ALL lat) hone
  have hlen : ((m.fetched r lat).ring r).paused.length = 1 := by rw [Mach.fetched_ring]; rfl
  have hburst : (1 != 0 && m.wantsFetch r && m.turnOf r) = true := by simp [hwant, h.turn]
  simp only [Machine.descriptorFetch, h.not_ringPaused, hp, Bool.false_eq_true, if_false, List.length_nil, Mach.deliver_zero,
    hburst, if_true, hgot, hlen]

/-- A fetched descriptor that ends at its ring (R66). -/
theorem Mach.FetchReady.dropPaused (h : m.FetchReady r) (lat : Nat) (d : Desc) (st : Nat) :
    (m.fetched r lat).dropPaused r d st = ((m.fetched r lat).setRing r (m.ring r)).finish d st := by
  rw [Mach.dropPaused, Mach.fetched_ring]
  change ((m.fetched r lat).setRing r { m.ring r with paused := [] }).finish d st = _
  rw [← h.nonePaused]

/-- What becomes of the fetched descriptor. -/
theorem Mach.FetchReady.deliver (h : m.FetchReady r) (lat : Nat) :
    let d := m.nextDesc r
    let got := m.fetched r lat
    got.deliver r 1 =
      if !descOk d then (got.setRing r (m.ring r)).finish d stBAD_DESCRIPTOR
      else if !opcodes.contains d.op || (m.recovery && d.target != 10) then (got.setRing r (m.ring r)).finish d stUNSUPPORTED
      else if got.accepts d then (got.setRing r (m.ring r)).arrive d
      else got := by
  intro d got
  rw [got.deliver_one r (m.ring r) d (m.fetched_ring r lat), h.dropPaused, h.dropPaused, Mach.fetched_recovery, ← h.nonePaused]

theorem Mach.FetchReady.deliver_bad (h : m.FetchReady r) (lat : Nat) (hok : descOk (m.nextDesc r) = false) :
    (m.fetched r lat).deliver r 1 = ((m.fetched r lat).setRing r (m.ring r)).finish (m.nextDesc r) stBAD_DESCRIPTOR :=
  (h.deliver lat).trans (if_pos (by simp [hok]))

theorem Mach.FetchReady.deliver_unsupported (h : m.FetchReady r) (lat : Nat) (hok : descOk (m.nextDesc r) = true)
    (hop : opcodes.contains (m.nextDesc r).op = false) :
    (m.fetched r lat).deliver r 1 = ((m.fetched r lat).setRing r (m.ring r)).finish (m.nextDesc r) stUNSUPPORTED :=
  (h.deliver lat).trans ((if_neg (by simp [hok])).trans (if_pos (by rw [hop]; rfl)))

theorem Mach.FetchReady.deliver_good (h : m.FetchReady r) (lat : Nat) (hok : descOk (m.nextDesc r) = true)
    (hop : opcodes.contains (m.nextDesc r).op = true) (hrec : m.recovery = false)
    (hacc : (m.fetched r lat).accepts (m.nextDesc r) = true) :
    (m.fetched r lat).deliver r 1 = ((m.fetched r lat).setRing r (m.ring r)).arrive (m.nextDesc r) :=
  (h.deliver lat).trans ((if_neg (by simp [hok])).trans ((if_neg (by rw [hop, hrec]; exact Bool.false_ne_true)).trans
    (if_pos hacc)))

/-- A descriptor that arrives stands last among those delivered from its ring. -/
theorem Mach.arrive_delivered (m : Mach) (d : Desc) :
    ((m.arrive d).ring d.ring).delivered = (m.ring d.ring).delivered ++ [d] := by
  have h : (m.arrive d).hif = (m.setRing d.ring { m.ring d.ring with delivered := (m.ring d.ring).delivered ++ [d] }).hif := by
    rw [Mach.arrive]
    split <;> rfl
  rw [Mach.ring, h]
  exact congrArg Ring.delivered (m.setRing_ring ..)

/-- Settles O13: a failed fetch, a ring paused at a LOAD_MAP, and the three ends of a descriptor fetched. -/
theorem descriptorsAreFetchedAndChecked : Obligations.DescriptorsAreFetchedAndChecked := by
  unfold Obligations.DescriptorsAreFetchedAndChecked
  refine ⟨fun r n lat s => s.on_eq _ _ (descriptorFetch_error s.m r n lat),
    fun r n lat s h => s.on_same _ (descriptorFetch_paused s.m r n lat h), ?_⟩
  intro r lat s x size hd d got hload hrun hw hne hp hturn hslot
  have ready : s.m.FetchReady r := ⟨hload, hrun, hw, hne, hp, hturn, hslot⟩
  have on : ∀ t, got.deliver r 1 = t → exec (.descriptorFetch r 1 false lat) s = .next (s.having (t.showRing r)) := fun t ht =>
    s.on_eq (descriptorFetch r 1 false lat) _ ((ready.descriptorFetch lat).trans (congrArg (fun y : Mach => y.showRing r) ht))
  refine ⟨fun hok hop hrec hacc => ⟨on _ (ready.deliver_good lat hok hop hrec hacc), ?_⟩,
    fun hok => on _ (ready.deliver_bad lat hok), fun hok hop => on _ (ready.deliver_unsupported lat hok hop)⟩
  have h := (got.setRing r x).arrive_delivered d
  rwa [show d.ring = r from rfl, Mach.setRing_ring] at h

end Sys2Proof.Machine
end

section
/-! PROOFS. Messages of vectors, bus master enable and power state (R54, R78, R79), and the host interface after link down (R54,
R463). -/

namespace Sys2Proof.Machine

open Sys2Proof

variable (m : Mach)

/-! ### Messages (R79) -/

@[simp] theorem Mach.setVec_vec (v : Nat) (x : Vec) : (m.setVec v x).vec v = x := Tabs.val_put_same ..

/-- A message falls due at a vector that nothing holds back. -/
theorem Mach.fireVec_sent (v : Nat) (h : m.vecHeld v = false) (hw : m.canWrite = true) :
    m.fireVec v = (m.setVec v { m.vec v with count := 0 }).emit (.msix v) := if_neg (by simp [h, hw])

theorem Mach.fireVec_held (v : Nat) (h : m.vecHeld v = true ∨ m.canWrite = false) :
    m.fireVec v = m.setVec v { m.vec v with count := 0, pend := true } := if_pos (by simpa using h)

/-- A vector's timer that has run out with an entry counted. -/
theorem interruptCoalesceTimeout_due (v : Nat) (ht : m.r HIF_VEC_COAL_TIME v ≠ 0) (hc : 0 < (m.vec v).count)
    (hd : m.r HIF_VEC_COAL_TIME v < 1000 * (m.now - (m.vec v).first + 1)) : interruptCoalesceTimeout v m = m.fireVec v :=
  if_pos (by simp [Mach.coalDue, ht, hc, hd])

/-- A vector with nothing pending, or whose message is held back, sends nothing. -/
theorem Mach.sendPending_none (v : Nat) (h : (m.vec v).pend = false ∨ m.vecHeld v = true ∨ m.canWrite = false) :
    m.sendPending v = m := by
  refine if_neg ?_
  rcases h with h | h | h <;> simp [h]

theorem Mach.sendPending_sent (v : Nat) (hp : (m.vec v).pend = true) (h : m.vecHeld v = false) (hw : m.canWrite = true) :
    m.sendPending v = (m.setVec v { m.vec v with pend := false }).emit (.msix v) := if_pos (by simp [hp, h, hw])

/-- The part with a vector unmasked. -/
def Mach.unmasked (m : Mach) (v : Nat) : Mach := m.setVec v { m.vec v with masked := false }

@[simp] theorem Mach.unmasked_vec (v : Nat) : (m.unmasked v).vec v = { m.vec v with masked := false } := Mach.setVec_vec ..

theorem Mach.unmasked_vecHeld (v : Nat) : (m.unmasked v).vecHeld v = (!m.hif.cfg.msixOn || m.hif.cfg.msixMask) := by
  rw [Mach.vecHeld, Mach.unmasked_vec, Bool.or_false]
  rfl

/-- Changes of which none changes anything. -/
theorem Mach.each_idle {α : Type} (l : List α) (f : Mach → α → Mach) (h : ∀ a ∈ l, f m a = m) : m.each l f = m := by
  induction l with
  | nil => rfl
  | cons a l ih =>
    change (f m a).each l f = m
    rw [h a List.mem_cons_self]
    exact ih fun b hb => h b (List.mem_cons_of_mem a hb)

/-- With the function in D0 every vector may send what is pending. -/
theorem busMasterEnable_D0 (h : m.r HIF_STATUS_D_STATE = 0) :
    busMasterEnable m = (m.w HIF_STATUS_BME 1).each (List.range 64) Mach.sendPending :=
  if_pos (by simpa using (m.r_w_bits HIF_STATUS_BME HIF_STATUS_D_STATE 1 0 0 0 0 rfl (by decide) (by decide)).trans h)

theorem busMasterEnable_notD0 (h : m.r HIF_STATUS_D_STATE ≠ 0) : busMasterEnable m = m.w HIF_STATUS_BME 1 :=
  if_neg (by simpa using (m.r_w_bits HIF_STATUS_BME HIF_STATUS_D_STATE 1 0 0 0 0 rfl (by decide) (by decide)).trans_ne h)

/-! ### The host interface after link down (R54) -/

/-- A key that no entry has. -/
theorem Tabs.look_none {α : Type} (t : Tab α) (k : Nat) (h : ∀ e ∈ t, e.1 ≠ k) : Tabs.look t k = none := by
  induction t with
  | nil => rfl
  | cons e t ih =>
    rw [Tabs.look, if_neg (Ne.symm (h e List.mem_cons_self)), ih fun f hf => h f (List.mem_cons_of_mem e hf), ite_self]

/-- A table changed value by value. -/
theorem Tabs.look_map {α β : Type} (t : Tab α) (f : α → β) (k : Nat) :
    Tabs.look (t.map (fun e => (e.1, f e.2))) k = (Tabs.look t k).map f := by
  induction t with
  | nil => rfl
  | cons e t ih =>
    simp only [List.map_cons, Tabs.look, ih]
    split
    · rfl
    · split <;> rfl

/-- Fields of the window of the host interface read their reset values. -/
theorem Mach.hifRegsReset_r (g : Field) (i : Nat) (h : 0x40000 ≤ g.off i 0) (h' : g.off i 0 < 0x100000) :
    m.hifRegsReset.r g i = bits (BitVec.ofNat 32 g.reset).toNat g.lo g.width := by
  have hl : Tabs.look m.hifRegsReset.regs (g.off i 0) = none := by
    refine Tabs.look_none _ _ fun e he hk => ?_
    have := (List.mem_filter.mp he).2
    simp only [Bool.or_eq_true, decide_eq_true_eq] at this
    omega
  rw [Mach.r, Mach.word, Tabs.val, hl]
  rfl

/-- The host interface gone back to reset, its event rings keeping their SEQ. -/
def Mach.hifDown (m : Mach) : Mach :=
  { m.hifRegsReset with
    hif := { erings := m.hif.erings.map (fun e => (e.1, { seq := e.2.seq : ERing })), wide := m.hif.wide, era := m.hif.era + 1,
             old := m.allDelivered } }

/-- Link down and training change registers and the host interface only. -/
theorem pcieLinkDown_frame (after : Option (Fin 4 × Fin 5)) : (pcieLinkDown after m).hif = m.hifDown.hif ∧
    (pcieLinkDown after m).hostMem = m.hostMem ∧ (pcieLinkDown after m).kiln = m.kiln ∧ (pcieLinkDown after m).dam = m.dam := by
  cases after <;> exact ⟨rfl, rfl, rfl, rfl⟩

theorem Mach.hifDown_ering (e : Nat) : m.hifDown.ering e = { seq := (m.ering e).seq } := by
  change Tabs.val (m.hif.erings.map (fun e => (e.1, { seq := e.2.seq : ERing }))) {} e = _
  rw [Tabs.val, Tabs.look_map m.hif.erings (fun x => { seq := x.seq : ERing }), Mach.ering, Tabs.val]
  cases Tabs.look m.hif.erings e <;> rfl

theorem pcieLinkDown_linkUp (after : Option (Fin 4 × Fin 5)) :
    (pcieLinkDown after m).r HIF_STATUS_LINK_UP = if after.isSome then 1 else 0 := by
  cases after with
  | none => exact m.hifRegsReset_r HIF_STATUS_LINK_UP 0 (by decide) (by decide)
  | some p =>
    change (m.hifDown.linkUp p.1 p.2).r HIF_STATUS_LINK_UP = 1
    rw [Mach.linkUp, Mach.r_w_bits _ _ _ _ _ _ _ _ (by decide) (by decide) (by decide),
      Mach.r_w_bits _ _ _ _ _ _ _ _ (by decide) (by decide) (by decide), Mach.r_w_same _ _ _ _ _ (by decide)]
    rfl

/-- Every event ring is DISABLED. -/
theorem pcieLinkDown_events (after : Option (Fin 4 × Fin 5)) (q : Nat) (hq : q < 8) :
    (pcieLinkDown after m).r HIF_ER_STATUS_STATE q = 0 := by
  have ho : HIF_ER_STATUS_STATE.off q 0 = 0x42010 + 0x20 * q := rfl
  have hdown : m.hifDown.r HIF_ER_STATUS_STATE q = 0 := m.hifRegsReset_r HIF_ER_STATUS_STATE q (by omega) (by omega)
  cases after with
  | none => exact hdown
  | some p =>
    have hne : HIF_ER_STATUS_STATE.off q 0 ≠ 0x40000 := by omega
    change (m.hifDown.linkUp p.1 p.2).r HIF_ER_STATUS_STATE q = 0
    rw [Mach.linkUp, Mach.r_w_ne _ _ _ _ _ _ _ _ hne, Mach.r_w_ne _ _ _ _ _ _ _ _ hne, Mach.r_w_ne _ _ _ _ _ _ _ _ hne, hdown]

/-! ### The reset of a master, in the host interface (R463, R467) -/

/-- `a` is `m` with registers written outside the window of the host interface. -/
def Mach.WroteAbove (m a : Mach) : Prop :=
  a = { m with regs := a.regs } ∧ ∀ off < 0x100000, Tabs.look a.regs off = Tabs.look m.regs off

theorem Mach.WroteAbove.w {m a : Mach} (h : m.WroteAbove a) (f : Field) (v i : Nat) (hf : 0x100000 ≤ f.base) :
    m.WroteAbove (a.w f v i) := by
  obtain ⟨ha, hl⟩ := h
  refine ⟨?_, fun off hoff => (a.look_w_ne f v i 0 off ?_).trans (hl off hoff)⟩
  · rw [ha]
    rfl
  · simp only [Field.off]
    omega

theorem Mach.WroteAbove.r {m a : Mach} (h : m.WroteAbove a) (g : Field) (i : Nat) (hg : g.off i 0 < 0x100000) :
    a.r g i = m.r g i := Mach.r_congr g i 0 (h.2 _ hg)

/-- Channels discarded: registers of the mailboxes written, no lock touched. -/
theorem discardChans_frame (l : List Nat) (x : MbSt) (a : Mach) (h : m.WroteAbove a) :
    m.WroteAbove (l.foldl discardChan (x, a)).2 ∧ (l.foldl discardChan (x, a)).1.owners = x.owners :=
  List.foldlRecOn (motive := fun p : MbSt × Mach => m.WroteAbove p.2 ∧ p.1.owners = x.owners) l discardChan ⟨h, rfl⟩
    fun _ hp _ _ => ⟨(hp.1.w MB_LOST_ALL _ _ (by decide)).w MB_STATUS_LEVEL _ _ (by decide), hp.2⟩

/-- Locks freed: registers of the locks written. -/
theorem freeLocks_frame (l : List Nat) (p : MbSt × Mach) (h : m.WroteAbove p.2) : m.WroteAbove (l.foldl freeLock p).2 :=
  List.foldlRecOn (motive := fun p : MbSt × Mach => m.WroteAbove p.2) l freeLock h
    fun _ hp _ _ => hp.w LOCK_OWNER_OWNER _ _ (by decide)

/-- What the reset of a master can do to the part: registers of mailboxes and locks are written, and where the master held a lock
one event follows. -/
theorem resetMaster_part (master : Nat) (x : MbSt) : ∃ a, m.WroteAbove a ∧
    ((resetMaster master x m).2 = a ∨
      (∃ k < 64, x.owner k = master) ∧ ∃ args, (resetMaster master x m).2 = a.event 0x0B03 2 27 args) := by
  have hself : m.WroteAbove m := ⟨rfl, fun _ _ => rfl⟩
  rw [resetMaster]
  split
  · exact ⟨m, hself, .inl rfl⟩
  · dsimp only
    have hy : ({ x with epochs := Tabs.put x.epochs master ((x.epoch master + 1) % 16) } : MbSt).owners = x.owners := rfl
    generalize ({ x with epochs := Tabs.put x.epochs master ((x.epoch master + 1) % 16) } : MbSt) = y at hy ⊢
    have hb : m.WroteAbove (m.showEpochs y) :=
      (hself.w MB_EPOCH_LO_EPOCHS _ 0 (by decide)).w MB_EPOCH_HI_EPOCHS _ 0 (by decide)
    generalize (List.range 64).filter (fun c => (m.showEpochs y).r MB_CFG_RX_DOMAIN c == master) = l
    obtain ⟨hp, ho⟩ := discardChans_frame m l y _ hb
    generalize l.foldl discardChan (y, m.showEpochs y) = p at hp ho ⊢
    split
    · exact ⟨p.2, hp, .inl rfl⟩
    · rename_i hmine
      refine ⟨_, (freeLocks_frame m _ p hp).w LOCK_RESET_REL_ALL _ 0 (by decide), .inr ⟨?_, _, rfl⟩⟩
      rw [List.isEmpty_iff, ← ne_eq, ← List.length_pos_iff_ne_nil, List.length_pos_iff_exists_mem] at hmine
      obtain ⟨k, hk⟩ := hmine
      obtain ⟨hk, hown⟩ := List.mem_filter.mp hk
      refine ⟨k, List.mem_range.mp hk, ?_⟩
      rw [beq_iff_eq, MbSt.owner, ho, hy] at hown
      exact hown

/-- Link down with the reset of master 1: the part as link down leaves it, with registers written outside the window of the host
interface, or an event after it where the host held a lock. -/
theorem pcieLinkDown_reset (after : Option (Fin 4 × Fin 5)) (x : MbSt) (t : Mach)
    (ht : t = (resetMaster 1 x (pcieLinkDown after m)).2) :
    t.hif.rings = [] ∧ (∀ e, (t.ering e).head = 0) ∧
    ((∀ k < 64, x.owner k ≠ 1) → ∀ e, (t.ering e).seq = (m.ering e).seq) ∧ t.hostMem = m.hostMem ∧
    t.r HIF_STATUS_LINK_UP = (if after.isSome then 1 else 0) ∧ t.kiln = m.kiln ∧ t.dam = m.dam := by
  obtain ⟨a, hwrote, hend⟩ := resetMaster_part (pcieLinkDown after m) 1 x
  obtain ⟨hif, hmem, hkiln, hdam⟩ := pcieLinkDown_frame m after
  have heq := hwrote.1
  have ahif : a.hif = m.hifDown.hif := by rw [heq]; exact hif
  have amem : a.hostMem = m.hostMem := by rw [heq]; exact hmem
  have akiln : a.kiln = m.kiln := by rw [heq]; exact hkiln
  have adam : a.dam = m.dam := by rw [heq]; exact hdam
  have aering : ∀ e, a.ering e = { seq := (m.ering e).seq } := fun e => by
    rw [← m.hifDown_ering e, Mach.ering, Mach.ering, ahif]
  have alink : a.r HIF_STATUS_LINK_UP = if after.isSome then 1 else 0 :=
    (hwrote.r HIF_STATUS_LINK_UP 0 (by decide)).trans (pcieLinkDown_linkUp m after)
  rw [← ht] at hend
  rcases hend with rfl | ⟨⟨k, hk, hown⟩, args, rfl⟩
  · exact ⟨congrArg HifSt.rings ahif, fun e => congrArg ERing.head (aering e), fun _ e => by rw [aering e], amem,
      alink, akiln, adam⟩
  · have hoff : ∀ q < 8, a.r HIF_ER_STATUS_STATE q ≠ 1 := fun q hq => by
      rw [hwrote.r HIF_ER_STATUS_STATE q (by simp only [Field.off, HIF_ER_STATUS_STATE]; omega), pcieLinkDown_events m after q hq]
      decide
    refine ⟨(Mach.event_rings ..).trans (congrArg HifSt.rings ahif),
      fun e => (Mach.event_head ..).trans (congrArg ERing.head (aering e)), fun h => absurd hown (h k hk),
      (Mach.event_hostMem _ _ _ _ _ hoff).trans amem, ?_, ?_, ?_⟩
    · exact (Mach.event_eventKept _ _ _ _ _ _ 0 (.inl (by decide))).trans alink
    · rw [Mach.event_kiln, akiln]
    · rw [Mach.event_dam, adam]

/-- Settles O14: the timer, the mask bit, bus master enable with nothing pending, and link down with the reset of master 1. -/
theorem interruptsAreSentOrKeptPending : Obligations.InterruptsAreSentOrKeptPending := by
  unfold Obligations.InterruptsAreSentOrKeptPending
  refine ⟨?timer, ?unmask, ?idle, fun s => ⟨fun h => s.on_eq busMasterEnable _ (busMasterEnable_D0 s.m h),
    fun h => s.on_eq busMasterEnable _ (busMasterEnable_notD0 s.m h)⟩, fun s => rfl, fun d3 s => rfl, ?down⟩
  case timer =>
    intro v s ht hc hd
    have due := interruptCoalesceTimeout_due s.m v ht hc hd
    exact ⟨fun h hw => s.on_eq (interruptCoalesceTimeout v) _ (due.trans (s.m.fireVec_sent v h hw)),
      fun h => s.on_eq (interruptCoalesceTimeout v) _ (due.trans (s.m.fireVec_held v h))⟩
  case unmask =>
    intro v s
    refine ⟨fun hp hw hon hmask => ?_, fun h => s.on_eq (msixVectorUnmask v) _ ?_⟩
    · have hsent := (s.m.unmasked v).sendPending_sent v (by rw [Mach.unmasked_vec]; exact hp)
        (by rw [Mach.unmasked_vecHeld, hon, hmask]; rfl) hw
      refine ⟨_, s.on_eq (msixVectorUnmask v) _ hsent, ?_, rfl⟩
      rw [Mach.setVec_vec, Mach.unmasked_vec]
    · refine (s.m.unmasked v).sendPending_none v ?_
      rw [Mach.unmasked_vec, Mach.unmasked_vecHeld]
      rcases h with h | h | h | h
      · exact .inl h
      · exact .inr (.inr h)
      · exact .inr (.inl (by simp [h]))
      · exact .inr (.inl (by simp [h]))
  case idle =>
    intro s hd hp
    refine s.on_eq busMasterEnable _ ((busMasterEnable_D0 s.m hd).trans (Mach.each_idle _ _ _ fun v hv => ?_))
    exact Mach.sendPending_none _ v (.inl (hp v (List.mem_range.mp hv)))
  case down =>
    exact fun after s => ⟨_, _, rfl, pcieLinkDown_reset s.m after s.mb _ rfl⟩

end Sys2Proof.Machine
end

section
/-! PROOFS. LOAD_MAP, COMMIT_MAP, the exchange of the areas and the end of the write to MRAM (R97, R103 to R114). -/

namespace Sys2Proof.Machine

open Sys2Proof

variable (m : Mach)

/-! ### Operations of the map -/

/-- While Kiln takes operations, one is counted and runs. -/
theorem Mach.kilnOp_free (f : Mach → Mach) (h : m.kilnFree) : m.kilnOp f = f m.kilnCounted := if_pos h

variable {m} in
/-- An enabled Kiln of an ACTIVE unit has no cause to refuse an operation of the map. -/
theorem Mach.mapOp_ok (ht : m.takes .kiln = true) (ha : m.isActive = true) :
    firstOf [(!m.takes .kiln, stNOT_ENABLED), (!m.isActive, stNOT_ACTIVE_ROLE)] = none := by
  rw [ht, ha]
  rfl

/-! ### LOAD_MAP (R103, R105, R106) -/

/-- A LOAD_MAP without a buffer is refused with staging as it stands. -/
theorem loadMap_noBuffer (d : Desc) (hs : m.starts 0x0140 d) (hf : m.kilnFree)
    (hw : m.kiln.loadWait.contains (d.as 0x0140) = false) (hb : Descs.buf d = false) :
    loadMap d m = m.kilnCounted.loadKeep (d.as 0x0140) (0x0006, 0) := by
  have hb' : Descs.buf (d.as 0x0140) = false := hb
  rw [loadMap, m.desc_starts_res _ d _ _ hs, if_neg (by rw [hw]; decide), m.kilnOp_free _ hf, hb']
  rfl

/-- A LOAD_MAP with a buffer that an enabled Kiln of an ACTIVE unit takes at once brings one chunk. -/
theorem loadMap_chunk (d : Desc) (hs : m.starts 0x0140 d) (hf : m.kilnFree)
    (hw : m.kiln.loadWait.contains (d.as 0x0140) = false) (hb : Descs.buf d = true)
    (ht : m.kilnCounted.takes .kiln = true) (ha : m.kilnCounted.isActive = true)
    (hl : m.kilnCounted.loadWaits (d.as 0x0140) = false) :
    loadMap d m = m.kilnCounted.loadChunk (d.as 0x0140) := by
  have hb' : Descs.buf (d.as 0x0140) = true := hb
  rw [loadMap, m.desc_starts_res _ d _ _ hs, if_neg (by rw [hw]; decide), m.kilnOp_free _ hf, hb', Mach.mapOp_ok ht ha, hl]
  rfl

variable {m} in
/-- A first chunk that holds a whole image which passes every check is staged VALID. -/
theorem Mach.loadChunk_whole {d : Desc} (ho : Descs.fld d 16 4 = 0) (h64 : 64 ≤ (m.bufRd d).length)
    (hh : headerFail (m.bufRd d) = none) (hlen : (m.bufRd d).length = imgLen (m.bufRd d))
    (hr : recordFail (m.bufRd d) = none) (hp : imagePass (m.bufRd d) = none) :
    m.loadChunk d = (m.setStage 2 (m.bufRd d) (some (parseMap (m.bufRd d)))).loadDone d stOK (0, 0) := by
  have hshort : ¬ (m.bufRd d).length < 64 := Nat.not_lt.mpr h64
  simp [Mach.loadChunk, ho, hshort, hh, ← hlen, hr, hp]

variable {m} in
/-- A first chunk whose header fails a check makes staging INVALID and keeps the failure. -/
theorem Mach.loadChunk_badHeader {d : Desc} {f : VFail} (ho : Descs.fld d 16 4 = 0) (h64 : 64 ≤ (m.bufRd d).length)
    (hh : headerFail (m.bufRd d) = some f) : m.loadChunk d = m.loadBad d (m.bufRd d) f := by
  have hshort : ¬ (m.bufRd d).length < 64 := Nat.not_lt.mpr h64
  simp [Mach.loadChunk, ho, hshort, hh]

/-! ### COMMIT_MAP (R108, R109, R112, R113) -/

/-- Kiln takes no more operations in this tick. -/
def Mach.kilnClosed (m : Mach) : Mach := { m with kiln := { m.kiln with closed := true } }

section Commit

/-! COMMIT_MAP of a descriptor `d` that Kiln of an ACTIVE unit takes; `c` is the part with Kiln's tick closed. -/

variable {m} {c : Mach} {d : Desc} (hs : m.starts 0x0141 d) (hf : m.kilnFree) (hc : m.kilnCounted.kilnClosed = c)
  (ht : c.takes .kiln = true) (ha : c.isActive = true)
include hs hf hc ht ha

/-- With nothing VALID in staging it is refused. -/
theorem commitMap_notValid (hst : c.stage ≠ 2) : commitMap d m = c.commitRefuse (d.as 0x0141) stRANGE (0x0050, 0) := by
  rw [commitMap, m.desc_starts_res _ d _ _ hs, m.kilnOp_free _ hf]
  extract_lets +onlyGivenNames _ closed
  have hk : closed = c := hc
  clear_value closed
  subst hk
  simp only [Mach.mapOp_ok ht ha, beq_false_of_ne hst, Bool.false_eq_true, if_false]

/-- The staged map, by its ID and revision, is accepted where it changes nothing held and no axis that moves. -/
theorem commitMap_accepted {new : SiteMap} (hst : c.stage = 2) (hnew : c.kiln.staged = some new)
    (hid : new.mapId = Descs.fld d 16 4) (hrev : new.rev = Descs.fld d 20 4) (hheld : c.claimedChanged new = none)
    (hax : c.axisRebound new = none) :
    commitMap d m = { c with kiln := { c.kiln with commit := some (d.as 0x0141) } } := by
  have hfld : ∀ o n, Descs.fld (d.as 0x0141) o n = Descs.fld d o n := fun _ _ => rfl
  rw [commitMap, m.desc_starts_res _ d _ _ hs, m.kilnOp_free _ hf]
  extract_lets +onlyGivenNames _ closed
  have hk : closed = c := hc
  clear_value closed
  subst hk
  simp only [Mach.mapOp_ok ht ha, hst, hnew, hfld, hid, hrev, hheld, hax, beq_self_eq_true, bne_self_eq_false,
    Bool.or_self, Bool.false_eq_true, if_true, if_false]

end Commit

/-! ### The exchange and the write to MRAM (R108, R114) -/

/-- What the exchange shows: the map's ID and revision, COMMITTED 1, and AREA turned over. -/
theorem Mach.exchangeMap_fields (mp : SiteMap) :
    (m.exchangeMap mp).r KILN_MAP_ID_ALL = mp.mapId % 2 ^ 32 ∧ (m.exchangeMap mp).r KILN_MAP_REV_ALL = mp.rev % 2 ^ 32 ∧
    (m.exchangeMap mp).r KILN_MAP_STATUS_AREA = 1 - m.r KILN_MAP_STATUS_AREA ∧
    (m.exchangeMap mp).r KILN_MAP_STATUS_COMMITTED = 1 := by
  have harea : (1 - m.r KILN_MAP_STATUS_AREA) % 2 = 1 - m.r KILN_MAP_STATUS_AREA :=
    Nat.mod_eq_of_lt (Nat.lt_succ_of_le (Nat.sub_le _ _))
  unfold Mach.exchangeMap Mach.showMap
  refine ⟨?_, ?_, ?_, ?_⟩
  · simp (disch := decide) only [Mach.r_w_ne, Mach.r_w_same]
    rfl
  · simp (disch := decide) only [Mach.r_w_ne, Mach.r_w_same]
    rfl
  · simp (disch := decide) only [Mach.r_w_ne, Mach.r_w_bits, Mach.r_w_same]
    exact harea
  · simp (disch := decide) only [Mach.r_w_ne, Mach.r_w_same]
    rfl

/-- The part with the image stored and PERSIST_BUSY 0. -/
def Mach.imageStored (m : Mach) (img : List Byte) : Mach :=
  { m with kiln := { m.kiln with persist := none, loadWait := [] }, nv := { m.nv with mapImage := some img } }.w
    KILN_MAP_STATUS_PERSIST_BUSY 0

/-- The write ends while no LOAD_MAP waits for it. -/
theorem mapPersistDone_stored (img : List Byte) (hp : m.kiln.persist = some img) (hw : m.kiln.loadWait = []) :
    mapPersistDone m = m.imageStored img := by
  simp only [mapPersistDone, hp, hw]
  rfl

/-- Settles O21, clause by clause: LOAD_MAP, COMMIT_MAP, the exchange, the end of the write. -/
theorem mapsAreStagedAndCommitted : Obligations.MapsAreStagedAndCommitted := by
  unfold Obligations.MapsAreStagedAndCommitted
  refine ⟨?load, ?commit, ?exchange, ?persist⟩
  case load =>
    intro d s hs hf hw c e l
    refine ⟨fun hb => s.on_eq (loadMap d) _ (loadMap_noBuffer s.m d hs hf hw hb), fun hb ht ha hl ho h64 => ?_⟩
    have hchunk := loadMap_chunk s.m d hs hf hw hb ht ha hl
    exact ⟨fun hh hlen hr hp => s.on_eq (loadMap d) _ (hchunk.trans (Mach.loadChunk_whole ho h64 hh hlen hr hp)),
      fun f hh => s.on_eq (loadMap d) _ (hchunk.trans (Mach.loadChunk_badHeader ho h64 hh))⟩
  case commit =>
    intro d s hs hf c e ht ha
    exact ⟨fun new hst hnew hid hrev hheld hax =>
        s.on_eq (commitMap d) _ (commitMap_accepted hs hf rfl ht ha hst hnew hid hrev hheld hax),
      fun hst => s.on_eq (commitMap d) _ (commitMap_notValid hs hf rfl ht ha hst)⟩
  case exchange =>
    intro m mp
    obtain ⟨hid, hrev, harea, hcom⟩ := m.exchangeMap_fields mp
    exact ⟨rfl, rfl, hid, hrev, harea, hcom, rfl⟩
  case persist =>
    intro img s hp hw
    exact ⟨_, s.on_eq mapPersistDone _ (mapPersistDone_stored s.m img hp hw), rfl, rfl,
      Mach.b_w_bit _ _ _ (by decide), rfl, rfl, rfl, Mach.w_regsKept (fun _ _ => rfl) _ _ _ List.mem_cons_self⟩

end Sys2Proof.Machine
end

section
/-! PROOFS. The rotating spare bank: the step that tests it and copies to it, and the rename (R116 to R118, R570). -/

namespace Sys2Proof.Machine

open Sys2Proof

variable (m : Mach)

/-! ### The bank table -/

/-- The banks' registers lie below that of the rotation. -/
theorem KILN_BANK_off_ne_ROT {n : Nat} (h : n ≤ 16) : KILN_BANK_ROLE.off n 0 ≠ KILN_ROT_STATUS_SPARE.off 0 0 := by
  simp only [Field.off, KILN_BANK_ROLE, KILN_ROT_STATUS_SPARE]
  omega

theorem KILN_BANK_off_ne {n k : Nat} (h : n ≠ k) : KILN_BANK_ROLE.off n 0 ≠ KILN_BANK_ROLE.off k 0 := by
  simp only [Field.off, KILN_BANK_ROLE]
  omega

variable {m} in
/-- The bank in service for a logical bank is one of the 17, its ROLE 0. -/
theorem Mach.bankOf_some {l n : Nat} (h : m.bankOf l = some n) : n ≤ 16 ∧ m.r KILN_BANK_ROLE n = 0 := by
  have hp := List.find?_some h
  rw [Bool.and_eq_true, beq_iff_eq] at hp
  exact ⟨Nat.le_of_lt_succ (List.mem_range.mp (List.mem_of_find?_eq_some h)), hp.1⟩

/-! ### The step (R117, R118) -/

/-- Test 1 runs, is due, and a spare is left that nothing is copied to. -/
theorem istKiln_due (ok : Bool) (hr : m.istRuns 1 = true) (hd : m.istDue 1 0 (1000 * m.r IST_PERIOD_SRAM_KILN_S) = true)
    (hs : m.r KILN_ROT_STATUS_SPARE ≤ 16) (hc : m.b KILN_ROT_STATUS_COPYING = false) :
    istKiln ok m =
      if ok then (kilnRotationStep ok (m.istMark 1 0)).istPass 1 (m.r KILN_ROT_STATUS_SPARE)
      else (kilnRotationStep ok (m.istMark 1 0)).istFail 1 (m.r KILN_ROT_STATUS_SPARE) 0 :=
  if_neg (by simp [hr, hd, hc, hs])

/-- A bank that has passed, its pass counted, as target of a copy of the next logical bank. -/
def Mach.copyTarget (m : Mach) (sp : Nat) : Mach :=
  ((m.w KILN_BANK_PASSES (min (m.r KILN_BANK_PASSES sp + 1) 65535) sp).w KILN_BANK_ROLE 2 sp).w
    KILN_BANK_LOGICAL m.kiln.nextLogical sp

/-- The copy to that bank made. -/
def Mach.copyBegun (m : Mach) (sp : Nat) : Mach :=
  let t := (m.copyTarget sp).w KILN_ROT_STATUS_COPYING 1
  { t with kiln := { t.kiln with copyDone := some m.now } }

/-- A bank that has failed RETIRED. -/
def Mach.bankRetired (m : Mach) (sp : Nat) : Mach := (m.w KILN_BANK_ROLE 3 sp).w KILN_BANK_LOGICAL 0 sp

/-- With it no spare is left, and Kiln is to be DEGRADED at the end of the tick. -/
def Mach.spareRetired (m : Mach) (sp : Nat) : Mach := ((m.bankRetired sp).w KILN_ROT_STATUS_SPARE 31).raise 15 .degraded

theorem kilnRotationStep_idle (ok : Bool) (hs : m.r KILN_ROT_STATUS_SPARE ≤ 16) (hc : m.b KILN_ROT_STATUS_COPYING = false) :
    kilnRotationStep ok m =
      if ok then m.copyBegun (m.r KILN_ROT_STATUS_SPARE) else m.spareRetired (m.r KILN_ROT_STATUS_SPARE) :=
  if_neg (by simp [hc, hs])

theorem Mach.copyTarget_entry (sp : Nat) :
    (m.copyTarget sp).r KILN_BANK_ROLE sp = 2 ∧
    (m.copyTarget sp).r KILN_BANK_LOGICAL sp = m.kiln.nextLogical % 2 ^ KILN_BANK_LOGICAL.width ∧
    (m.copyTarget sp).r KILN_BANK_PASSES sp = min (m.r KILN_BANK_PASSES sp + 1) 65535 := by
  unfold Mach.copyTarget
  refine ⟨?_, Mach.r_w_same _ _ _ _ _ (by decide), ?_⟩
  · rw [Mach.r_w_bits _ _ _ _ _ _ _ _ (by decide) (by decide) (by decide), Mach.r_w_same _ _ _ _ _ (by decide)]
    rfl
  · rw [Mach.r_w_bits _ _ _ _ _ _ _ _ (by decide) (by decide) (by decide),
      Mach.r_w_bits _ _ _ _ _ _ _ _ (by decide) (by decide) (by decide), Mach.r_w_same _ _ _ _ _ (by decide)]
    exact Nat.mod_eq_of_lt (Nat.lt_succ_of_le (Nat.min_le_right _ _))

/-- COPYING stands in a register of its own: the bank's entry reads as before. -/
theorem Mach.copyBegun_r {sp : Nat} (h : sp ≤ 16) (f : Field) (hf : f.off sp 0 = KILN_BANK_ROLE.off sp 0) :
    (m.copyBegun sp).r f sp = (m.copyTarget sp).r f sp :=
  (m.copyTarget sp).r_w_ne KILN_ROT_STATUS_COPYING f 1 0 0 sp 0 (hf.trans_ne (KILN_BANK_off_ne_ROT h))

theorem Mach.spareRetired_r (f : Field) (i sp : Nat) :
    (m.spareRetired sp).r f i = ((m.bankRetired sp).w KILN_ROT_STATUS_SPARE 31).r f i := rfl

/-- A retired bank's ROLE, no spare, and Kiln's state as it was. -/
theorem Mach.spareRetired_fields {sp : Nat} (h : sp ≤ 16) :
    (m.spareRetired sp).r KILN_BANK_ROLE sp = 3 ∧ (m.spareRetired sp).r KILN_ROT_STATUS_SPARE = 31 ∧
    (m.spareRetired sp).r INTC_BLK_FAULT_STATE 15 = m.r INTC_BLK_FAULT_STATE 15 := by
  refine ⟨?_, Mach.r_w_same _ _ _ _ _ (by decide), ?_⟩
  · rw [Mach.spareRetired_r, Mach.r_w_ne _ _ _ _ _ _ _ _ (KILN_BANK_off_ne_ROT h), Mach.bankRetired,
      Mach.r_w_bits _ _ _ _ _ _ _ _ (by decide) (by decide) (by decide), Mach.r_w_same _ _ _ _ _ (by decide)]
    rfl
  · rw [Mach.spareRetired_r, Mach.bankRetired, Mach.r_w_below _ _ _ _ _ _ (by decide) (by decide),
      Mach.r_w_below _ _ _ _ _ _ (by decide) (by decide), Mach.r_w_below _ _ _ _ _ _ (by decide) (by decide)]

/-! ### The rename (R117) -/

/-- The bank table with the copy target `sp` in service and the bank `old` the spare. -/
def Mach.rolesExchanged (m : Mach) (sp old : Nat) : Mach :=
  ((m.w KILN_BANK_ROLE 0 sp).w KILN_BANK_ROLE 1 old).w KILN_BANK_LOGICAL 0 old

/-- The registers of a rename whose old bank is `old`. -/
def Mach.stepCounted (m : Mach) (old : Nat) : Mach :=
  ((m.w KILN_ROT_STATUS_SPARE old).w KILN_ROT_STATUS_COPYING 0).incBy KILN_ROT_STATUS_STEPS 1

/-- The banks renamed, and the rotation at the next logical bank. -/
def Mach.bankRenamed (m : Mach) (sp old : Nat) : Mach :=
  let t := (m.rolesExchanged sp old).stepCounted old
  { t with kiln := { t.kiln with copyDone := none, nextLogical := (m.kiln.nextLogical + 1) % 16 } }

/-- At a tick boundary after the copy the banks are renamed. -/
theorem bankRename_due {old done : Nat} (hc : m.b KILN_ROT_STATUS_COPYING = true) (hd : m.kiln.copyDone = some done)
    (ht : done < m.now) (ho : m.bankOf m.kiln.nextLogical = some old) :
    bankRename m = m.bankRenamed (m.r KILN_ROT_STATUS_SPARE) old := by
  refine (if_neg (by simp [hc, hd, ht])).trans ?_
  rw [ho]
  rfl

theorem Mach.stepCounted_role {n : Nat} (old : Nat) (h : n ≤ 16) :
    (m.stepCounted old).r KILN_BANK_ROLE n = m.r KILN_BANK_ROLE n := by
  have ho := KILN_BANK_off_ne_ROT h
  rw [Mach.stepCounted, Mach.incBy, Mach.r_w_ne _ _ _ _ _ _ _ _ (by exact ho), Mach.r_w_ne _ _ _ _ _ _ _ _ (by exact ho),
    Mach.r_w_ne _ _ _ _ _ _ _ _ (by exact ho)]

theorem Mach.stepCounted_fields {old : Nat} (h : old ≤ 16) :
    (m.stepCounted old).r KILN_ROT_STATUS_SPARE = old ∧ (m.stepCounted old).b KILN_ROT_STATUS_COPYING = false := by
  unfold Mach.stepCounted Mach.incBy
  refine ⟨?_, ?_⟩
  · rw [Mach.r_w_bits _ _ _ _ _ _ _ _ (by decide) (by decide) (by decide),
      Mach.r_w_bits _ _ _ _ _ _ _ _ (by decide) (by decide) (by decide), Mach.r_w_same _ _ _ _ _ (by decide)]
    exact Nat.mod_eq_of_lt (Nat.lt_of_le_of_lt h (by decide))
  · rw [Mach.b_w_bits _ _ _ _ _ (by decide) (by decide) (by decide)]
    exact Mach.b_w_bit _ _ _ (by decide)

theorem Mach.rolesExchanged_roles {sp old : Nat} (hne : sp ≠ old) :
    (m.rolesExchanged sp old).r KILN_BANK_ROLE sp = 0 ∧ (m.rolesExchanged sp old).r KILN_BANK_ROLE old = 1 := by
  unfold Mach.rolesExchanged
  refine ⟨?_, ?_⟩
  · rw [Mach.r_w_bits _ _ _ _ _ _ _ _ (by decide) (by decide) (by decide),
      Mach.r_w_ne _ _ _ _ _ _ _ _ (KILN_BANK_off_ne hne), Mach.r_w_same _ _ _ _ _ (by decide)]
    rfl
  · rw [Mach.r_w_bits _ _ _ _ _ _ _ _ (by decide) (by decide) (by decide), Mach.r_w_same _ _ _ _ _ (by decide)]
    rfl

/-- The two banks' roles, the spare and COPYING. -/
theorem Mach.bankRenamed_fields {sp old : Nat} (hsp : sp ≤ 16) (hold : old ≤ 16) (hne : sp ≠ old) :
    (m.bankRenamed sp old).r KILN_BANK_ROLE sp = 0 ∧ (m.bankRenamed sp old).r KILN_BANK_ROLE old = 1 ∧
    (m.bankRenamed sp old).r KILN_ROT_STATUS_SPARE = old ∧ (m.bankRenamed sp old).b KILN_ROT_STATUS_COPYING = false := by
  obtain ⟨htarget, hspare⟩ := m.rolesExchanged_roles hne
  exact ⟨(Mach.stepCounted_role _ old hsp).trans htarget, (Mach.stepCounted_role _ old hold).trans hspare,
    Mach.stepCounted_fields _ hold⟩

/-- The registers a rename writes: those of the two banks and that of the rotation. -/
def renameOffs (sp old : Nat) : List Nat :=
  [KILN_BANK_ROLE.off sp 0, KILN_BANK_ROLE.off old 0, KILN_ROT_STATUS_SPARE.off 0 0]

theorem Mach.bankRenamed_regsKept (sp old : Nat) : regsKept (renameOffs sp old) m (m.bankRenamed sp old) := by
  have hsp : KILN_BANK_ROLE.off sp 0 ∈ renameOffs sp old := by simp [renameOffs]
  have hold : KILN_BANK_ROLE.off old 0 ∈ renameOffs sp old := by simp [renameOffs]
  have hrot : KILN_ROT_STATUS_SPARE.off 0 0 ∈ renameOffs sp old := by simp [renameOffs]
  have hsame : regsKept (renameOffs sp old) m m := fun _ _ => rfl
  have htarget := Mach.w_regsKept hsame KILN_BANK_ROLE 0 sp hsp
  have hroles := Mach.w_regsKept (Mach.w_regsKept htarget KILN_BANK_ROLE 1 old hold) KILN_BANK_LOGICAL 0 old hold
  have hcopy := Mach.w_regsKept (Mach.w_regsKept hroles KILN_ROT_STATUS_SPARE old 0 hrot) KILN_ROT_STATUS_COPYING 0 0 hrot
  exact Mach.w_regsKept hcopy KILN_ROT_STATUS_STEPS _ 0 hrot

/-- Settles O22: the step when test 1 is due, what it does to the banks, and the rename. -/
theorem spareBanksRotate : Obligations.SpareBanksRotate := by
  unfold Obligations.SpareBanksRotate
  refine ⟨?due, ?step, ?rename⟩
  case due =>
    intro ok s hr hd hs hc sp
    have h := istKiln_due s.m ok hr hd hs hc
    refine ⟨?_, ?_⟩ <;> rintro rfl
    · exact s.on_eq (istKiln true) _ h
    · exact s.on_eq (istKiln false) _ h
  case step =>
    intro m hs hc sp t u
    have ht : t = m.copyBegun sp := kilnRotationStep_idle m true hs hc
    have hu : u = m.spareRetired sp := kilnRotationStep_idle m false hs hc
    obtain ⟨hrole, hlog, hpass⟩ := m.copyTarget_entry sp
    obtain ⟨hret, hspare, hstate⟩ := m.spareRetired_fields hs
    rw [ht, hu]
    exact ⟨(m.copyBegun_r hs KILN_BANK_ROLE rfl).trans hrole, (m.copyBegun_r hs KILN_BANK_LOGICAL rfl).trans hlog,
      Mach.b_w_bit _ _ _ (by decide), rfl,
      (m.copyBegun_r hs KILN_BANK_PASSES rfl).trans hpass, rfl, hret, hspare, rfl, hstate⟩
  case rename =>
    intro s old at_ hc hd ht hs hrole ho sp
    obtain ⟨hold, hzero⟩ := Mach.bankOf_some ho
    have hne : sp ≠ old := by
      rintro rfl
      rw [hrole] at hzero
      contradiction
    obtain ⟨htarget, hspare, hnew, hcopy⟩ := s.m.bankRenamed_fields hs hold hne
    exact ⟨_, s.on_eq bankRename _ (bankRename_due s.m hc hd ht ho), htarget, hspare, hnew, hcopy, rfl, rfl, rfl,
      s.m.bankRenamed_regsKept sp old⟩

end Sys2Proof.Machine
end

section
/-! PROOFS. Kiln's store and its operations (R125, R128, R155): what a change of one agent, of queues and of the park list leaves
as it was, the checks that every operation begins with, and what stays beside Kiln's state and registers. -/

namespace Sys2Proof.Machine

open Sys2Proof

variable (m : Mach)

/-! ### What stays beside Kiln's state and registers -/

theorem kilnOnly_refl : kilnOnly m m := rfl

theorem kilnOnly.trans {a b c : Mach} (hab : kilnOnly a b) (hbc : kilnOnly b c) : kilnOnly a c := by
  unfold kilnOnly at *
  rw [hbc, hab]

theorem Mach.w_kilnOnly (f : Field) (v i j : Nat) : kilnOnly m (m.w f v i j) := rfl
theorem Mach.inc_kilnOnly (f : Field) (i : Nat) : kilnOnly m (m.inc f i) := rfl
theorem Mach.maxTo_kilnOnly (f : Field) (v i : Nat) : kilnOnly m (m.maxTo f v i) := rfl
theorem Mach.setStore_kilnOnly (k : KilnStore) : kilnOnly m (m.setStore k) := rfl
theorem Mach.kilnCounted_kilnOnly : kilnOnly m m.kilnCounted := rfl

theorem Mach.authShow_kilnOnly : kilnOnly m m.authShow := by
  unfold Mach.authShow
  dsimp only
  split <;> rfl

theorem Mach.cutChain_kilnOnly (i : Nat) (chain dropped : List Nat) : kilnOnly m (m.cutChain i chain dropped) := by
  unfold Mach.cutChain
  dsimp only
  split <;> rfl

/-- The clock and the prefixes of an agent make its reach. -/
theorem Mach.reachOf_congr {a b : Mach} {i : Nat} (ht : b.time = a.time) (hc : (b.agent i).chain = (a.agent i).chain)
    (hi : (b.agent i).issued = (a.agent i).issued) (hg : (b.agent i).gone = (a.agent i).gone) : b.reachOf i = a.reachOf i := by
  have hpt : b.pt = a.pt := by simp only [Mach.pt, Mach.msInt, ht]
  unfold Mach.reachOf
  dsimp only
  rw [hpt, hc, hi, hg]

/-! ### One agent of the store -/

/-- The store with an agent's entry changed. -/
def KilnStore.withAgent (k : KilnStore) (i : Nat) (x : Agent) : KilnStore := { k with agents := Tabs.put k.agents i x }

variable (k : KilnStore) (i : Nat) (x : Agent)

@[simp] theorem KilnStore.withAgent_agent : (k.withAgent i x).agent i = x := Tabs.val_put_same ..

theorem KilnStore.withAgent_agent_ne {j : Nat} (h : j ≠ i) : (k.withAgent i x).agent j = k.agent j := Tabs.val_put_ne _ _ _ h

@[simp] theorem KilnStore.withAgent_queues : (k.withAgent i x).queues = k.queues := rfl
@[simp] theorem KilnStore.withAgent_park : (k.withAgent i x).park = k.park := rfl

@[simp] theorem Mach.setStore_kiln : (m.setStore k).kiln = { m.kiln with store := k } := rfl
@[simp] theorem Mach.setStore_agent : (m.setStore k).agent i = k.agent i := rfl
@[simp] theorem Mach.setStore_parkedOf : (m.setStore k).parkedOf i = k.park.find? (fun p => p.idx == i) := rfl
@[simp] theorem Mach.authShow_kiln : m.authShow.kiln = m.kiln := by
  unfold Mach.authShow
  dsimp only
  split <;> rfl

@[simp] theorem Mach.authShow_agent : m.authShow.agent i = m.agent i := by rw [Mach.agent, Mach.authShow_kiln, Mach.agent]

/-- Agents and parked requests stand in Kiln's store. -/
theorem Mach.agent_congr {a b : Mach} (h : b.kiln.store = a.kiln.store) (i : Nat) : b.agent i = a.agent i := by
  rw [Mach.agent, h, Mach.agent]

theorem Mach.parkedOf_congr {a b : Mach} (h : b.kiln.store.park = a.kiln.store.park) (i : Nat) : b.parkedOf i = a.parkedOf i := by
  rw [Mach.parkedOf, h, Mach.parkedOf]

/-- A reference shows the agent's generation. -/
theorem Mach.refOf_congr {a b : Mach} {i : Nat} (h : (b.agent i).gen = (a.agent i).gen) : b.refOf i = a.refOf i :=
  congrArg (mkRef i) h

/-! ### A grant (R125, R138) -/

/-- An agent at the tail of a group's queue, where it has no entry in it. -/
def joinQueue (i : Nat) (q : Tab (List Nat)) (g : Nat) : Tab (List Nat) :=
  if (Tabs.val q [] g).contains i then q else Tabs.put q g (Tabs.val q [] g ++ [i])

theorem joinQueue_same (q : Tab (List Nat)) (g : Nat) : i ∈ Tabs.val (joinQueue i q g) [] g := by
  unfold joinQueue
  split
  · rename_i h
    exact List.contains_iff_mem.mp h
  · simp

theorem joinQueue_ne (q : Tab (List Nat)) {g h : Nat} (hne : h ≠ g) : Tabs.val (joinQueue i q g) [] h = Tabs.val q [] h := by
  unfold joinQueue
  split
  · rfl
  · exact Tabs.val_put_ne _ _ _ hne

/-- Joining further queues leaves an agent in those it stands in. -/
theorem joinQueues_mem (l : List Nat) (q : Tab (List Nat)) (g : Nat) (h : g ∈ l ∨ i ∈ Tabs.val q [] g) :
    i ∈ Tabs.val (l.foldl (joinQueue i) q) [] g := by
  induction l generalizing q with
  | nil => simpa using h
  | cons a l ih =>
    refine ih _ ?_
    by_cases ha : g = a
    · exact .inr (ha ▸ joinQueue_same i q a)
    · rw [joinQueue_ne i q ha]
      simpa [ha] using h

theorem joinQueues_other (l : List Nat) (q : Tab (List Nat)) (g : Nat) (h : g ∉ l) :
    Tabs.val (l.foldl (joinQueue i) q) [] g = Tabs.val q [] g := by
  induction l generalizing q with
  | nil => rfl
  | cons a l ih =>
    obtain ⟨ha, hl⟩ := List.ne_and_not_mem_of_not_mem_cons h
    exact (ih _ hl).trans (joinQueue_ne i q ha)

variable (mp : SiteMap) (path : List Nat)

theorem KilnStore.grant_queues : (k.grant mp i path).queues = (path.flatMap mp.groupsOf).foldl (joinQueue i) k.queues := rfl

@[simp] theorem KilnStore.grant_park : (k.grant mp i path).park = k.park := rfl

theorem KilnStore.grant_agent : (k.grant mp i path).agent i = { k.agent i with chain := (k.agent i).chain ++ path } :=
  Tabs.val_put_same ..

theorem KilnStore.grant_agent_ne {j : Nat} (h : j ≠ i) : (k.grant mp i path).agent j = k.agent j := Tabs.val_put_ne _ _ _ h

/-- The agent stands in the queue of every group of the path; the queues of other groups are as they were. -/
theorem KilnStore.grant_queue_mem {g : Nat} (h : g ∈ path.flatMap mp.groupsOf) : i ∈ (k.grant mp i path).queue g :=
  joinQueues_mem i _ _ _ (.inl h)

theorem KilnStore.grant_queue_other {g : Nat} (h : g ∉ path.flatMap mp.groupsOf) : (k.grant mp i path).queue g = k.queue g :=
  joinQueues_other i _ _ _ h

/-! ### The operation counted, and its first checks (R155) -/

/-! A descriptor's body is the same as its block takes it. -/

@[simp] theorem Desc.as_fld (d : Desc) (op off n : Nat) : Descs.fld (d.as op) off n = Descs.fld d off n := rfl
@[simp] theorem Desc.as_buf (d : Desc) (op : Nat) : Descs.buf (d.as op) = Descs.buf d := rfl
@[simp] theorem Desc.as_len (d : Desc) (op : Nat) : Descs.len (d.as op) = Descs.len d := rfl
@[simp] theorem Desc.as_kAgent (d : Desc) (op : Nat) : kAgent (d.as op) = kAgent d := rfl
@[simp] theorem Desc.as_kRes (d : Desc) (op : Nat) : kRes (d.as op) = kRes d := rfl

@[simp] theorem Mach.kilnCounted_agent : m.kilnCounted.agent i = m.agent i := rfl

/-- Counting an operation writes the counters of Kiln's tick. -/
theorem Mach.kilnCounted_r (f : Field) (h : f.off 0 0 ∉ [KILN_OPS_ALL.off 0 0, KILN_TICK_OPS_MAX_ALL.off 0 0,
    KILN_OP_CYCLES_MAX_ALL.off 0 0]) : m.kilnCounted.r f = m.r f := by
  simp only [List.mem_cons, List.not_mem_nil, or_false, not_or] at h
  obtain ⟨hops, htick, hcycles⟩ := h
  unfold Mach.kilnCounted Mach.maxTo Mach.inc Mach.incBy
  rw [Mach.r_w_ne _ _ _ _ _ _ _ _ hcycles, Mach.r_w_ne _ _ _ _ _ _ _ _ htick, Mach.r_w_ne _ _ _ _ _ _ _ _ hops]
  rfl

theorem Mach.kilnCounted_takes : m.kilnCounted.takes .kiln = m.takes .kiln := by
  unfold Mach.takes Mach.b
  rw [m.kilnCounted_r _ (by decide), m.kilnCounted_r _ (by decide)]

theorem Mach.kilnCounted_isActive : m.kilnCounted.isActive = m.isActive := by
  unfold Mach.isActive
  rw [m.kilnCounted_r _ (by decide)]

theorem firstOf_cons_none {c : Bool} {v : Nat} {l : List (Bool × Nat)} :
    firstOf ((c, v) :: l) = none ↔ c = false ∧ firstOf l = none := by
  cases c <;> simp [firstOf]

theorem firstOf_nil : firstOf [] = none := rfl

variable {m} in
/-- A query has to find Kiln enabled. -/
theorem Mach.kilnPre_query {bad : Bool} (hb : bad = false) (ht : m.takes .kiln = true) :
    m.kilnCounted.kilnPre bad true = none := by
  simp [Mach.kilnPre, firstOf_cons_none, firstOf_nil, hb, m.kilnCounted_takes, ht]

variable {m} in
theorem Mach.kilnTakes.refOk {ref : Nat} (h : m.kilnTakes ref) : (!refOk ref) = false := by
  obtain ⟨href, -⟩ := h
  rw [href]
  rfl

variable {m} in
/-- An operation that Kiln takes passes the checks before those of its reference. -/
theorem Mach.kilnTakes.kilnPre {ref : Nat} (h : m.kilnTakes ref) {bad : Bool} (hb : bad = false) :
    m.kilnCounted.kilnPre bad false = none := by
  obtain ⟨-, ht, ha, hmap, -⟩ := h
  have hmap' : m.kilnCounted.kiln.map.isNone = false := by rw [Option.isNone_eq_false_iff]; exact hmap
  simp [Mach.kilnPre, firstOf_cons_none, firstOf_nil, hb, m.kilnCounted_takes, ht, m.kilnCounted_isActive, ha, hmap']

variable {m} in
theorem Mach.kilnTakes.stale {ref : Nat} (h : m.kilnTakes ref) : m.kilnCounted.stale ref = false := by
  obtain ⟨-, -, -, -, hstale⟩ := h
  exact hstale

variable {m} in
/-- A map is committed where the first checks of an operation pass. -/
theorem Mach.map_of_kilnPre {bad : Bool} (h : m.kilnPre bad false = none) : ∃ mp, m.kiln.map = some mp := by
  simp only [Mach.kilnPre, firstOf_cons_none, Bool.not_false, Bool.true_and] at h
  obtain ⟨-, -, -, hmap, -⟩ := h
  exact Option.isSome_iff_exists.mp (by simpa using hmap)

/-- While Kiln takes operations of a step, one is counted and runs. -/
theorem Mach.kilnOp_free_step (f : Mach → Mach) {st : KilnStep} (h : m.kilnFree st) : m.kilnOp f st = f m.kilnCounted := if_pos h

/-- A descriptor of Kiln that starts while Kiln takes an operation is counted and runs. -/
theorem Mach.kilnDesc_runs (op : Nat) (d : Desc) (f : Desc → Mach → Mach) (res : Desc → List Byte) (hs : m.starts op d)
    (hf : m.kilnFree) : m.desc op d (fun d m => m.kilnOp (f d)) res = f (d.as op) m.kilnCounted := by
  rw [m.desc_starts_res _ d _ _ hs, m.kilnOp_free _ hf]

end Sys2Proof.Machine
end

section
/-! PROOFS. ADMIT (R121, R122, R125, R131). -/

namespace Sys2Proof.Machine

open Sys2Proof

/-- The entry of a fixture agent with a number. -/
def Agent.fixed (a : Agent) (n : Nat) : Agent := { a with state := 6, fixture := n, chain := [] }

/-- The entry of a robot agent before its anchor. -/
def Agent.robot (a : Agent) : Agent :=
  { gen := a.gen, authSeq := a.authSeq, fixture := a.fixture, silentAt := a.silentAt, state := 2 }

/-- Checks that an ADMIT passes find a map committed. -/
theorem Mach.map_of_admitCheck {m : Mach} {d : Desc} (h : m.admitCheck d = none) : ∃ mp, m.kiln.map = some mp := by
  unfold Mach.admitCheck at h
  dsimp only at h
  split at h
  · contradiction
  · exact Mach.map_of_kilnPre ‹_›

section Admit

variable {m : Mach} {d : Desc} (hs : m.starts 0x0100 d) (hf : m.kilnFree)
include hs hf

/-- A check that fails completes the descriptor with its status. -/
theorem admitAgent_refused {st : Nat} (h : m.kilnCounted.admitCheck (d.as 0x0100) = some st) :
    admitAgent d m = m.kilnCounted.kilnDone (d.as 0x0100) st
      (le 2 (kAgent d) ++ le 1 (m.agent (refIdx (kAgent d))).state) := by
  rw [admitAgent, m.kilnDesc_runs _ d _ _ hs hf]
  simp only [h]
  rfl

theorem admitAgent_fixture (h : m.kilnCounted.admitCheck (d.as 0x0100) = none) (hx : Descs.fld d 18 1 = 1) :
    let i := refIdx (kAgent d)
    let t := m.kilnCounted.setStore (m.kiln.store.withAgent i ((m.agent i).fixed (Descs.fld d 19 1)))
    admitAgent d m = t.authShow.complete (d.as 0x0100) stOK (le 2 (t.refOf i) ++ le 1 (t.agent i).state) := by
  rw [admitAgent, m.kilnDesc_runs _ d _ _ hs hf]
  simp only [h, Desc.as_fld, hx, beq_self_eq_true, if_true]
  rfl

theorem admitAgent_robot (h : m.kilnCounted.admitCheck (d.as 0x0100) = none) (hx : Descs.fld d 18 1 ≠ 1) {mp : SiteMap}
    (hmp : m.kilnCounted.kiln.map = some mp) :
    let i := refIdx (kAgent d)
    let t := m.kilnCounted.setStore ((m.kiln.store.withAgent i (m.agent i).robot).grant mp i [kRes d])
    admitAgent d m = t.authShow.complete (d.as 0x0100) stOK (le 2 (t.refOf i) ++ le 1 (t.agent i).state) := by
  rw [admitAgent, m.kilnDesc_runs _ d _ _ hs hf]
  simp only [h, Desc.as_fld, beq_false_of_ne hx, hmp, Bool.false_eq_true, if_false]
  rfl

end Admit

/-- Settles O23: a check that fails, a fixture agent, a robot agent. -/
theorem admissionTakesAnIndex : Obligations.AdmissionTakesAnIndex := by
  unfold Obligations.AdmissionTakesAnIndex
  intro d s hs hf c e i
  refine ⟨fun st h => s.on_eq (admitAgent d) _ (admitAgent_refused hs hf h), fun h hx => ?fixture, fun h hx => ?robot⟩
  case fixture =>
    let k := s.m.kiln.store.withAgent i ((s.m.agent i).fixed (Descs.fld d 19 1))
    have hi : (c.setStore k).agent i = (s.m.agent i).fixed (Descs.fld d 19 1) := KilnStore.withAgent_agent ..
    have hgen : ((c.setStore k).agent i).gen = (s.m.agent i).gen := (congrArg Agent.gen hi :)
    have hexec := s.on_eq (admitAgent d) _ (admitAgent_fixture hs hf h hx)
    rw [show (c.setStore k).refOf i = s.m.refOf i from Mach.refOf_congr hgen, hi] at hexec
    refine ⟨(c.setStore k).authShow, hexec, ?_⟩
    simp only [Mach.authShow_agent]
    rw [hi]
    exact ⟨rfl, rfl, rfl, rfl, fun j hj => KilnStore.withAgent_agent_ne _ _ _ hj,
      (s.m.kilnCounted_kilnOnly.trans (c.setStore_kilnOnly k)).trans (Mach.authShow_kilnOnly _)⟩
  case robot =>
    obtain ⟨mp, hmp⟩ := Mach.map_of_admitCheck h
    let k := s.m.kiln.store.withAgent i (s.m.agent i).robot
    let t := c.setStore (k.grant mp i [kRes d])
    have hi : t.agent i = { (s.m.agent i).robot with chain := [kRes d] } := by
      rw [Mach.setStore_agent, KilnStore.grant_agent, KilnStore.withAgent_agent]
      rfl
    have hgen : (t.agent i).gen = (s.m.agent i).gen := (congrArg Agent.gen hi :)
    have hexec := s.on_eq (admitAgent d) _ (admitAgent_robot hs hf h hx hmp)
    rw [show (c.setStore (k.grant mp i [kRes d])).refOf i = s.m.refOf i from Mach.refOf_congr hgen, hi] at hexec
    refine ⟨t.authShow, mp, hexec, hmp, ?_⟩
    simp only [Mach.authShow_agent, Mach.authShow_kiln]
    rw [hi]
    refine ⟨rfl, rfl, rfl, fun g hg => k.grant_queue_mem i mp [kRes d] (by simpa using hg), fun j hj => ?_,
      (s.m.kilnCounted_kilnOnly.trans (c.setStore_kilnOnly _)).trans (Mach.authShow_kilnOnly _)⟩
    exact (k.grant_agent_ne i mp _ hj).trans (KilnStore.withAgent_agent_ne _ _ _ hj)

end Sys2Proof.Machine
end

section
/-! PROOFS. RESERVE_PATH (R125, R135 to R139). -/

namespace Sys2Proof.Machine

open Sys2Proof

section Reserve

variable {m : Mach} {d : Desc} (hs : m.starts 0x0101 d) (hf : m.kilnFree)
include hs hf

/-- A request that fails one of the first checks completes with its status. -/
theorem reservePath_refused {f : PathFail} (h : m.kilnCounted.pathCheck (d.as 0x0101) = some f) :
    reservePath d m = m.kilnCounted.kilnDone (d.as 0x0101) f.st
      (pathRes 0xFF f (m.kilnCounted.pathOf (d.as 0x0101)) 0 (m.agent (refIdx (kAgent d))).chain.length) := by
  rw [reservePath, m.kilnDesc_runs _ d _ _ hs hf]
  simp only [h]
  rfl

variable (h : m.kilnCounted.pathCheck (d.as 0x0101) = none) {mp : SiteMap} (hmp : m.kilnCounted.kiln.map = some mp) {steps : Nat}
include h hmp

/-- With no conflict the path is granted and the grant counted. -/
theorem reservePath_granted
    (hc : m.kilnCounted.conflict mp (refIdx (kAgent (d.as 0x0101))) (m.kilnCounted.pathOf (d.as 0x0101))
      m.kilnCounted.kiln.store.park = (none, steps)) :
    let i := refIdx (kAgent d)
    let path := m.kilnCounted.pathOf (d.as 0x0101)
    let t := ((m.kilnCounted.maxTo KILN_CYCLE_STEPS_MAX_ALL steps).setStore (m.kiln.store.grant mp i path)).inc KILN_GRANTS_ALL
    reservePath d m = t.complete (d.as 0x0101) stOK (pathRes 0 ⟨stOK, 0, 0, none⟩ path 0 (t.agent i).chain.length) := by
  rw [reservePath, m.kilnDesc_runs _ d _ _ hs hf]
  simp only [h, hmp, hc]
  rfl

variable {f : PathFail}
  (hc : m.kilnCounted.conflict mp (refIdx (kAgent (d.as 0x0101))) (m.kilnCounted.pathOf (d.as 0x0101))
    m.kilnCounted.kiln.store.park = (some f, steps))
include hc

/-- A request that may wait is parked where the park list has room. -/
theorem reservePath_parked (hw : Descs.fld d 18 1 % 2 = 1) (h1 : f.conflict ≠ 1) (hroom : m.kiln.store.park.length < 64) :
    reservePath d m = (m.kilnCounted.maxTo KILN_CYCLE_STEPS_MAX_ALL steps).park (d.as 0x0101) (refIdx (kAgent d))
      (m.kilnCounted.pathOf (d.as 0x0101)) f := by
  have hpark : (Descs.fld d 18 1 % 2 == 1 && f.conflict != 1) = true := by simp [hw, h1]
  rw [reservePath, m.kilnDesc_runs _ d _ _ hs hf]
  simp only [h, hmp, hc, Desc.as_fld, hpark, if_true]
  exact if_pos hroom

/-- A conflict with a chain's end, or without WAIT, completes the request with its status. -/
theorem reservePath_denied (hw : Descs.fld d 18 1 % 2 = 0 ∨ f.conflict = 1) :
    reservePath d m = (m.kilnCounted.maxTo KILN_CYCLE_STEPS_MAX_ALL steps).kilnDone (d.as 0x0101) f.st
      (pathRes 0xFF f (m.kilnCounted.pathOf (d.as 0x0101)) 0 (m.agent (refIdx (kAgent d))).chain.length) := by
  have hpark : (Descs.fld d 18 1 % 2 == 1 && f.conflict != 1) = false := by
    rcases hw with hw | hw <;> simp [hw]
  rw [reservePath, m.kilnDesc_runs _ d _ _ hs hf]
  simp only [h, hmp, hc, Desc.as_fld, hpark, Bool.false_eq_true, if_false]
  rfl

end Reserve

/-- Settles O24: the first checks, the grant, the request parked, the request denied. -/
theorem pathsAreGrantedParkedOrDenied : Obligations.PathsAreGrantedParkedOrDenied := by
  unfold Obligations.PathsAreGrantedParkedOrDenied
  intro d s hs hf c e i path k
  have hcount : ∀ steps, kilnOnly s.m (c.maxTo KILN_CYCLE_STEPS_MAX_ALL steps) := fun steps =>
    s.m.kilnCounted_kilnOnly.trans (c.maxTo_kilnOnly _ _ _)
  refine ⟨fun f h => s.on_eq (reservePath d) _ (reservePath_refused hs hf h), fun mp steps h hmp hc => ?grant,
    fun mp steps f h hmp hc => ⟨fun hw h1 hroom => ?park, fun hw => ?deny⟩⟩
  case grant =>
    let u := c.maxTo KILN_CYCLE_STEPS_MAX_ALL steps
    let t := (u.setStore (k.grant mp i path)).inc KILN_GRANTS_ALL
    have hi : t.agent i = { s.m.agent i with chain := (s.m.agent i).chain ++ path } := k.grant_agent i mp path
    have hlen : (t.agent i).chain.length = (s.m.agent i).chain.length + path.length := by rw [hi]; exact List.length_append
    have hexec := s.on_eq (reservePath d) _ (reservePath_granted hs hf h hmp hc)
    rw [hlen] at hexec
    refine ⟨t, hexec, ?_⟩
    rw [hi]
    exact ⟨rfl, rfl, fun g hg => k.grant_queue_mem i mp path hg, fun g hg => k.grant_queue_other i mp path hg,
      fun j hj => k.grant_agent_ne i mp path hj, rfl,
      ((hcount steps).trans (u.setStore_kilnOnly _)).trans (Mach.inc_kilnOnly _ _ _)⟩
  case park =>
    let u := c.maxTo KILN_CYCLE_STEPS_MAX_ALL steps
    let l := k.park ++ [⟨i, (k.parkCtr + 1) % 2 ^ 16, path, s.m.now, Descs.fld d 20 2, f.conflict⟩]
    have hexec := s.on_eq (reservePath d) _ (reservePath_parked hs hf h hmp hc hw h1 hroom)
    exact ⟨u.setStore { k with parkCtr := (k.parkCtr + 1) % 2 ^ 16, park := l }, hexec, rfl, rfl, rfl,
      (hcount steps).trans (u.setStore_kilnOnly _)⟩
  case deny =>
    have hexec := s.on_eq (reservePath d) _ (reservePath_denied hs hf h hmp hc hw)
    exact ⟨c.maxTo KILN_CYCLE_STEPS_MAX_ALL steps, hexec, rfl, hcount steps⟩

end Sys2Proof.Machine
end

section
/-! PROOFS. The park list (R139 to R141): a request taken out of it, what the park service comes to, and PARK_LIMIT. -/

namespace Sys2Proof.Machine

open Sys2Proof

variable (m : Mach)

/-! ### A request taken out of the list -/

/-- The store without an agent's parked request. -/
def KilnStore.unparked (k : KilnStore) (i : Nat) : KilnStore := { k with park := k.park.filter (fun p => p.idx != i) }

theorem KilnStore.unparked_none (k : KilnStore) (i : Nat) : (k.unparked i).park.find? (fun p => p.idx == i) = none := by
  rw [List.find?_eq_none]
  intro p hp
  simpa using (List.mem_filter.mp hp).2

theorem KilnStore.unparked_other (k : KilnStore) {i j : Nat} (h : j ≠ i) :
    (k.unparked i).park.find? (fun p => p.idx == j) = k.park.find? (fun p => p.idx == j) := by
  refine List.find?_filter.trans (congrArg (fun f => k.park.find? f) (funext fun p => ?_))
  by_cases hp : p.idx = j
  · simp [hp, h]
  · simp [hp]

/-- An agent without a parked request has none to be taken out. -/
theorem KilnStore.unparked_eq_self (k : KilnStore) {i : Nat} (h : k.park.find? (fun p => p.idx == i) = none) :
    k.unparked i = k := by
  have hf : k.park.filter (fun p => p.idx != i) = k.park := List.filter_eq_self.mpr fun p hp => by
    simpa using List.find?_eq_none.mp h p hp
  rw [KilnStore.unparked, hf]

@[simp] theorem Mach.dropPark_store (i : Nat) : (m.dropPark i).kiln.store = m.kiln.store.unparked i := rfl

theorem Mach.dropPark_kilnOnly (i : Nat) : kilnOnly m (m.dropPark i) := rfl

/-! PARK_END leaves Kiln's store, the clock, the axes and the latches as they are. -/

variable (i outcome res : Nat)

theorem Mach.withdrawPark_absent (h : m.parkedOf i = none) : m.withdrawPark i outcome res = m := by
  rw [Mach.withdrawPark, h]

theorem Mach.withdrawPark_parked {p : Parked} (h : m.parkedOf i = some p) :
    m.withdrawPark i outcome res = ((m.dropPark i).inc KILN_PARK_WITHDRAWN_ALL).parkEvent p outcome res := by
  rw [Mach.withdrawPark, h]

@[simp] theorem Mach.withdrawPark_store : (m.withdrawPark i outcome res).kiln.store = m.kiln.store.unparked i := by
  cases h : m.parkedOf i with
  | none => rw [m.withdrawPark_absent i outcome res h, KilnStore.unparked_eq_self _ h]
  | some p => simp [m.withdrawPark_parked i outcome res h, Mach.parkEvent]

theorem Mach.withdrawPark_keeps {α : Type} (g : Mach → α) (hd : ∀ x : Mach, g (x.dropPark i) = g x)
    (hi : ∀ x : Mach, g (x.inc KILN_PARK_WITHDRAWN_ALL) = g x)
    (he : ∀ (x : Mach) (p : Parked), g (x.parkEvent p outcome res) = g x) : g (m.withdrawPark i outcome res) = g m := by
  cases h : m.parkedOf i with
  | none => rw [m.withdrawPark_absent i outcome res h]
  | some p =>
    rw [m.withdrawPark_parked i outcome res h]
    exact (he _ _).trans ((hi _).trans (hd _))

@[simp] theorem Mach.withdrawPark_time : (m.withdrawPark i outcome res).time = m.time :=
  m.withdrawPark_keeps i outcome res Mach.time (fun _ => rfl) (fun _ => rfl) fun x _ => x.event_time _ _ _ _

@[simp] theorem Mach.withdrawPark_mot : (m.withdrawPark i outcome res).mot = m.mot :=
  m.withdrawPark_keeps i outcome res Mach.mot (fun _ => rfl) (fun _ => rfl) fun x _ => x.event_mot _ _ _ _

@[simp] theorem Mach.withdrawPark_agent (j : Nat) : (m.withdrawPark i outcome res).agent j = m.agent j := by
  rw [Mach.agent, Mach.withdrawPark_store]
  rfl

theorem Mach.withdrawPark_parkedOf : (m.withdrawPark i outcome res).parkedOf i = none := by
  rw [Mach.parkedOf, Mach.withdrawPark_store, KilnStore.unparked_none]

theorem Mach.withdrawPark_parkedOf_ne {j : Nat} (h : j ≠ i) : (m.withdrawPark i outcome res).parkedOf j = m.parkedOf j := by
  rw [Mach.parkedOf, Mach.withdrawPark_store, KilnStore.unparked_other _ h, Mach.parkedOf]

/-! ### The request the park service comes to (R140) -/

variable (mp : SiteMap)

/-- The service goes on in the list and changes nothing else. -/
theorem Mach.parkAdvance_eq (n : Nat) : ∃ pos, m.parkAdvance mp n = { m with kiln := { m.kiln with parkPos := pos } } := by
  induction n generalizing m with
  | zero => exact ⟨m.kiln.parkPos, rfl⟩
  | succ n ih =>
    rw [Mach.parkAdvance]
    split
    · obtain ⟨pos, h⟩ := ih { m with kiln := { m.kiln with parkPos := m.kiln.parkPos + 1 } }
      exact ⟨pos, h⟩
    · exact ⟨m.kiln.parkPos, rfl⟩

variable {m mp}

/-- A request that it does not skip holds it where it stands. -/
theorem Mach.parkAdvance_stays (n : Nat) (h : m.parkSkipped mp m.kiln.parkPos = false) : m.parkAdvance mp n = m := by
  cases n with
  | zero => rfl
  | succ n => rw [Mach.parkAdvance, if_neg (by simp [h])]

/-- A request of an earlier tick that is not skipped is left to be evaluated. -/
theorem Mach.parkLeft_of_entry {p : Parked} {pos : Nat} (hp : m.kiln.store.park[pos]? = some p) (ht : p.tick < m.now)
    (hs : m.parkSkipped mp pos = false) : m.parkLeft mp pos = true :=
  List.any_eq_true.mpr ⟨(p, pos), List.mem_zipIdx_iff_getElem?.mpr hp, by simp [ht, hs]⟩

/-- The part after the grant of a parked request. -/
def Mach.parkGranted (m : Mach) (mp : SiteMap) (p : Parked) (steps : Nat) : Mach :=
  let u := (m.maxTo KILN_CYCLE_STEPS_MAX_ALL steps).dropPark p.idx
  ((u.setStore (u.kiln.store.grant mp p.idx p.path)).inc KILN_GRANTS_ALL).parkEvent p 0 noRes

theorem Mach.parkGranted_store (m : Mach) (mp : SiteMap) (p : Parked) (steps : Nat) :
    (m.parkGranted mp p steps).kiln.store = (m.kiln.store.unparked p.idx).grant mp p.idx p.path := by
  rw [Mach.parkGranted, Mach.parkEvent, Mach.event_kiln]
  rfl

theorem Mach.parkGranted_mot_dam (m : Mach) (mp : SiteMap) (p : Parked) (steps : Nat) :
    (m.parkGranted mp p steps).mot = m.mot ∧ (m.parkGranted mp p steps).dam = m.dam := by
  rw [Mach.parkGranted, Mach.parkEvent, Mach.event_mot, Mach.event_dam]
  exact ⟨rfl, rfl⟩

theorem parkEvaluation_grants {p : Parked} {steps : Nat} (hmp : m.kiln.map = some mp) (ha : m.isActive = true)
    (hf : m.kilnFree .park) (hp : m.kiln.store.park[m.kiln.parkPos]? = some p) (ht : p.tick < m.now)
    (hs : m.parkSkipped mp m.kiln.parkPos = false)
    (hc : m.kilnCounted.conflict mp p.idx p.path (m.kilnCounted.kiln.store.park.take m.kiln.parkPos) = (none, steps)) :
    parkEvaluation m = (m.kilnCounted.parkGranted mp p steps).parkAdvance mp 64 := by
  have hturn : m.parkTurn mp = m := if_neg (by simp [Mach.parkLeft_of_entry hp ht hs])
  have hdue : (!m.isActive || decide ((m.now : Int) ≤ p.tick)) = false := by simpa [ha] using ht
  rw [parkEvaluation, hmp]
  simp only [hturn, Mach.parkAdvance_stays 64 hs, hp, hdue, Bool.false_eq_true, if_false]
  rw [m.kilnOp_free_step _ hf]
  simp only [hc]
  rfl

/-- PARK_LIMIT withdraws a request once the park service of the tick is over (R141). -/
theorem parkLimitExpiry_due {a : Nat} {p : Parked} (hp : m.parkedOf a = some p) (hl : p.limit ≠ 0)
    (ht : p.tick + p.limit ≤ m.now) (hd : m.parkDone = true) : parkLimitExpiry a m = m.withdrawPark a 4 := by
  rw [parkLimitExpiry, hp]
  exact if_pos (by simp [hl, ht, hd])

/-- Settles O25: the grant of a parked request, and its limit. -/
theorem parkServiceGrantsInOrder : Obligations.ParkServiceGrantsInOrder := by
  unfold Obligations.ParkServiceGrantsInOrder
  refine ⟨?grant, ?limit⟩
  case grant =>
    intro s mp p steps hmp ha hf hp ht hs hc
    let u := s.m.kilnCounted.parkGranted mp p steps
    let k := s.m.kiln.store.unparked p.idx
    obtain ⟨pos, hadv⟩ := u.parkAdvance_eq mp 64
    have hexec := s.on_eq parkEvaluation _ ((parkEvaluation_grants hmp ha hf hp ht hs hc).trans hadv)
    have hstore : u.kiln.store = k.grant mp p.idx p.path := s.m.kilnCounted.parkGranted_store mp p steps
    obtain ⟨hmot, hdam⟩ := s.m.kilnCounted.parkGranted_mot_dam mp p steps
    have hagent : ∀ j, u.agent j = (k.grant mp p.idx p.path).agent j := fun j => by rw [Mach.agent, hstore]
    have hparked : ∀ j, u.parkedOf j = k.park.find? (fun q => q.idx == j) := fun j => by
      rw [Mach.parkedOf, hstore, KilnStore.grant_park]
    exact ⟨_, hexec, congrArg Agent.chain ((hagent p.idx).trans (k.grant_agent p.idx mp p.path)),
      (hparked p.idx).trans (KilnStore.unparked_none _ _), fun j hj => (hagent j).trans (k.grant_agent_ne p.idx mp p.path hj),
      fun j hj => (hparked j).trans (KilnStore.unparked_other _ hj), hmot, hdam⟩
  case limit =>
    intro a s p hp hl ht hd
    exact ⟨_, s.on_eq (parkLimitExpiry a) _ (parkLimitExpiry_due hp hl ht hd), s.m.withdrawPark_parkedOf a 4 noRes,
      fun j => s.m.withdrawPark_agent a 4 noRes j, fun j hj => s.m.withdrawPark_parkedOf_ne a 4 noRes hj,
      (congrArg KilnStore.queues (s.m.withdrawPark_store a 4 noRes) :), s.m.withdrawPark_mot a 4 noRes⟩

end Sys2Proof.Machine
end

section
/-! PROOFS. Releases from a chain's ends: RELEASE_BEHIND, TRUNCATE, CANCEL and progress reports (R142 to R145). -/

namespace Sys2Proof.Machine

open Sys2Proof

/-! ### A chain cut -/

section Cut

variable (m : Mach) (i : Nat) (chain dropped : List Nat)

/-- Settling queues leaves agents and parked requests. -/
theorem Mach.cutChain_agents : (m.cutChain i chain dropped).kiln.store.agents =
    (m.kiln.store.withAgent i { m.agent i with chain := chain }).agents := by
  unfold Mach.cutChain
  dsimp only
  split <;> rfl

theorem Mach.cutChain_park : (m.cutChain i chain dropped).kiln.store.park = m.kiln.store.park := by
  unfold Mach.cutChain
  dsimp only
  split <;> rfl

theorem Mach.cutChain_agent : (m.cutChain i chain dropped).agent i = { m.agent i with chain := chain } := by
  rw [Mach.agent, KilnStore.agent, m.cutChain_agents]
  exact KilnStore.withAgent_agent _ _ _

theorem Mach.cutChain_agent_ne {j : Nat} (h : j ≠ i) : (m.cutChain i chain dropped).agent j = m.agent j := by
  rw [Mach.agent, KilnStore.agent, m.cutChain_agents]
  exact KilnStore.withAgent_agent_ne _ _ _ h

theorem Mach.cutChain_parkedOf (j : Nat) : (m.cutChain i chain dropped).parkedOf j = m.parkedOf j :=
  Mach.parkedOf_congr (m.cutChain_park i chain dropped) j

variable (p : Nat)

/-- The chain from a position on, with what has left it counted. -/
theorem Mach.releaseTo_agent : (m.releaseTo i p).agent i =
    { m.agent i with chain := (m.agent i).chain.drop p, gone := (m.agent i).gone + min p (m.agent i).chain.length } := by
  rw [Mach.releaseTo, Mach.addGone, Mach.cutChain_agent]
  exact KilnStore.withAgent_agent _ _ _

theorem Mach.releaseTo_agent_ne {j : Nat} (h : j ≠ i) : (m.releaseTo i p).agent j = m.agent j :=
  (KilnStore.withAgent_agent_ne _ _ _ h).trans (m.cutChain_agent_ne _ _ _ h)

theorem Mach.releaseTo_kilnOnly : kilnOnly m (m.releaseTo i p) :=
  (m.cutChain_kilnOnly _ _ _).trans (Mach.setStore_kilnOnly _ _)

theorem Mach.releaseTo_reports : (m.releaseTo i p).kiln.reports = m.kiln.reports := by
  unfold Mach.releaseTo Mach.addGone Mach.cutChain
  dsimp only
  split <;> rfl

end Cut

/-! ### The operations -/

/-- The states of an agent that a release may name (R155). -/
theorem releasable {n : Nat} (h : n = 2 ∨ n = 3 ∨ n = 6) : (n == 2 || n == 3 || n == 6) = true := by
  rcases h with rfl | rfl | rfl <;> rfl

section Operations

/-! An operation `d` on agent `i` that Kiln takes, with nothing held for the agent. -/

variable {m : Mach} {d : Desc} (hf : m.kilnFree) (ht : m.kilnTakes (kAgent d)) {i : Nat} (hi : refIdx (kAgent d) = i)
  (hh : (m.agent i).held = none)
include hf ht hi hh

theorem releaseBehind_releases (hs : m.starts 0x0102 d) {p : Nat}
    (hst : (m.agent i).state = 2 ∨ (m.agent i).state = 3 ∨ (m.agent i).state = 6)
    (hall : Descs.fld d 18 1 % 2 = 0) (hk : m.kilnCounted.known (kRes d) = true)
    (hp : (m.agent i).chain.findIdx? (fun x => x == kRes d) = some p) :
    let t := m.kilnCounted.releaseTo i p
    releaseBehind d m = t.complete (d.as 0x0102) stOK (le 2 p ++ le 2 (t.agent i).chain.length) := by
  rw [releaseBehind, m.kilnDesc_runs _ d _ _ hs hf]
  simp only [Desc.as_kAgent, Desc.as_kRes, Desc.as_fld, hi, ht.kilnPre ht.refOk, ht.stale, Mach.kilnCounted_agent, releasable hst,
    hh, hall, hk, hp, firstOf, Option.isSome_none]
  rfl

theorem truncate_releases (hs : m.starts 0x0103 d) {p : Nat} (hst : (m.agent i).state = 2)
    (hk : m.kilnCounted.known (kRes d) = true) (hp : (lastIdx (m.agent i).chain (kRes d)).getD 0 = p) (h0 : p ≠ 0)
    (hhold : m.kilnCounted.isHolding (kRes d) = true) (hr : (m.kilnCounted.reachOf i).length ≤ p + 1) :
    let c := (m.agent i).chain
    truncate d m = ((m.kilnCounted.cutChain i (c.take (p + 1)) (c.drop (p + 1))).withdrawPark i 5).complete (d.as 0x0103) stOK
      (le 2 (c.drop (p + 1)).length ++ le 2 (p + 1) ++ le 1 (b2n (m.parkedOf i).isSome)) := by
  rw [truncate, m.kilnDesc_runs _ d _ _ hs hf]
  simp only [Desc.as_kAgent, Desc.as_kRes, hi, ht.kilnPre ht.refOk, ht.stale, Mach.kilnCounted_agent, hst, hh, hk, hp,
    beq_false_of_ne h0, hhold, decide_eq_false (Nat.not_lt.mpr hr), firstOf, Option.isSome_none]
  rfl

theorem cancel_checked (hs : m.starts 0x0104 d)
    (hst : (m.agent i).state = 2 ∨ (m.agent i).state = 3 ∨ (m.agent i).state = 6) :
    cancel d m = match m.parkedOf i with
      | some p => (m.kilnCounted.dropPark i).complete (d.as 0x0104) stOK (le 2 0 ++ le 2 p.ticket)
      | none => m.kilnCounted.complete (d.as 0x0104) stOK (le 1 1) := by
  rw [cancel, m.kilnDesc_runs _ d _ _ hs hf]
  simp only [Desc.as_kAgent, hi, ht.kilnPre ht.refOk, ht.stale, Mach.kilnCounted_agent, releasable hst, hh, firstOf,
    Option.isSome_none]
  change (match m.parkedOf i with | some p => _ | none => _) = _
  cases m.parkedOf i <;> rfl

end Operations

/-! ### Progress reports (R142) -/

/-- Kiln counts the operation and takes the report from its queue. -/
def Mach.reportTaken (m : Mach) (rest : List (Nat × Nat)) : Mach :=
  { m.kilnCounted with kiln := { m.kilnCounted.kiln with reports := rest } }

/-- What a report can do: it is ignored and counted, it passes the limit and stops the agent, or it releases the chain's rear. -/
theorem kilnProgressReport_eq {m : Mach} {ref rear : Nat} {rest : List (Nat × Nat)}
    (hr : m.kiln.reports = (ref, rear) :: rest) (hf : m.kilnFree .report) :
    let i := refIdx ref
    let a := m.agent i
    let t := m.reportTaken rest
    kilnProgressReport m =
      if !(a.state == 2 || a.state == 3) || m.stale ref then t.inc KILN_REPORT_IGNORED_ALL
      else match a.chain.findIdx? (fun x => x == rear) with
        | none => t.inc KILN_REPORT_IGNORED_ALL
        | some p =>
          if a.beyond p then ((t.inc KILN_LIMIT_PASSED_ALL).event 0x0102 3 15 (le 2 ref ++ le 4 rear ++ le 4 a.limit)).assertSource 7 0
            ⟨false, 0, 1#512 <<< i⟩
          else t.releaseTo i p := by
  rw [kilnProgressReport, hr]
  exact if_pos hf

/-- A report of an agent that moves, of its REAR within the limit, releases what lies in front of it. -/
theorem kilnProgressReport_releases {m : Mach} {ref rear p : Nat} {rest : List (Nat × Nat)}
    (hr : m.kiln.reports = (ref, rear) :: rest) (hf : m.kilnFree .report)
    (hst : (m.agent (refIdx ref)).state = 2 ∨ (m.agent (refIdx ref)).state = 3) (hstale : m.stale ref = false)
    (hp : (m.agent (refIdx ref)).chain.findIdx? (fun x => x == rear) = some p)
    (hb : (m.agent (refIdx ref)).beyond p = false) :
    kilnProgressReport m = (m.reportTaken rest).releaseTo (refIdx ref) p := by
  have hin : (!((m.agent (refIdx ref)).state == 2 || (m.agent (refIdx ref)).state == 3) || m.stale ref) = false := by
    rcases hst with h | h <;> simp [h, hstale]
  rw [kilnProgressReport_eq hr hf]
  simp only [hin, hp, hb, Bool.false_eq_true, if_false]

/-- Settles O26: RELEASE_BEHIND, TRUNCATE, CANCEL, a progress report within the limit, a stale one. -/
theorem chainsAreReleasedFromTheirEnds : Obligations.ChainsAreReleasedFromTheirEnds := by
  unfold Obligations.ChainsAreReleasedFromTheirEnds
  refine ⟨?behind, ?truncate, ?cancel, ?report, ?stale⟩
  case behind =>
    intro d s p hs hf ht i a hst hh hall hk hp
    let t := s.m.kilnCounted.releaseTo i p
    have hi : t.agent i = { a with chain := a.chain.drop p, gone := a.gone + min p a.chain.length } :=
      s.m.kilnCounted.releaseTo_agent i p
    have hlen : (t.agent i).chain.length = a.chain.length - p := by rw [hi]; exact List.length_drop
    have hexec := s.on_eq (releaseBehind d) _ (releaseBehind_releases hf ht rfl hh hs hst hall hk hp)
    rw [hlen] at hexec
    refine ⟨t, hexec, ?_, ?_, fun j hj => s.m.kilnCounted.releaseTo_agent_ne i p hj,
      s.m.kilnCounted_kilnOnly.trans (s.m.kilnCounted.releaseTo_kilnOnly i p)⟩
    all_goals rw [hi]
  case truncate =>
    intro d s hs hf ht i a p hst hh hk h0 hhold hr
    let u := s.m.kilnCounted.cutChain i (a.chain.take (p + 1)) (a.chain.drop (p + 1))
    have hi : u.agent i = { a with chain := a.chain.take (p + 1) } := s.m.kilnCounted.cutChain_agent i _ _
    have hu : ∀ j, u.parkedOf j = s.m.parkedOf j := s.m.kilnCounted.cutChain_parkedOf i _ _
    have hexec := s.on_eq (truncate d) _ (truncate_releases hf ht rfl hh hs hst hk rfl h0 hhold hr)
    rw [List.length_drop] at hexec
    refine ⟨u.withdrawPark i 5, hexec, ?_, ?_, u.withdrawPark_parkedOf i 5 noRes, fun j hj => ?_, fun hn => ?_⟩
    · rw [Mach.withdrawPark_agent, hi]
    · rw [Mach.withdrawPark_agent, hi, hst]
    · rw [Mach.withdrawPark_agent]
      exact s.m.kilnCounted.cutChain_agent_ne i _ _ hj
    · rw [u.withdrawPark_absent i 5 noRes ((hu i).trans hn)]
      exact s.m.kilnCounted_kilnOnly.trans (s.m.kilnCounted.cutChain_kilnOnly i _ _)
  case cancel =>
    intro d s hs hf ht i a hst hh
    have hcancel := cancel_checked hf ht rfl hh hs hst
    refine ⟨fun p hp => ?_, fun hn => s.on_eq (cancel d) _ (by rw [hcancel, hn])⟩
    exact ⟨s.m.kilnCounted.dropPark i, s.on_eq (cancel d) _ (by rw [hcancel, hp]), KilnStore.unparked_none _ _, fun j => rfl,
      s.m.kilnCounted_kilnOnly.trans (Mach.dropPark_kilnOnly _ _)⟩
  case report =>
    intro s ref rear p rest hr hf i a hst hstale hp hb
    let u := s.m.reportTaken rest
    have heq : kilnProgressReport s.m = u.releaseTo i p := kilnProgressReport_releases hr hf hst hstale hp hb
    refine ⟨_, s.on_eq kilnProgressReport _ heq, u.releaseTo_reports i p, ?_, fun j hj => u.releaseTo_agent_ne i p hj,
      s.m.kilnCounted_kilnOnly.trans (u.releaseTo_kilnOnly i p)⟩
    rw [u.releaseTo_agent i p]
    rfl
  case stale =>
    intro s ref rear rest hr hf hst
    refine s.on_eq kilnProgressReport _ ((kilnProgressReport_eq hr hf).trans (if_pos ?_))
    rw [hst, Bool.or_true]

end Sys2Proof.Machine
end

section
/-! PROOFS. QUERY_AGENT, QUERY_RESOURCE and SNAPSHOT (R151 to R153). -/

namespace Sys2Proof.Machine

open Sys2Proof

section Queries

variable {m : Mach} {d : Desc} (hf : m.kilnFree) (ht : m.takes .kiln = true)
include hf ht

/-! ### QUERY_AGENT -/

theorem queryAgent_checked (hs : m.starts 0x0110 d) (hr : refOk (kAgent d) = true) :
    queryAgent d m =
      let c := m.kilnCounted
      let row := c.agentRow m.kiln.store (refIdx (kAgent d))
      if Descs.fld d 18 1 % 2 == 0 && m.stale (kAgent d) then c.kilnDone (d.as 0x0110) stSTALE_GENERATION row
      else c.complete (d.as 0x0110) stOK row := by
  have hpre : m.kilnCounted.kilnPre (!refOk (kAgent d)) true = none := Mach.kilnPre_query (by simp [hr]) ht
  have hstale : m.kilnCounted.stale (kAgent d) = m.stale (kAgent d) := rfl
  rw [queryAgent, m.kilnDesc_runs _ d _ _ hs hf]
  simp only [Desc.as_kAgent, Desc.as_fld, hpre, hstale, firstOf]
  cases Descs.fld d 18 1 % 2 == 0 && m.stale (kAgent d) <;> rfl

/-! ### QUERY_RESOURCE -/

omit hf ht in
/-- The row of a node, with one of its groups: the group's queue and its head. -/
theorem Mach.resourceRow_node {mp : SiteMap} {res gs g : Nat} {n : NodeRec} (hmp : m.kiln.map = some mp)
    (hn : mp.node res = some n) (hg : n.groups[gs]? = some g) :
    m.resourceRow res gs = le 4 n.tag ++ le 1 n.zone ++ le 1 n.groups.length ++ le 1 0 ++ le 1 n.kind ++ le 4 g ++
      le 1 (m.kiln.store.queue g).length ++ le 2 (match m.kiln.store.queue g with
        | [] => 0
        | i :: _ => m.refOf i) := by
  cases hq : m.kiln.store.queue g <;>
    simp only [Mach.resourceRow, hmp, SiteMap.groupsOf, SiteMap.zoneOf, hn, hg, hq, List.append_assoc]

theorem queryResource_known (hs : m.starts 0x0111 d) {mp : SiteMap} {n : NodeRec} {g : Nat} (hmp : m.kiln.map = some mp)
    (hn : mp.node (kRes d) = some n) (h3 : Descs.fld d 18 1 ≤ 3) (hg : n.groups[Descs.fld d 18 1]? = some g) :
    queryResource d m = m.kilnCounted.complete (d.as 0x0111) stOK (m.kilnCounted.resourceRow (kRes d) (Descs.fld d 18 1)) := by
  have hmp' : m.kilnCounted.kiln.map = some mp := hmp
  have hlt : Descs.fld d 18 1 < n.groups.length := (List.getElem?_eq_some_iff.mp hg).1
  have hhas : mp.has (kRes d) = true := by simp [SiteMap.has, hn]
  have hbad : (decide (Descs.fld d 18 1 > 3) || m.kilnCounted.kiln.map.any (fun mp => mp.has (kRes d) &&
      decide ((mp.groupsOf (kRes d)).length ≤ Descs.fld d 18 1))) = false := by
    simp [hmp', SiteMap.groupsOf, hn, h3, hlt]
  have hknown : m.kilnCounted.known (kRes d) = true := by simp [Mach.known, hmp', hhas]
  rw [queryResource, m.kilnDesc_runs _ d _ _ hs hf]
  dsimp only [Desc.as_kRes, Desc.as_fld]
  rw [Mach.kilnPre_query hbad ht, hknown]
  rfl

/-! ### SNAPSHOT -/

theorem snapshot_waits (hs : m.starts 0x0120 d) {e : Desc} (he : d.as 0x0120 = e) (hb : Descs.buf e = true)
    (h3 : Descs.fld e 18 1 ≤ 3) {l : List Byte}
    (hl : m.kilnCounted.section_ (Descs.fld e 18 1) (kRes e) (Descs.fld e 24 4) = some l) (hlen : l.length ≤ Descs.len e) :
    let c := m.kilnCounted
    snapshot d m = { c with kiln := { c.kiln with snaps := c.kiln.snaps ++
      [⟨e, Descs.fld e 18 1, kRes e, Descs.fld e 24 4⟩] } } := by
  have hbad : (!Descs.buf e || decide (Descs.fld e 18 1 > 3) ||
      (Descs.fld e 18 1 != 1 && decide (l.length > Descs.len e))) = false := by
    simp [hb, h3, hlen]
  rw [snapshot, m.kilnDesc_runs _ d _ _ hs hf, he]
  simp only [hl, Mach.kilnPre_query hbad ht]

end Queries

/-- The only snapshot asked for in a tick, of a section that fits its buffer, is written and completes. -/
theorem Mach.writeSnaps_one {m : Mach} {r : SnapReq} {l : List Byte} (hr : m.kiln.snaps = [r])
    (hl : m.section_ r.sec r.first r.number = some l) (hlen : l.length ≤ Descs.len r.d) :
    m.writeSnaps = (({ m with kiln := { m.kiln with snaps := [] } }).bufWr r.d 0 l).complete r.d stOK := by
  have hl' : ({ m with kiln := { m.kiln with snaps := [] } } : Mach).section_ r.sec r.first r.number = some l := hl
  rw [Mach.writeSnaps, hr]
  simp only [Mach.each, List.foldl, hl', if_neg (Nat.not_lt.mpr hlen)]
  rfl

/-- Settles O28: both queries, a snapshot taken and written. -/
theorem queriesReadKilnsStore : Obligations.QueriesReadKilnsStore := by
  unfold Obligations.QueriesReadKilnsStore
  refine ⟨?agent, ?resource, ?snapshot, fun m r l => Mach.writeSnaps_one⟩
  case agent =>
    intro d s hs hf hr ht i c
    have hquery := queryAgent_checked hf ht hs hr
    refine ⟨fun h => ⟨s.on_eq (queryAgent d) _ (hquery.trans (if_neg ?_)), rfl⟩,
      fun h hst => s.on_eq (queryAgent d) _ (hquery.trans (if_pos (by simp [h, hst])))⟩
    rcases h with h | h <;> simp [h]
  case resource =>
    intro d s mp n g hs hf ht hmp hn h3 hg q head
    have hrow := Mach.resourceRow_node (m := s.m.kilnCounted) hmp hn hg
    have hquery := queryResource_known hf ht hs hmp hn h3 hg
    rw [hrow] at hquery
    exact s.on_eq (queryResource d) _ hquery
  case snapshot =>
    exact fun d s l hs hf ht hb h3 hl hlen => s.on_eq (snapshot d) _ (snapshot_waits hf ht hs rfl hb h3 hl hlen)

end Sys2Proof.Machine
end

section
/-! PROOFS. The end of an index in Kiln's store (R122, R194, R258): what the stop of axes, the end of a membership and the agent
latch leave of it, and the index in quarantine. -/

namespace Sys2Proof.Machine

open Sys2Proof

variable (m : Mach) (a : Nat)

/-! ### Axes that stop leave Kiln as it is (R517) -/

theorem Mach.each_kiln {α : Type} (l : List α) (f : Mach → α → Mach) (h : ∀ (x : Mach) (b : α), (f x b).kiln = x.kiln) :
    (m.each l f).kiln = m.kiln := m.each_keeps Mach.kiln l f fun x b _ => h x b

@[simp] theorem Mach.setAxis_kiln (x : Axis) : (m.setAxis a x).kiln = m.kiln := rfl
@[simp] theorem Mach.setAxState_kiln (st : Nat) : (m.setAxState a st).kiln = m.kiln := rfl
@[simp] theorem Mach.setVel_kiln (v : Int) : (m.setVel a v).kiln = m.kiln := rfl
@[simp] theorem Mach.motDone_kiln (d : Desc) (st b28 : Nat) : (m.motDone a d st b28).kiln = m.kiln := Mach.complete_kiln ..
@[simp] theorem Mach.axisStopEvent_kiln (st : Nat) : (m.axisStopEvent a st).kiln = m.kiln := Mach.event_kiln ..

@[simp] theorem Mach.bridgesOff_kiln : (m.bridgesOff a).kiln = m.kiln := by
  unfold Mach.bridgesOff
  dsimp only
  split <;> simp

@[simp] theorem Mach.flushAxis_kiln : (m.flushAxis a).kiln = m.kiln :=
  Mach.each_kiln _ _ _ fun x mv => x.motDone_kiln a mv.d _ _

@[simp] theorem Mach.endMotion_kiln (st hfail : Nat) : (m.endMotion a st hfail).kiln = m.kiln := by
  unfold Mach.endMotion
  dsimp only
  rw [Mach.each_kiln _ _ _ fun x d => x.motDone_kiln a d _ _]
  split <;> split <;> simp

@[simp] theorem Mach.finishStop_kiln (k : AxisStop) : (m.finishStop a k).kiln = m.kiln := by
  unfold Mach.finishStop
  dsimp only
  split <;> split <;> simp

@[simp] theorem Mach.stopSlow_kiln (k : AxisStop) : (m.stopSlow a k).kiln = m.kiln := by
  unfold Mach.stopSlow
  dsimp only
  split
  · simp
  · split
    · split <;> split <;> simp
    · rfl

@[simp] theorem Mach.stopCat_kiln (st : Nat) : (m.stopCat a st).kiln = m.kiln := by
  unfold Mach.stopCat
  split
  · exact m.stopSlow_kiln a _
  · split
    · exact m.finishStop_kiln a _
    · exact m.stopSlow_kiln a _

@[simp] theorem Mach.quickStop_kiln : m.quickStop.kiln = m.kiln :=
  Mach.when_keeps _ Mach.kiln _ _ fun x => x.each_kiln _ _ fun y a => y.stopCat_kiln a _

/-! ### The end of a membership, and the agent latch (R194, R281) -/

variable (i ref item : Nat)

@[simp] theorem Mach.setTab_kiln (t : AirTab) : (m.setTab t).kiln = m.kiln := rfl
@[simp] theorem Mach.setMember_kiln (x : Member) : (m.setMember a x).kiln = m.kiln := rfl
@[simp] theorem Mach.setTask_kiln (t : Task) : (m.setTask a t).kiln = m.kiln := rfl

@[simp] theorem Mach.taskMove_kiln (t : Task) (st : TaskState) (reason : Nat) : (m.taskMove a t st reason).kiln = m.kiln := by
  unfold Mach.taskMove
  dsimp only
  repeat' split
  all_goals simp only [Mach.complete_kiln, Mach.setMember_kiln, Mach.event_kiln, Mach.setTask_kiln]

@[simp] theorem Mach.memberGone_kiln : (m.memberGone i ref item).kiln = m.kiln := by
  unfold Mach.memberGone
  split
  · rfl
  · dsimp only
    rw [Mach.event_kiln, Mach.each_kiln _ _ _ fun x e => x.taskMove_kiln _ _ _ _]
    split
    · exact Mach.complete_kiln ..
    · rfl

@[simp] theorem Mach.setLatches_kiln (s : Stops) : (m.setLatches s).kiln = m.kiln :=
  Mach.each_kiln _ _ _ fun _ _ => rfl

@[simp] theorem Mach.clearAgentLatch_kiln : (m.clearAgentLatch i).kiln = m.kiln := by
  unfold Mach.clearAgentLatch
  split
  · exact (Mach.event_kiln ..).trans ((Mach.quickStop_kiln _).trans (m.setLatches_kiln _))
  · rfl

@[simp] theorem Mach.airShow_kiln : m.airShow.kiln = m.kiln := by
  unfold Mach.airShow
  dsimp only
  split
  · simp only [Mach.wWord_kiln, Mach.w_kiln]
    exact Mach.each_kiln _ _ _ fun _ _ => rfl
  · simp only [Mach.wb_kiln, Mach.w_kiln]
    exact Mach.each_kiln _ _ _ fun _ _ => rfl

/-- Parts with the same view have the same agent latches. -/
theorem Mach.agents_of_roleView {x y : Mach} {clk tab : Bool} (h : x.roleView clk tab = y.roleView clk tab) :
    x.dam.agents = y.dam.agents := congrArg (fun v : RoleView => v.2.agents) h

/-- The agent latch of an index is clear afterwards. -/
theorem Mach.clearAgentLatch_clear {i : Nat} (hi : i < 512) : (m.clearAgentLatch i).agentLatched i = false := by
  unfold Mach.clearAgentLatch
  split
  · have hset : ∀ s : Stops, (m.setLatches s).quickStop.dam.agents = s.agents := fun s =>
      (Mach.agents_of_roleView ((m.setLatches s).quickStop_roleView (clk := false) (tab := false))).trans
        (congrArg (fun v : RoleView => v.2.agents) (m.setLatches_roleView (clk := false) (tab := false) s))
    rw [Mach.agentLatched, Mach.event_dam, hset]
    simp [hi]
  · rename_i h
    simpa using h

/-! ### Quarantine -/

/-- Kiln's entry of an index in quarantine, and the time from which it counts. -/
def Mach.quarantined (m : Mach) (i : Nat) : Mach :=
  let a := m.agent i
  let u := m.cutChain i [] a.chain
  let t := u.setStore (u.kiln.store.withAgent i
    { state := 5, gen := (a.gen + 1) % 16, lastRec := a.lastRec, recSince := a.recSince })
  t.setTab { t.air.tab with quarAt := Tabs.put t.air.tab.quarAt i t.now }

theorem Mach.quarantine_eq : m.quarantine i item =
    (((m.quarantined i).memberGone i (m.refOf i) item).clearAgentLatch i).airShow := rfl

theorem Mach.quarantine_kiln : (m.quarantine i item).kiln = (m.quarantined i).kiln := by
  rw [Mach.quarantine_eq, Mach.airShow_kiln, Mach.clearAgentLatch_kiln, Mach.memberGone_kiln]

theorem Mach.quarantine_agent : (m.quarantine i item).agent i =
    { state := 5, gen := ((m.agent i).gen + 1) % 16, lastRec := (m.agent i).lastRec, recSince := (m.agent i).recSince } :=
  (Mach.agent_congr (congrArg KilnSt.store (m.quarantine_kiln i item)) i).trans (KilnStore.withAgent_agent _ _ _)

theorem Mach.quarantine_agent_ne {j : Nat} (h : j ≠ i) : (m.quarantine i item).agent j = m.agent j :=
  (Mach.agent_congr (congrArg KilnSt.store (m.quarantine_kiln i item)) j).trans
    ((KilnStore.withAgent_agent_ne _ _ _ h).trans (m.cutChain_agent_ne i _ _ h))

theorem Mach.quarantine_agentLatched {i : Nat} (hi : i < 512) : (m.quarantine i item).agentLatched i = false := by
  rw [Mach.quarantine_eq, Mach.agentLatched, Mach.agents_of_roleView (Mach.airShow_roleView (clk := false) (tab := false) _)]
  exact Mach.clearAgentLatch_clear _ hi

end Sys2Proof.Machine
end

section
/-! PROOFS. RECOVER, RETIRE, held operations, automatic release, expiry and the end of quarantine (R146 to R150, R171, R258). -/

namespace Sys2Proof.Machine

open Sys2Proof

variable (m : Mach) (i : Nat)

/-! ### Operations held, retirement begun (R146, R148) -/

theorem Mach.holdOp_agent (h : Held) : (m.holdOp i h).agent i = { m.agent i with held := some h } := KilnStore.withAgent_agent _ _ _

theorem Mach.holdOp_agent_ne (h : Held) {j : Nat} (hj : j ≠ i) : (m.holdOp i h).agent j = m.agent j :=
  KilnStore.withAgent_agent_ne _ _ _ hj

theorem Mach.retireBegin_agent : (m.retireBegin i).agent i = { m.agent i with state := 4 } := by
  refine (KilnStore.withAgent_agent _ _ _).trans ?_
  rw [← m.withdrawPark_agent i 5 noRes i]
  rfl

theorem Mach.retireBegin_agent_ne {j : Nat} (hj : j ≠ i) : (m.retireBegin i).agent j = m.agent j :=
  (KilnStore.withAgent_agent_ne _ _ _ hj).trans (m.withdrawPark_agent i 5 noRes j)

/-- The reach stands while an index retires. -/
theorem Mach.retireBegin_reachOf : (m.retireBegin i).reachOf i = m.reachOf i := by
  have ha := m.retireBegin_agent i
  have ht : (m.retireBegin i).time = m.time := m.withdrawPark_time i 5 noRes
  exact Mach.reachOf_congr ht (by rw [ha]) (by rw [ha]) (by rw [ha])

/-- RETIRE of an agent: its index enters QUARANTINED at once, or when its reach is empty. -/
theorem retire_begins {m : Mach} {i : Nat} {d : Desc} (hf : m.kilnFree) (hs : m.starts 0x0106 d) (ht : m.kilnTakes (kAgent d))
    (hi : refIdx (kAgent d) = i) (hst : (m.agent i).state = 2 ∨ (m.agent i).state = 3 ∨ (m.agent i).state = 6)
    (hh : (m.agent i).held = none) :
    let u := m.kilnCounted.retireBegin i
    retire d m = if (m.agent i).state == 6 || (u.reachOf i).isEmpty then (u.quarantine i 0).complete (d.as 0x0106) stOK (m.retireRes i)
      else u.holdOp i (.retire (d.as 0x0106)) := by
  rw [retire, m.kilnDesc_runs _ d _ _ hs hf]
  simp only [Desc.as_kAgent, hi, ht.kilnPre ht.refOk, ht.stale, Mach.kilnCounted_agent, releasable hst, hh, firstOf,
    Option.isSome_none]
  rfl

/-- RECOVER in place of a SILENT agent, to a resource of its chain, takes effect at once, or when its reach is empty. -/
theorem recover_inPlace {m : Mach} {i p : Nat} {d e : Desc} (hf : m.kilnFree) (hs : m.starts 0x0105 d) (he : d.as 0x0105 = e)
    (ht : m.kilnTakes (kAgent e)) (hi : refIdx (kAgent e) = i) (hst : (m.agent i).state = 3) (hh : (m.agent i).held = none)
    (h0 : Descs.fld e 18 1 = 0) (hk : m.kilnCounted.known (kRes e) = true)
    (hp : (m.agent i).chain.findIdx? (fun x => x == kRes e) = some p) :
    recover d m = if (m.kilnCounted.reachOf i).isEmpty then m.kilnCounted.recoverDo e
      else m.kilnCounted.holdOp i (.recover e) := by
  have hbad : (!refOk (kAgent e) || decide (Descs.fld e 18 1 > 1)) = false := by simp [ht.refOk, h0]
  obtain ⟨hlt, heq, -⟩ := List.findIdx?_eq_some_iff_getElem.mp hp
  have hmem : kRes e ∈ (m.agent i).chain := beq_iff_eq.mp heq ▸ List.getElem_mem hlt
  have hcheck : m.kilnCounted.recoverCheck e = none := by
    simp [Mach.recoverCheck, firstOf, hi, h0, hk, hmem]
  rw [recover, m.kilnDesc_runs _ d _ _ hs hf, he]
  simp only [hi, ht.kilnPre hbad, ht.stale, Mach.kilnCounted_agent, hst, hh, hcheck, firstOf, Option.isSome_none]
  rfl

/-! ### RECOVER takes effect (R147) -/

/-- The agent ADMITTED with its chain from a position on, and nothing held. -/
def Mach.recovered (m : Mach) (i p : Nat) : Mach :=
  let a := m.agent i
  let u := m.releaseTo i p
  (u.setStore (u.kiln.store.withAgent i
    { u.agent i with state := 2, held := none, recSince := a.recSince && a.state == 2 })).authShow

theorem Mach.recoverDo_inPlace {e : Desc} {p : Nat} (hi : refIdx (kAgent e) = i) (h0 : Descs.fld e 18 1 = 0)
    (hn : m.parkedOf i = none) (hp : (m.agent i).chain.findIdx? (fun x => x == kRes e) = some p) :
    m.recoverDo e = (m.recovered i p).complete e stOK (le 2 p ++ le 2 ((m.recovered i p).agent i).chain.length) := by
  unfold Mach.recoverDo
  simp only [hi, h0, hp, m.withdrawPark_absent i 5 noRes hn]
  rfl

theorem Mach.recovered_agent (p : Nat) : (m.recovered i p).agent i =
    { m.agent i with
      state := 2, held := none, recSince := (m.agent i).recSince && (m.agent i).state == 2,
      chain := (m.agent i).chain.drop p, gone := (m.agent i).gone + min p (m.agent i).chain.length } := by
  rw [Mach.recovered, Mach.authShow_agent, Mach.setStore_agent, KilnStore.withAgent_agent, Mach.releaseTo_agent]

theorem Mach.recovered_agent_ne (p : Nat) {j : Nat} (hj : j ≠ i) : (m.recovered i p).agent j = m.agent j := by
  rw [Mach.recovered, Mach.authShow_agent, Mach.setStore_agent, KilnStore.withAgent_agent_ne _ _ _ hj]
  exact m.releaseTo_agent_ne i p hj

theorem Mach.recovered_kilnOnly (p : Nat) : kilnOnly m (m.recovered i p) :=
  ((m.releaseTo_kilnOnly i p).trans (Mach.setStore_kilnOnly _ _)).trans (Mach.authShow_kilnOnly _)

/-! ### Held operations and automatic release (R146, R150) -/

variable {m i}

theorem heldOperationEffect_retire {d : Desc} (hr : m.reachOf i = []) (ha : m.isActive = true)
    (hh : (m.agent i).held = some (.retire d)) :
    heldOperationEffect i m = (m.quarantine i 0).complete d stOK (m.retireRes i) := by
  simp only [heldOperationEffect, hr, ha, hh]
  rfl

theorem autoRelease_due (hen : m.b KILN_SILENT_CFG_AUTOREL_EN = true) (hst : (m.agent i).state = 3)
    (hh : (m.agent i).held = none) (ha : m.isActive = true)
    (hd : (m.agent i).silentAt + 1000 * m.r KILN_SILENT_CFG_AUTOREL_S ≤ m.now) (hr : m.reachOf i = []) :
    autoRelease i m = (m.retireBegin i).autoDo i := by
  have hreach : ((m.retireBegin i).reachOf i).isEmpty = true := by rw [m.retireBegin_reachOf, hr]; rfl
  refine (if_pos (by simp [hen, hst, hh, ha, hd])).trans (if_pos hreach)

/-! ### The end of quarantine, and expiry (R171, R258) -/

theorem quarantineEnd_due (hst : (m.agent i).state = 5)
    (hd : Tabs.val m.air.tab.quarAt 0 i + 1000 * m.r AIR_QUAR_CFG_QUAR_S ≤ m.now) :
    quarantineEnd i m = (m.setStore (m.kiln.store.withAgent i { m.agent i with state := 0 })).setTab
      { m.air.tab with quarAt := Tabs.del m.air.tab.quarAt i, freeAt := Tabs.put m.air.tab.freeAt i m.now } :=
  if_pos (by simp [hst, hd])

variable (m i)

/-- The prefixes of an agent that are still in force. -/
def Mach.unexpired (m : Mach) (i : Nat) : List (Nat × Nat) := (m.agent i).issued.filter (fun e => !decide (diff32 m.pt e.2 ≥ 0))

/-- The agent's records with the expired ones gone. -/
def Mach.recordsExpired (m : Mach) (i : Nat) : Mach :=
  if (m.agent i).issued.any (fun e => decide (diff32 m.pt e.2 ≥ 0)) then
    m.setStore (m.kiln.store.withAgent i { m.agent i with issued := m.unexpired i })
  else m

/-- The Air region's entry goes with its record. -/
theorem authorityExpiry_cases : authorityExpiry i m = m.recordsExpired i ∨ authorityExpiry i m = (m.recordsExpired i).dropAuth i := by
  have h : authorityExpiry i m = match Tabs.look (m.recordsExpired i).air.tab.auth i with
      | some e => if decide (diff32 m.pt e.record.expiry ≥ 0) then (m.recordsExpired i).dropAuth i else m.recordsExpired i
      | none => m.recordsExpired i := rfl
  rw [h]
  split
  · split
    · exact .inr rfl
    · exact .inl rfl
  · exact .inl rfl

/-- Where nothing has expired the filter leaves every prefix. -/
theorem Mach.recordsExpired_agent : (m.recordsExpired i).agent i = { m.agent i with issued := m.unexpired i } := by
  unfold Mach.recordsExpired
  split
  · exact KilnStore.withAgent_agent _ _ _
  · rename_i h
    have hall : m.unexpired i = (m.agent i).issued := List.filter_eq_self.mpr fun e he => by
      simpa using fun hd => h (List.any_eq_true.mpr ⟨e, he, hd⟩)
    rw [hall]

theorem Mach.recordsExpired_agent_ne {j : Nat} (hj : j ≠ i) : (m.recordsExpired i).agent j = m.agent j := by
  unfold Mach.recordsExpired
  split
  · exact KilnStore.withAgent_agent_ne _ _ _ hj
  · rfl

theorem Mach.recordsExpired_hostMem : (m.recordsExpired i).hostMem = m.hostMem := by
  unfold Mach.recordsExpired
  split <;> rfl

/-- Settles O27: an equation for each operation where its conditions hold, and the agents' entries after it. -/
theorem agentsAreRecoveredAndRetired : Obligations.AgentsAreRecoveredAndRetired := by
  unfold Obligations.AgentsAreRecoveredAndRetired
  refine ⟨?recover, ?retire, fun a d s hr ha hh => s.on_eq (heldOperationEffect a) _ (heldOperationEffect_retire hr ha hh),
    fun a s hen hst hh ha hd hr => s.on_eq (autoRelease a) _ (autoRelease_due hen hst hh ha hd hr), ?quarantine, ?quarantineEnd,
    ?expiry⟩
  case recover =>
    intro d s p hs hf ht i a hst hh h0 hk hp hn
    have hrec := recover_inPlace (i := i) hf hs rfl ht rfl hst hh h0 hk hp
    have hreach : s.m.kilnCounted.reachOf i = s.m.reachOf i := Mach.reachOf_congr rfl rfl rfl rfl
    simp only [hreach, List.isEmpty_iff] at hrec
    refine ⟨fun hr => ?done, fun hr => ?held⟩
    case done =>
      let t := s.m.kilnCounted.recovered i p
      have hi := s.m.kilnCounted.recovered_agent i p
      have hlen : (t.agent i).chain.length = a.chain.length - p := by rw [hi]; exact List.length_drop
      have hdo := s.m.kilnCounted.recoverDo_inPlace i (e := d.as 0x0105) rfl h0 hn hp
      rw [hlen] at hdo
      refine ⟨t, s.on_eq (recover d) _ ((hrec.trans (if_pos hr)).trans hdo), ?_, ?_, ?_,
        fun j hj => s.m.kilnCounted.recovered_agent_ne i p hj,
        s.m.kilnCounted_kilnOnly.trans (s.m.kilnCounted.recovered_kilnOnly i p)⟩
      all_goals rw [hi]
      rfl
    case held =>
      exact ⟨_, s.on_eq (recover d) _ (hrec.trans (if_neg hr)), Mach.holdOp_agent _ i _,
        fun j hj => Mach.holdOp_agent_ne _ i _ hj, s.m.kilnCounted_kilnOnly.trans (Mach.setStore_kilnOnly _ _)⟩
  case retire =>
    intro d s hs hf ht i a c hst hh
    have hret := retire_begins hf hs ht rfl hst hh
    have hreach : (c.retireBegin i).reachOf i = s.m.reachOf i :=
      (c.retireBegin_reachOf i).trans (Mach.reachOf_congr rfl rfl rfl rfl)
    have hempty : (a.state == 6 || ((c.retireBegin i).reachOf i).isEmpty) = true ↔ a.state = 6 ∨ s.m.reachOf i = [] := by
      rw [hreach]; simp
    refine ⟨fun h => s.on_eq (retire d) _ (hret.trans (if_pos (hempty.mpr h))), fun h6 hr => ?held⟩
    case held =>
      refine ⟨_, s.on_eq (retire d) _ (hret.trans (if_neg fun h => (hempty.mp h).elim h6 hr)), ?_, ?_, ?_,
        fun j hj => (Mach.holdOp_agent_ne _ i _ hj).trans (c.retireBegin_agent_ne i hj)⟩
      all_goals rw [Mach.holdOp_agent, c.retireBegin_agent i]
      rfl
  case quarantine =>
    intro m i item hi
    refine ⟨?_, ?_, ?_, ?_, m.quarantine_agentLatched item hi, fun j hj => m.quarantine_agent_ne i item hj⟩
    all_goals rw [m.quarantine_agent]
  case quarantineEnd =>
    intro a s hst hd
    exact ⟨_, s.on_eq (quarantineEnd a) _ (quarantineEnd_due hst hd), KilnStore.withAgent_agent _ _ _,
      fun j hj => KilnStore.withAgent_agent_ne _ _ _ hj, Tabs.look_put_same _ _ _, rfl⟩
  case expiry =>
    intro a s
    have hi := s.m.recordsExpired_agent a
    have hrec : ∀ t : Mach, t.kiln = (s.m.recordsExpired a).kiln → t.hostMem = (s.m.recordsExpired a).hostMem →
        (t.agent a).issued = s.m.unexpired a ∧ (t.agent a).chain = (s.m.agent a).chain ∧
        (t.agent a).state = (s.m.agent a).state ∧ (∀ j, j ≠ a.val → t.agent j = s.m.agent j) ∧ t.hostMem = s.m.hostMem := by
      intro t hk hm
      have hag := Mach.agent_congr (congrArg KilnSt.store hk)
      rw [hag, hi, hm]
      exact ⟨rfl, rfl, rfl, fun j hj => (hag j).trans (s.m.recordsExpired_agent_ne a hj), s.m.recordsExpired_hostMem a⟩
    obtain hcase | hcase := authorityExpiry_cases s.m a
    · exact ⟨_, s.on_eq (authorityExpiry a) _ hcase, hrec _ rfl rfl⟩
    · exact ⟨_, s.on_eq (authorityExpiry a) _ hcase, hrec _ rfl rfl⟩

end Sys2Proof.Machine
end

section
/-! PROOFS. Frames: what an observation of the part keeps under writes of fields, under events and completions, while axes stop and
while parked requests are withdrawn. -/

namespace Sys2Proof.Machine

open Sys2Proof

variable {α : Type} (m : Mach)

/-! ### Fields that share no bit -/

/-- Field `g` at index `k` has no bit of field `f` at index `i`: another register, or other bits of one. -/
def Field.apart (g : Field) (k : Nat) (f : Field) (i : Nat) : Bool :=
  g.off k 0 != f.off i 0 || (g.reset == f.reset && decide (f.lo + f.width ≤ 32) &&
    (decide (g.lo + g.width ≤ f.lo) || decide (f.lo + f.width ≤ g.lo)))

theorem Mach.r_w_apart (f g : Field) (v i k : Nat) (h : g.apart k f i = true) : (m.w f v i).r g k = m.r g k := by
  simp only [Field.apart, Bool.or_eq_true, Bool.and_eq_true, bne_iff_ne, beq_iff_eq, decide_eq_true_eq] at h
  obtain ho | ⟨⟨hr, hw⟩, hd⟩ := h
  · exact m.r_w_ne f g v i 0 k 0 ho
  · exact m.r_w_bits f g v i 0 k 0 hr hw hd

/-! ### Observations -/

/-- An observation that writes of the listed fields, each at its index, leave. -/
def Kept (g : Mach → α) (l : List (Field × Nat)) : Prop := ∀ e ∈ l, ∀ (x : Mach) (v : Nat), g (x.w e.1 v e.2) = g x

theorem Kept.mono {g : Mach → α} {l l' : List (Field × Nat)} (h : Kept g l) (hl : l' ⊆ l) : Kept g l' :=
  fun e he => h e (hl he)

/-- A field keeps its value under writes of fields apart from it. -/
theorem kept_field (f : Field) (k : Nat) (l : List (Field × Nat)) (h : l.all (fun e => f.apart k e.1 e.2) = true) :
    Kept (fun x => x.r f k) l :=
  fun e he x v => x.r_w_apart e.1 f v e.2 k (List.all_eq_true.mp h e he)

/-- An observation that events and completions leave. -/
structure Calm (g : Mach → α) : Prop where
  event : ∀ (x : Mach) (code sev src : Nat) (args : List Byte), g (x.event code sev src args) = g x
  complete : ∀ (x : Mach) (d : Desc) (st : Nat) (res : List Byte), g (x.complete d st res) = g x

theorem calm_field (f : Field) (k : Nat) (h : quietOff (f.off k 0)) : Calm (fun x => x.r f k) :=
  ⟨fun x c s r a => x.r_event c s r a f k 0 h, fun x d st res => x.r_complete d st res f k 0 h⟩

/-! ### Axes that stop (R517) -/

/-- The fields that a stopping axis shows itself in. -/
def motFields : List (Field × Nat) :=
  (MOT_STATUS_QSTOP, 0) :: (MOT_STATUS_MOVING, 0) :: (List.range 8).flatMap fun a =>
    [MOT_AX_STATUS_QUEUE, MOT_AX_REMAIN_ALL, MOT_AX_VEL_ALL, MOT_AX_STATUS_STATE, MOT_AX_STATUS_UNCERTAIN, MOT_AX_STATUS_HOMED,
      MOT_AX_STATUS_BRIDGE, MOT_AX_CTRL_EN].map fun f => (f, a)

/-- An observation that no stop of an axis changes. -/
structure MotFree (g : Mach → α) : Prop extends Calm g where
  w : Kept g motFields
  mot : ∀ (x : Mach) (l : Tab Axis), g { x with mot := l } = g x

section Axes

variable {g : Mach → α} (h : MotFree g) {a : Nat} (ha : a < 8)
include h ha

theorem MotFree.axis_w (x : Mach) (f : Field) (v : Nat)
    (hf : f ∈ [MOT_AX_STATUS_QUEUE, MOT_AX_REMAIN_ALL, MOT_AX_VEL_ALL, MOT_AX_STATUS_STATE, MOT_AX_STATUS_UNCERTAIN,
      MOT_AX_STATUS_HOMED, MOT_AX_STATUS_BRIDGE, MOT_AX_CTRL_EN]) : g (x.w f v a) = g x :=
  h.w (f, a) (List.mem_cons_of_mem _ (List.mem_cons_of_mem _ (List.mem_flatMap.mpr
    ⟨a, List.mem_range.mpr ha, List.mem_map.mpr ⟨f, hf, rfl⟩⟩))) x v

theorem MotFree.setAxis (x : Mach) (y : Axis) : g (x.setAxis a y) = g x := by
  unfold Mach.setAxis Mach.wi
  rw [h.axis_w ha _ _ _ (by simp), h.axis_w ha _ _ _ (by simp), h.mot]

theorem MotFree.setAxState (x : Mach) (st : Nat) : g (x.setAxState a st) = g x := h.axis_w ha _ _ _ (by simp)

theorem MotFree.setVel (x : Mach) (v : Int) : g (x.setVel a v) = g x := by
  unfold Mach.setVel Mach.wi
  rw [h.w (MOT_STATUS_MOVING, 0) (by simp [motFields]), h.axis_w ha _ _ _ (by simp)]

theorem MotFree.bridgesOff (x : Mach) : g (x.bridgesOff a) = g x := by
  unfold Mach.bridgesOff
  rw [h.axis_w ha _ _ _ (by simp), h.setVel ha]
  split
  · rfl
  · rw [h.axis_w ha _ _ _ (by simp), h.axis_w ha _ _ _ (by simp)]

omit ha in
theorem MotFree.motDone (x : Mach) (d : Desc) (st b28 : Nat) : g (x.motDone a d st b28) = g x := h.complete x d st _

theorem MotFree.flushAxis (x : Mach) : g (x.flushAxis a) = g x :=
  (Mach.each_keeps _ g _ _ fun y mv _ => h.motDone y mv.d _ _).trans (h.setAxis ha x _)

theorem MotFree.endMotion (x : Mach) (st hfail : Nat) : g (x.endMotion a st hfail) = g x := by
  unfold Mach.endMotion
  dsimp only
  rw [Mach.each_keeps _ g _ _ fun y d _ => h.motDone y d stOK 0]
  split <;> split <;> simp only [h.motDone, h.setAxis ha]

/-- An axis that its stop switches off: its queue flushed, EN written 0. -/
theorem MotFree.axisOff (x : Mach) : g ((x.flushAxis a).w MOT_AX_CTRL_EN 0 a) = g x := by
  rw [h.axis_w ha _ _ _ (by simp), h.flushAxis ha]

theorem MotFree.finishStop (x : Mach) (k : AxisStop) : g (x.finishStop a k) = g x := by
  have hend : ∀ y : Mach, g ((y.endMotion a k.status k.hfail).axisStopEvent a k.status) = g y :=
    fun y => (h.event _ _ _ _ _).trans (h.endMotion ha y _ _)
  unfold Mach.finishStop
  dsimp only
  rw [h.setAxState ha]
  split <;> split <;> simp only [h.axisOff ha, hend, h.bridgesOff ha, h.setVel ha]

theorem MotFree.stopSlow (x : Mach) (k : AxisStop) : g (x.stopSlow a k) = g x := by
  unfold Mach.stopSlow
  dsimp only
  split
  · rw [h.setAxState ha, h.setAxis ha]
  · split
    · split <;> split <;> simp only [h.setAxState ha, h.axisOff ha, h.bridgesOff ha]
    · rfl

theorem MotFree.stopCat (x : Mach) (st : Nat) : g (x.stopCat a st) = g x := by
  unfold Mach.stopCat
  split
  · exact h.stopSlow ha x _
  · split
    · exact h.finishStop ha x _
    · exact h.stopSlow ha x _

end Axes

/-- The quick-stop lines change nothing but Motion, and what events and completions change. -/
theorem MotFree.quickStop {g : Mach → α} (h : MotFree g) : g m.quickStop = g m := by
  unfold Mach.quickStop
  refine (Mach.when_keeps _ g _ _ fun x => x.each_keeps g _ _ fun y a ha => h.stopCat ?_ y _).trans
    (h.w (MOT_STATUS_QSTOP, 0) (by simp [motFields]) m _)
  exact List.mem_range.mp (List.mem_filter.mp (List.mem_filter.mp ha).1).1

theorem kept_of_eq {g : Mach → α} (l : List (Field × Nat)) (h : ∀ (x : Mach) (f : Field) (v i : Nat), g (x.w f v i) = g x) :
    Kept g l := fun e _ x v => h x e.1 v e.2

@[simp] theorem Mach.quickStop_dam : m.quickStop.dam = m.dam :=
  MotFree.quickStop (g := Mach.dam) m { w := kept_of_eq _ (by simp), mot := fun _ _ => rfl, event := by simp, complete := by simp }

@[simp] theorem Mach.quickStop_air : m.quickStop.air = m.air :=
  MotFree.quickStop (g := Mach.air) m { w := kept_of_eq _ (by simp), mot := fun _ _ => rfl, event := by simp, complete := by simp }

/-! ### Parked requests that end (R141) -/

/-- The fields of Kiln that its store shows itself in. -/
def parkFields : List (Field × Nat) :=
  [(KILN_STATUS_AGENTS, 0), (KILN_STATUS_FIXTURES, 0), (KILN_PARK_STATUS_COUNT, 0), (KILN_PARK_STATUS_OLDEST, 0),
    (KILN_PARK_WITHDRAWN_ALL, 0)]

/-- An observation that neither Kiln's state nor the fields its store shows itself in change. -/
structure KilnFree (g : Mach → α) : Prop extends Calm g where
  w : Kept g parkFields
  kiln : ∀ (x : Mach) (k : KilnSt), g { x with kiln := k } = g x

variable {g : Mach → α}

theorem KilnFree.setStore (h : KilnFree g) (k : KilnStore) : g (m.setStore k) = g m := by
  unfold Mach.setStore
  dsimp only
  rw [h.w (KILN_PARK_STATUS_OLDEST, 0) (by simp [parkFields]), h.w (KILN_PARK_STATUS_COUNT, 0) (by simp [parkFields]),
    h.w (KILN_STATUS_FIXTURES, 0) (by simp [parkFields]), h.w (KILN_STATUS_AGENTS, 0) (by simp [parkFields]), h.kiln]

theorem KilnFree.withdrawPark (h : KilnFree g) (i outcome res : Nat) : g (m.withdrawPark i outcome res) = g m :=
  m.withdrawPark_keeps i outcome res g (fun x => (KilnFree.setStore _ h _).trans (h.kiln x _))
    (fun x => h.w (KILN_PARK_WITHDRAWN_ALL, 0) (by simp [parkFields]) x _) fun x _ => h.event x _ _ _ _

@[simp] theorem Mach.withdrawPark_dam (i outcome res : Nat) : (m.withdrawPark i outcome res).dam = m.dam :=
  m.withdrawPark_keeps i outcome res Mach.dam (fun _ => rfl) (fun _ => rfl) fun x _ => x.event_dam _ _ _ _

@[simp] theorem Mach.withdrawPark_air (i outcome res : Nat) : (m.withdrawPark i outcome res).air = m.air :=
  m.withdrawPark_keeps i outcome res Mach.air (fun _ => rfl) (fun _ => rfl) fun x _ => x.event_air _ _ _ _

end Sys2Proof.Machine
end

section
/-! PROOFS. What an asserting source does (06, R187 to R199, R205, R206, R214): the gate, the latches and the outputs, and what all
of it leaves. -/

namespace Sys2Proof.Machine

open Sys2Proof

variable {α : Type} (m : Mach)

/-! ### What an assertion leaves -/

/-- The fields that a flight cut off is counted in. -/
def cutFields : List (Field × Nat) := (CORR_IE_DISCARD_ALL, 0) :: (List.range 8).map fun x => (AIR_LANE_TX_US_ALL, x)

/-- The fields that show the gate closed and the flights it cuts. -/
def gateFields : List (Field × Nat) :=
  [(DAMP_STATUS_GATE, 0), (AIR_STATUS_GATE, 0), (AIR_STATUS_TX_OK, 0), (AIR_GATE_CUTS_ALL, 0)] ++ cutFields

/-- The fields that show the latches. -/
def latchFields : List (Field × Nat) :=
  [(DAMP_STATUS_SITE_LATCHED, 0), (DAMP_ZONE_LO_ALL, 0), (DAMP_ZONE_HI_ALL, 0)] ++ (List.range 16).map fun w => (DAMP_AGENT_ALL, w)

/-- The fields that latches which gain a stop change, those of axes and parked requests among them. -/
def gainFields : List (Field × Nat) :=
  latchFields ++ [(DAMP_STATUS_OUT_A, 0), (DAMP_STATUS_OUT_B, 0), (DAMP_STATUS_FIX_EN_N, 0), (DAMP_STATUS_BURSTS_LEFT, 0)] ++
    parkFields ++ motFields

/-- The fields in which the end of an arm shows. -/
def armFields : List (Field × Nat) := [(DAMP_STATUS_ARMED, 0), (DAMP_ARM_ENDED_ALL, 0)]

/-- The fields in which DAMP_CAUSE is told. -/
def causeFields : List (Field × Nat) := [(DAMP_CAUSE_SOURCE, 0), (DAMP_CAUSE_DETAIL, 0), (DAMP_CAUSE_PT_ALL, 0)]

/-- The fields that an assertion changes beside those that tell of its source. -/
def stopFields : List (Field × Nat) := gainFields ++ gateFields ++ armFields

/-- The fields that an assertion changes. -/
def assertFields : List (Field × Nat) := [(DAMP_SRC_SEEN_SEEN, 0), (DAMP_LATCH_COUNT_ALL, 0)] ++ causeFields ++ stopFields

/-- An observation of what an assertion with the listed fields leaves: no state of Damper, the Air region, Kiln and Motion, none
of the frames sent to the mate. -/
structure StopFree (l : List (Field × Nat)) (g : Mach → α) : Prop extends Calm g where
  w : Kept g l
  mot : ∀ (x : Mach) (t : Tab Axis), g { x with mot := t } = g x
  kiln : ∀ (x : Mach) (k : KilnSt), g { x with kiln := k } = g x
  dam : ∀ (x : Mach) (d : DamSt), g { x with dam := d } = g x
  air : ∀ (x : Mach) (a : AirSt), g { x with air := a } = g x
  free : ∀ (x : Mach) (n : Nat), g { x with freeCtr := n } = g x
  emit : ∀ (x : Mach) (e : Emission), g (x.emit e) = g x
  send : ∀ (x : Mach) (final : Bool) (b : MateBody), g (x.mateSend final b) = g x

theorem StopFree.mono {l l' : List (Field × Nat)} {g : Mach → α} (h : StopFree l g) (hl : l' ⊆ l) : StopFree l' g :=
  { h with w := h.w.mono hl }

@[simp] theorem Mach.mateSend_regs (final : Bool) (b : MateBody) : (m.mateSend final b).regs = m.regs := by
  unfold Mach.mateSend; split <;> rfl

/-- A field apart from those listed. -/
theorem stopFree_field (f : Field) (k : Nat) (l : List (Field × Nat)) (h : l.all (fun e => f.apart k e.1 e.2) = true)
    (hq : quietOff (f.off k 0)) : StopFree l (fun x => x.r f k) :=
  { calm_field f k hq with
    w := kept_field f k l h, mot := fun _ _ => rfl, kiln := fun _ _ => rfl, dam := fun _ _ => rfl, air := fun _ _ => rfl,
    free := fun _ _ => rfl, emit := fun _ _ => rfl, send := fun x c b => Mach.r_of_regs (x.mateSend_regs c b) f k 0 }

/-- A one-bit field apart from those listed. -/
theorem StopFree.bit {f : Field} {k : Nat} {l : List (Field × Nat)} (h : StopFree l (fun x => x.r f k)) :
    StopFree l (fun x => x.b f k) :=
  { event := fun x c s r a => congrArg (· != 0) (h.event x c s r a)
    complete := fun x d st res => congrArg (· != 0) (h.complete x d st res)
    w := fun e he x v => congrArg (· != 0) (h.w e he x v), mot := fun _ _ => rfl, kiln := fun _ _ => rfl, dam := fun _ _ => rfl
    air := fun _ _ => rfl, free := fun _ _ => rfl, emit := fun _ _ => rfl, send := fun x c b => congrArg (· != 0) (h.send x c b) }

theorem stopFree_intc (l : List (Field × Nat)) : StopFree l Mach.intc :=
  { event := by simp, complete := by simp, w := kept_of_eq _ (by simp), mot := fun _ _ => rfl, kiln := fun _ _ => rfl
    dam := fun _ _ => rfl, air := fun _ _ => rfl, free := fun _ _ => rfl, emit := fun _ _ => rfl
    send := fun x c b => by unfold Mach.mateSend; split <;> rfl }

theorem stopFree_time (l : List (Field × Nat)) : StopFree l Mach.time :=
  { event := by simp, complete := by simp, w := kept_of_eq _ (by simp), mot := fun _ _ => rfl, kiln := fun _ _ => rfl
    dam := fun _ _ => rfl, air := fun _ _ => rfl, free := fun _ _ => rfl, emit := fun _ _ => rfl
    send := fun x c b => by unfold Mach.mateSend; split <;> rfl }

section Frames

variable {g : Mach → α} {l : List (Field × Nat)} (h : StopFree l g)
include h

theorem StopFree.cutFlight (hl : cutFields ⊆ l) (x : Mach) (f : Flight) : g (x.cutFlight f) = g x := by
  have htx : ∀ (y : Mach) (v : Nat), g (y.w AIR_LANE_TX_US_ALL v f.lane) = g y :=
    h.w (AIR_LANE_TX_US_ALL, f.lane) (hl (List.mem_cons_of_mem _ (List.mem_map.mpr ⟨_, List.mem_range.mpr f.lane.isLt, rfl⟩)))
  have hdis : ∀ y : Mach, g (y.inc CORR_IE_DISCARD_ALL) = g y := fun y => h.w (CORR_IE_DISCARD_ALL, 0) (hl List.mem_cons_self) y _
  unfold Mach.cutFlight Mach.chargeTx Mach.incBy Mach.corrCut
  dsimp only
  rw [htx, h.air, h.emit]
  exact (Mach.when_keeps _ g _ _ hdis).trans (h.free x _)

theorem StopFree.paRest (x : Mach) : g x.paRest = g x := by
  have hpin : ∀ (y : Mach) (p : PaPins), g (y.setPins p) = g y := fun y p => (h.emit _ _).trans (h.air y _)
  unfold Mach.paRest
  split
  · rw [hpin, hpin, hpin]
  · rfl

theorem StopFree.gateClose (hl : gateFields ⊆ l) : g m.gateClose = g m := by
  have hw : ∀ f, (f, 0) ∈ gateFields → ∀ (x : Mach) (v : Nat), g (x.w f v) = g x := fun f hf => h.w (f, 0) (hl hf)
  refine (h.paRest _).trans ((h.air _ _).trans ((Mach.each_keeps _ g _ _ fun x f _ => h.cutFlight ?_ x f).trans ?_))
  · exact fun e he => hl (List.mem_append_right _ he)
  · unfold Mach.incBy
    iterate 4 rw [hw _ (by simp [gateFields])]

theorem StopFree.setLatches (hl : latchFields ⊆ l) (x : Mach) (s : Stops) : g (x.setLatches s) = g x := by
  have hw : ∀ f i, (f, i) ∈ latchFields → ∀ (x : Mach) (v : Nat), g (x.w f v i) = g x := fun f i hf => h.w (f, i) (hl hf)
  unfold Mach.setLatches Mach.wb
  refine (Mach.each_keeps _ g _ _ fun y w h16 => hw _ w ?_ y _).trans ?_
  · exact List.mem_append_right _ (List.mem_map.mpr ⟨w, h16, rfl⟩)
  · iterate 3 rw [hw _ 0 (by simp [latchFields])]
    exact h.dam x _

theorem StopFree.outputs (hl : gainFields ⊆ l) (x : Mach) : g x.releaseOutputs = g x := by
  have hw : ∀ f, (f, 0) ∈ gainFields → ∀ (x : Mach) (v : Nat), g (x.w f v) = g x := fun f hf => h.w (f, 0) (hl hf)
  have hout : g (x.setStopOut false) = g x := by
    unfold Mach.setStopOut Mach.wb
    dsimp only
    rw [hw _ (by simp [gainFields]), hw _ (by simp [gainFields]), h.dam]
  unfold Mach.releaseOutputs Mach.setFixEn Mach.wb
  dsimp only
  split
  · rw [hw _ (by simp [gainFields]), h.dam, hout]
  · split
    · rw [h.dam, hout]
    · exact hout

theorem StopFree.kilnFree (hl : parkFields ⊆ l) : KilnFree g := { h with w := h.w.mono hl }

theorem StopFree.motFree (hl : motFields ⊆ l) : MotFree g := { h with w := h.w.mono hl }

theorem StopFree.gainStops (hl : gainFields ⊆ l) (what : Stops) : g (m.gainStops what) = g m := by
  have hlatch : latchFields ⊆ l := fun e he => hl (List.mem_append_left _ (List.mem_append_left _ (List.mem_append_left _ he)))
  have hpark : parkFields ⊆ l := fun e he => hl (List.mem_append_left _ (List.mem_append_right _ he))
  have hmot : motFields ⊆ l := fun e he => hl (List.mem_append_right _ he)
  unfold Mach.gainStops
  extract_lets old latched released parked stopped
  have hstop : g stopped = g m := by
    refine (MotFree.quickStop _ (h.motFree hmot)).trans
      ((Mach.each_keeps _ g _ _ fun x i _ => KilnFree.withdrawPark x (h.kilnFree hpark) i 2 noRes).trans ?_)
    exact (Mach.when_keeps _ g _ _ fun x => h.outputs hl x).trans (h.setLatches hlatch m _)
  split
  · refine (Mach.when_keeps _ g _ _ fun x => h.send x _ _).trans ((h.w (DAMP_STATUS_BURSTS_LEFT, 0) (hl ?_) _ _).trans hstop)
    simp [gainFields]
  · exact hstop

theorem StopFree.armEnd (hl : armFields ⊆ l) (why : Nat) : g (m.armEnd why) = g m := by
  have hw : ∀ f, (f, 0) ∈ armFields → ∀ (x : Mach) (v : Nat), g (x.w f v) = g x := fun f hf => h.w (f, 0) (hl hf)
  unfold Mach.armEnd Mach.inc Mach.incBy
  split
  · rfl
  · rw [h.event, hw _ (by simp [armFields]), hw _ (by simp [armFields]), h.dam]

theorem StopFree.setCause (hl : causeFields ⊆ l) (src detail : Nat) : g (m.setCause src detail) = g m := by
  have hw : ∀ f, (f, 0) ∈ causeFields → ∀ (x : Mach) (v : Nat), g (x.w f v) = g x := fun f hf => h.w (f, 0) (hl hf)
  unfold Mach.setCause
  iterate 3 rw [hw _ (by simp [causeFields])]

end Frames

/-! ### An assertion in two steps -/

/-- The source is seen and counted, and DAMP_CAUSE names it where it is to (R188). -/
def Mach.stopNoted (m : Mach) (src detail : Nat) (what : Stops) : Mach :=
  let n := (m.w DAMP_SRC_SEEN_SEEN (m.r DAMP_SRC_SEEN_SEEN ||| (1 <<< src))).inc DAMP_LATCH_COUNT_ALL
  n.when (what.site && !n.siteLatched || (what.site && (src == 11 || src == 12))) (fun n => n.setCause src detail)

/-- The arm ends, a stop between a confirm and its boundary is kept, and the stop counts as this unit's own (R205, R206, R216). -/
def Mach.stopOwned (m : Mach) (src detail : Nat) (what : Stops) : Mach :=
  let n := m.armEnd 1
  let n := n.when n.dam.release.isSome
    (fun n => { n with dam := { n.dam with again := n.dam.again ++ [⟨src, detail, what⟩] } })
  { n with dam := { n.dam with own := n.dam.own.join what } }

theorem Mach.assertSource_eq (src detail : Nat) (what : Stops) : m.assertSource src detail what =
    ((((m.stopNoted src detail what).stopOwned src detail what).gateClose).gainStops what).when
      (what.site && !((m.w DAMP_SRC_SEEN_SEEN (m.r DAMP_SRC_SEEN_SEEN ||| (1 <<< src))).inc DAMP_LATCH_COUNT_ALL).siteLatched)
      (fun m => m.event 0x0201 3 17 (le 1 src ++ le 1 detail ++ le 4 (m.r DAMP_CAUSE_PT_ALL))) := rfl

section Frames

variable {g : Mach → α} {l : List (Field × Nat)} (h : StopFree l g)
include h

theorem StopFree.stopOwned (hl : armFields ⊆ l) (src detail : Nat) (what : Stops) : g (m.stopOwned src detail what) = g m := by
  unfold Mach.stopOwned
  dsimp only
  rw [h.dam, Mach.when_keeps _ g _ _ fun x => h.dam x _, h.armEnd m hl]

/-- What an assertion leaves once the source is noted. -/
theorem StopFree.noted (hl : stopFields ⊆ l) (src detail : Nat) (what : Stops) :
    g (m.assertSource src detail what) = g (m.stopNoted src detail what) := by
  have hgain : gainFields ⊆ l := fun e he => hl (List.mem_append_left _ (List.mem_append_left _ he))
  have hgate : gateFields ⊆ l := fun e he => hl (List.mem_append_left _ (List.mem_append_right _ he))
  have harm : armFields ⊆ l := fun e he => hl (List.mem_append_right _ he)
  rw [Mach.assertSource_eq, Mach.when_keeps _ g _ _ fun x => h.event x _ _ _ _, h.gainStops _ hgain, h.gateClose _ hgate,
    h.stopOwned _ harm]

theorem StopFree.assertSource (hl : assertFields ⊆ l) (src detail : Nat) (what : Stops) :
    g (m.assertSource src detail what) = g m := by
  have hcause : causeFields ⊆ l := fun e he => hl (List.mem_append_left _ (List.mem_append_right _ he))
  refine (h.noted m (fun e he => hl (List.mem_append_right _ he)) src detail what).trans ?_
  unfold Mach.stopNoted Mach.inc Mach.incBy
  dsimp only
  rw [Mach.when_keeps _ g _ _ fun x => h.setCause x hcause src detail,
    h.w (DAMP_LATCH_COUNT_ALL, 0) (hl (by simp [assertFields])), h.w (DAMP_SRC_SEEN_SEEN, 0) (hl (by simp [assertFields]))]

end Frames

/-- A field that an assertion leaves. -/
theorem Mach.assertSource_r (src detail : Nat) (what : Stops) (f : Field) (k : Nat)
    (h : assertFields.all (fun e => f.apart k e.1 e.2) = true) (hq : quietOff (f.off k 0)) :
    (m.assertSource src detail what).r f k = m.r f k :=
  (stopFree_field f k _ h hq).assertSource m (fun _ he => he) src detail what

end Sys2Proof.Machine
end

section
/-! PROOFS. What an asserting source does to the state of Damper, Kiln's agents and the Air region (06, R187, R193, R205, R206,
R214). -/

namespace Sys2Proof.Machine

open Sys2Proof

variable (m : Mach)

/-! ### The gate -/

theorem Mach.corrCut_state (f : Flight) : (m.corrCut f).dam = m.dam ∧ (m.corrCut f).kiln = m.kiln :=
  ⟨m.when_keeps Mach.dam _ _ fun _ => rfl, m.when_keeps Mach.kiln _ _ fun _ => rfl⟩

@[simp] theorem Mach.cutFlight_dam (f : Flight) : (m.cutFlight f).dam = m.dam := (Mach.corrCut_state _ f).1
@[simp] theorem Mach.cutFlight_kiln (f : Flight) : (m.cutFlight f).kiln = m.kiln := (Mach.corrCut_state _ f).2
/-- PA pins at rest change nothing but the pins. -/
theorem Mach.paRest_state : m.paRest.dam = m.dam ∧ m.paRest.kiln = m.kiln ∧
    m.paRest.air = { m.air with pins := m.paRest.air.pins } := by
  unfold Mach.paRest
  split <;> exact ⟨rfl, rfl, rfl⟩

@[simp] theorem Mach.gateClose_dam : m.gateClose.dam = m.dam :=
  (Mach.paRest_state _).1.trans (Mach.each_keeps _ Mach.dam _ _ fun x f _ => x.cutFlight_dam f)

@[simp] theorem Mach.gateClose_kiln : m.gateClose.kiln = m.kiln :=
  (Mach.paRest_state _).2.1.trans (Mach.each_keeps _ Mach.kiln _ _ fun x f _ => x.cutFlight_kiln f)

theorem Mach.gateClose_inFlight : m.gateClose.air.inFlight = [] := congrArg AirSt.inFlight (Mach.paRest_state _).2.2
theorem Mach.gateClose_acks : m.gateClose.air.acks = [] := congrArg AirSt.acks (Mach.paRest_state _).2.2

theorem Mach.gateClose_ended : m.gateClose.air.ended =
    m.air.ended ++ m.air.inFlight.filter (fun f => decide (f.start + f.us ≤ m.slotUs)) :=
  congrArg AirSt.ended (Mach.paRest_state _).2.2

/-- What the writes after those of the gate's own fields leave is what stands when the frames cut have been counted. -/
theorem StopFree.cuts {α : Type} {g : Mach → α} (h : StopFree cutFields g) : g m.gateClose =
    g ((((m.w DAMP_STATUS_GATE 1).w AIR_STATUS_GATE 1).w AIR_STATUS_TX_OK 0).incBy AIR_GATE_CUTS_ALL
      (m.air.inFlight.filter (fun f => decide (m.slotUs < f.start + f.us))).length) :=
  (h.paRest _).trans ((h.air _ _).trans (Mach.each_keeps _ g _ _ fun x f _ => h.cutFlight (fun _ he => he) x f))

theorem Mach.gateClose_gate : m.gateClose.r AIR_STATUS_GATE = 1 := by
  refine (StopFree.cuts m (stopFree_field AIR_STATUS_GATE 0 _ (by decide) (by unfold quietOff; decide))).trans ?_
  rw [Mach.incBy, Mach.r_w_apart _ _ _ _ _ _ (by decide), Mach.r_w_apart _ _ _ _ _ _ (by decide), Mach.r_w_same _ _ _ _ _ (by decide)]
  rfl

theorem Mach.gateClose_txOk : m.gateClose.r AIR_STATUS_TX_OK = 0 := by
  refine (StopFree.cuts m (stopFree_field AIR_STATUS_TX_OK 0 _ (by decide) (by unfold quietOff; decide))).trans ?_
  rw [Mach.incBy, Mach.r_w_apart _ _ _ _ _ _ (by decide), Mach.r_w_same _ _ _ _ _ (by decide)]
  rfl

theorem Mach.r_incBy_same (f : Field) (n i : Nat) (hw : f.lo + f.width ≤ 32) :
    (m.incBy f n i).r f i = min (m.r f i + n) (2 ^ f.width - 1) := by
  rw [Mach.incBy, m.r_w_same f _ i 0 hw]
  exact Nat.mod_eq_of_lt (Nat.lt_of_le_of_lt (Nat.min_le_right _ _) (Nat.sub_lt (Nat.two_pow_pos _) Nat.one_pos))

theorem Mach.gateClose_cuts : m.gateClose.r AIR_GATE_CUTS_ALL = min (m.r AIR_GATE_CUTS_ALL +
    (m.air.inFlight.filter (fun f => decide (m.slotUs < f.start + f.us))).length) 0xFFFFFFFF := by
  refine (StopFree.cuts m (stopFree_field AIR_GATE_CUTS_ALL 0 _ (by decide) (by unfold quietOff; decide))).trans ?_
  rw [Mach.r_incBy_same _ _ _ _ (by decide)]
  iterate 3 rw [Mach.r_w_apart _ _ _ _ _ _ (by decide)]
  rfl

/-! ### Latches that gain a stop -/

/-- Damper with its outputs released (R193, R214). -/
def DamSt.released (d : DamSt) (delay now : Nat) : DamSt :=
  if delay = 0 then { d with run := false, fixRun := false, fixDue := none }
  else if d.fixRun then { d with run := false, fixDue := some (now + delay) } else { d with run := false }

theorem DamSt.released_run (d : DamSt) (delay now : Nat) : (d.released delay now).run = false := by
  unfold DamSt.released; split
  · rfl
  · split <;> rfl

theorem DamSt.released_now (d : DamSt) (now : Nat) : d.released 0 now = { d with run := false, fixRun := false, fixDue := none } :=
  if_pos rfl

theorem DamSt.released_later (d : DamSt) {delay : Nat} (now : Nat) (h : delay ≠ 0) (hf : d.fixRun = true) :
    d.released delay now = { d with run := false, fixDue := some (now + delay) } := (if_neg h).trans (if_pos hf)

/-- All but the outputs stand. -/
theorem DamSt.released_rest (d : DamSt) (delay now : Nat) : d.released delay now =
    { d with run := (d.released delay now).run, fixRun := (d.released delay now).fixRun,
             fixDue := (d.released delay now).fixDue } := by
  unfold DamSt.released; split
  · rfl
  · split <;> rfl

theorem Mach.releaseOutputs_dam : m.releaseOutputs.dam = m.dam.released (m.r DAMP_FIX_CFG_DELAY_MS) m.now := by
  have hd : (m.setStopOut false).r DAMP_FIX_CFG_DELAY_MS = m.r DAMP_FIX_CFG_DELAY_MS := by
    unfold Mach.setStopOut Mach.wb
    dsimp only
    rw [Mach.r_w_apart _ _ _ _ _ _ (by decide), Mach.r_w_apart _ _ _ _ _ _ (by decide)]
    rfl
  unfold Mach.releaseOutputs DamSt.released
  dsimp only
  rw [hd]
  by_cases h0 : m.r DAMP_FIX_CFG_DELAY_MS = 0
  · rw [if_pos h0, if_pos (beq_iff_eq.mpr h0)]
    rfl
  · rw [if_neg h0, if_neg (fun h => h0 (beq_iff_eq.mp h))]
    exact apply_ite Mach.dam _ _ _

@[simp] theorem Mach.releaseOutputs_kiln : m.releaseOutputs.kiln = m.kiln := by
  unfold Mach.releaseOutputs; dsimp only; split
  · rfl
  · split <;> rfl

@[simp] theorem Mach.releaseOutputs_air : m.releaseOutputs.air = m.air := by
  unfold Mach.releaseOutputs; dsimp only; split
  · rfl
  · split <;> rfl

@[simp] theorem Mach.mateSend_dam (final : Bool) (b : MateBody) : (m.mateSend final b).dam = m.dam := by
  unfold Mach.mateSend; split <;> rfl
@[simp] theorem Mach.mateSend_kiln (final : Bool) (b : MateBody) : (m.mateSend final b).kiln = m.kiln := by
  unfold Mach.mateSend; split <;> rfl
@[simp] theorem Mach.mateSend_air (final : Bool) (b : MateBody) : (m.mateSend final b).air = m.air := by
  unfold Mach.mateSend; split <;> rfl

theorem Mach.setLatches_dam (s : Stops) : (m.setLatches s).dam = { m.dam with agents := s.agents } :=
  Mach.each_keeps _ Mach.dam _ _ fun _ _ _ => rfl

@[simp] theorem Mach.setLatches_air (s : Stops) : (m.setLatches s).air = m.air :=
  Mach.each_keeps _ Mach.air _ _ fun _ _ _ => rfl

/-- Latches gained: axes, parked requests, bursts and the mate's frame change none of Damper, Air and the agents. -/
theorem Mach.gainStops_keeps {α : Type} (what : Stops) (g : Mach → α)
    (hpark : ∀ (x : Mach) (i : Nat), g (x.withdrawPark i 2) = g x) (hstop : ∀ x : Mach, g x.quickStop = g x)
    (hburst : ∀ x : Mach, g (x.w DAMP_STATUS_BURSTS_LEFT 3) = g x)
    (hsend : ∀ (x : Mach) (b : MateBody), g (x.mateSend false b) = g x) :
    g (m.gainStops what) =
      g ((m.setLatches (m.latched.join what)).when (what.site && !m.latched.site) Mach.releaseOutputs) := by
  unfold Mach.gainStops
  extract_lets old latched released parked stopped
  have h : g stopped = g released := (hstop parked).trans (released.each_keeps g _ _ fun x i _ => hpark x i)
  split
  · exact (Mach.when_keeps _ g _ _ fun x => hsend x _).trans ((hburst _).trans h)
  · exact h

theorem Mach.gainStops_dam (what : Stops) : (m.gainStops what).dam =
    let d := { m.dam with agents := (m.latched.join what).agents }
    if what.site && !m.latched.site then d.released (m.r DAMP_FIX_CFG_DELAY_MS) m.now else d := by
  rw [m.gainStops_keeps what Mach.dam (by simp) (by simp) (fun _ => rfl) (by simp)]
  unfold Mach.when
  dsimp only
  split
  · have hd : (m.setLatches (m.latched.join what)).r DAMP_FIX_CFG_DELAY_MS = m.r DAMP_FIX_CFG_DELAY_MS :=
      (stopFree_field DAMP_FIX_CFG_DELAY_MS 0 latchFields (by decide) (by unfold quietOff; decide)).setLatches (fun _ he => he) m _
    rw [Mach.releaseOutputs_dam, Mach.setLatches_dam, hd]
    exact congrArg (DamSt.released _ _) (congrArg IntcSt.ticks (Mach.each_keeps _ Mach.intc _ _ fun _ _ _ => rfl))
  · exact m.setLatches_dam _

@[simp] theorem Mach.gainStops_air (what : Stops) : (m.gainStops what).air = m.air := by
  rw [m.gainStops_keeps what Mach.air (by simp) (by simp) (fun _ => rfl) (by simp),
    Mach.when_keeps _ Mach.air _ _ fun x => x.releaseOutputs_air, Mach.setLatches_air]

@[simp] theorem Mach.gainStops_agent (what : Stops) (j : Nat) : (m.gainStops what).agent j = m.agent j := by
  have hk : ∀ a b : Mach, a.kiln = b.kiln → a.agent j = b.agent j := fun a b h => Mach.agent_congr (congrArg KilnSt.store h) j
  rw [m.gainStops_keeps what (fun x => x.agent j) (fun x i => x.withdrawPark_agent i 2 noRes j)
    (fun x => hk _ _ x.quickStop_kiln) (fun _ => rfl) (fun x b => hk _ _ (x.mateSend_kiln _ b))]
  exact hk _ _ ((Mach.when_keeps _ Mach.kiln _ _ fun x => x.releaseOutputs_kiln).trans (m.setLatches_kiln _))

/-! ### The assertion -/

/-- Damper after a source asserted: the arm has ended, the stop is kept for a boundary and counts as this unit's own. -/
def DamSt.owned (d : DamSt) (src detail : Nat) (what : Stops) : DamSt :=
  { d with
    arm := none
    ended := match d.arm with
      | none => d.ended
      | some a => some (a.ticket, 1)
    again := if d.release.isSome then d.again ++ [⟨src, detail, what⟩] else d.again
    own := d.own.join what }

theorem Mach.armEnd_none (why : Nat) (h : m.dam.arm = none) : m.armEnd why = m := by
  unfold Mach.armEnd
  rw [h]

theorem Mach.armEnd_some (why : Nat) (a : DamArm) (h : m.dam.arm = some a) : m.armEnd why =
    ((({ m with dam := { m.dam with arm := none, ended := some (a.ticket, why) } } : Mach).w DAMP_STATUS_ARMED 0).inc
      DAMP_ARM_ENDED_ALL).event 0x0203 1 17 (le 2 a.ticket ++ le 1 why) := by
  unfold Mach.armEnd
  rw [h]

theorem Mach.armEnd_dam (why : Nat) : (m.armEnd why).dam = { m.dam with
    arm := none
    ended := match m.dam.arm with
      | none => m.dam.ended
      | some a => some (a.ticket, why) } := by
  cases h : m.dam.arm with
  | none =>
    rw [m.armEnd_none why h]
    exact congrArg (fun a => { m.dam with arm := a }) h
  | some a =>
    rw [m.armEnd_some why a h, Mach.event_dam]
    rfl

@[simp] theorem Mach.armEnd_kiln (why : Nat) : (m.armEnd why).kiln = m.kiln := by
  unfold Mach.armEnd
  split
  · rfl
  · exact Mach.event_kiln ..

@[simp] theorem Mach.armEnd_air (why : Nat) : (m.armEnd why).air = m.air := by
  unfold Mach.armEnd
  split
  · rfl
  · exact Mach.event_air ..

theorem Mach.stopOwned_dam (src detail : Nat) (what : Stops) :
    (m.stopOwned src detail what).dam = m.dam.owned src detail what := by
  have ha := m.armEnd_dam 1
  unfold Mach.stopOwned DamSt.owned Mach.when
  dsimp only
  generalize m.armEnd 1 = x at ha
  rw [show m.dam.release = x.dam.release by rw [ha]]
  split <;> simp only [ha]

@[simp] theorem Mach.stopOwned_kiln (src detail : Nat) (what : Stops) : (m.stopOwned src detail what).kiln = m.kiln := by
  refine (Mach.when_keeps (m.armEnd 1) Mach.kiln _ _ fun _ => ?_).trans (m.armEnd_kiln 1)
  rfl

@[simp] theorem Mach.stopOwned_air (src detail : Nat) (what : Stops) : (m.stopOwned src detail what).air = m.air := by
  refine (Mach.when_keeps (m.armEnd 1) Mach.air _ _ fun _ => ?_).trans (m.armEnd_air 1)
  rfl

@[simp] theorem Mach.stopNoted_dam (src detail : Nat) (what : Stops) : (m.stopNoted src detail what).dam = m.dam :=
  Mach.when_keeps _ Mach.dam _ _ fun _ => rfl
@[simp] theorem Mach.stopNoted_kiln (src detail : Nat) (what : Stops) : (m.stopNoted src detail what).kiln = m.kiln :=
  Mach.when_keeps _ Mach.kiln _ _ fun _ => rfl
@[simp] theorem Mach.stopNoted_air (src detail : Nat) (what : Stops) : (m.stopNoted src detail what).air = m.air :=
  Mach.when_keeps _ Mach.air _ _ fun _ => rfl

/-! ### The assertion up to the latches -/

/-- The stop is noted and owned, the gate closed. -/
def Mach.stopGated (m : Mach) (src detail : Nat) (what : Stops) : Mach :=
  ((m.stopNoted src detail what).stopOwned src detail what).gateClose

/-- The fields that tell of the source and of the arm's end. -/
def ownedFields : List (Field × Nat) :=
  [(DAMP_SRC_SEEN_SEEN, 0), (DAMP_LATCH_COUNT_ALL, 0)] ++ causeFields ++ armFields

/-- The fields that change before the latches do. -/
def gatedFields : List (Field × Nat) := ownedFields ++ gateFields

section Frames

variable {α : Type} {g : Mach → α} {l : List (Field × Nat)} (h : StopFree l g) (src detail : Nat) (what : Stops)
include h

theorem StopFree.owning (hl : ownedFields ⊆ l) : g ((m.stopNoted src detail what).stopOwned src detail what) = g m := by
  have hcause : causeFields ⊆ l := fun e he => hl (List.mem_append_left _ (List.mem_append_right _ he))
  refine (h.stopOwned _ (fun e he => hl (List.mem_append_right _ he)) _ _ _).trans ?_
  unfold Mach.stopNoted Mach.inc Mach.incBy
  dsimp only
  rw [Mach.when_keeps _ g _ _ fun x => h.setCause x hcause src detail, h.w (DAMP_LATCH_COUNT_ALL, 0) (hl (by simp [ownedFields])),
    h.w (DAMP_SRC_SEEN_SEEN, 0) (hl (by simp [ownedFields]))]

theorem StopFree.gated (hl : gatedFields ⊆ l) : g (m.stopGated src detail what) = g m :=
  (h.gateClose _ fun _ he => hl (List.mem_append_right _ he)).trans
    (h.owning m src detail what fun _ he => hl (List.mem_append_left _ he))

end Frames

theorem Mach.stopGated_dam (src detail : Nat) (what : Stops) :
    (m.stopGated src detail what).dam = m.dam.owned src detail what := by
  rw [Mach.stopGated, Mach.gateClose_dam, Mach.stopOwned_dam, Mach.stopNoted_dam]

theorem Mach.stopGated_kiln (src detail : Nat) (what : Stops) : (m.stopGated src detail what).kiln = m.kiln := by
  rw [Mach.stopGated, Mach.gateClose_kiln, Mach.stopOwned_kiln, Mach.stopNoted_kiln]

/-- A field that stands until the latches change. -/
theorem Mach.stopGated_r (src detail : Nat) (what : Stops) (f : Field) (k : Nat)
    (h : gatedFields.all (fun e => f.apart k e.1 e.2) = true) (hq : quietOff (f.off k 0)) :
    (m.stopGated src detail what).r f k = m.r f k := (stopFree_field f k _ h hq).gated m src detail what fun _ he => he

theorem Mach.latched_congr {a b : Mach} (hs : a.r DAMP_STATUS_SITE_LATCHED = b.r DAMP_STATUS_SITE_LATCHED)
    (hlo : a.r DAMP_ZONE_LO_ALL = b.r DAMP_ZONE_LO_ALL) (hhi : a.r DAMP_ZONE_HI_ALL = b.r DAMP_ZONE_HI_ALL)
    (ha : a.dam.agents = b.dam.agents) : a.latched = b.latched := by
  simp only [Mach.latched, Mach.siteLatched, Mach.b, Mach.zoneLatches, hs, hlo, hhi, ha]

theorem Mach.stopGated_latched (src detail : Nat) (what : Stops) : (m.stopGated src detail what).latched = m.latched := by
  refine Mach.latched_congr ?_ ?_ ?_ (congrArg DamSt.agents (m.stopGated_dam src detail what) :)
  all_goals exact m.stopGated_r src detail what _ 0 (by decide) (by unfold quietOff; decide)

theorem Mach.now_congr {a b : Mach} (h : a.intc = b.intc) : a.now = b.now := congrArg IntcSt.ticks h

/-! ### What an assertion does to the state -/

/-- What the last event leaves stands as the latches left it. -/
theorem Mach.assertSource_gained {α : Type} (src detail : Nat) (what : Stops) (g : Mach → α)
    (h : ∀ (x : Mach) (c s r : Nat) (l : List Byte), g (x.event c s r l) = g x) :
    g (m.assertSource src detail what) = g ((m.stopGated src detail what).gainStops what) := by
  rw [Mach.assertSource_eq]
  exact Mach.when_keeps _ g _ _ fun x => h x _ _ _ _

theorem Mach.assertSource_dam (src detail : Nat) (what : Stops) : (m.assertSource src detail what).dam =
    let d := { m.dam.owned src detail what with agents := (m.latched.join what).agents }
    if what.site && !m.siteLatched then d.released (m.r DAMP_FIX_CFG_DELAY_MS) m.now else d := by
  rw [m.assertSource_gained src detail what Mach.dam (by simp), Mach.gainStops_dam, Mach.stopGated_latched, Mach.stopGated_dam,
    m.stopGated_r src detail what DAMP_FIX_CFG_DELAY_MS 0 (by decide) (by unfold quietOff; decide),
    Mach.now_congr ((stopFree_intc _).gated m src detail what fun _ he => he)]
  rfl

/-- Where the site latch sets, the outputs are released. -/
theorem Mach.assertSource_dam_site (src detail : Nat) (what : Stops) (hw : what.site = true) (hs : m.siteLatched = false) :
    (m.assertSource src detail what).dam =
      ({ m.dam.owned src detail what with agents := (m.latched.join what).agents } : DamSt).released
        (m.r DAMP_FIX_CFG_DELAY_MS) m.now := by
  rw [Mach.assertSource_dam, hw, hs]
  rfl

@[simp] theorem Mach.assertSource_agent (src detail : Nat) (what : Stops) (j : Nat) :
    (m.assertSource src detail what).agent j = m.agent j := by
  rw [m.assertSource_gained src detail what (fun x => x.agent j) fun x c s r l => Mach.agent_congr (by simp) j,
    Mach.gainStops_agent]
  exact Mach.agent_congr (congrArg KilnSt.store (m.stopGated_kiln src detail what)) j

theorem Mach.assertSource_air (src detail : Nat) (what : Stops) :
    (m.assertSource src detail what).air = (m.stopGated src detail what).air := by
  rw [m.assertSource_gained src detail what Mach.air (by simp), Mach.gainStops_air]

theorem Mach.assertSource_latched (src detail : Nat) (what : Stops) :
    (m.assertSource src detail what).latched = m.latched.join what := by
  obtain ⟨run, fix, h⟩ := m.assertSource_roleView src detail what (clk := false) (tab := false) (by rintro _ ⟨⟩)
  rw [Mach.latched_eq _ (clk := false) (tab := false), h, RoleView.set_latched _ _ (by intro; rfl), RoleView.asserted_latched,
    ← Mach.latched_eq]

/-- The arm and what stands for its boundary. -/
theorem Mach.assertSource_arm (src detail : Nat) (what : Stops) : (m.assertSource src detail what).dam.arm = none := by
  rw [Mach.assertSource_dam]
  dsimp only
  split
  · rw [DamSt.released_rest]
    rfl
  · rfl

/-! ### What an assertion does to the registers -/

theorem Mach.assertSource_seen (src detail : Nat) (what : Stops) (k : Nat) (h : src < 15) :
    ((m.assertSource src detail what).r DAMP_SRC_SEEN_SEEN).testBit k = ((m.r DAMP_SRC_SEEN_SEEN).testBit k || k == src) := by
  obtain ⟨run, fix, hv⟩ := m.assertSource_roleView src detail what (clk := false) (tab := false) (by rintro _ ⟨⟩)
  have hr := Mach.r_of_roleView _ hv DAMP_SRC_SEEN_SEEN (by decide)
  have hs : (((m.roleView false false).asserted ((m.r DAMP_SRC_SEEN_SEEN ||| (1 <<< src)) % 2 ^ 15) what).set
      fun r => { r with run := run, fixRun := fix }).1 DAMP_SRC_SEEN_SEEN = (m.r DAMP_SRC_SEEN_SEEN ||| (1 <<< src)) % 2 ^ 15 := by
    simp (disch := decide) only [RoleView.asserted, RoleView.latch, RoleView.set_fst, RoleView.put_reg_ne, RoleView.put_reg_same]
  rw [hr, hs, Nat.testBit_mod_two_pow, Nat.testBit_or, Nat.one_shiftLeft, Nat.testBit_two_pow]
  by_cases hk : k < 15
  · simp [hk, eq_comm, beq_eq_decide]
  · have hn : (m.r DAMP_SRC_SEEN_SEEN).testBit k = false :=
      Nat.testBit_eq_false_of_lt (Nat.lt_of_lt_of_le (m.r_lt DAMP_SRC_SEEN_SEEN 0 0)
        (Nat.pow_le_pow_right (by decide) (Nat.not_lt.mp hk)))
    have hne : k ≠ src := by omega
    simp [hk, hn, hne]

end Sys2Proof.Machine
end

section
/-! PROOFS. An asserting stop source: latches, gate, outputs, cause, counters and arm (O29; 06, R187, R188, R193, R197, R205, R206,
R214, R242). -/

namespace Sys2Proof.Machine

open Sys2Proof

variable (m : Mach) (src detail : Nat) (what : Stops)

theorem Mach.slotUs_congr {a b : Mach} (hs : a.air.slot = b.air.slot) (ht : a.time = b.time) : a.slotUs = b.slotUs := by
  unfold Mach.slotUs Mach.asn Mach.msInt
  rw [hs, ht]

/-- The part when the gate closes. -/
theorem Mach.stopOwned_slotUs : ((m.stopNoted src detail what).stopOwned src detail what).slotUs = m.slotUs := by
  refine Mach.slotUs_congr (by rw [Mach.stopOwned_air, Mach.stopNoted_air]) ?_
  exact (stopFree_time ownedFields).owning m src detail what fun _ he => he

/-- A field of the Air block beside those that the latches change, when the source has asserted. -/
theorem Mach.assertSource_gate (f : Field) (h : gainFields.all (fun e => f.apart 0 e.1 e.2) = true) (hq : quietOff (f.off 0 0)) :
    (m.assertSource src detail what).r f = (m.stopGated src detail what).r f :=
  (m.assertSource_gained src detail what (fun x => x.r f) fun x c s r l => x.r_event c s r l f 0 0 hq).trans
    ((stopFree_field f 0 _ h hq).gainStops _ (fun _ he => he) what)

theorem Mach.assertSource_air_gate : (m.assertSource src detail what).r AIR_STATUS_GATE = 1 ∧
    (m.assertSource src detail what).r AIR_STATUS_TX_OK = 0 :=
  ⟨(m.assertSource_gate src detail what _ (by decide) (by unfold quietOff; decide)).trans (Mach.gateClose_gate _),
    (m.assertSource_gate src detail what _ (by decide) (by unfold quietOff; decide)).trans (Mach.gateClose_txOk _)⟩

theorem Mach.assertSource_gateCuts : (m.assertSource src detail what).r AIR_GATE_CUTS_ALL = min (m.r AIR_GATE_CUTS_ALL +
    (m.air.inFlight.filter (fun f => decide (m.slotUs < f.start + f.us))).length) 0xFFFFFFFF := by
  have hown : ((m.stopNoted src detail what).stopOwned src detail what).r AIR_GATE_CUTS_ALL = m.r AIR_GATE_CUTS_ALL :=
    (stopFree_field _ 0 ownedFields (by decide) (by unfold quietOff; decide)).owning m src detail what fun _ he => he
  rw [m.assertSource_gate src detail what _ (by decide) (by unfold quietOff; decide), Mach.stopGated, Mach.gateClose_cuts, hown,
    Mach.stopOwned_slotUs, Mach.stopOwned_air, Mach.stopNoted_air]

theorem Mach.assertSource_flights : (m.assertSource src detail what).air.inFlight = [] ∧
    (m.assertSource src detail what).air.acks = [] ∧ (m.assertSource src detail what).air.ended =
      m.air.ended ++ m.air.inFlight.filter (fun f => decide (f.start + f.us ≤ m.slotUs)) := by
  rw [Mach.assertSource_air]
  refine ⟨Mach.gateClose_inFlight _, Mach.gateClose_acks _, ?_⟩
  rw [Mach.stopGated, Mach.gateClose_ended, Mach.stopOwned_slotUs, Mach.stopOwned_air, Mach.stopNoted_air]

/-- The latches' fields, the gate's and the arm's stand apart from the field. -/
theorem Mach.assertSource_noted (f : Field) (h : stopFields.all (fun e => f.apart 0 e.1 e.2) = true) (hq : quietOff (f.off 0 0)) :
    (m.assertSource src detail what).r f = (m.stopNoted src detail what).r f :=
  (stopFree_field f 0 _ h hq).noted m (fun _ he => he) src detail what

theorem Mach.assertSource_count :
    (m.assertSource src detail what).r DAMP_LATCH_COUNT_ALL = min (m.r DAMP_LATCH_COUNT_ALL + 1) 0xFFFFFFFF := by
  have hc : StopFree causeFields (fun x => x.r DAMP_LATCH_COUNT_ALL) := stopFree_field _ 0 _ (by decide) (by unfold quietOff; decide)
  rw [m.assertSource_noted src detail what _ (by decide) (by unfold quietOff; decide), Mach.stopNoted]
  refine (Mach.when_keeps _ (fun x => x.r DAMP_LATCH_COUNT_ALL) _ _ fun x => hc.setCause x (fun _ he => he) src detail).trans ?_
  rw [Mach.r_inc_same _ _ _ (by decide), Mach.r_w_apart _ _ _ _ _ _ (by decide)]
  rfl

/-- The part with the source seen and counted. -/
def Mach.stopSeen (m : Mach) (src : Nat) : Mach :=
  (m.w DAMP_SRC_SEEN_SEEN (m.r DAMP_SRC_SEEN_SEEN ||| (1 <<< src))).inc DAMP_LATCH_COUNT_ALL

theorem Mach.stopSeen_r (f : Field)
    (h : [(DAMP_SRC_SEEN_SEEN, 0), (DAMP_LATCH_COUNT_ALL, 0)].all (fun e => f.apart 0 e.1 e.2) = true) :
    (m.stopSeen src).r f = m.r f := by
  simp only [List.all_cons, List.all_nil, Bool.and_true, Bool.and_eq_true] at h
  rw [Mach.stopSeen, Mach.inc, Mach.incBy, Mach.r_w_apart _ _ _ _ _ _ h.2, Mach.r_w_apart _ _ _ _ _ _ h.1]

theorem Mach.stopSeen_siteLatched : (m.stopSeen src).siteLatched = m.siteLatched :=
  congrArg (· != 0) (m.stopSeen_r src DAMP_STATUS_SITE_LATCHED (by decide))

/-- DAMP_CAUSE is told where the site latch sets, or the unit itself leaves the site stopped. -/
theorem Mach.stopNoted_eq : m.stopNoted src detail what =
    if what.site && !m.siteLatched || (what.site && (src == 11 || src == 12)) then (m.stopSeen src).setCause src detail
    else m.stopSeen src := by
  rw [← m.stopSeen_siteLatched src]
  rfl

theorem Mach.pt_lt : m.pt < 2 ^ 32 := by
  unfold Mach.pt
  have := Int.emod_lt_of_pos m.msInt (show (0 : Int) < 2 ^ 32 by decide)
  omega

theorem Mach.setCause_told (x : Mach) (hs : src < 2 ^ DAMP_CAUSE_SOURCE.width) (hd : detail < 2 ^ DAMP_CAUSE_DETAIL.width) :
    (x.setCause src detail).r DAMP_CAUSE_SOURCE = src ∧ (x.setCause src detail).r DAMP_CAUSE_DETAIL = detail ∧
    (x.setCause src detail).r DAMP_CAUSE_PT_ALL = (if x.stepped then x.pt else 0) := by
  unfold Mach.setCause
  refine ⟨?_, ?_, ?_⟩
  · rw [Mach.r_w_apart _ _ _ _ _ _ (by decide), Mach.r_w_apart _ _ _ _ _ _ (by decide), Mach.r_w_same _ _ _ _ _ (by decide),
      Nat.mod_eq_of_lt hs]
  · rw [Mach.r_w_apart _ _ _ _ _ _ (by decide), Mach.r_w_same _ _ _ _ _ (by decide), Nat.mod_eq_of_lt hd]
  · rw [Mach.r_w_same _ _ _ _ _ (by decide)]
    refine Nat.mod_eq_of_lt ?_
    split
    · exact x.pt_lt
    · exact Nat.two_pow_pos _

/-- Where the site latch sets, DAMP_CAUSE names the source, its detail and the PT. -/
theorem Mach.assertSource_told (hsrc : src < 15) (hdetail : detail < 64) (hwhat : what.site = true) (hsite : m.siteLatched = false) :
    (m.assertSource src detail what).r DAMP_CAUSE_SOURCE = src ∧ (m.assertSource src detail what).r DAMP_CAUSE_DETAIL = detail ∧
    (m.assertSource src detail what).r DAMP_CAUSE_PT_ALL = (if m.stepped then m.pt else 0) := by
  have hfit : src < 2 ^ DAMP_CAUSE_SOURCE.width := Nat.lt_trans hsrc (by decide)
  obtain ⟨hs, hdt, hp⟩ := (m.stopSeen src).setCause_told src detail hfit hdetail
  have hnoted : m.stopNoted src detail what = (m.stopSeen src).setCause src detail := by
    rw [Mach.stopNoted_eq, hwhat, hsite]
    rfl
  have hstep : (m.stopSeen src).stepped = m.stepped := congrArg (· != 0) (m.stopSeen_r src TIME_STATUS_STEP_LOCK (by decide))
  rw [← hnoted] at hs hdt hp
  rw [hstep] at hp
  exact ⟨(m.assertSource_noted src detail what _ (by decide) (by unfold quietOff; decide)).trans hs,
    (m.assertSource_noted src detail what _ (by decide) (by unfold quietOff; decide)).trans hdt,
    (m.assertSource_noted src detail what _ (by decide) (by unfold quietOff; decide)).trans hp⟩

end Sys2Proof.Machine
end

section
/-! PROOFS. O29 is settled. -/

namespace Sys2Proof.Machine

open Sys2Proof

/-- Settles O29: an assertion is noted and owned, then the gate closes, then the latches gain what it names. -/
theorem aSourceLatchesAtOnce : Obligations.ASourceLatchesAtOnce := by
  unfold Obligations.ASourceLatchesAtOnce
  intro m src detail what hsrc hdetail t
  obtain ⟨run, fix, hv⟩ := m.assertSource_roleView src detail what (clk := false) (tab := false) (by rintro _ ⟨⟩)
  have hgate : t.r DAMP_STATUS_GATE = 1 := Mach.r_of_roleView _ hv DAMP_STATUS_GATE (by decide)
  obtain ⟨hclosed, htx⟩ := m.assertSource_air_gate src detail what
  obtain ⟨hflights, hacks, hended⟩ := m.assertSource_flights src detail what
  refine ⟨m.assertSource_latched src detail what, fun k => m.assertSource_seen src detail what k hsrc,
    m.assertSource_count src detail what, hgate, hclosed, htx, hflights, hacks, hended, m.assertSource_gateCuts src detail what,
    m.assertSource_arm src detail what, m.assertSource_agent src detail what, ?site, ?told⟩
  case site =>
    intro hwhat hsite
    have hd : t.dam = _ := m.assertSource_dam_site src detail what hwhat hsite
    refine ⟨?_, fun h0 => ?_, fun h0 hf => ?_, m.assertSource_told src detail what hsrc hdetail hwhat hsite⟩
    · exact (congrArg DamSt.run hd).trans (DamSt.released_run ..)
    · rw [hd, h0, DamSt.released_now]
    · have hlater := hd.trans (DamSt.released_later _ m.now h0 (by exact hf))
      exact ⟨(congrArg DamSt.fixRun hlater).trans hf, congrArg DamSt.fixDue hlater⟩
  case told =>
    intro hsite h11 h12
    have hnoted : m.stopNoted src detail what = m.stopSeen src := by
      rw [Mach.stopNoted_eq, hsite, beq_false_of_ne h11, beq_false_of_ne h12]
      simp
    refine ⟨?_, ?_⟩
    all_goals
      rw [show t.r _ = _ from m.assertSource_noted src detail what _ (by decide) (by unfold quietOff; decide), hnoted,
        Mach.stopSeen_r _ _ _ (by decide)]

end Sys2Proof.Machine
end

section
/-! PROOFS. Level sources of Damper (06, R187, R202 to R204): their bits of DAMP_SRC, what an assertion of one leaves, the inputs'
levels. -/

namespace Sys2Proof.Machine

open Sys2Proof

variable (m : Mach)

/-! ### Single bits of a field -/

theorem Mach.wBit_eq (f : Field) (n : Nat) (v : Bool) : m.wBit f n v = m.w f (putBits (m.r f) n 1 (b2n v)) := by
  unfold Mach.wBit putBits
  cases v <;> rfl

theorem Mach.wBit_testBit (f : Field) (n k : Nat) (v : Bool) (hn : n < f.width) (hw : f.lo + f.width ≤ 32) :
    ((m.wBit f n v).r f).testBit k = if k = n then v else (m.r f).testBit k := by
  rw [Mach.wBit_eq, m.r_w_same f _ 0 0 hw, Nat.testBit_mod_two_pow, putBits_testBit]
  have hone : (b2n v).testBit 0 = v := by cases v <;> rfl
  have hhigh : ¬ k < f.width → (m.r f).testBit k = false := fun hk =>
    Nat.testBit_eq_false_of_lt (Nat.lt_of_lt_of_le (m.r_lt f 0 0) (Nat.pow_le_pow_right (by decide) (Nat.not_lt.mp hk)))
  by_cases hkn : k = n
  · subst hkn
    simp [hn, hone]
  · rw [if_neg hkn]
    by_cases hk : k < f.width
    · have hout : k < n ∨ ¬ k < n + 1 := by omega
      rcases hout with h | h
      · simp [hk, h]
      · simp [hk, h, show ¬ k < n by omega]
    · simp [hk, hhigh hk]

theorem Mach.wBit_same (f : Field) (n : Nat) (v : Bool) (hn : n < f.width) (hw : f.lo + f.width ≤ 32) :
    ((m.wBit f n v).r f).testBit n = v := (m.wBit_testBit f n n v hn hw).trans (if_pos rfl)

theorem Mach.wBit_apart (f g : Field) (n k : Nat) (v : Bool) (h : g.apart k f 0 = true) : (m.wBit f n v).r g k = m.r g k :=
  m.r_w_apart f g _ 0 k h

theorem Mach.setSrc_testBit (src k : Nat) (on : Bool) (h : src < 15) :
    ((m.setSrc src on).r DAMP_SRC_SRC).testBit k = if k = src then on else (m.r DAMP_SRC_SRC).testBit k :=
  m.wBit_testBit DAMP_SRC_SRC src k on h (by decide)

/-! ### Latches under changes elsewhere -/

theorem Mach.latched_of_view {a b : Mach} (h : a.roleView false false = b.roleView false false) : a.latched = b.latched := by
  rw [Mach.latched_eq a (clk := false) (tab := false), h, ← Mach.latched_eq]

theorem Mach.wBit_latched (f : Field) (n : Nat) (v : Bool) (h : f.outside 0 0 = true) : (m.wBit f n v).latched = m.latched :=
  Mach.latched_of_view (m.w_outside f _ 0 0 h)

@[simp] theorem Mach.setSrc_latched (src : Nat) (on : Bool) : (m.setSrc src on).latched = m.latched :=
  Mach.latched_congr (m.wBit_apart DAMP_SRC_SRC DAMP_STATUS_SITE_LATCHED src 0 on (by decide))
    (m.wBit_apart DAMP_SRC_SRC DAMP_ZONE_LO_ALL src 0 on (by decide)) (m.wBit_apart DAMP_SRC_SRC DAMP_ZONE_HI_ALL src 0 on (by decide)) rfl

@[simp] theorem Mach.event_latched (code sev src : Nat) (args : List Byte) : (m.event code sev src args).latched = m.latched :=
  Mach.latched_of_view (m.event_roleView code sev src args)

@[simp] theorem Mach.complete_latched (d : Desc) (st : Nat) (res : List Byte) : (m.complete d st res).latched = m.latched :=
  Mach.latched_of_view (m.complete_roleView d st res)

theorem Mach.siteLatched_eq : m.siteLatched = m.latched.site := rfl

/-! ### An assertion of a level source -/

/-- The fields that an assertion of a level source changes. -/
def levelFields : List (Field × Nat) := (DAMP_SRC_SRC, 0) :: assertFields

theorem StopFree.levelAssert {α : Type} {g : Mach → α} {l : List (Field × Nat)} (h : StopFree l g) (hl : levelFields ⊆ l)
    (src detail : Nat) (what : Stops) : g (m.levelAssert src detail what) = g m := by
  unfold Mach.levelAssert
  split
  · rfl
  · exact (h.assertSource _ (fun e he => hl (List.mem_cons_of_mem _ he)) _ _ _).trans
      (h.w (DAMP_SRC_SRC, 0) (hl List.mem_cons_self) m _)

/-- A field that an assertion of a level source leaves. -/
theorem Mach.levelAssert_r (src detail : Nat) (what : Stops) (f : Field) (k : Nat)
    (h : levelFields.all (fun e => f.apart k e.1 e.2) = true) (hq : quietOff (f.off k 0)) :
    (m.levelAssert src detail what).r f k = m.r f k :=
  (stopFree_field f k _ h hq).levelAssert m (fun _ he => he) src detail what

theorem Mach.levelAssert_same (src detail : Nat) (what : Stops) (h : (m.r DAMP_SRC_SRC).testBit src = true) :
    m.levelAssert src detail what = m := if_pos h

theorem Mach.levelAssert_fresh (src detail : Nat) (what : Stops) (h : (m.r DAMP_SRC_SRC).testBit src = false) :
    m.levelAssert src detail what = (m.setSrc src true).assertSource src detail what := if_neg (by simp [h])

theorem Mach.levelAssert_latched (src detail : Nat) (what : Stops) (h : (m.r DAMP_SRC_SRC).testBit src = false) :
    (m.levelAssert src detail what).latched = m.latched.join what := by
  rw [m.levelAssert_fresh src detail what h, Mach.assertSource_latched, Mach.setSrc_latched]

theorem Mach.assertSource_src (src detail : Nat) (what : Stops) :
    (m.assertSource src detail what).r DAMP_SRC_SRC = m.r DAMP_SRC_SRC :=
  m.assertSource_r src detail what DAMP_SRC_SRC 0 (by decide) (by unfold quietOff; decide)

theorem Mach.levelAssert_src (src detail k : Nat) (what : Stops) (hs : src < 15) :
    ((m.levelAssert src detail what).r DAMP_SRC_SRC).testBit k = (decide (k = src) || (m.r DAMP_SRC_SRC).testBit k) := by
  by_cases h : (m.r DAMP_SRC_SRC).testBit src = true
  · rw [m.levelAssert_same src detail what h]
    by_cases hk : k = src <;> simp [hk, h]
  · rw [m.levelAssert_fresh src detail what (by simpa using h), Mach.assertSource_src, m.setSrc_testBit src k true hs]
    by_cases hk : k = src <;> simp [hk]

/-- A stop of the site latches it. -/
theorem Mach.assertSource_site (src detail : Nat) : (m.assertSource src detail Stops.ofSite).siteLatched = true := by
  rw [Mach.siteLatched_eq, Mach.assertSource_latched]
  exact Bool.or_true _

theorem Mach.levelAssert_site (src detail : Nat) (h : (m.r DAMP_SRC_SRC).testBit src = false) :
    (m.levelAssert src detail Stops.ofSite).siteLatched = true := by
  rw [m.levelAssert_fresh src detail _ h, Mach.assertSource_site]

/-- Damper's state aside from latches, outputs, arm and what is kept of the stop. -/
structure DamKept (a b : DamSt) : Prop where
  ins : a.ins = b.ins
  release : a.release = b.release
  ticket : a.ticket = b.ticket
  burst : a.burst = b.burst
  sample : a.sample = b.sample
  wdog : a.wdog = b.wdog
  forward : a.forward = b.forward
  stops : a.stops = b.stops
  testTick : a.testTick = b.testTick

theorem Mach.assertSource_damKept (src detail : Nat) (what : Stops) : DamKept (m.assertSource src detail what).dam m.dam := by
  rw [Mach.assertSource_dam]
  dsimp only
  split
  · rw [DamSt.released_rest]
    exact ⟨rfl, rfl, rfl, rfl, rfl, rfl, rfl, rfl, rfl⟩
  · exact ⟨rfl, rfl, rfl, rfl, rfl, rfl, rfl, rfl, rfl⟩

theorem Mach.levelAssert_damKept (src detail : Nat) (what : Stops) : DamKept (m.levelAssert src detail what).dam m.dam := by
  unfold Mach.levelAssert
  split
  · exact ⟨rfl, rfl, rfl, rfl, rfl, rfl, rfl, rfl, rfl⟩
  · exact (m.setSrc src true).assertSource_damKept src detail what

/-! ### The levels of the inputs (R202) -/

/-- The fields that show an input's levels. -/
def inputFields : List (Field × Nat) := [(DAMP_IN_LEVEL_LEVEL_A, 0), (DAMP_IN_LEVEL_LEVEL_B, 0), (DAMP_IN_LEVEL_CLEAR, 0)]

/-- The input with levels seen at a time. -/
def Mach.inputSeen (m : Mach) (n : Nat) (a b : Bool) : StopIn :=
  let x := m.stopIn n
  { x with lastChange := if (m.r DAMP_IN_LEVEL_LEVEL_A).testBit n != a || (m.r DAMP_IN_LEVEL_LEVEL_B).testBit n != b then m.now
             else x.lastChange,
           highSince := if a && b && decide (2 ≤ m.r PWR_BOOT_STATUS_PHASE) then
             (if x.highSince.isSome then x.highSince else some m.now) else none,
           lowSeen := x.lowSeen || (!a && !b) }

theorem Mach.setInput_eq (n : Nat) (a b : Bool) : m.setInput n a b =
    (((m.setStopIn n (m.inputSeen n a b)).wBit DAMP_IN_LEVEL_LEVEL_A n a).wBit DAMP_IN_LEVEL_LEVEL_B n b).when (!(a && b))
      (fun m => m.wBit DAMP_IN_LEVEL_CLEAR n false) := rfl

/-- A field apart from the inputs' levels. -/
theorem Mach.setInput_r (n : Nat) (a b : Bool) (f : Field) (k : Nat)
    (h : inputFields.all (fun e => f.apart k e.1 e.2) = true) : (m.setInput n a b).r f k = m.r f k := by
  simp only [inputFields, List.all_cons, List.all_nil, Bool.and_true, Bool.and_eq_true] at h
  obtain ⟨ha, hb, hc⟩ := h
  rw [Mach.setInput_eq, Mach.when_keeps _ (fun x => x.r f k) _ _ fun x => x.wBit_apart DAMP_IN_LEVEL_CLEAR f n k _ hc,
    Mach.wBit_apart _ _ _ _ _ _ hb, Mach.wBit_apart _ _ _ _ _ _ ha]
  rfl

theorem Mach.setInput_levels (n : Nat) (a b : Bool) (hn : n < 4) :
    ((m.setInput n a b).r DAMP_IN_LEVEL_LEVEL_A).testBit n = a ∧ ((m.setInput n a b).r DAMP_IN_LEVEL_LEVEL_B).testBit n = b := by
  rw [Mach.setInput_eq,
    Mach.when_keeps _ (fun x => x.r DAMP_IN_LEVEL_LEVEL_A) _ _ fun x => x.wBit_apart _ _ _ 0 _ (by decide),
    Mach.when_keeps _ (fun x => x.r DAMP_IN_LEVEL_LEVEL_B) _ _ fun x => x.wBit_apart _ _ _ 0 _ (by decide),
    Mach.wBit_apart _ DAMP_IN_LEVEL_LEVEL_B DAMP_IN_LEVEL_LEVEL_A _ 0 _ (by decide)]
  exact ⟨Mach.wBit_same _ _ n a hn (by decide), Mach.wBit_same _ _ n b hn (by decide)⟩

/-- An input with a low channel is not clear. -/
theorem Mach.setInput_clear (n : Nat) (a b : Bool) (hn : n < 4) (h : (a && b) = false) :
    ((m.setInput n a b).r DAMP_IN_LEVEL_CLEAR).testBit n = false := by
  rw [Mach.setInput_eq, h]
  exact Mach.wBit_same _ _ n false hn (by decide)

@[simp] theorem Mach.setInput_latched (n : Nat) (a b : Bool) : (m.setInput n a b).latched = m.latched := by
  refine Mach.latched_congr ?_ ?_ ?_ (Mach.when_keeps _ (fun x => x.dam.agents) _ _ fun _ => rfl)
  all_goals exact m.setInput_r n a b _ 0 (by decide)

theorem Mach.setInput_hostMem (n : Nat) (a b : Bool) : (m.setInput n a b).hostMem = m.hostMem :=
  Mach.when_keeps _ Mach.hostMem _ _ fun _ => rfl

theorem Mach.b_of_r {a b : Mach} {f : Field} {k : Nat} (h : a.r f k = b.r f k) : a.b f k = b.b f k := congrArg (· != 0) h

theorem Mach.inputScope_congr {a b : Mach} {n : Nat} (hlo : a.r DAMP_IN_ZONE_LO_ALL n = b.r DAMP_IN_ZONE_LO_ALL n)
    (hhi : a.r DAMP_IN_ZONE_HI_ALL n = b.r DAMP_IN_ZONE_HI_ALL n) (hs : a.r DAMP_IN_CFG_SCOPE n = b.r DAMP_IN_CFG_SCOPE n) :
    a.inputScope n = b.inputScope n := by
  unfold Mach.inputScope Mach.b
  rw [hlo, hhi, hs]

end Sys2Proof.Machine
end

section
/-! PROOFS. Stop inputs, their clearing and the discrepancy of their channels (O30; 06, R187, R202 to R204). -/

namespace Sys2Proof.Machine

open Sys2Proof

variable (m : Mach)

/-! ### STOP_INPUT_ASSERT (R202) -/

/-- The fields of the inputs' configuration stand apart from their levels, and from what an assertion changes. -/
theorem inputCfg_apart (n : Fin 4) : ∀ f ∈ [DAMP_IN_CFG_USE, DAMP_IN_CFG_SCOPE, DAMP_IN_ZONE_LO_ALL, DAMP_IN_ZONE_HI_ALL],
    inputFields.all (fun e => f.apart n e.1 e.2) = true := by
  revert n
  decide

theorem Mach.setInput_use (n : Fin 4) (a b : Bool) : (m.setInput n a b).b DAMP_IN_CFG_USE n = m.b DAMP_IN_CFG_USE n :=
  Mach.b_of_r (m.setInput_r n a b _ _ (inputCfg_apart n _ (by simp)))

theorem Mach.setInput_inputScope (n : Fin 4) (a b : Bool) : (m.setInput n a b).inputScope n = m.inputScope n :=
  Mach.inputScope_congr (m.setInput_r n a b _ _ (inputCfg_apart n _ (by simp)))
    (m.setInput_r n a b _ _ (inputCfg_apart n _ (by simp))) (m.setInput_r n a b _ _ (inputCfg_apart n _ (by simp)))

/-- The levels of an input are judged: a used one with a low channel asserts, with the scope it has. -/
theorem stopInputAssert_eq (n : Fin 4) (a b : Bool) : stopInputAssert n a b m =
    if m.b DAMP_IN_CFG_USE n && !(a && b) then (m.setInput n a b).levelAssert n n (m.inputScope n) else m.setInput n a b := by
  obtain ⟨ha, hb⟩ := m.setInput_levels n a b n.isLt
  unfold stopInputAssert Mach.inputAssert
  dsimp only
  rw [ha, hb, Mach.setInput_use, Mach.setInput_inputScope]

theorem stopInputAssert_r (n : Fin 4) (a b : Bool) (f : Field) (h : levelFields.all (fun e => f.apart 0 e.1 e.2) = true)
    (hq : quietOff (f.off 0 0)) : (stopInputAssert n a b m).r f = (m.setInput n a b).r f := by
  rw [stopInputAssert_eq]
  split
  · exact Mach.levelAssert_r _ _ _ _ f 0 h hq
  · rfl

theorem Mach.setInput_src (n : Nat) (a b : Bool) : (m.setInput n a b).r DAMP_SRC_SRC = m.r DAMP_SRC_SRC :=
  m.setInput_r n a b _ 0 (by decide)

/-! ### The discrepancy latch (R203) -/

/-- The part with the discrepancy of an input latched and counted. -/
def Mach.discLatched (m : Mach) (n : Nat) : Mach :=
  let m := m.setStopIn n { m.stopIn n with lowSeen := false }
  let m := (m.wBit DAMP_IN_LEVEL_DISC n true).inc DAMP_DISC_CNT_ALL
  { m with dam := { m.dam with forward := true } }

theorem Mach.discLatched_src (n : Nat) : (m.discLatched n).r DAMP_SRC_SRC = m.r DAMP_SRC_SRC :=
  (Mach.r_w_apart _ _ _ _ _ 0 (by decide)).trans (Mach.wBit_apart _ _ _ n 0 _ (by decide))

theorem Mach.discLatched_disc (n : Nat) (hn : n < 4) : ((m.discLatched n).r DAMP_IN_LEVEL_DISC).testBit n = true := by
  rw [show (m.discLatched n).r DAMP_IN_LEVEL_DISC = _ from Mach.r_w_apart _ _ _ _ _ 0 (by decide)]
  exact Mach.wBit_same _ _ n true hn (by decide)

theorem Mach.discLatched_count (n : Nat) :
    (m.discLatched n).r DAMP_DISC_CNT_ALL = min (m.r DAMP_DISC_CNT_ALL + 1) 0xFFFFFFFF := by
  rw [show (m.discLatched n).r DAMP_DISC_CNT_ALL = _ from Mach.r_inc_same _ _ _ (by decide),
    Mach.wBit_apart _ _ _ n 0 _ (by decide)]
  rfl

/-- The conditions of DISCREPANCY_SET. -/
theorem discrepancySet_eq (n : Nat) : discrepancySet n m =
    if m.b DAMP_IN_CFG_USE n = true ∧
      (m.r DAMP_IN_LEVEL_LEVEL_A).testBit n ≠ (m.r DAMP_IN_LEVEL_LEVEL_B).testBit n ∧
      (m.stopIn n).lastChange + 10 ≤ m.now ∧ (m.r DAMP_IN_LEVEL_DISC).testBit n = false
    then ((m.discLatched n).levelAssert 4 n Stops.ofSite).event 0x0204 3 17 (le 1 n ++ le 1 1) else m := by
  unfold discrepancySet
  refine if_congr ?_ rfl rfl
  simp [and_assoc]

theorem discrepancyClear_eq (n : Nat) : discrepancyClear n m =
    if (m.r DAMP_IN_LEVEL_DISC).testBit n = true ∧ (m.stopIn n).lowSeen = true ∧ m.highLong n = true
    then (m.wBit DAMP_IN_LEVEL_DISC n false).discRest.event 0x0204 3 17 (le 1 n ++ le 1 0) else m := by
  unfold discrepancyClear
  refine if_congr ?_ rfl rfl
  simp [and_assoc]

/-- A used input holds its discrepancy latch. -/
def Mach.discHeld (m : Mach) : Bool :=
  (List.range 4).any (fun j => m.b DAMP_IN_CFG_USE j && (m.r DAMP_IN_LEVEL_DISC).testBit j)

theorem Mach.discRest_eq : m.discRest = if m.discHeld then m else m.setSrc 4 false := by
  unfold Mach.discRest Mach.when Mach.discHeld
  split <;> simp_all

theorem any_range_congr {n : Nat} {p q : Nat → Bool} (h : ∀ j < n, p j = q j) : (List.range n).any p = (List.range n).any q := by
  rw [Bool.eq_iff_iff, List.any_eq_true, List.any_eq_true]
  exact exists_congr fun j => and_congr_right fun hj => by rw [h j (List.mem_range.mp hj)]

end Sys2Proof.Machine
end

section
/-! PROOFS. O30 is settled. -/

namespace Sys2Proof.Machine

open Sys2Proof

/-- Settles O30: an input's edge shows its levels and asserts its source through `levelAssert`; clearings write single bits, which leave the
latches. -/
theorem stopInputsLatchAndClear : Obligations.StopInputsLatchAndClear := by
  unfold Obligations.StopInputsLatchAndClear
  refine ⟨fun n a b s => ?assert, fun n s => ?clear, fun n s => ?discSet, fun n s => ?discClear⟩
  case assert =>
    obtain ⟨ha, hb⟩ := s.m.setInput_levels n a b n.isLt
    refine ⟨stopInputAssert n a b s.m, rfl, ?_, ?_, fun huse hlow => ?low, fun hrest => ?rest⟩
    · rw [stopInputAssert_r _ _ _ _ _ (by decide) (by unfold quietOff; decide), ha]
    · rw [stopInputAssert_r _ _ _ _ _ (by decide) (by unfold quietOff; decide), hb]
    case low =>
      rw [stopInputAssert_r _ _ _ _ DAMP_IN_LEVEL_CLEAR (by decide) (by unfold quietOff; decide), stopInputAssert_eq, huse, hlow,
        Bool.not_false, Bool.and_true, if_pos rfl, Mach.levelAssert_src _ _ _ _ _ (Nat.lt_trans n.isLt (by decide))]
      refine ⟨s.m.setInput_clear n a b n.isLt hlow, by simp, fun hfresh => ?_, fun hset => ?_⟩
      · rw [Mach.levelAssert_latched _ _ _ _ (by rw [Mach.setInput_src, hfresh]), Mach.setInput_latched]
      · rw [Mach.levelAssert_same _ _ _ _ (by rw [Mach.setInput_src, hset]), Mach.setInput_latched]
    case rest =>
      have hidle : (s.m.b DAMP_IN_CFG_USE n && !(a && b)) = false := by
        rcases hrest with h | h <;> simp [h]
      rw [stopInputAssert_eq, hidle, if_neg Bool.false_ne_true]
      exact ⟨s.m.setInput_latched n a b, s.m.setInput_src n a b, s.m.setInput_hostMem n a b⟩
  case clear =>
    have h15 : n.val < 15 := Nat.lt_trans n.isLt (by decide)
    let t := (s.m.wBit DAMP_IN_LEVEL_CLEAR n true).setSrc n false
    refine ⟨fun hlong => ⟨t, s.on_eq _ t (if_pos hlong), ?_, ?_, fun k hk => ?_, ?_⟩, fun hshort => s.on_same _ ?_⟩
    · rw [show t.r DAMP_IN_LEVEL_CLEAR = _ from Mach.wBit_apart _ _ _ n 0 false (by decide)]
      exact Mach.wBit_same _ _ n true n.isLt (by decide)
    · exact (Mach.setSrc_testBit _ n n false h15).trans (if_pos rfl)
    · refine (Mach.setSrc_testBit _ n k false h15).trans ((if_neg hk).trans ?_)
      rw [Mach.wBit_apart _ _ _ n 0 true (by decide)]
    · rw [show t = _ from Mach.setSrc_eq _ _ _, Mach.wBit_eq]
      exact Mach.w_regsKept (Mach.w_regsKept (fun _ _ => rfl) _ _ 0 (by simp)) _ _ 0 (by simp)
    · exact if_neg (by simp [hshort])
  case discSet =>
    intro due
    refine ⟨fun hdue => ⟨_, s.on_eq (discrepancySet n) _ ((discrepancySet_eq s.m n).trans (if_pos hdue)), ?_, ?_, ?_, ?_, ?_⟩,
      fun hdue => s.on_same (discrepancySet n) ((discrepancySet_eq s.m n).trans (if_neg hdue))⟩
    · rw [Mach.r_event _ _ _ _ _ _ 0 0 (by unfold quietOff; decide),
        Mach.levelAssert_r _ _ _ _ _ _ (by decide) (by unfold quietOff; decide)]
      exact s.m.discLatched_disc n n.isLt
    · rw [Mach.r_event _ _ _ _ _ _ 0 0 (by unfold quietOff; decide),
        Mach.levelAssert_r _ _ _ _ _ _ (by decide) (by unfold quietOff; decide), Mach.discLatched_count]
    · rw [Mach.r_event _ _ _ _ _ _ 0 0 (by unfold quietOff; decide), Mach.levelAssert_src _ _ _ _ _ (by decide)]
      rfl
    · intro hfresh
      rw [Mach.siteLatched_eq, Mach.event_latched]
      exact Mach.levelAssert_site _ _ _ (by rw [Mach.discLatched_src, hfresh])
    · rw [Mach.event_dam, ((s.m.discLatched n).levelAssert_damKept 4 n Stops.ofSite).forward]
      rfl
  case discClear =>
    intro due
    let u := s.m.wBit DAMP_IN_LEVEL_DISC n false
    have hdisc : u.discRest.r DAMP_IN_LEVEL_DISC = u.r DAMP_IN_LEVEL_DISC := by
      rw [Mach.discRest_eq]
      split
      · rfl
      · exact Mach.wBit_apart _ _ _ 4 0 false (by decide)
    have huse : ∀ j : Fin 4, s.m.b DAMP_IN_CFG_USE j = u.b DAMP_IN_CFG_USE j := fun j =>
      (Mach.b_of_r (s.m.wBit_apart _ _ n j false (by revert j; decide))).symm
    have hsrc : u.r DAMP_SRC_SRC = s.m.r DAMP_SRC_SRC := s.m.wBit_apart _ _ n 0 false (by decide)
    refine ⟨fun hdue => ⟨_, s.on_eq (discrepancyClear n) _ ((discrepancyClear_eq s.m n).trans (if_pos hdue)), ?_⟩,
      fun hdue => s.on_same (discrepancyClear n) ((discrepancyClear_eq s.m n).trans (if_neg hdue))⟩
    rw [Mach.r_event _ _ _ _ _ _ 0 0 (by unfold quietOff; decide), Mach.r_event _ _ _ _ _ _ 0 0 (by unfold quietOff; decide),
      hdisc, Mach.event_latched]
    have hmore : (List.range 4).any (fun j => s.m.b DAMP_IN_CFG_USE j && (u.r DAMP_IN_LEVEL_DISC).testBit j) = u.discHeld :=
      any_range_congr fun j hj => congrArg (· && _) (huse ⟨j, hj⟩)
    refine ⟨Mach.wBit_same _ _ n false n.isLt (by decide), fun k hk => ?_, ?_⟩
    · exact (Mach.wBit_testBit _ _ n k false n.isLt (by decide)).trans (if_neg hk)
    · dsimp only
      rw [hmore, Mach.discRest_eq]
      refine ⟨fun hnone => ?_, fun hheld => ?_, ?_⟩
      · rw [hnone]
        exact (Mach.setSrc_testBit _ 4 4 false (by decide)).trans (if_pos rfl)
      · rw [hheld]
        exact hsrc
      · refine Eq.trans ?_ (s.m.wBit_latched DAMP_IN_LEVEL_DISC n false (by decide))
        split
        · rfl
        · exact Mach.setSrc_latched _ _ _

end Sys2Proof.Machine
end

section
/-! PROOFS. Requests of the safety core pairs, the watchdog and its kick (O31; 06, R189, R190). -/

namespace Sys2Proof.Machine

open Sys2Proof

variable (m : Mach)

/-! ### Stops joined to latches -/

theorem Stops.join_site (a : Stops) : a.join Stops.ofSite = { a with site := true } := by
  simp [Stops.join, Stops.ofSite]

theorem Stops.join_agents (a : Stops) (x : BitVec 512) : a.join ⟨false, 0, x⟩ = { a with agents := a.agents ||| x } := by
  simp [Stops.join]

theorem Stops.join_zones (a : Stops) (x : BitVec 64) : a.join ⟨false, x, 0⟩ = { a with zones := a.zones ||| x } := by
  simp [Stops.join]

theorem Mach.agentLatched_eq (i : Nat) : m.agentLatched i = m.latched.agents.getLsbD i := rfl

theorem Mach.zoneLatches_testBit (z : Nat) (hz : z < 64) : m.zoneLatches.testBit z = m.latched.zones.getLsbD z := by
  change _ = (BitVec.ofNat 64 m.zoneLatches).getLsbD z
  rw [BitVec.getLsbD_ofNat, decide_eq_true hz, Bool.true_and]

/-! ### The requests (R190) -/

/-- A pair's source follows SITE. -/
def Mach.siteRequest (m : Mach) (src : Nat) (site : Bool) : Mach :=
  if site then m.gatherForward.levelAssert src 0 Stops.ofSite else m.setSrc src false

/-- The momentary requests of a write. -/
def Mach.stopRequests (m : Mach) (src v : Nat) : Mach :=
  (m.when (v.testBit 1) (fun m => m.assertSource src 0 ⟨false, 0, 1#512 <<< bits v 16 9⟩)).when (v.testBit 2)
    (fun m => m.assertSource src 0 ⟨false, 1#64 <<< bits v 8 6, 0⟩)

/-- The SITE field of a pair, its source and its master. -/
def pairSite (s1 : Bool) : Field := if s1 then DAMP_S1_REQ_SITE else DAMP_S0_REQ_SITE
def pairSrc (s1 : Bool) : Nat := if s1 then 8 else 7

theorem Mach.safetyWrite_own (a : Nat) (s1 : Bool) (v : Nat) (h : a = if s1 then 7 else 6) : m.safetyWrite a s1 v =
    ((m.wb (pairSite s1) (v.testBit 0)).siteRequest (pairSrc s1) (v.testBit 0)).stopRequests (pairSrc s1) v := by
  subst h
  cases s1 <;> rfl

theorem Mach.safetyWrite_refused (a : Nat) (s1 : Bool) (v : Nat) (h : a ≠ if s1 then 7 else 6) :
    m.safetyWrite a s1 v = if m.hears a then m.inc DAMP_REQ_REFUSED_ALL else m := by
  unfold Mach.safetyWrite
  dsimp only
  rw [if_pos (bne_iff_ne.mpr h)]
  cases m.hears a <;> rfl

variable (src v : Nat)

theorem pairSrc_lt (s1 : Bool) : pairSrc s1 < 15 := by cases s1 <;> decide

/-- What the fields apart from those of a level source's assertion are after the requests. -/
theorem Mach.stopRequests_keeps {α : Type} {g : Mach → α} (h : StopFree assertFields g) : g (m.stopRequests src v) = g m :=
  (Mach.when_keeps _ g _ _ fun x => h.assertSource x (fun _ he => he) _ _ _).trans
    (m.when_keeps g _ _ fun x => h.assertSource x (fun _ he => he) _ _ _)

theorem Mach.siteRequest_r (site : Bool) (f : Field) (h : levelFields.all (fun e => f.apart 0 e.1 e.2) = true)
    (hq : quietOff (f.off 0 0)) : (m.siteRequest src site).r f = m.r f := by
  unfold Mach.siteRequest
  split
  · exact m.gatherForward.levelAssert_r src 0 Stops.ofSite f 0 h hq
  · exact (stopFree_field f 0 levelFields h hq).w (DAMP_SRC_SRC, 0) List.mem_cons_self m _

theorem Mach.siteRequest_src (site : Bool) (hs : src < 15) : ((m.siteRequest src site).r DAMP_SRC_SRC).testBit src = site := by
  cases site
  · exact (m.setSrc_testBit src src false hs).trans (if_pos rfl)
  · exact (m.gatherForward.levelAssert_src src 0 src Stops.ofSite hs).trans (by simp)

theorem Mach.siteRequest_site (h : (m.r DAMP_SRC_SRC).testBit src = false) : (m.siteRequest src true).latched.site = true :=
  m.gatherForward.levelAssert_site src 0 h

/-- Stops of agents and zones are added to the latches. -/
theorem Mach.when_assertSource_latched (c : Bool) (what : Stops) :
    (m.when c (fun m => m.assertSource src 0 what)).latched = if c then m.latched.join what else m.latched := by
  unfold Mach.when
  split
  · exact m.assertSource_latched src 0 what
  · rfl

theorem Mach.stopRequests_latched : (m.stopRequests src v).latched =
    let l := if v.testBit 1 then m.latched.join ⟨false, 0, 1#512 <<< bits v 16 9⟩ else m.latched
    if v.testBit 2 then l.join ⟨false, 1#64 <<< bits v 8 6, 0⟩ else l := by
  rw [Mach.stopRequests, Mach.when_assertSource_latched, Mach.when_assertSource_latched]

theorem Mach.stopRequests_site : (m.stopRequests src v).siteLatched = m.siteLatched := by
  rw [Mach.siteLatched_eq, Mach.stopRequests_latched]
  have hjoin : ∀ (l : Stops) (x : BitVec 64) (y : BitVec 512), (l.join ⟨false, x, y⟩).site = l.site := fun l _ _ => Bool.or_false _
  rw [Mach.siteLatched_eq]
  split <;> split <;> simp only [hjoin]

theorem getLsbD_or_one_shiftLeft {w : Nat} (x : BitVec w) (i : Nat) (h : i < w) : (x ||| 1#w <<< i).getLsbD i = true := by
  simp [h]

theorem Mach.stopRequests_agent (h : v.testBit 1 = true) : (m.stopRequests src v).agentLatched (bits v 16 9) = true := by
  rw [Mach.agentLatched_eq, Mach.stopRequests_latched, h, if_pos rfl]
  dsimp only
  rw [Stops.join_agents]
  have hbit := getLsbD_or_one_shiftLeft m.latched.agents _ (bits_lt v 16 9)
  split
  · rw [Stops.join_zones]
    exact hbit
  · exact hbit

theorem Mach.stopRequests_zone (h : v.testBit 2 = true) : (m.stopRequests src v).zoneLatches.testBit (bits v 8 6) = true := by
  rw [Mach.zoneLatches_testBit _ _ (bits_lt v 8 6), Mach.stopRequests_latched, h]
  dsimp only
  rw [if_pos rfl, Stops.join_zones]
  exact getLsbD_or_one_shiftLeft _ _ (bits_lt v 8 6)

/-! ### The watchdog (R189) -/

theorem watchdogExpiry_due (u : Nat) (h : m.dam.wdog = some u) (hu : u ≤ m.now) : watchdogExpiry m =
    (({ m with dam := { m.dam with wdog := none } } : Mach).gatherForward).assertSource 6 0 Stops.ofSite := by
  unfold watchdogExpiry
  rw [h]
  exact if_pos hu

theorem watchdogExpiry_early (h : ∀ u, m.dam.wdog = some u → m.now < u) : watchdogExpiry m = m := by
  unfold watchdogExpiry
  split
  · exact if_neg (Nat.not_le.mpr (h _ ‹_›))
  · rfl

end Sys2Proof.Machine
end

section
/-! PROOFS. O31 is settled: a write by a pair's own master, then the single requests and the watchdog. -/

namespace Sys2Proof.Machine

open Sys2Proof

/-- What a write by a pair's own master does, as the statement has it. -/
theorem Mach.safetyWrite_done (m : Mach) (s1 : Bool) (v : BitVec 32) :
    let t := m.safetyWrite (if s1 then 7 else 6) s1 v.toNat
    t.b (pairSite s1) = v.getLsbD 0 ∧ (t.r DAMP_SRC_SRC).testBit (pairSrc s1) = v.getLsbD 0 ∧
    (v.getLsbD 0 = true → (m.r DAMP_SRC_SRC).testBit (pairSrc s1) = false → t.siteLatched = true) ∧
    (v.getLsbD 1 = true → t.agentLatched (bits v.toNat 16 9) = true) ∧
    (v.getLsbD 2 = true → t.zoneLatches.testBit (bits v.toNat 8 6) = true) ∧
    (v.toNat % 8 = 0 → t.latched = m.latched ∧ t.hostMem = m.hostMem) := by
  intro t
  let w := m.wb (pairSite s1) (v.toNat.testBit 0)
  let u := w.siteRequest (pairSrc s1) (v.toNat.testBit 0)
  have ht : t = u.stopRequests (pairSrc s1) v.toNat := m.safetyWrite_own _ s1 v.toNat rfl
  have hsite : t.b (pairSite s1) = v.toNat.testBit 0 := by
    have hlevel : levelFields.all (fun e => (pairSite s1).apart 0 e.1 e.2) = true ∧ quietOff ((pairSite s1).off 0 0) := by
      cases s1 <;> exact ⟨by decide, by unfold quietOff; decide⟩
    obtain ⟨happ, hq⟩ := hlevel
    have hfree := stopFree_field (pairSite s1) 0 levelFields happ hq
    rw [ht, Mach.b_of_r (u.stopRequests_keeps _ _ (hfree.mono (List.subset_cons_self ..))),
      Mach.b_of_r (w.siteRequest_r _ _ _ happ hq)]
    exact (m.b_w_same _ _ 0 (by cases s1 <;> decide)).trans (by cases s1 <;> cases v.toNat.testBit 0 <;> rfl)
  have hsrc : (t.r DAMP_SRC_SRC).testBit (pairSrc s1) = v.toNat.testBit 0 := by
    have hkeep : (u.stopRequests (pairSrc s1) v.toNat).r DAMP_SRC_SRC = u.r DAMP_SRC_SRC :=
      u.stopRequests_keeps _ _ (stopFree_field DAMP_SRC_SRC 0 assertFields (by decide) (by unfold quietOff; decide))
    rw [ht, hkeep, w.siteRequest_src _ _ (pairSrc_lt s1)]
  refine ⟨hsite, hsrc, fun hset hfresh => ?_, fun h1 => ?_, fun h2 => ?_, fun h0 => ?_⟩
  · have hw : (w.r DAMP_SRC_SRC).testBit (pairSrc s1) = false := by
      rw [show w.r DAMP_SRC_SRC = _ from m.r_w_apart _ _ _ 0 0 (by cases s1 <;> decide), hfresh]
    rw [ht, Mach.stopRequests_site, Mach.siteLatched_eq, show u = w.siteRequest (pairSrc s1) true from congrArg (w.siteRequest _) hset]
    exact w.siteRequest_site _ hw
  · rw [ht]
    exact u.stopRequests_agent _ _ h1
  · rw [ht]
    exact u.stopRequests_zone _ _ h2
  · have hbit : ∀ k < 3, v.toNat.testBit k = false := by
      intro k hk
      have := Nat.testBit_mod_two_pow v.toNat 3 k
      rw [show v.toNat % 2 ^ 3 = 0 from h0, Nat.zero_testBit, decide_eq_true hk, Bool.true_and] at this
      exact this.symm
    have hidle : t = w.setSrc (pairSrc s1) false := by
      rw [ht, show u = w.siteRequest (pairSrc s1) false from congrArg (w.siteRequest _) (hbit 0 (by decide)),
        Mach.stopRequests, hbit 1 (by decide),
        hbit 2 (by decide)]
      rfl
    rw [hidle, Mach.setSrc_latched]
    exact ⟨Mach.latched_of_view (m.w_outside _ _ 0 0 (by cases s1 <;> decide)), rfl⟩

/-- A write of momentary requests alone. -/
theorem Mach.safetyWrite_moment (m : Mach) (s1 : Bool) (v : Nat) (h : v.testBit 0 = false) :
    m.safetyWrite (if s1 then 7 else 6) s1 v =
      ((m.wb (pairSite s1) false).setSrc (pairSrc s1) false).stopRequests (pairSrc s1) v := by
  rw [m.safetyWrite_own _ s1 v rfl, h]
  rfl

theorem Mach.pairSite_latched (m : Mach) (s1 on : Bool) : (m.wb (pairSite s1) on).latched = m.latched :=
  Mach.latched_of_view (m.w_outside _ _ 0 0 (by cases s1 <;> decide))

/-- A write of SITE alone while the source does not assert. -/
theorem Mach.safetyWrite_site (m : Mach) (s1 : Bool) (h : (m.r DAMP_SRC_SRC).testBit (pairSrc s1) = false) :
    m.safetyWrite (if s1 then 7 else 6) s1 1 =
      ((m.wb (pairSite s1) true).gatherForward.setSrc (pairSrc s1) true).assertSource (pairSrc s1) 0 Stops.ofSite := by
  have hw : ((m.wb (pairSite s1) true).gatherForward.r DAMP_SRC_SRC).testBit (pairSrc s1) = false := by
    rw [show (m.wb (pairSite s1) true).gatherForward.r DAMP_SRC_SRC = _ from m.r_w_apart _ _ _ 0 0 (by cases s1 <;> decide), h]
  rw [m.safetyWrite_own _ s1 1 rfl]
  exact (m.wb (pairSite s1) true).gatherForward.levelAssert_fresh _ 0 _ hw

theorem wdogKick_eq (d : Desc) (m : Mach) (h : m.starts 0x0204 d) : wdogKick d m =
    if !m.takes .damper then m.complete (d.as 0x0204) stNOT_ENABLED
    else m.armWatchdog.complete (d.as 0x0204) stOK (le 4 (match m.dam.wdog with
      | some t => t - m.now
      | none => 0)) := m.desc_starts 0x0204 d _ h

/-- The word that sets the latch of an agent, and that of a zone. -/
theorem agentWrite_toNat (i : Fin 512) : (2 + 65536 * BitVec.ofNat 32 i : BitVec 32).toNat = 2 + 65536 * i := by
  rw [BitVec.toNat_add, BitVec.toNat_mul, BitVec.toNat_ofNat]
  simp
  omega

theorem zoneWrite_toNat (z : Fin 64) : (4 + 256 * BitVec.ofNat 32 z : BitVec 32).toNat = 4 + 256 * z := by
  rw [BitVec.toNat_add, BitVec.toNat_mul, BitVec.toNat_ofNat]
  simp
  omega

theorem agentWrite_bits {i : Fin 512} : (2 + 65536 * i.val).testBit 1 = true ∧ (2 + 65536 * i.val).testBit 2 = false ∧
    bits (2 + 65536 * i.val) 16 9 = i := by
  simp only [Nat.testBit_eq_decide_div_mod_eq, bits, Nat.shiftRight_eq_div_pow, decide_eq_true_eq, decide_eq_false_iff_not]
  omega

theorem zoneWrite_bits {z : Fin 64} : (4 + 256 * z.val).testBit 1 = false ∧ (4 + 256 * z.val).testBit 2 = true ∧
    bits (4 + 256 * z.val) 8 6 = z := by
  simp only [Nat.testBit_eq_decide_div_mod_eq, bits, Nat.shiftRight_eq_div_pow, decide_eq_true_eq, decide_eq_false_iff_not]
  omega

/-- Settles O31: a pair's write is its site level, then the stops of its index and zone, each an assertion; the watchdog's expiry is one
assertion of source 6. -/
theorem safetyPairsAndWatchdogStop : Obligations.SafetyPairsAndWatchdogStop := by
  unfold Obligations.SafetyPairsAndWatchdogStop
  refine ⟨fun a s1 v s hother => ?other, fun a s1 v s hown => ?own, fun s1 i z s => ?single, fun u s hwd hu => ?expiry,
    fun s hearly => s.on_same _ (watchdogExpiry_early _ hearly), fun d s hs => ?kick⟩
  case other =>
    intro refused
    have h : s.on (fun m => m.safetyWrite a s1 v.toNat) = refused := s.on_eq _ _ (s.m.safetyWrite_refused _ _ _ hother)
    exact ⟨h, h, h⟩
  case own =>
    intro src done
    have h : ∃ t : Mach, s.on (fun m => m.safetyWrite a s1 v.toNat) = .next (s.having t) ∧ done t :=
      ⟨_, s.on_eq _ _ (by rw [hown]), by cases s1 <;> exact s.m.safetyWrite_done _ v⟩
    exact ⟨h, h, h⟩
  case single =>
    intro own
    have hown : own.val = if s1 then 7 else 6 := by cases s1 <;> rfl
    have hsrc : pairSrc s1 = if s1 then 8 else 7 := rfl
    let w := (s.m.wb (pairSite s1) false).setSrc (pairSrc s1) false
    have hw : w.latched = s.m.latched := (Mach.setSrc_latched _ _ _).trans (s.m.pairSite_latched s1 false)
    have hmoment : ∀ v : BitVec 32, v.toNat.testBit 0 = false →
        s.on (fun m => m.safetyWrite own s1 v.toNat) = .next (s.having (w.stopRequests (pairSrc s1) v.toNat)) :=
      fun v hv => s.on_eq _ _ (by rw [hown]; exact s.m.safetyWrite_moment s1 _ hv)
    refine ⟨fun hsite hfresh => ?_, ⟨_, hmoment _ ?_, ?_⟩, ⟨_, hmoment _ ?_, ?_⟩⟩
    · let u := (s.m.wb (pairSite s1) true).gatherForward.setSrc (pairSrc s1) true
      have hu : u.latched = s.m.latched := (Mach.setSrc_latched _ _ _).trans (s.m.pairSite_latched s1 true)
      have hus : u.siteLatched = false := (congrArg Stops.site hu).trans hsite
      refine ⟨u.assertSource (pairSrc s1) 0 Stops.ofSite, s.on_eq (fun m => m.safetyWrite own s1 1) _ ?_, ?_, ?_, ?_⟩
      · rw [hown]
        exact s.m.safetyWrite_site s1 hfresh
      · rw [Mach.assertSource_latched, hu, Stops.join_site]
      · rw [u.assertSource_dam_site _ 0 Stops.ofSite rfl hus, DamSt.released_run]
      · exact (u.assertSource_told _ 0 _ (pairSrc_lt s1) (by decide) rfl hus).1
    · rw [agentWrite_toNat, Nat.testBit_eq_decide_div_mod_eq]
      exact decide_eq_false (by omega)
    · rw [Mach.stopRequests_latched, hw, agentWrite_toNat, agentWrite_bits.1, agentWrite_bits.2.1, agentWrite_bits.2.2]
      exact Stops.join_agents _ _
    · rw [zoneWrite_toNat, Nat.testBit_eq_decide_div_mod_eq]
      exact decide_eq_false (by omega)
    · rw [Mach.stopRequests_latched, hw, zoneWrite_toNat, zoneWrite_bits.1, zoneWrite_bits.2.1, zoneWrite_bits.2.2]
      exact Stops.join_zones _ _
  case expiry =>
    refine ⟨_, s.on_eq watchdogExpiry _ (watchdogExpiry_due _ u hwd hu), ?_, ?_, ?_, ?_⟩
    · rw [Mach.assertSource_latched, Stops.join_site]
      rfl
    · rw [Mach.assertSource_seen _ _ _ _ _ (by decide)]
      exact Bool.or_true _
    · rw [(Mach.assertSource_damKept _ 6 0 Stops.ofSite).wdog]
      rfl
    · rw [(Mach.assertSource_damKept _ 6 0 Stops.ofSite).forward]
      rfl
  case kick =>
    have hkick := wdogKick_eq d s.m hs
    refine ⟨fun hoff => s.on_eq (wdogKick d) _ (hkick.trans (if_pos (by simp [hoff]))), fun hon => ?_⟩
    rw [hon] at hkick
    refine ⟨fun u hu => s.on_eq (wdogKick d) _ (hkick.trans (by rw [hu]; rfl)),
      fun hu => s.on_eq (wdogKick d) _ (hkick.trans (by rw [hu]; rfl)), fun hen => ?_, rfl⟩
    have hdam : s.m.b DAMP_CTRL_ENABLE = true := (Bool.and_eq_true_iff.mp hon).1
    change (if s.m.b DAMP_WDOG_CFG_EN && s.m.b DAMP_CTRL_ENABLE then _ else _) = _
    rw [hen, hdam]
    rfl

end Sys2Proof.Machine
end

section
/-! PROOFS. STOP and the release in two steps (O32; 06, R205 to R207, R220 to R222). -/

namespace Sys2Proof.Machine

open Sys2Proof

variable (m : Mach)

/-! ### STOP (R220, R424) -/

/-- The stop of STOP asserted: a stop of the site is forwarded to the mate. -/
def Mach.stopAsserted (m : Mach) (site : Bool) (what : Stops) : Mach := (m.when site Mach.gatherForward).assertSource 5 0 what

/-- Its completion waits for the mate where the latches of a synchronised ACTIVE unit gained a stop. -/
def Mach.stopWaits (m : Mach) (what : Stops) : Bool := m.latched.gains what && m.isActive && m.mirror == 3

theorem Mach.forwarded_regs (c : Bool) : (m.when c Mach.gatherForward).regs = m.regs := m.when_keeps Mach.regs _ _ fun _ => rfl

theorem Mach.forwarded_dam (c : Bool) :
    (m.when c Mach.gatherForward).dam = { m.dam with forward := (m.when c Mach.gatherForward).dam.forward } := by
  cases c <;> rfl

theorem Mach.stopAsserted_r (site : Bool) (what : Stops) (f : Field) (h : assertFields.all (fun e => f.apart 0 e.1 e.2) = true)
    (hq : quietOff (f.off 0 0)) : (m.stopAsserted site what).r f = m.r f :=
  (Mach.assertSource_r _ 5 0 what f 0 h hq).trans (Mach.r_of_regs (m.forwarded_regs site) f 0 0)

theorem Mach.stopAsserted_latched (site : Bool) (what : Stops) : (m.stopAsserted site what).latched = m.latched.join what := by
  have h : (m.when site Mach.gatherForward).latched = m.latched := by
    have hr := fun f => Mach.r_of_regs (m.forwarded_regs site) f 0 0
    exact Mach.latched_congr (hr _) (hr _) (hr _) (by rw [m.forwarded_dam site])
  rw [Mach.stopAsserted, Mach.assertSource_latched, h]

theorem Mach.stopAsserted_seen (site : Bool) (what : Stops) : ((m.stopAsserted site what).r DAMP_SRC_SEEN_SEEN).testBit 5 = true :=
  (Mach.assertSource_seen _ 5 0 what 5 (by decide)).trans (Bool.or_true _)

theorem Mach.stopAsserted_stops (site : Bool) (what : Stops) : (m.stopAsserted site what).dam.stops = m.dam.stops := by
  rw [Mach.stopAsserted, (Mach.assertSource_damKept _ 5 0 what).stops, m.forwarded_dam site]

/-- The completion of a STOP kept for the mate's acknowledgement. -/
def Mach.stopKept (m : Mach) (e : Desc × Nat × Bool) : Mach := { m with dam := { m.dam with stops := m.dam.stops ++ [e] } }

/-- The part after STOP, its completion aside. -/
def Mach.stopHeld (m : Mach) (e : Desc) (what : Stops) : Mach :=
  let t := m.stopAsserted (Descs.fld e 18 1 == 0) what
  if m.stopWaits what then t.stopKept (e, m.red.seqOut, m.latched.gains what) else t

theorem stop_accepted {m : Mach} {d : Desc} {what : Stops} (hs : m.starts 0x0200 d) (hw : m.stopsOf (d.as 0x0200) = some what)
    (ht : Descs.fld d 18 1 = 0 ∨ m.takes .damper = true ∧ m.isActive = true) (hst : m.stopStale (d.as 0x0200) = false) :
    stop d m =
      let e := d.as 0x0200
      if m.stopWaits what then m.stopHeld e what
      else (m.stopHeld e what).complete e stOK ((m.stopHeld e what).stopRes (m.latched.gains what)) := by
  let e := d.as 0x0200
  have hfirst : firstOf [(!(Descs.fld e 18 1 == 0) && !m.takes .damper, stNOT_ENABLED),
      (!(Descs.fld e 18 1 == 0) && !m.isActive, stNOT_ACTIVE_ROLE), (m.stopStale e, stSTALE_GENERATION)] = none := by
    rw [firstOf_cons_none, firstOf_cons_none, firstOf_cons_none]
    obtain h0 | ⟨h1, h2⟩ := ht
    · exact ⟨by simp [e, h0], by simp [e, h0], hst, rfl⟩
    · exact ⟨by simp [h1], by simp [h2], hst, rfl⟩
  have hrole : (m.stopAsserted (Descs.fld e 18 1 == 0) what).isActive = m.isActive :=
    congrArg (· == 1) (m.stopAsserted_r _ what REDUN_STATUS_ROLE_STATE (by decide) (by unfold quietOff; decide))
  have hmirror : (m.stopAsserted (Descs.fld e 18 1 == 0) what).mirror = m.mirror :=
    m.stopAsserted_r _ what REDUN_STATUS_MIRROR (by decide) (by unfold quietOff; decide)
  have hstop : stop d m =
      if m.latched.gains what && (m.stopAsserted (Descs.fld e 18 1 == 0) what).isActive &&
          (m.stopAsserted (Descs.fld e 18 1 == 0) what).mirror == 3
      then (m.stopAsserted (Descs.fld e 18 1 == 0) what).stopKept (e, m.red.seqOut, m.latched.gains what)
      else (m.stopAsserted (Descs.fld e 18 1 == 0) what).complete e stOK
        ((m.stopAsserted (Descs.fld e 18 1 == 0) what).stopRes (m.latched.gains what)) := by
    unfold stop
    rw [m.desc_starts 0x0200 d _ hs]
    dsimp only
    rw [hw]
    dsimp only
    rw [hfirst]
    rfl
  rw [hstop, hrole, hmirror]
  unfold Mach.stopHeld
  rw [show (m.latched.gains what && m.isActive && m.mirror == 3) = m.stopWaits what from rfl]
  by_cases hwait : m.stopWaits what = true
  · simp only [if_pos hwait, e]
  · simp only [if_neg hwait, e]

/-! ### The arm (R205, R206) -/

theorem releaseArm_checked {m : Mach} {d : Desc} {what : Stops} (hs : m.starts 0x0201 d) (hw : m.stopsOf (d.as 0x0201) = some what)
    (ht : m.takes .damper = true) (hr : m.isActive = true) (hst : m.stopStale (d.as 0x0201) = false) : releaseArm d m =
      let e := d.as 0x0201
      let k := (m.dam.ticket + 1) % 2 ^ 16
      if m.latched.gains what then m.complete e 0x10
      else if m.covering what then m.complete e 0x11
      else if m.dam.arm.isSome then m.complete e 0x12
      else (((({ m with dam := { m.dam with arm := some ⟨Descs.fld d 18 1, what, k, m.now⟩, ended := none, ticket := k } } : Mach).w
        DAMP_STATUS_ARMED 1).w DAMP_STATUS_ARM_SCOPE (Descs.fld d 18 1)).w DAMP_STATUS_TICKET k).complete e stOK
          (le 2 k ++ le 2 0 ++ le 4 m.pt) := by
  unfold releaseArm
  rw [m.desc_starts 0x0201 d _ hs]
  dsimp only
  rw [hw, ht, hr, hst]
  simp only [firstOf]
  by_cases hg : m.latched.gains what = true
  · simp only [hg]; rfl
  · by_cases hc : m.covering what = true
    · simp only [hg, hc]; rfl
    · by_cases ha : m.dam.arm.isSome = true
      · simp only [hg, hc, ha]; rfl
      · simp only [hg, hc, ha]; rfl

theorem releaseConfirm_checked {m : Mach} {d : Desc} (hs : m.starts 0x0202 d) (ht : m.takes .damper = true)
    (hr : m.isActive = true) : releaseConfirm d m =
      let e := d.as 0x0202
      let t := Descs.fld d 20 2
      match m.dam.arm with
      | none => m.complete e (endedStatus m.dam.ended t)
      | some a =>
        if a.ticket != t then m.complete e (endedStatus m.dam.ended t)
        else if m.now < a.tick + 500 then (m.armEnd 2).complete e 0x15
        else if a.tick + 10000 < m.now then (m.armEnd 3).complete e 0x16
        else (({ m with dam := { m.dam with arm := none, release := some { a with tick := m.now } } } : Mach).w
          DAMP_STATUS_ARMED 0).complete e stOK (le 1 a.scope ++ le 3 0 ++ le 4 ((m.pt + 1) % 2 ^ 32)) := by
  unfold releaseConfirm
  rw [m.desc_starts 0x0202 d _ hs]
  dsimp only
  rw [ht, hr]
  rfl

theorem armEnd_facts {m : Mach} {a : DamArm} (why : Nat) (h : m.dam.arm = some a) :
    (m.armEnd why).dam = { m.dam with arm := none, ended := some (a.ticket, why) } ∧
    (m.armEnd why).b DAMP_STATUS_ARMED = false ∧
    (m.armEnd why).r DAMP_ARM_ENDED_ALL = min (m.r DAMP_ARM_ENDED_ALL + 1) 0xFFFFFFFF ∧ (m.armEnd why).latched = m.latched := by
  refine ⟨?_, ?_, ?_, Mach.latched_of_view (m.armEnd_roleView why)⟩
  · rw [Mach.armEnd_dam, h]
  · rw [m.armEnd_some why a h, Mach.b_event _ _ _ _ _ _ 0 0 (by unfold quietOff; decide)]
    exact (Mach.b_of_r (Mach.r_w_apart _ _ _ _ _ 0 (by decide))).trans (Mach.b_w_same _ _ 0 0 (by decide))
  · rw [m.armEnd_some why a h, Mach.r_event _ _ _ _ _ _ 0 0 (by unfold quietOff; decide), Mach.r_inc_same _ _ _ (by decide),
      Mach.r_w_apart _ _ _ _ _ 0 (by decide)]
    rfl

/-! ### The boundary (R205) -/

@[simp] theorem Mach.gainStops_latched (what : Stops) : (m.gainStops what).latched = m.latched.join what := by
  obtain ⟨run, fix, h⟩ := m.gainStops_roleView what (clk := false) (tab := false) (by rintro _ ⟨⟩)
  rw [Mach.latched_eq _ (clk := false) (tab := false), h, RoleView.set_latched _ _ (by intro; rfl), RoleView.latch_latched]

/-- What a stop applied again leaves. -/
theorem Mach.reapply_keeps {α : Type} (r : Reassert) (g : Mach → α) (hcause : ∀ x : Mach, g (x.setCause r.src r.detail) = g x)
    (hgain : ∀ x : Mach, g (x.gainStops r.what) = g x)
    (hevent : ∀ (x : Mach) (c s n : Nat) (l : List Byte), g (x.event c s n l) = g x) : g (m.reapply r) = g m := by
  unfold Mach.reapply
  extract_lets fresh caused gained
  rw [Mach.when_keeps _ g _ _ fun x => hevent x _ _ _ _, show g gained = g caused from hgain caused]
  exact m.when_keeps g fresh _ hcause

theorem Mach.reapply_latched (r : Reassert) : (m.reapply r).latched = m.latched.join r.what := by
  unfold Mach.reapply
  extract_lets fresh caused gained
  have hcaused : caused.latched = m.latched :=
    m.when_keeps Mach.latched fresh _ fun x => Mach.latched_of_view (x.setCause_roleView _ _)
  rw [Mach.when_keeps _ Mach.latched _ _ fun x => x.event_latched _ _ _ _, show gained.latched = _ from caused.gainStops_latched _,
    hcaused]

theorem Mach.eachReapply_latched (l : List Reassert) :
    (m.each l Mach.reapply).latched = l.foldl (fun a r => a.join r.what) m.latched := by
  induction l generalizing m with
  | nil => rfl
  | cons r l ih => exact (ih (m.reapply r)).trans (by rw [Mach.reapply_latched]; rfl)

/-- The arm, the accepted release and what stands for its boundary. -/
def DamSt.armPart (d : DamSt) : Option DamArm × Option DamArm × List Reassert := (d.arm, d.release, d.again)

theorem Mach.gainStops_armPart (what : Stops) : (m.gainStops what).dam.armPart = m.dam.armPart := by
  rw [Mach.gainStops_dam]
  dsimp only
  split
  · rw [DamSt.released_rest]
    rfl
  · rfl

theorem Mach.reapply_armPart (r : Reassert) : (m.reapply r).dam.armPart = m.dam.armPart :=
  m.reapply_keeps r (fun x => x.dam.armPart) (fun _ => rfl) (fun x => x.gainStops_armPart _) fun x _ _ _ _ => by rw [Mach.event_dam]

theorem Mach.reapply_agent (r : Reassert) (j : Nat) : (m.reapply r).agent j = m.agent j :=
  m.reapply_keeps r (fun x => x.agent j) (fun _ => rfl) (fun x => x.gainStops_agent _ j) fun x _ _ _ _ =>
    Mach.agent_congr (by rw [Mach.event_kiln]) j

theorem Mach.reapply_granted (r : Reassert) : (m.reapply r).b REDUN_STATUS_GRANTED = m.b REDUN_STATUS_GRANTED := by
  have h : StopFree (causeFields ++ gainFields) (fun x => x.b REDUN_STATUS_GRANTED) :=
    (stopFree_field _ 0 _ (by decide) (by unfold quietOff; decide)).bit
  exact m.reapply_keeps r (fun x => x.b REDUN_STATUS_GRANTED) (fun x => h.setCause x (fun _ => List.mem_append_left _) _ _)
    (fun x => h.gainStops x (fun _ => List.mem_append_right _) _) h.event

/-- The named latches cleared at the boundary; what asserted since is set again. -/
def Mach.latchesReleased (m : Mach) (a : DamArm) : Mach :=
  let n : Mach := { m with dam := { m.dam with release := none, again := [] } }
  (((n.setLatches (n.latched.minus a.what)).quickStop).event 0x0202 1 17 (le 1 a.scope ++ le 2 a.ticket)).each m.dam.again
    Mach.reapply

theorem latchRelease_eq (a : DamArm) (h : m.dam.release = some a) : latchRelease m =
    if m.now ≤ a.tick then m
    else if a.what.site then (m.latchesReleased a).driveOutputs else m.latchesReleased a := by
  unfold latchRelease
  rw [h]
  rfl

theorem Mach.latchesReleased_latched (a : DamArm) :
    (m.latchesReleased a).latched = m.dam.again.foldl (fun l r => l.join r.what) (m.latched.minus a.what) := by
  unfold Mach.latchesReleased
  rw [Mach.eachReapply_latched, Mach.event_latched, Mach.latched_of_view (Mach.quickStop_roleView _),
    Mach.latched_eq _ (clk := false) (tab := false), Mach.setLatches_roleView, RoleView.latch_latched]
  rfl

/-- What the release leaves, the latches and the arm's part aside. -/
theorem Mach.latchesReleased_keeps {α : Type} (a : DamArm) (g : Mach → α) (hd : ∀ (x : Mach) (r : Option DamArm) (l : List Reassert),
    g { x with dam := { x.dam with release := r, again := l } } = g x) (hset : ∀ (x : Mach) (s : Stops), g (x.setLatches s) = g x)
    (hstop : ∀ x : Mach, g x.quickStop = g x) (hevent : ∀ (x : Mach) (c s n : Nat) (l : List Byte), g (x.event c s n l) = g x)
    (hre : ∀ (x : Mach) (r : Reassert), g (x.reapply r) = g x) : g (m.latchesReleased a) = g m :=
  (Mach.each_keeps _ g _ _ fun x r _ => hre x r).trans
    ((hevent _ _ _ _ _).trans ((hstop _).trans ((hset _ _).trans (hd m none []))))

theorem Mach.latchesReleased_agent (a : DamArm) (j : Nat) : (m.latchesReleased a).agent j = m.agent j :=
  m.latchesReleased_keeps a (fun x => x.agent j) (fun _ _ _ => rfl) (fun x s => Mach.agent_congr (by rw [Mach.setLatches_kiln]) j)
    (fun x => Mach.agent_congr (by rw [Mach.quickStop_kiln]) j) (fun x _ _ _ _ => Mach.agent_congr (by rw [Mach.event_kiln]) j)
    fun x r => x.reapply_agent r j

theorem Mach.latchesReleased_granted (a : DamArm) : (m.latchesReleased a).b REDUN_STATUS_GRANTED = m.b REDUN_STATUS_GRANTED := by
  have h : StopFree (latchFields ++ motFields) (fun x => x.b REDUN_STATUS_GRANTED) :=
    (stopFree_field _ 0 _ (by decide) (by unfold quietOff; decide)).bit
  exact m.latchesReleased_keeps a _ (fun _ _ _ => rfl) (fun x s => h.setLatches (fun _ => List.mem_append_left _) x s)
    (fun x => MotFree.quickStop x (h.motFree fun _ => List.mem_append_right _)) h.event fun x r => x.reapply_granted r

theorem Mach.latchesReleased_armPart (a : DamArm) : (m.latchesReleased a).dam.armPart = (m.dam.arm, none, []) := by
  refine (Mach.each_keeps _ (fun x => x.dam.armPart) _ _ fun x r _ => x.reapply_armPart r).trans ?_
  rw [Mach.event_dam, Mach.quickStop_dam, Mach.setLatches_dam]
  rfl

theorem Mach.driveOutputs_run : m.driveOutputs.dam.run = (m.b REDUN_STATUS_GRANTED && !m.siteLatched) := rfl

@[simp] theorem Mach.driveOutputs_latched : m.driveOutputs.latched = m.latched := by
  obtain ⟨fix, h⟩ := m.driveOutputs_roleView (clk := false) (tab := false)
  rw [Mach.latched_eq _ (clk := false) (tab := false), h, RoleView.set_latched _ _ (by intro; rfl), ← Mach.latched_eq]

end Sys2Proof.Machine
end

section
/-! PROOFS. O32 is settled. -/

namespace Sys2Proof.Machine

open Sys2Proof

/-- Settles O32: every step of a release is an equation of the latches; what asserted since a confirm is folded over what it leaves. -/
theorem stopsAreLatchedAndReleasedInTwoSteps : Obligations.StopsAreLatchedAndReleasedInTwoSteps := by
  unfold Obligations.StopsAreLatchedAndReleasedInTwoSteps
  refine ⟨fun d s hs hw => ?bad, fun d s what hs hw ht hst => ?stop, fun d s what hs hw ht hr hst => ?arm,
    fun d s a hs ht hr => ?confirm, fun d s hs ht => ?abandon, fun s a ha => ?lapse, fun m a why ha => armEnd_facts why ha,
    fun s a ha => ?release⟩
  case bad =>
    refine s.on_eq (stop d) _ ?_
    unfold stop
    rw [s.m.desc_starts 0x0200 d _ hs]
    dsimp only
    rw [hw]
  case stop =>
    have hstop := stop_accepted hs hw ht hst
    let t := s.m.stopAsserted (Descs.fld d 18 1 == 0) what
    have hheld : (s.m.stopHeld (d.as 0x0200) what).latched = t.latched ∧
        (s.m.stopHeld (d.as 0x0200) what).r DAMP_SRC_SEEN_SEEN = t.r DAMP_SRC_SEEN_SEEN := by
      unfold Mach.stopHeld
      cases s.m.stopWaits what <;> exact ⟨rfl, rfl⟩
    refine ⟨s.m.stopHeld (d.as 0x0200) what, hheld.1.trans (s.m.stopAsserted_latched _ what), ?_, fun hgo => ?_,
      fun hrole hmirror hgain => ?_⟩
    · rw [hheld.2]
      exact s.m.stopAsserted_seen _ what
    · have hwait : s.m.stopWaits what = false := by
        obtain h | h | h := hgo <;> simp [Mach.stopWaits, h]
      rw [hwait] at hstop
      exact s.on_eq (stop d) _ hstop
    · have hwait : s.m.stopWaits what = true := by simp [Mach.stopWaits, hrole, hmirror, hgain]
      rw [hwait] at hstop
      refine ⟨s.on_eq (stop d) _ hstop, ?_⟩
      unfold Mach.stopHeld
      rw [hwait, if_pos rfl, hgain]
      exact congrArg (· ++ _) (s.m.stopAsserted_stops _ what)
  case arm =>
    have harm := releaseArm_checked hs hw ht hr hst
    intro e
    refine ⟨fun hg => ?_, fun hg hc => ?_, fun hg hc ha => ?_, fun hg hc ha => ?_⟩
    · exact s.on_eq (releaseArm d) _ (harm.trans (if_pos hg))
    · exact s.on_eq (releaseArm d) _ (harm.trans ((if_neg (by simp [hg])).trans (if_pos hc)))
    · exact s.on_eq (releaseArm d) _ (harm.trans ((if_neg (by simp [hg])).trans ((if_neg (by simp [hc])).trans (if_pos ha))))
    · refine ⟨_, s.on_eq (releaseArm d) _
        (harm.trans ((if_neg (by simp [hg])).trans ((if_neg (by simp [hc])).trans (if_neg (by simp [ha]))))), rfl, ?_, ?_, ?_, ?_⟩
      · exact (Mach.b_of_r ((Mach.r_w_apart _ _ _ _ _ 0 (by decide)).trans (Mach.r_w_apart _ _ _ _ _ 0 (by decide)))).trans
          (Mach.b_w_same _ _ 1 0 (by decide))
      · exact (Mach.r_w_same _ _ _ 0 0 (by decide)).trans (Nat.mod_mod_of_dvd _ (dvd_refl _))
      · refine Mach.latched_of_view ?_
        iterate 3 rw [Mach.w_outside _ _ _ _ _ (by decide)]
        rfl
      · exact Mach.w_regsKept (Mach.w_regsKept (Mach.w_regsKept (fun _ _ => rfl) _ _ 0 (by simp)) _ _ 0 (by simp; rfl)) _ _ 0
          (by simp; rfl)
  case confirm =>
    have hconf := releaseConfirm_checked hs ht hr
    intro e
    refine ⟨fun ha => s.on_eq (releaseConfirm d) _ (hconf.trans (by rw [ha])), fun ha hk => ?_⟩
    rw [ha] at hconf
    dsimp only at hconf
    rw [if_neg (by simp [hk])] at hconf
    refine ⟨fun hearly => ?_, fun hlate => ?_, fun hfrom hto => ?_⟩
    · exact s.on_eq (releaseConfirm d) _ (hconf.trans (if_pos hearly))
    · exact s.on_eq (releaseConfirm d) _ (hconf.trans ((if_neg (by omega)).trans (if_pos hlate)))
    · refine ⟨_, s.on_eq (releaseConfirm d) _ (hconf.trans ((if_neg (by omega)).trans (if_neg (by omega)))), rfl, ?_, ?_, ?_⟩
      · exact Mach.b_w_same _ _ 0 0 (by decide)
      · exact Mach.latched_of_view (Mach.w_outside _ _ _ _ _ (by decide))
      · exact Mach.w_regsKept (fun _ _ => rfl) _ _ 0 (by simp)
  case abandon =>
    have hab : releaseAbandon d s.m = if s.m.dam.arm.isSome then (s.m.armEnd 4).complete (d.as 0x0203) stOK (le 1 0)
        else s.m.complete (d.as 0x0203) stOK (le 1 1) := by
      unfold releaseAbandon
      rw [s.m.desc_starts 0x0203 d _ hs, ht]
      rfl
    exact ⟨fun ha => s.on_eq (releaseAbandon d) _ (hab.trans (if_pos ha)),
      fun ha => s.on_eq (releaseAbandon d) _ (hab.trans (if_neg (by simp [ha])))⟩
  case lapse =>
    have hlapse : armLapse s.m = if a.tick + 10000 < s.m.now then s.m.armEnd 3 else s.m := by
      unfold armLapse
      rw [ha]
    exact ⟨fun h => s.on_eq armLapse _ (hlapse.trans (if_pos h)),
      fun h => s.on_same armLapse (hlapse.trans (if_neg (Int.not_lt.mpr h)))⟩
  case release =>
    have hrel := latchRelease_eq s.m a ha
    refine ⟨fun hearly => s.on_same latchRelease (hrel.trans (if_pos hearly)), fun hdue => ?_⟩
    rw [if_neg (Int.not_le.mpr hdue)] at hrel
    obtain ⟨harm, hrelease, hagain⟩ : (s.m.latchesReleased a).dam.arm = s.m.dam.arm ∧
        (s.m.latchesReleased a).dam.release = none ∧ (s.m.latchesReleased a).dam.again = [] := by
      simpa [DamSt.armPart] using s.m.latchesReleased_armPart a
    cases hsite : a.what.site
    · rw [hsite] at hrel
      exact ⟨_, s.on_eq latchRelease _ hrel, s.m.latchesReleased_latched a, hrelease, hagain, harm,
        s.m.latchesReleased_agent a, nofun⟩
    · rw [hsite, if_pos rfl] at hrel
      refine ⟨_, s.on_eq latchRelease _ hrel, (Mach.driveOutputs_latched _).trans (s.m.latchesReleased_latched a), hrelease, hagain,
        harm, s.m.latchesReleased_agent a, fun _ => ?_⟩
      rw [Mach.driveOutputs_run, s.m.latchesReleased_granted a, Mach.siteLatched_eq, Mach.siteLatched_eq, Mach.driveOutputs_latched]

end Sys2Proof.Machine
end

section
/-! PROOFS. Damper's test of its path (O33; 06, R208 to R212, R214). -/

namespace Sys2Proof.Machine

open Sys2Proof

variable (m : Mach)

/-! ### What the record of a pass leaves (R570, R572) -/

/-- The fields in which a pass of test `t` shows. -/
def istFields (t : Nat) : List (Field × Nat) :=
  [(IST_PASS_ALL, t), (IST_STATUS_COVERED, 0), (IST_STATUS_OVERDUE, 0), (IST_CYCLE_S_ALL, 0)]

theorem Mach.istPass_keeps {α : Type} {g : Mach → α} {t : Nat} (hw : Kept g (istFields t))
    (hist : ∀ (x : Mach) (i : IstSt), g { x with ist := i } = g x)
    (hevent : ∀ (x : Mach) (c s n : Nat) (l : List Byte), g (x.event c s n l) = g x) (target : Nat) :
    g (m.istPass t target) = g m := by
  have hc : ∀ (x : Mach) (v : Nat), g (x.w IST_STATUS_COVERED v) = g x := hw (IST_STATUS_COVERED, 0) (by simp [istFields])
  have hcycle : ∀ x : Mach, g x.istCycle = g x := by
    intro x
    unfold Mach.istCycle
    split
    · dsimp only
      rw [hevent, hw (IST_CYCLE_S_ALL, 0) (by simp [istFields]), hw (IST_STATUS_OVERDUE, 0) (by simp [istFields]), hc, hist]
    · rfl
  unfold Mach.istPass Mach.istCover Mach.inc Mach.incBy
  dsimp only
  rw [hcycle, hc, hist, hw (IST_PASS_ALL, t) (by simp [istFields])]

/-- The fields in which a cycle of the self-test without a failure shows. -/
def passFields : List (Field × Nat) := (DAMP_TEST_CYCLES_ALL, 0) :: istFields 5

theorem Mach.selfTestPass_keeps {α : Type} {g : Mach → α} (hw : Kept g passFields)
    (hist : ∀ (x : Mach) (i : IstSt), g { x with ist := i } = g x)
    (hevent : ∀ (x : Mach) (c s n : Nat) (l : List Byte), g (x.event c s n l) = g x) : g m.selfTestPass = g m :=
  (Mach.when_keeps _ g _ _ fun x => x.istPass_keeps (hw.mono (List.subset_cons_self ..)) hist hevent 0).trans
    (hw (DAMP_TEST_CYCLES_ALL, 0) List.mem_cons_self m _)

theorem Mach.selfTestPass_r (f : Field) (h : passFields.all (fun e => f.apart 0 e.1 e.2) = true) (hq : quietOff (f.off 0 0)) :
    m.selfTestPass.r f = m.r f :=
  m.selfTestPass_keeps (g := fun x => x.r f) (kept_field f 0 _ h) (fun _ _ => rfl) (calm_field f 0 hq).event

@[simp] theorem Mach.selfTestPass_dam : m.selfTestPass.dam = m.dam :=
  m.selfTestPass_keeps (kept_of_eq _ fun _ _ _ _ => rfl) (fun _ _ => rfl) fun x c s n l => x.event_dam c s n l

theorem Mach.selfTestPass_latched : m.selfTestPass.latched = m.latched := by
  refine Mach.latched_congr ?_ ?_ ?_ (congrArg DamSt.agents m.selfTestPass_dam)
  all_goals exact m.selfTestPass_r _ (by decide) (by unfold quietOff; decide)

theorem Mach.selfTestPass_cycles :
    m.selfTestPass.r DAMP_TEST_CYCLES_ALL = min (m.r DAMP_TEST_CYCLES_ALL + 1) 0xFFFFFFFF := by
  have hq : quietOff (DAMP_TEST_CYCLES_ALL.off 0 0) := by unfold quietOff; decide
  refine (Mach.when_keeps _ (fun x => x.r DAMP_TEST_CYCLES_ALL) _ _ fun x =>
    x.istPass_keeps (g := fun x => x.r DAMP_TEST_CYCLES_ALL) (kept_field _ 0 _ (by decide)) (fun _ _ => rfl)
      (calm_field DAMP_TEST_CYCLES_ALL 0 hq).event 0).trans ?_
  exact m.r_inc_same _ _ (by decide)

/-- The word of the inputs' levels. -/
theorem Mach.selfTestPass_levels : m.selfTestPass.word DAMP_IN_LEVEL_LEVEL_A = m.word DAMP_IN_LEVEL_LEVEL_A := by
  have hoff : ∀ e ∈ passFields, DAMP_IN_LEVEL_LEVEL_A.off 0 0 ≠ e.1.off e.2 0 := by decide
  have hlook : Tabs.look m.selfTestPass.regs (DAMP_IN_LEVEL_LEVEL_A.off 0 0) = Tabs.look m.regs (DAMP_IN_LEVEL_LEVEL_A.off 0 0) :=
    m.selfTestPass_keeps (g := fun x => Tabs.look x.regs (DAMP_IN_LEVEL_LEVEL_A.off 0 0))
      (fun e he x v => x.look_w_ne e.1 v e.2 0 _ (hoff e he)) (fun _ _ => rfl)
      (fun x c s n l => x.look_event c s n l (by unfold quietOff; decide))
  simp only [Mach.word, Tabs.val, hlook]

/-! ### The self-test cycle (R208 to R210) -/

/-- The tick in which a cycle is due. -/
def Mach.testDue (m : Mach) : Prop :=
  m.time.ns / 1000000 % 100 = 50 ∧ 2 ≤ m.r PWR_BOOT_STATUS_PHASE ∧ m.dam.testTick ≠ some m.now

theorem damperSelfTest_idle (fail : Option (Nat × Nat)) (h : ¬ m.testDue) : damperSelfTest fail m = m := by
  refine if_pos ?_
  simp only [Mach.testDue, ne_eq] at h
  simp only [Bool.or_eq_true, bne_iff_ne, ne_eq, decide_eq_true_eq, beq_iff_eq]
  by_contra hn
  simp only [not_or, not_not, Nat.not_lt] at hn
  exact h ⟨hn.1.1, hn.1.2, hn.2⟩

/-- The part with the cycle of this tick begun. -/
def Mach.testBegun (m : Mach) : Mach := { m with dam := { m.dam with testTick := some m.now } }

theorem damperSelfTest_due (fail : Option (Nat × Nat)) (h : m.testDue) : damperSelfTest fail m =
    match fail with
    | some (k, kind) =>
      if k < 8 && !m.b DAMP_IN_CFG_USE (k / 2) then m.testBegun.selfTestPass
      else (m.testBegun.when (m.testBegun.istRuns 5) (fun m => m.istFail 5 (k + 1) kind)).selfTestFail (k + 1) kind
    | none => m.testBegun.selfTestPass := by
  obtain ⟨hns, hphase, htick⟩ := h
  have hidle : (m.time.ns / 1000000 % 100 != 50 || m.r PWR_BOOT_STATUS_PHASE < 2 || m.dam.testTick == some m.now) = false := by
    simp [hns, htick, Nat.not_lt.mpr hphase]
  unfold damperSelfTest
  rw [hidle]
  rfl

/-! ### A pin against its drive (R211) -/

theorem outputPinMismatch_granted (pin : Nat) (h : m.b REDUN_STATUS_GRANTED = true) : outputPinMismatch pin m =
    match pin with
    | 0 => (m.selfTestFail (11 + pin) 3).wb DAMP_STATUS_OUT_A m.dam.run
    | 1 => (m.selfTestFail (11 + pin) 3).wb DAMP_STATUS_OUT_B m.dam.run
    | _ => (m.selfTestFail (11 + pin) 3).wb DAMP_STATUS_FIX_EN_N (if pin ≤ 1 then m.dam.run else m.dam.fixRun) := by
  unfold outputPinMismatch
  rw [h]
  match pin with
  | 0 => rfl
  | 1 => rfl
  | _ + 2 => rfl

/-- A bit written. -/
theorem Mach.b_wb_same (f : Field) (v : Bool) (hw : f.lo + f.width ≤ 32) (h1 : f.width = 1) : (m.wb f v).b f = v := by
  refine (m.b_w_same f (b2n v) 0 hw).trans ?_
  rw [h1]
  cases v <;> rfl

end Sys2Proof.Machine
end

section
/-! PROOFS. O33 is settled. -/

namespace Sys2Proof.Machine

open Sys2Proof

/-- Settles O33: a cycle that passes writes its counter, a failure its record and source 12; a pin mismatch is a failure with the pin
shown. -/
theorem damperTestsItsPath : Obligations.DamperTestsItsPath := by
  unfold Obligations.DamperTestsItsPath
  refine ⟨fun s => ⟨fun u hu hle => ?fixDue, fun u hu hlt => ?fixEarly, fun hnone => ?fixNone⟩, fun fail s => ?cycle,
    fun pin s => ?pin, fun m wh kind hwh hkind => ?fail⟩
  case fixDue =>
    refine ⟨s.on_eq fixEnDelayExpiry _ ?_, rfl, Mach.r_w_same _ _ 1 0 0 (by decide), rfl, ?_⟩
    · unfold fixEnDelayExpiry
      rw [hu]
      exact if_pos hle
    · refine Mach.latched_congr ?_ ?_ ?_ rfl
      all_goals exact Mach.r_w_apart _ _ _ _ _ 0 (by decide)
  case fixEarly =>
    refine s.on_same fixEnDelayExpiry ?_
    unfold fixEnDelayExpiry
    rw [hu]
    exact if_neg (Nat.not_le.mpr hlt)
  case fixNone =>
    refine s.on_same fixEnDelayExpiry ?_
    unfold fixEnDelayExpiry
    rw [hnone]
  case cycle =>
    intro due m
    refine ⟨fun hidle => s.on_same _ (damperSelfTest_idle s.m _ hidle), fun hdue hfail => ?_, fun k kind hdue hfail => ?_⟩
    · refine ⟨s.on_eq _ _ ((damperSelfTest_due s.m _ hdue).trans (by rw [hfail]; rfl)), m.selfTestPass_cycles,
        m.selfTestPass_latched, ?_, ?_, m.selfTestPass_levels, ?_,
        (congrArg DamSt.arm m.selfTestPass_dam :)⟩
      all_goals exact m.selfTestPass_r _ (by decide) (by unfold quietOff; decide)
    · refine ⟨fun hused => s.on_eq _ _ ((damperSelfTest_due s.m _ hdue).trans ?_),
        fun hk huse => s.on_eq _ _ ((damperSelfTest_due s.m _ hdue).trans ?_)⟩
      · rw [hfail]
        refine if_neg ?_
        obtain h8 | huse := hused
        · simp [Nat.not_lt.mpr h8]
        · simp [huse]
      · rw [hfail]
        exact if_pos (by simp [hk, huse])
  case pin =>
    refine ⟨fun hno => s.on_same (outputPinMismatch pin) (if_pos (by simp [hno])), fun hgrant => ?_⟩
    have heq := outputPinMismatch_granted s.m pin hgrant
    match pin with
    | 0 =>
      exact ⟨_, s.on_eq (outputPinMismatch 0) _ heq, Mach.wb_kiln .., fun _ => Mach.b_wb_same _ _ _ (by decide) rfl, nofun, nofun,
        Mach.wb_dam .., Mach.wb_hostMem ..⟩
    | 1 =>
      exact ⟨_, s.on_eq (outputPinMismatch 1) _ heq, Mach.wb_kiln .., nofun, fun _ => Mach.b_wb_same _ _ _ (by decide) rfl, nofun,
        Mach.wb_dam .., Mach.wb_hostMem ..⟩
    | 2 =>
      exact ⟨_, s.on_eq (outputPinMismatch 2) _ heq, Mach.wb_kiln .., nofun, nofun, fun _ => Mach.b_wb_same _ _ _ (by decide) rfl,
        Mach.wb_dam .., Mach.wb_hostMem ..⟩
  case fail =>
    intro f
    have hsrc : f.r DAMP_SRC_SRC = m.r DAMP_SRC_SRC :=
      (Mach.r_w_apart _ _ _ _ _ 0 (by decide)).trans
        ((Mach.r_w_apart _ _ _ _ _ 0 (by decide)).trans (Mach.r_w_apart _ _ _ _ _ 0 (by decide)))
    refine ⟨?_, ?_, Mach.r_w_same _ _ kind 0 0 (by decide) |>.trans (Nat.mod_eq_of_lt hkind), rfl, fun hfresh => ⟨?_, ?_⟩⟩
    · exact Mach.b_of_r ((Mach.r_w_apart _ _ _ _ _ 0 (by decide)).trans (Mach.r_w_apart _ _ _ _ _ 0 (by decide))) |>.trans
        (Mach.b_w_same _ _ 1 0 (by decide))
    · exact (Mach.r_w_apart _ _ _ _ _ 0 (by decide)).trans
        ((Mach.r_w_same _ _ wh 0 0 (by decide)).trans (Nat.mod_eq_of_lt hwh))
    · exact f.levelAssert_site 12 wh (by rw [hsrc, hfresh])
    · rw [f.levelAssert_src 12 wh 12 _ (by decide)]
      rfl

end Sys2Proof.Machine
end

section
/-! PROOFS. Resets of the unit (O59; 19, R192, R491, R551, R562 to R565, R580). -/

namespace Sys2Proof.Machine

open Sys2Proof

/-! ### The part right after a reset -/

/-- The site is latched by the power-up and nothing else is. -/
def Mach.powerUpLatched (m : Mach) : Prop :=
  m.siteLatched = true ∧ (m.r DAMP_SRC_SEEN_SEEN).testBit 14 = true ∧ m.r DAMP_CAUSE_SOURCE = 14 ∧ m.zoneLatches = 0 ∧
    m.dam.agents = 0

theorem resetMach_powerUpLatched : resetMach.powerUpLatched := ⟨rfl, rfl, rfl, rfl, rfl⟩

theorem Mach.powerUpLatched_of_kept {m : Mach} (hr : regsKept [PWR_RESET_CAUSE_CAUSE.off 0 0] resetMach m) (hd : m.dam = {}) :
    m.powerUpLatched := by
  have hf : ∀ f : Field, f.off 0 0 ≠ PWR_RESET_CAUSE_CAUSE.off 0 0 → m.r f = resetMach.r f := fun f hne =>
    Mach.r_congr f 0 0 (hr _ (by simpa using hne))
  obtain ⟨hsite, hseen, hcause, hzone, -⟩ := resetMach_powerUpLatched
  refine ⟨?_, ?_, ?_, ?_, by rw [hd]⟩
  · rw [← hsite]
    exact Mach.b_of_r (hf _ (by decide))
  · rw [hf _ (by decide), hseen]
  · rw [hf _ (by decide), hcause]
  · rw [← hzone]
    exact congrArg₂ (fun a b => a + 2 ^ 32 * b) (hf _ (by decide)) (hf _ (by decide))

/-- A part fresh from a reset with a cause: registers at their reset values, the blocks' state new, host memory as it was. -/
def Mach.freshFrom (m t : Mach) (cause : Nat) : Prop :=
  t.powerUpLatched ∧ t.r PWR_RESET_CAUSE_CAUSE = cause ∧ regsKept [PWR_RESET_CAUSE_CAUSE.off 0 0] resetMach t ∧
    t.hostMem = m.hostMem ∧ t.out = m.out ∧ t.kiln = {} ∧ t.air = {} ∧ t.mot = [] ∧ t.chop = [] ∧ t.dam = {} ∧ t.hif = {} ∧
    t.sag = {} ∧ t.met = {} ∧ t.gnss = {} ∧ t.red = {} ∧ t.upd = {}

theorem Mach.rebooted_fresh (m : Mach) (cause : Nat) (torn : Bool) (revert : Option Nat) (held : Bool)
    (hc : cause < 2 ^ PWR_RESET_CAUSE_CAUSE.width) : m.freshFrom (m.rebooted cause torn revert held) cause := by
  have hr : regsKept [PWR_RESET_CAUSE_CAUSE.off 0 0] resetMach (m.rebooted cause torn revert held) :=
    Mach.w_regsKept (fun _ _ => rfl) _ _ 0 (by simp)
  refine ⟨Mach.powerUpLatched_of_kept hr rfl, ?_, hr, rfl, rfl, rfl, rfl, rfl, rfl, rfl, rfl, rfl, rfl, rfl, rfl, rfl⟩
  exact (Mach.r_w_same _ _ cause 0 0 (by decide)).trans (Nat.mod_eq_of_lt hc)

/-- What a reset leaves fresh depends on the part before it by host memory and what it has put out. -/
theorem Mach.freshFrom_congr {a b t : Mach} {cause : Nat} (h : a.freshFrom t cause) (hm : a.hostMem = b.hostMem)
    (ho : a.out = b.out) : b.freshFrom t cause := by
  obtain ⟨hl, hc, hr, hmem, hout, hrest⟩ := h
  exact ⟨hl, hc, hr, hmem.trans hm, hout.trans ho, hrest⟩

/-! ### What stays in MRAM -/

/-- The real-time clock, the run of boot timeouts and the metering saves. -/
def NvSt.clockPart (nv : NvSt) : Option (Nat × Nat) × Nat × Nat × Tab MetSlot := (nv.rtc, nv.timeouts, nv.metSeq, nv.slots)

theorem NvSt.revert_clockPart (nv : NvSt) (cause : Nat) : (nv.revert cause).clockPart = nv.clockPart := by
  unfold NvSt.revert
  split <;> rfl

theorem Mach.tearShard_clockPart (m : Mach) : m.tearShard.clockPart = m.nv.clockPart := by
  unfold Mach.tearShard
  dsimp only
  split <;> rfl

theorem Mach.nvAfter_clockPart (m : Mach) (torn : Bool) (revert : Option Nat) : (m.nvAfter torn revert).clockPart = m.nv.clockPart := by
  unfold Mach.nvAfter
  extract_lets nv set
  have hnv : nv.clockPart = m.nv.clockPart := by
    unfold nv
    split
    · exact m.tearShard_clockPart
    · rfl
  have hset : set.clockPart = nv.clockPart := by
    unfold set
    split <;> rfl
  split
  · exact (set.revert_clockPart _).trans (hset.trans hnv)
  · exact hset.trans hnv

theorem Mach.nvAfter_keeps (m : Mach) (torn : Bool) (revert : Option Nat) : (m.nvAfter torn revert).rtc = m.nv.rtc ∧
    (m.nvAfter torn revert).timeouts = m.nv.timeouts ∧ (m.nvAfter torn revert).metSeq = m.nv.metSeq ∧
    (m.nvAfter torn revert).slots = m.nv.slots := by
  simpa [NvSt.clockPart] using m.nvAfter_clockPart torn revert

/-! ### The last save (R491) -/

theorem Mach.metSave_outside (m : Mach) (final ok : Bool) :
    (m.metSave final ok).hostMem = m.hostMem ∧ (m.metSave final ok).out = m.out := by
  unfold Mach.metSave
  cases ok <;> exact ⟨rfl, rfl⟩

theorem Mach.metLast_outside (m : Mach) : m.metLast.hostMem = m.hostMem ∧ m.metLast.out = m.out := by
  have h : ∀ (x : Mach) (ok : Bool), (x.metFinal ok).hostMem = x.hostMem ∧ (x.metFinal ok).out = x.out := by
    intro x ok
    unfold Mach.metFinal
    split
    · exact x.metSave_outside true ok
    · exact ⟨rfl, rfl⟩
  exact h m.draw.2 _

/-- The slot of a final save. -/
def Mach.finalSlot (m : Mach) : MetSlot :=
  { seq := (m.nv.metSeq + 1) % 2 ^ 32, pt := m.pt, final := true, els := (List.range 16).map m.metShown, crc := 0 }

/-- The save is made where the counts are restored and still run; a failed read-back leaves no valid slot. -/
theorem Mach.metLast_saved (m : Mach) (hr : m.met.restored = true) (hs : m.met.stopped = false)
    (hk : Tabs.rising none m.nv.slots = true) : m.metLast.nv.metSeq = m.finalSlot.seq ∧
      (Tabs.look m.metLast.nv.slots (m.finalSlot.seq % 8) = none ∨
        Tabs.look m.metLast.nv.slots (m.finalSlot.seq % 8) = some m.finalSlot.sealed) := by
  have hsave : ∀ ok, (m.draw.2.metFinal ok) = m.draw.2.metSave true ok := fun ok => if_pos (by simp [Mach.draw, hr, hs])
  have hnv : m.metLast.nv = (m.draw.2.metSave true (m.draw.1 % 2 == 0)).nv := (congrArg Mach.nv (hsave _) :)
  rw [hnv]
  cases m.draw.1 % 2 == 0
  · exact ⟨rfl, .inl ((Tabs.look_del _ _ _ hk).trans (if_pos rfl))⟩
  · exact ⟨rfl, .inr (Tabs.look_put_same ..)⟩

end Sys2Proof.Machine
end

section
/-! PROOFS. O59 is settled. -/

namespace Sys2Proof.Machine

open Sys2Proof

/-- Settles O59: each cause of a reset runs the same one, whose part is fresh but for the cause and what the boot then latches. -/
theorem resetsLatchTheSiteAndStartAgain : Obligations.ResetsLatchTheSiteAndStartAgain := by
  unfold Obligations.ResetsLatchTheSiteAndStartAgain
  intro latched fresh
  refine ⟨resetMach_powerUpLatched, fun p s => ?power, fun torn s hheld => ?pin, fun s => ?vin, fun s => ?restart, fun v s => ?unit,
    fun s => ?activation, fun s => ?boot⟩
  case power =>
    let m : Mach := { s.m with nv := { s.m.nv with rtc := if p.vbat then s.m.nv.rtc.map (fun t => rtcRun t p.away) else none } }
    refine ⟨m.rebooted 1 p.torn none false, rfl, m.rebooted_fresh 1 _ _ _ (by decide), rfl, fun hv => ?_⟩
    refine (m.nvAfter_keeps p.torn none).1.trans ?_
    exact if_neg (by simp [hv])
  case pin => exact ⟨s.m.rebooted 2 torn none false, if_neg (by simp [hheld]), s.m.rebooted_fresh 2 _ _ _ (by decide)⟩
  case vin => exact ⟨s.m.rebooted 1 false none true, rfl, s.m.rebooted_fresh 1 _ _ _ (by decide), rfl⟩
  case restart =>
    refine ⟨fun hno => if_neg ?_, fun hfail hheld habove =>
      ⟨s.m.rebooted 3 false none false, if_pos (by simp [hfail, hheld, habove]), s.m.rebooted_fresh 3 _ _ _ (by decide)⟩⟩
    obtain h | h := hno
    · simp [h]
    · simp [Nat.not_le.mpr h]
  case unit =>
    refine ⟨fun hv => if_neg fun hgo => hv ?_, fun hv hheld => ?_⟩
    · simp only [Bool.and_eq_true, beq_iff_eq] at hgo
      exact BitVec.eq_of_toNat_eq hgo.1
    · obtain ⟨hm, ho⟩ := s.m.metLast_outside
      obtain ⟨-, -, hseq, hslots⟩ := s.m.metLast.nvAfter_keeps false none
      refine ⟨s.m.metLast.rebooted 4 false none false, if_pos (by simp [hv, hheld]),
        Mach.freshFrom_congr (s.m.metLast.rebooted_fresh 4 _ _ _ (by decide)) hm ho, fun hr hs hk => ?_⟩
      obtain ⟨hq, hslot⟩ := s.m.metLast_saved hr hs hk
      refine ⟨hseq.trans hq, ?_⟩
      rw [← hslots] at hslot
      exact hslot
  case activation =>
    intro due
    have hdue : s.m.resetDue = true ↔ due := by
      simp [due, Mach.resetDue, Option.any_eq_true]
    obtain ⟨hm, ho⟩ := s.m.metLast_outside
    exact ⟨fun hno => if_neg fun h => hno (hdue.mp h), fun hgo => ⟨_, if_pos (hdue.mpr hgo),
      Mach.freshFrom_congr (s.m.metLast.rebooted_fresh 5 _ _ _ (by decide)) hm ho⟩⟩
  case boot =>
    intro late
    have hlate : s.m.bootLate = true ↔ late := by
      simp [late, Mach.bootLate]
    let m : Mach := { s.m with nv := { s.m.nv with timeouts := min 3 (s.m.nv.timeouts + 1) } }
    exact ⟨fun hno => if_neg fun h => hno (hlate.mp h), fun hgo => ⟨m.rebooted 6 false none false, if_pos (hlate.mpr hgo),
      m.rebooted_fresh 6 _ _ _ (by decide), (m.nvAfter_keeps false none).2.1⟩⟩

end Sys2Proof.Machine
end

section
/-! PROOFS. What the ends of frames and the decisions about joins leave (07, R232, R233, R274, R275): a frame for the slot engine. -/

namespace Sys2Proof.Machine

open Sys2Proof

variable {α : Type} (m : Mach)

/-! ### Observations -/

/-- The frames in flight and ended, and the join requests of the slot. -/
def AirSt.sky (a : AirSt) : List Flight × List Flight × List JoinTaken := (a.inFlight, a.ended, a.joins)

/-- An observation of what the slot engine's tables and counters leave: writes of the listed fields, the link view, and the
region's state but its frames. -/
structure AirFree (l : List (Field × Nat)) (g : Mach → α) : Prop where
  w : Kept g l
  word : ∀ (x : Mach) (v : Nat), g (x.wWord AIR_LINK_VIEW_MCS v) = g x
  air : ∀ (x : Mach) (a : AirSt), a.sky = x.air.sky → g { x with air := a } = g x

/-- The fields that show the region's tables. -/
def tabFields : List (Field × Nat) :=
  [AIR_MEMBERS_MEMBERS, AIR_MEMBERS_PENDING, AIR_TASK_STATUS_USED, AIR_TASK_STATUS_OPEN, AIR_LINK_VIEW_MCS, AIR_LINK_VIEW_RETRIES,
    AIR_LINK_VIEW_PENDING, AIR_LINK_VIEW_DOWN_DSN, AIR_LINK_VIEW_UP_DSN, AIR_LINK_VIEW_OK_RUN].map (fun f => (f, 0)) ++
  (List.range 8).flatMap fun x => [(AIR_LANE_SEATS_OCCUPIED, x), (AIR_LANE_SEATS_LAST_UP, x), (AIR_LANE_SEATS_MOVES, x)]

/-- The counters of frames that have ended. -/
def settleFields : List (Field × Nat) :=
  [AIR_BURSTS_SENT_ALL, AIR_PERMITS_SENT_ALL, AIR_AUTH_SENT_ALL, CORR_AGE_MAX_ALL, CORR_IE_SENT_ALL, AIR_JOIN_ACKED_ALL,
    AIR_TX_RETRY_ALL, AIR_TX_FIRST_ALL, CORR_RTCM_DROPPED_ALL].map (fun f => (f, 0)) ++
  (List.range 8).map (fun x => (AIR_LANE_TX_US_ALL, x))

/-- A field apart from those listed and from the link view. -/
theorem airFree_field (f : Field) (k : Nat) (l : List (Field × Nat)) (h : l.all (fun e => f.apart k e.1 e.2) = true)
    (hv : f.off k 0 ≠ AIR_LINK_VIEW_MCS.off 0 0) : AirFree l (fun x => x.r f k) where
  w := kept_field f k l h
  word _ _ := Mach.r_congr f k 0 (Tabs.look_put_ne _ _ hv)
  air _ _ _ := rfl

/-- The part without its registers, the Air region and what it has put out. -/
def Mach.offAir (m : Mach) : Mach := { m with regs := [], air := {}, out := [] }

theorem airFree_offAir (l : List (Field × Nat)) : AirFree l Mach.offAir :=
  ⟨kept_of_eq _ fun _ _ _ _ => rfl, fun _ _ => rfl, fun _ _ _ => rfl⟩

theorem airFree_sky (l : List (Field × Nat)) : AirFree l (fun x => x.air.sky) :=
  ⟨kept_of_eq _ fun _ _ _ _ => rfl, fun _ _ => rfl, fun _ _ h => h⟩

theorem airFree_out (l : List (Field × Nat)) : AirFree l Mach.out :=
  ⟨kept_of_eq _ fun _ _ _ _ => rfl, fun _ _ => rfl, fun _ _ _ => rfl⟩

/-- The registers that show the tables are all that their show writes. -/
theorem Mach.airShow_keeps {g : Mach → α} (hk : Kept g tabFields)
    (hword : ∀ (x : Mach) (v : Nat), g (x.wWord AIR_LINK_VIEW_MCS v) = g x) (x : Mach) : g x.airShow = g x := by
  have hw : ∀ f i, (f, i) ∈ tabFields → ∀ (y : Mach) (v : Nat), g (y.w f v i) = g y := fun f i hf => hk (f, i) hf
  have hseat : ∀ (y : Mach) (n : Nat), n ∈ List.range 8 → ∀ a b c,
      g (((y.w AIR_LANE_SEATS_OCCUPIED a n).w AIR_LANE_SEATS_LAST_UP b n).wb
      AIR_LANE_SEATS_MOVES c n) = g y := by
    intro y n hn a b c
    have hmem : ∀ f ∈ [AIR_LANE_SEATS_OCCUPIED, AIR_LANE_SEATS_LAST_UP, AIR_LANE_SEATS_MOVES], (f, n) ∈ tabFields := fun f hf =>
      List.mem_append_right _ (List.mem_flatMap.mpr ⟨n, hn, by simpa using hf⟩)
    rw [Mach.wb, hw _ n (hmem _ (by simp)), hw _ n (hmem _ (by simp)), hw _ n (hmem _ (by simp))]
  unfold Mach.airShow
  extract_lets ms pend counts seated open_ shown
  have hcounts : g counts = g x :=
    (hw AIR_MEMBERS_PENDING 0 (by decide) _ _).trans (hw AIR_MEMBERS_MEMBERS 0 (by decide) _ _)
  have hseated : g seated = g counts := Mach.each_keeps _ g _ _ fun y n hn => hseat y n hn _ _ _
  have hshown : g shown = g seated :=
    (hw AIR_TASK_STATUS_OPEN 0 (by decide) _ _).trans (hw AIR_TASK_STATUS_USED 0 (by decide) _ _)
  clear_value shown
  refine Eq.trans ?_ (hshown.trans (hseated.trans hcounts))
  split
  · exact hword _ _
  · unfold Mach.wb
    dsimp only
    iterate 6 rw [hw _ 0 (by decide)]

section Frames

variable {g : Mach → α} {l : List (Field × Nat)} (h : AirFree l g)
include h

theorem AirFree.setTab (x : Mach) (t : AirTab) : g (x.setTab t) = g x := h.air x _ rfl

theorem AirFree.airShow (hl : tabFields ⊆ l) (x : Mach) : g x.airShow = g x := Mach.airShow_keeps (h.w.mono hl) h.word x

theorem AirFree.settleFlight (hl : settleFields ⊆ l) (x : Mach) (f : Flight) : g (x.settleFlight f) = g x := by
  have hw : ∀ c, (c, 0) ∈ settleFields → ∀ (y : Mach) (v : Nat), g (y.w c v) = g y := fun c hc => h.w (c, 0) (hl hc)
  have hcharge : g (x.chargeTx f.lane f.chan f.us) = g x := by
    unfold Mach.chargeTx Mach.incBy
    dsimp only
    rw [h.w (AIR_LANE_TX_US_ALL, f.lane) (hl (List.mem_append_right _ (List.mem_map.mpr ⟨_, List.mem_range.mpr f.lane.isLt, rfl⟩)))]
    exact h.air x _ rfl
  unfold Mach.settleFlight
  extract_lets charged slot
  refine Eq.trans ?_ (show g charged = g x from hcharge)
  clear_value charged
  split
  case h_1 plan burst =>
    extract_lets counted air planned ups tab lastUp note
    have hcounted : g counted = g charged := by
      unfold counted Mach.inc Mach.incBy
      split <;> exact hw _ (by decide) _ _
    have hlast : g lastUp = g planned := by
      unfold lastUp
      split
      · exact h.setTab _ _
      · rfl
    exact (h.setTab _ _).trans (hlast.trans ((h.air counted _ (by rfl)).trans hcounted))
  case h_2 => exact hw _ (by decide) _ _
  case h_3 auth corr rtcm =>
    extract_lets counted q old air queued
    have hqueued : g queued = g charged := (h.air counted _ (by rfl)).trans (hw AIR_AUTH_SENT_ALL (by decide) _ _)
    split
    · extract_lets age sent
      have hsent : g sent = g queued := by
        unfold sent
        split
        · exact h.air queued _ rfl
        · rfl
      exact (hw CORR_IE_SENT_ALL (by decide) _ _).trans
        ((hw CORR_AGE_MAX_ALL (by decide) _ _).trans (hsent.trans hqueued))
    · exact hqueued
  case h_4 join => exact Mach.when_keeps _ g _ _ fun y => hw AIR_JOIN_ACKED_ALL (by decide) y _
  case h_5 eui content => exact h.setTab _ _
  case h_6 i u retry =>
    split
    · rfl
    · extract_lets u' y placed counted
      have hcounted : g counted = g placed := by
        unfold counted Mach.inc Mach.incBy
        split <;> exact hw _ (by decide) _ _
      exact (h.setTab _ _).trans (hcounted.trans (h.setTab charged _))

theorem AirFree.authSent (x : Mach) (r : List AuthRec) : g (x.authSent r) = g x := by
  refine Mach.each_keeps _ g _ _ fun y a _ => ?_
  dsimp only
  split
  · split
    · rfl
    · split <;> exact h.setTab _ _
  · rfl

theorem AirFree.rtcmLost (hl : settleFields ⊆ l) (x : Mach) : g x.rtcmLost = g x := by
  unfold Mach.rtcmLost Mach.incBy
  dsimp only
  rw [h.w (CORR_RTCM_DROPPED_ALL, 0) (hl (by decide))]
  exact h.air x _ rfl

/-- The ends of the frames of a window, once none is in flight and the PA is at rest. -/
theorem AirFree.settleFlights (hl : settleFields ++ tabFields ⊆ l) (x : Mach) :
    g x.settleFlights = g ((x.setFlight [] [] x.air.acks).paRest) := by
  have hset : settleFields ⊆ l := fun e he => hl (List.mem_append_left _ he)
  unfold Mach.settleFlights
  dsimp only
  rw [h.airShow fun e he => hl (List.mem_append_right _ he), h.authSent, h.rtcmLost hset,
    Mach.each_keeps _ g _ _ fun y f _ => h.settleFlight hset y f]

end Frames

/-! ### The frames of a window ended -/

/-- PA pins at rest show in the pins and in what is put out. -/
theorem Mach.paRest_eq : m.paRest = { m with air := { m.air with pins := m.paRest.air.pins }, out := m.paRest.out } := by
  unfold Mach.paRest
  cases m.air.pins.en <;> rfl

theorem Mach.settleFlights_offAir : m.settleFlights.offAir = m.offAir := by
  rw [(airFree_offAir _).settleFlights (fun _ he => he), Mach.paRest_eq]
  rfl

theorem Mach.settleFlights_sky : m.settleFlights.air.sky = ([], [], m.air.joins) := by
  rw [(airFree_sky _).settleFlights (fun _ he => he), (Mach.paRest_state _).2.2]
  rfl

/-- With the PA at rest nothing is put out. -/
theorem Mach.settleFlights_out (h : m.air.pins.en = false) : m.settleFlights.out = m.out := by
  rw [(airFree_out _).settleFlights (fun _ he => he)]
  unfold Mach.paRest
  rw [if_neg (by simpa [Mach.setFlight] using h)]
  rfl

/-- A field that the ends of frames leave. -/
theorem Mach.settleFlights_r (f : Field) (k : Nat) (h : (settleFields ++ tabFields).all (fun e => f.apart k e.1 e.2) = true)
    (hv : f.off k 0 ≠ AIR_LINK_VIEW_MCS.off 0 0) : m.settleFlights.r f k = m.r f k := by
  have hf := (airFree_field f k _ h hv).settleFlights (fun _ he => he) m
  exact hf.trans (Mach.r_of_regs (congrArg Mach.regs (Mach.paRest_eq _)) f k 0)

end Sys2Proof.Machine
end

section
/-! PROOFS. Slots, lanes and banks (O34; 07, R229, R230, R232, R236, R241, R247, R253): what a slot's start writes. -/

namespace Sys2Proof.Machine

open Sys2Proof

variable {α : Type} (m : Mach)

/-! ### The start of a slot in steps -/

/-- The fields of AIR_STATUS that follow the region's conditions. -/
def refreshFields : List (Field × Nat) :=
  [AIR_STATUS_STEPPED, AIR_STATUS_GRANTED, AIR_STATUS_ACTIVE, AIR_STATUS_GATE, AIR_STATUS_TX_OK].map fun f => (f, 0)

/-- The fields that show which lanes a slot serves. -/
def laneFields : List (Field × Nat) :=
  (List.range 8).flatMap fun x => [AIR_LANE_STATUS_CHANNEL, AIR_LANE_STATUS_STATE, AIR_LANE_STATUS_DARK, AIR_LANE_STATUS_MODEM,
    AIR_LANE_DARK_ALL].map fun f => (f, x)

/-- The slot is the region's: its state as it begins. -/
def Mach.slotBegun (m : Mach) (a : Nat) (on : Bool) : Mach :=
  { m with air := { m.air with slot := some a, phase := 1, on := on, acks := [], sentOn := [], joins := [], heard := [],
                               counted := [], held := m.isActive && m.b REDUN_STATUS_GRANTED } }

/-- The slot's ASN shows. -/
def Mach.asnShown (m : Mach) (a : Nat) : Mach :=
  ((m.w AIR_ASN_LO_ALL a).w AIR_ASN_HI_ALL (a / 2 ^ 32)).w AIR_STATUS_ASN_VALID 1

/-- The gate reads open in the slot, but for the chip safe state. -/
def Mach.gateOpened (m : Mach) : Mach := m.when (!m.isSafe) (fun m => m.w DAMP_STATUS_GATE 0)

/-- The first permit of the region's slots has come. -/
def Mach.permitPassed (m : Mach) (c : Bool) : Mach :=
  if c && m.air.cond then { m with air := { m.air with permitFirst := false } } else m

/-- A burst owed is taken, and the lanes of the slot are served. -/
def Mach.slotServed (m : Mach) (a : Nat) (on : Bool) : Mach :=
  let m := m.takeBurst
  let permit := m.kindAt a == kPERMIT
  (m.permitPassed (permit && on)).serveLanes a permit

theorem slotStart_due (h : m.slotDue = true) : slotStart m =
    ((((m.settleFlights.airWipe.slotBegun m.settleFlights.asn (m.settleFlights.takes .air)).asnShown
      m.settleFlights.asn).gateOpened.airRefresh).slotServed m.settleFlights.asn (m.settleFlights.takes .air)) := by
  have hgo : ¬ (!m.slotDue) = true := by simp [h]
  unfold slotStart Mach.slotServed Mach.permitPassed Mach.gateOpened Mach.asnShown Mach.slotBegun
  rw [if_neg hgo]

/-! ### What the steps leave -/

/-- An observation that the region's state and Damper's do not show in. -/
structure SlotFree (l : List (Field × Nat)) (g : Mach → α) : Prop where
  w : Kept g l
  word : ∀ (x : Mach) (v : Nat), g (x.wWord AIR_LINK_VIEW_MCS v) = g x
  air : ∀ (x : Mach) (a : AirSt), g { x with air := a } = g x

theorem slotFree_field (f : Field) (k : Nat) (l : List (Field × Nat)) (h : l.all (fun e => f.apart k e.1 e.2) = true)
    (hv : f.off k 0 ≠ AIR_LINK_VIEW_MCS.off 0 0) : SlotFree l (fun x => x.r f k) :=
  ⟨kept_field f k l h, fun _ _ => Mach.r_congr f k 0 (Tabs.look_put_ne _ _ hv), fun _ _ => rfl⟩

theorem slotFree_offAir (l : List (Field × Nat)) : SlotFree l Mach.offAir :=
  ⟨kept_of_eq _ fun _ _ _ _ => rfl, fun _ _ => rfl, fun _ _ => rfl⟩

theorem slotFree_out (l : List (Field × Nat)) : SlotFree l Mach.out :=
  ⟨kept_of_eq _ fun _ _ _ _ => rfl, fun _ _ => rfl, fun _ _ => rfl⟩

theorem AirFree.airWipe {g : Mach → α} {l : List (Field × Nat)} (h : AirFree l g) (hl : tabFields ⊆ l) (x : Mach) :
    g x.airWipe = g x := by
  unfold Mach.airWipe
  exact (Mach.when_keeps _ g _ _ fun y => (h.airShow hl _).trans (h.setTab y _)).trans (h.air x _ rfl)

section Frames

variable {g : Mach → α} {l : List (Field × Nat)} (h : SlotFree l g)
include h

theorem SlotFree.airRefresh (hl : refreshFields ⊆ l) (x : Mach) : g x.airRefresh = g x := by
  have hw : ∀ f, (f, 0) ∈ refreshFields → ∀ (y : Mach) (v : Nat), g (y.w f v) = g y := fun f hf => h.w (f, 0) (hl hf)
  unfold Mach.airRefresh Mach.wb
  dsimp only
  rw [h.air]
  iterate 5 rw [hw _ (by decide)]

theorem SlotFree.permitPassed (x : Mach) (c : Bool) : g (x.permitPassed c) = g x := by
  unfold Mach.permitPassed
  split
  · exact h.air x _
  · rfl

end Frames

/-! ### The service of lanes (R251) -/

/-- One lane served: its channel, state, and whether a modem serves it. -/
def Mach.serveLane (m : Mach) (a : Nat) (l mods : List Nat) (n : Nat) (x : Nat) : Mach :=
  let m := m.w AIR_LANE_STATUS_CHANNEL (m.chanOf x a) x
  let m := m.w AIR_LANE_STATUS_STATE (if !m.laneOpen x then 0 else if mods.length < n then 2 else 1) x
  match l.findIdx? (fun y => y == x) with
  | some k => (m.w AIR_LANE_STATUS_DARK 0 x).w AIR_LANE_STATUS_MODEM (mods.getD k 0) x
  | none => if m.laneOpen x then (m.w AIR_LANE_STATUS_DARK 1 x).inc AIR_LANE_DARK_ALL x else m.w AIR_LANE_STATUS_DARK 0 x

/-- The fields of a lane's service but its channel. -/
def lanePlainFields (x : Nat) : List (Field × Nat) :=
  [AIR_LANE_STATUS_STATE, AIR_LANE_STATUS_DARK, AIR_LANE_STATUS_MODEM, AIR_LANE_DARK_ALL].map fun f => (f, x)

theorem Mach.serveLane_keeps {g : Mach → α} {x : Nat} (h : Kept g (lanePlainFields x)) (a : Nat) (l mods : List Nat) (n : Nat) :
    g (m.serveLane a l mods n x) = g (m.w AIR_LANE_STATUS_CHANNEL (m.chanOf x a) x) := by
  have hw : ∀ f ∈ [AIR_LANE_STATUS_STATE, AIR_LANE_STATUS_DARK, AIR_LANE_STATUS_MODEM, AIR_LANE_DARK_ALL],
      ∀ (y : Mach) (v : Nat), g (y.w f v x) = g y := fun f hf => h (f, x) (List.mem_map.mpr ⟨f, hf, rfl⟩)
  unfold Mach.serveLane
  extract_lets chan shown
  have hshown : g shown = g chan := hw AIR_LANE_STATUS_STATE (by decide) _ _
  clear_value shown
  refine Eq.trans ?_ hshown
  split
  · rw [hw _ (by decide), hw _ (by decide)]
  · split
    · exact (hw AIR_LANE_DARK_ALL (by decide) _ _).trans (hw AIR_LANE_STATUS_DARK (by decide) _ _)
    · exact hw _ (by decide) _ _

/-- The slot of the region's state, its phase, its frames and what is owed. -/
def AirSt.begun (a : AirSt) : Option Nat × Nat × List Flight × List Flight × List AckDue :=
  (a.slot, a.phase, a.inFlight, a.ended, a.acks)

theorem Mach.serveLanes_eq (a : Nat) (permit : Bool) : ∃ (air : AirSt) (l mods : List Nat) (n : Nat), air.begun = m.air.begun ∧
    m.serveLanes a permit = ({ m with air := air } : Mach).each (List.range 8) (fun m y => m.serveLane a l mods n y) := by
  cases permit
  · exact ⟨{ m.air with servedOther := (m.servedLanes false).foldl (fun t x => Tabs.put t x a) m.air.servedOther },
      m.servedLanes false, m.modems, m.openLanes.length, rfl, rfl⟩
  · exact ⟨{ m.air with servedPermit := (m.servedLanes true).foldl (fun t x => Tabs.put t x a) m.air.servedPermit },
      m.servedLanes true, m.modems, m.openLanes.length, rfl, rfl⟩

theorem Mach.serveLanes_begun (a : Nat) (permit : Bool) : (m.serveLanes a permit).air.begun = m.air.begun := by
  obtain ⟨air, l, mods, n, hair, he⟩ := m.serveLanes_eq a permit
  rw [he]
  refine (Mach.each_keeps _ (fun x => x.air.begun) _ _ fun x y _ => ?_).trans hair
  exact x.serveLane_keeps (g := fun x => x.air.begun) (kept_of_eq _ fun _ _ _ _ => rfl) a l mods n

theorem SlotFree.serveLanes {g : Mach → α} {l : List (Field × Nat)} (h : SlotFree l g) (hl : laneFields ⊆ l) (x : Mach) (a : Nat)
    (permit : Bool) : g (x.serveLanes a permit) = g x := by
  obtain ⟨air, lanes, mods, n, -, he⟩ := x.serveLanes_eq a permit
  rw [he]
  refine (Mach.each_keeps _ g _ _ fun z y hy => ?_).trans (h.air x air)
  have hlane : (AIR_LANE_STATUS_CHANNEL, y) :: lanePlainFields y ⊆ laneFields := fun e he =>
    List.mem_flatMap.mpr ⟨y, hy, by simpa [lanePlainFields] using he⟩
  have hk := h.w.mono (fun e he => hl (hlane he))
  exact (z.serveLane_keeps (hk.mono (List.subset_cons_self ..)) a lanes mods n).trans
    (hk (AIR_LANE_STATUS_CHANNEL, y) List.mem_cons_self z _)

/-! ### What a slot's start shows -/

theorem Mach.asn_lt : m.asn < 2 ^ 40 := by
  unfold Mach.asn
  have := Int.emod_lt_of_pos (m.msInt / 4) (show (0 : Int) < 2 ^ 40 by decide)
  omega

theorem Mach.asn_congr {a b : Mach} (h : a.time = b.time) : a.asn = b.asn := by
  simp only [Mach.asn, Mach.msInt, h]

theorem Mach.offAir_dam : m.offAir.dam = m.dam := rfl

/-- What the service of a slot's lanes, once its burst is taken, leaves. -/
theorem SlotFree.served {g : Mach → α} {l : List (Field × Nat)} (h : SlotFree l g) (hl : laneFields ⊆ l) (x : Mach) (a : Nat)
    (on : Bool) : g (x.slotServed a on) = g x.takeBurst :=
  (h.serveLanes hl _ _ _).trans (h.permitPassed _ _)

/-- A field apart from what the slot's opening writes. -/
theorem Mach.slotServed_r (x : Mach) (a : Nat) (on : Bool) (f : Field) (k : Nat)
    (h : ((DAMP_STATUS_BURSTS_LEFT, 0) :: laneFields).all (fun e => f.apart k e.1 e.2) = true)
    (hv : f.off k 0 ≠ AIR_LINK_VIEW_MCS.off 0 0) : (x.slotServed a on).r f k = x.r f k := by
  have hf := slotFree_field f k _ h hv
  exact (hf.served (List.subset_cons_self ..) x a on).trans (hf.w (DAMP_STATUS_BURSTS_LEFT, 0) List.mem_cons_self _ _)

theorem Mach.slotServed_bursts (x : Mach) (a : Nat) (on : Bool) :
    (x.slotServed a on).r DAMP_STATUS_BURSTS_LEFT = x.r DAMP_STATUS_BURSTS_LEFT - 1 := by
  refine ((slotFree_field DAMP_STATUS_BURSTS_LEFT 0 laneFields (by decide) (by decide)).served (fun _ he => he) x a on).trans ?_
  refine (Mach.r_w_same _ _ _ 0 0 (by decide)).trans (Nat.mod_eq_of_lt ?_)
  exact Nat.lt_of_le_of_lt (Nat.sub_le _ _) (x.r_lt DAMP_STATUS_BURSTS_LEFT 0 0)

/-- The gate in the slot: open but for the safe state. -/
theorem Mach.gateOpened_gate (x : Mach) (h : x.isSafe = false) : x.gateOpened.r DAMP_STATUS_GATE = 0 := by
  unfold Mach.gateOpened
  rw [h]
  exact Mach.r_w_same _ _ 0 0 0 (by decide)

/-- The ASN is shown in two registers. -/
theorem Mach.asnShown_asn (x : Mach) (a : Nat) (ha : a < 2 ^ 40) :
    (x.asnShown a).r AIR_ASN_LO_ALL + 2 ^ 32 * (x.asnShown a).r AIR_ASN_HI_ALL = a := by
  have hlo : (x.asnShown a).r AIR_ASN_LO_ALL = a % 2 ^ 32 :=
    (Mach.r_w_apart _ _ _ _ _ 0 (by decide)).trans ((Mach.r_w_apart _ _ _ _ _ 0 (by decide)).trans (Mach.r_w_same _ _ a 0 0 (by decide)))
  have hhi : (x.asnShown a).r AIR_ASN_HI_ALL = a / 2 ^ 32 % 2 ^ AIR_ASN_HI_ALL.width :=
    (Mach.r_w_apart _ _ _ _ _ 0 (by decide)).trans (Mach.r_w_same _ _ _ 0 0 (by decide))
  rw [hlo, hhi, Nat.mod_eq_of_lt (Nat.lt_of_lt_of_le (show a / 2 ^ 32 < 2 ^ 8 by omega) (by decide))]
  omega

theorem Mach.asnShown_valid (x : Mach) (a : Nat) : (x.asnShown a).b AIR_STATUS_ASN_VALID = true :=
  Mach.b_w_same _ _ 1 0 (by decide)

/-! ### The channels of a slot (R229, R230) -/

theorem hop_lt : ∀ c ∈ hop, c < 32 := by
  unfold hop
  split <;> decide

theorem getD_lt {l : List Nat} {n : Nat} (h : ∀ c ∈ l, c < n) (hn : 0 < n) (i : Nat) : l.getD i 0 < n := by
  rw [List.getD_eq_getElem?_getD]
  cases he : l[i]? with
  | none => exact hn
  | some c => exact h c (List.mem_of_getElem? he)

theorem Mach.chanOf_lt (x a : Nat) : m.chanOf x a < 32 := getD_lt hop_lt (by decide) _

theorem Mach.chanOf_congr {a b : Mach} {x : Nat} (h : a.r AIR_LANE_CFG_OFFSET x = b.r AIR_LANE_CFG_OFFSET x) (s : Nat) :
    a.chanOf x s = b.chanOf x s := by
  simp only [Mach.chanOf, h]

/-- The channel and the offset of each lane stand apart from what the service of a lane shows beside its channel. -/
theorem lane_apart : ∀ x y : Fin 8, (lanePlainFields y).all (fun e => AIR_LANE_STATUS_CHANNEL.apart x e.1 e.2) = true ∧
    (lanePlainFields y).all (fun e => AIR_LANE_CFG_OFFSET.apart x e.1 e.2) = true ∧
    AIR_LANE_CFG_OFFSET.apart x AIR_LANE_STATUS_CHANNEL y = true ∧
    (x ≠ y → AIR_LANE_STATUS_CHANNEL.apart x AIR_LANE_STATUS_CHANNEL y = true) := by
  decide

theorem Mach.eachServe_channel (a : Nat) (lanes mods : List Nat) (n : Nat) (x : Fin 8) (l : List Nat) (hl : ∀ y ∈ l, y < 8) :
    (m.each l (fun m y => m.serveLane a lanes mods n y)).r AIR_LANE_STATUS_CHANNEL x =
      if x.val ∈ l then m.chanOf x a else m.r AIR_LANE_STATUS_CHANNEL x := by
  induction l generalizing m with
  | nil => rfl
  | cons y l ih =>
    obtain ⟨hchan, hoff, hoc, hcc⟩ := lane_apart x ⟨y, hl y List.mem_cons_self⟩
    let t := m.serveLane a lanes mods n y
    have hoffset : t.r AIR_LANE_CFG_OFFSET x = m.r AIR_LANE_CFG_OFFSET x :=
      (m.serveLane_keeps (kept_field _ x _ hoff) a lanes mods n).trans (m.r_w_apart _ _ _ y x hoc)
    have hshown : t.r AIR_LANE_STATUS_CHANNEL x = (m.w AIR_LANE_STATUS_CHANNEL (m.chanOf y a) y).r AIR_LANE_STATUS_CHANNEL x :=
      m.serveLane_keeps (kept_field _ x _ hchan) a lanes mods n
    refine (ih t fun z hz => hl z (List.mem_cons_of_mem y hz)).trans ?_
    rw [Mach.chanOf_congr hoffset a, hshown]
    by_cases hxy : x.val = y
    · subst hxy
      rw [m.r_w_same _ _ _ 0 (by decide), Nat.mod_eq_of_lt (show m.chanOf x a < 2 ^ AIR_LANE_STATUS_CHANNEL.width from m.chanOf_lt x a)]
      simp
    · rw [m.r_w_apart _ _ _ y x (hcc fun h => hxy (congrArg Fin.val h))]
      simp [hxy]

theorem Mach.serveLanes_channel (a : Nat) (permit : Bool) (x : Fin 8) :
    (m.serveLanes a permit).r AIR_LANE_STATUS_CHANNEL x = m.chanOf x a := by
  obtain ⟨air, l, mods, n, -, he⟩ := m.serveLanes_eq a permit
  rw [he, Mach.eachServe_channel _ _ _ _ _ _ _ fun k hk => List.mem_range.mp hk, if_pos (List.mem_range.mpr x.isLt)]
  rfl

/-! ### The state as a slot begins -/

theorem Mach.permitPassed_begun (c : Bool) : (m.permitPassed c).air.begun = m.air.begun := by
  unfold Mach.permitPassed
  split <;> rfl

theorem Mach.gateOpened_air : m.gateOpened.air = m.air := m.when_keeps Mach.air _ _ fun _ => rfl

/-- The frames of the last slot have ended, and the tables of a role that was lost in it are gone. -/
def Mach.slotEnded (m : Mach) : Mach := m.settleFlights.airWipe

theorem Mach.slotEnded_offAir : m.slotEnded.offAir = m.offAir :=
  ((airFree_offAir _).airWipe (fun _ he => he) _).trans m.settleFlights_offAir

theorem Mach.slotEnded_sky : m.slotEnded.air.sky = ([], [], m.air.joins) :=
  ((airFree_sky _).airWipe (fun _ he => he) _).trans m.settleFlights_sky

theorem Mach.slotEnded_out (h : m.air.pins.en = false) : m.slotEnded.out = m.out :=
  ((airFree_out _).airWipe (fun _ he => he) _).trans (m.settleFlights_out h)

theorem Mach.slotEnded_r (f : Field) (k : Nat) (h : (settleFields ++ tabFields).all (fun e => f.apart k e.1 e.2) = true)
    (hv : f.off k 0 ≠ AIR_LINK_VIEW_MCS.off 0 0) : m.slotEnded.r f k = m.r f k :=
  ((airFree_field f k _ h hv).airWipe (List.subset_append_right ..) _).trans (m.settleFlights_r f k h hv)

theorem Mach.settleFlights_asn : m.settleFlights.asn = m.asn := Mach.asn_congr (congrArg Mach.time m.settleFlights_offAir :)

/-- The part as the lanes of the slot are to be served. -/
def Mach.slotOpened (m : Mach) : Mach :=
  ((m.slotEnded.slotBegun m.asn (m.settleFlights.takes .air)).asnShown m.asn).gateOpened.airRefresh

theorem slotStart_opened (h : m.slotDue = true) :
    slotStart m = m.slotOpened.slotServed m.asn (m.settleFlights.takes .air) := by
  rw [slotStart_due m h, Mach.settleFlights_asn]
  rfl

/-- The fields that the slot's ASN and the gate show in. -/
def asnFields : List (Field × Nat) :=
  [AIR_ASN_LO_ALL, AIR_ASN_HI_ALL, AIR_STATUS_ASN_VALID, DAMP_STATUS_GATE].map fun f => (f, 0)

theorem SlotFree.opened {g : Mach → α} {l : List (Field × Nat)} (h : SlotFree l g) (hl : asnFields ++ refreshFields ⊆ l) :
    g m.slotOpened = g m.slotEnded := by
  have hw : ∀ f, (f, 0) ∈ asnFields → ∀ (y : Mach) (v : Nat), g (y.w f v) = g y :=
    fun f hf => h.w (f, 0) (hl (List.mem_append_left _ hf))
  unfold Mach.slotOpened Mach.gateOpened Mach.asnShown
  rw [h.airRefresh fun e he => hl (List.mem_append_right _ he), Mach.when_keeps _ g _ _ fun y => hw DAMP_STATUS_GATE (by decide) y 0,
    hw _ (by decide), hw _ (by decide), hw _ (by decide)]
  exact h.air m.slotEnded _

theorem Mach.slotOpened_offAir : m.slotOpened.offAir = m.offAir :=
  ((slotFree_offAir _).opened m (fun _ he => he)).trans m.slotEnded_offAir

/-- A field that neither the ends of frames nor the slot's opening write. -/
theorem Mach.slotOpened_r (f : Field) (k : Nat)
    (h : (settleFields ++ tabFields ++ (asnFields ++ refreshFields)).all (fun e => f.apart k e.1 e.2) = true)
    (hv : f.off k 0 ≠ AIR_LINK_VIEW_MCS.off 0 0) : m.slotOpened.r f k = m.r f k := by
  rw [List.all_append, Bool.and_eq_true] at h
  exact ((slotFree_field f k _ h.2 hv).opened m (fun _ he => he)).trans (m.slotEnded_r f k h.1 hv)

/-- A field of the slot's ASN stands until the end of its start. -/
theorem Mach.slotOpened_shown (f : Field) (h : ((DAMP_STATUS_GATE, 0) :: refreshFields).all (fun e => f.apart 0 e.1 e.2) = true)
    (hv : f.off 0 0 ≠ AIR_LINK_VIEW_MCS.off 0 0) :
    m.slotOpened.r f = ((m.slotEnded.slotBegun m.asn (m.settleFlights.takes .air)).asnShown m.asn).r f := by
  have hf := slotFree_field f 0 _ h hv
  exact (hf.airRefresh (List.subset_cons_self ..) _).trans
    (Mach.when_keeps _ (fun x => x.r f) _ _ fun y => hf.w (DAMP_STATUS_GATE, 0) List.mem_cons_self y 0)

theorem Mach.airRefresh_begun (x : Mach) : x.airRefresh.air.begun = x.air.begun := rfl
theorem Mach.asnShown_air (x : Mach) (a : Nat) : (x.asnShown a).air = x.air := rfl
theorem Mach.slotBegun_begun (x : Mach) (a : Nat) (on : Bool) :
    (x.slotBegun a on).air.begun = (some a, 1, x.air.inFlight, x.air.ended, []) := rfl

theorem Mach.slotOpened_begun : m.slotOpened.air.begun = (some m.asn, 1, [], [], []) := by
  obtain ⟨hflights, hsky⟩ := Prod.ext_iff.mp m.slotEnded_sky
  obtain ⟨hended, -⟩ := Prod.ext_iff.mp hsky
  rw [Mach.slotOpened, Mach.airRefresh_begun, Mach.gateOpened_air, Mach.asnShown_air, Mach.slotBegun_begun,
    show m.slotEnded.air.inFlight = [] from hflights, show m.slotEnded.air.ended = [] from hended]

/-- The part without registers and the region's state, after the slot's start: Damper has taken the burst. -/
theorem Mach.slotServed_offAir (x : Mach) (a : Nat) (on : Bool) : (x.slotServed a on).offAir =
    { x.offAir with dam := { x.dam with burst := x.r DAMP_STATUS_BURSTS_LEFT != 0 } } :=
  ((slotFree_offAir _).served (fun _ he => he) x a on)

theorem Mach.slotServed_begun (x : Mach) (a : Nat) (on : Bool) : (x.slotServed a on).air.begun = x.air.begun :=
  (Mach.serveLanes_begun _ _ _).trans (Mach.permitPassed_begun _ _)

theorem Mach.slotServed_channel (x : Mach) (a : Nat) (on : Bool) (y : Fin 8) :
    (x.slotServed a on).r AIR_LANE_STATUS_CHANNEL y = x.chanOf y a := by
  refine (Mach.serveLanes_channel _ _ _ y).trans (Mach.chanOf_congr ?_ a)
  have hf : SlotFree [(DAMP_STATUS_BURSTS_LEFT, 0)] (fun z => z.r AIR_LANE_CFG_OFFSET y) :=
    slotFree_field _ y _ (by revert y; decide) (by revert y; decide)
  exact (hf.permitPassed _ _).trans (hf.w (DAMP_STATUS_BURSTS_LEFT, 0) List.mem_cons_self _ _)

end Sys2Proof.Machine
end

section
/-! PROOFS. Slots, banks, lanes and a cut transmission (O34; 07, R197, R199, R229, R230, R232, R236, R241, R247, R253). -/

namespace Sys2Proof.Machine

open Sys2Proof

variable (m : Mach)

/-! ### A slot's start -/

/-- What the service of the lanes leaves of the ASN and the gate. -/
theorem slotStart_shown (h : m.slotDue = true) (f : Field) (hf : ((DAMP_STATUS_BURSTS_LEFT, 0) :: laneFields).all (fun e =>
    f.apart 0 e.1 e.2) = true) (hv : f.off 0 0 ≠ AIR_LINK_VIEW_MCS.off 0 0) : (slotStart m).r f = m.slotOpened.r f := by
  rw [slotStart_opened m h]
  exact Mach.slotServed_r _ _ _ f 0 hf hv

theorem slotStart_asn (h : m.slotDue = true) :
    (slotStart m).r AIR_ASN_LO_ALL + 2 ^ 32 * (slotStart m).r AIR_ASN_HI_ALL = m.asn := by
  rw [slotStart_shown m h _ (by decide) (by decide), slotStart_shown m h _ (by decide) (by decide),
    m.slotOpened_shown _ (by decide) (by decide), m.slotOpened_shown _ (by decide) (by decide)]
  exact Mach.asnShown_asn _ _ m.asn_lt

theorem slotStart_valid (h : m.slotDue = true) : (slotStart m).b AIR_STATUS_ASN_VALID = true := by
  rw [Mach.b_of_r ((slotStart_shown m h _ (by decide) (by decide)).trans (m.slotOpened_shown _ (by decide) (by decide)))]
  exact Mach.asnShown_valid _ _

/-- The gate reads open but for the chip safe state. -/
theorem slotStart_gate (h : m.slotDue = true) (hs : m.isSafe = false) : (slotStart m).r DAMP_STATUS_GATE = 0 := by
  rw [slotStart_shown m h _ (by decide) (by decide)]
  let n := (m.slotEnded.slotBegun m.asn (m.settleFlights.takes .air)).asnShown m.asn
  have hsafe : n.isSafe = false := by
    rw [← hs]
    refine Mach.b_of_r (Eq.trans ?_ (m.slotEnded_r INTC_STATUS_SAFE_STATE 0 (by decide) (by decide)))
    exact (Mach.r_w_apart _ _ _ _ _ 0 (by decide)).trans
      ((Mach.r_w_apart _ _ _ _ _ 0 (by decide)).trans (Mach.r_w_apart _ _ _ _ _ 0 (by decide)))
  refine Eq.trans ?_ (n.gateOpened_gate hsafe)
  exact (slotFree_field DAMP_STATUS_GATE 0 refreshFields (by decide) (by decide)).airRefresh (fun _ he => he) _

theorem slotStart_channel (h : m.slotDue = true) (x : Fin 8) :
    (slotStart m).r AIR_LANE_STATUS_CHANNEL x = m.chanOf x m.asn := by
  rw [slotStart_opened m h, Mach.slotServed_channel]
  exact Mach.chanOf_congr (m.slotOpened_r _ _ (by revert x; decide) (by revert x; decide)) _

theorem slotStart_begun (h : m.slotDue = true) : (slotStart m).air.begun = (some m.asn, 1, [], [], []) := by
  rw [slotStart_opened m h, Mach.slotServed_begun, Mach.slotOpened_begun]

theorem Mach.slotOpened_bursts : m.slotOpened.r DAMP_STATUS_BURSTS_LEFT = m.r DAMP_STATUS_BURSTS_LEFT :=
  m.slotOpened_r _ 0 (by decide) (by decide)

theorem slotStart_bursts (h : m.slotDue = true) :
    (slotStart m).r DAMP_STATUS_BURSTS_LEFT = m.r DAMP_STATUS_BURSTS_LEFT - 1 := by
  rw [slotStart_opened m h, Mach.slotServed_bursts, Mach.slotOpened_bursts]

theorem slotStart_offAir (h : m.slotDue = true) :
    (slotStart m).offAir = { m.offAir with dam := { m.dam with burst := m.r DAMP_STATUS_BURSTS_LEFT != 0 } } := by
  have hdam : m.slotOpened.dam = m.dam := by rw [← Mach.offAir_dam, Mach.slotOpened_offAir, Mach.offAir_dam]
  rw [slotStart_opened m h, Mach.slotServed_offAir, Mach.slotOpened_offAir, Mach.slotOpened_bursts, hdam]

theorem Mach.takeBurst_out : m.takeBurst.out = m.out := rfl

theorem slotStart_out (h : m.slotDue = true) (hp : m.air.pins.en = false) : (slotStart m).out = m.out := by
  rw [slotStart_opened m h, (slotFree_out _).served (fun _ he => he), Mach.takeBurst_out, (slotFree_out _).opened m (fun _ he => he),
    m.slotEnded_out hp]

/-! ### The exchange of slot-kind banks (R236) -/

/-- The exchange of banks is asked for. -/
def Mach.bankAsked (m : Mach) : Mach :=
  ({ m with air := { m.air with switchAt := if m.stepped then some m.asn else none } }).w AIR_SF_CTRL_SWITCH 1

theorem slotBankSwitchRequest_free (hr : m.ready = true) (h : m.b AIR_SF_CTRL_SWITCH = false) :
    slotBankSwitchRequest m = m.bankAsked := if_neg (by simp [hr, h])

/-- The banks are exchanged. -/
def Mach.bankTurned (m : Mach) : Mach :=
  (({ m with air := { m.air with switchAt := none } }).w AIR_SF_CTRL_SWITCH 0).w AIR_SF_CTRL_BANK (1 - m.r AIR_SF_CTRL_BANK)

theorem slotBankExchange_due (hin : m.inSlot = true) (hph : m.air.phase ≤ 2) (h : m.bankDue m.asn = true) :
    slotBankExchange m = m.bankTurned := if_pos (by simp [hin, hph, h])

theorem Mach.bankTurned_bank : m.bankTurned.r AIR_SF_CTRL_BANK = 1 - m.r AIR_SF_CTRL_BANK :=
  (Mach.r_w_same _ _ _ 0 0 (by decide)).trans (Nat.mod_eq_of_lt (Nat.lt_of_le_of_lt (Nat.sub_le _ _) (by decide)))

theorem Mach.bankTurned_switch : m.bankTurned.b AIR_SF_CTRL_SWITCH = false :=
  (Mach.b_of_r (Mach.r_w_apart _ _ _ _ _ 0 (by decide))).trans (Mach.b_w_same _ _ 0 0 (by decide))

/-! ### The close of a lane (R253) -/

/-- The condition in which a lane closes. -/
def Mach.closeDue (m : Mach) (x : Nat) : Prop :=
  m.slotDue = true ∧ m.asn % m.r AIR_SLOT_CFG_SF_LEN = 0 ∧ (m.r AIR_STATUS_MODEM_FAIL).testBit x = true ∧ m.laneOpen x = true ∧
    m.seats x = []

/-- The lane's bit and its state cleared. -/
def Mach.laneClosed (m : Mach) (x : Nat) : Mach :=
  (m.w AIR_STATUS_LANE_OPEN (m.r AIR_STATUS_LANE_OPEN - 2 ^ x)).w AIR_LANE_STATUS_STATE 0 x

theorem laneClose_due (x : Nat) (h : m.closeDue x) : laneClose x m = m.laneClosed x := by
  obtain ⟨hslot, hasn, hfail, hopen, hseats⟩ := h
  exact if_pos (by simp [hslot, hasn, hfail, hopen, hseats])

theorem laneClose_idle (x : Nat) (h : ¬ m.closeDue x) : laneClose x m = m := by
  refine if_neg fun hgo => h ?_
  simp only [Bool.and_eq_true, beq_iff_eq, List.isEmpty_iff] at hgo
  obtain ⟨⟨⟨⟨hslot, hasn⟩, hfail⟩, hopen⟩, hseats⟩ := hgo
  exact ⟨hslot, hasn, hfail, hopen, hseats⟩

/-- The open lanes stand apart from the states, and the trips from the times sent. -/
theorem laneState_apart : ∀ x : Fin 8, AIR_STATUS_LANE_OPEN.apart 0 AIR_LANE_STATUS_STATE x = true := by decide

theorem laneTx_quiet : ∀ x : Fin 8, quietOff (AIR_LANE_TX_US_ALL.off x 0) := by
  unfold quietOff
  decide

theorem laneTx_apart : ∀ x : Fin 8, AIR_LIMIT_TRIP_ALL.apart 0 AIR_LANE_TX_US_ALL x = true ∧
    AIR_LANE_TX_US_ALL.apart x AIR_LIMIT_TRIP_ALL 0 = true ∧ AIR_LANE_TX_US_ALL.apart x CORR_IE_DISCARD_ALL 0 = true := by decide

/-- A lane's bit of LANE_OPEN cleared. -/
theorem Mach.laneClosed_open (x : Fin 8) (h : m.laneOpen x = true) (y : Nat) :
    (m.laneClosed x).laneOpen y =
      if y = x then false else m.laneOpen y := by
  have hset : m.r AIR_STATUS_LANE_OPEN - 2 ^ x.val = putBits (m.r AIR_STATUS_LANE_OPEN) x 1 (b2n false) := sub_two_pow_eq_putBits _ _ h
  have hbit := m.wBit_testBit AIR_STATUS_LANE_OPEN x y false (by exact x.isLt) (by decide)
  rw [Mach.wBit_eq, ← hset] at hbit
  unfold Mach.laneOpen Mach.laneClosed
  rw [Mach.r_w_apart _ _ _ _ _ _ (laneState_apart x), hbit]

/-! ### A transmission cut off by the monitor (R247) -/

/-- What a lane has sent on a channel over the last 1,000 ticks, in µs. -/
def Mach.txUsed (m : Mach) (x chan : Nat) : Nat :=
  (((Tabs.val m.air.txLog [] (32 * x + chan)).filter (fun e => m.now < e.1 + 1000)).map (fun e => e.2)).sum

/-- The limit of a lane and channel over 1,000 ticks, in µs. -/
def txLimit : Nat := if Config.isAM then 40000 else 70000

/-- The flight taken out of the air, the PA at rest where none is left. -/
def Mach.flightDropped (m : Mach) (x : Nat) : Mach :=
  let m := { m with air := { m.air with inFlight := m.air.inFlight.filter (fun g => g.lane.val != x) } }
  m.when m.air.inFlight.isEmpty Mach.paRest

/-- A flight cut at the limit, charged and counted. -/
def Mach.flightTripped (m : Mach) (x : Nat) (f : Flight) (us : Nat) : Mach :=
  ((((m.flightDropped x).corrCut f).emit (.airCut x)).chargeTx x f.chan us).inc AIR_LIMIT_TRIP_ALL

theorem txLimitTrip_some (x : Nat) (f : Flight) (h : m.air.inFlight.find? (fun f => f.lane.val == x) = some f) : txLimitTrip x m =
    if decide (2300 < f.us) || m.txUsed x f.chan + f.us > txLimit then
      (m.flightTripped x f (if decide (2300 < f.us) then 2300 else txLimit - m.txUsed x f.chan)).event 0x0305 3 12
        (le 1 x ++ le 1 (Config.limitCode (if decide (2300 < f.us) then 0 else 1)))
    else m := by
  unfold txLimitTrip
  rw [h]
  rfl

theorem Mach.paRest_inFlight : m.paRest.air.inFlight = m.air.inFlight := by rw [Mach.paRest_eq]

theorem Mach.flightDropped_inFlight (x : Nat) :
    (m.flightDropped x).air.inFlight = m.air.inFlight.filter (fun g => g.lane.val != x) := by
  unfold Mach.flightDropped
  exact Mach.when_keeps _ (fun y => y.air.inFlight) _ _ fun y => y.paRest_inFlight

/-- The PA and the flight taken out show in no register and not in Kiln. -/
theorem Mach.flightDropped_keeps {α : Type} {g : Mach → α} (ha : ∀ (x : Mach) (a : AirSt), g { x with air := a } = g x)
    (hp : ∀ x : Mach, g x.paRest = g x) (x : Nat) : g (m.flightDropped x) = g m := by
  unfold Mach.flightDropped
  exact (Mach.when_keeps _ g _ _ hp).trans (ha m _)

theorem Mach.paRest_regs : m.paRest.regs = m.regs := by rw [Mach.paRest_eq]

theorem Mach.flightDropped_regs (x : Nat) : (m.flightDropped x).regs = m.regs :=
  m.flightDropped_keeps (g := Mach.regs) (fun _ _ => rfl) (fun y => y.paRest_regs) x

theorem Mach.flightDropped_kiln (x : Nat) : (m.flightDropped x).kiln = m.kiln :=
  m.flightDropped_keeps (g := Mach.kiln) (fun _ _ => rfl) (fun y => y.paRest_state.2.1) x

/-- A flight's cut shows in a field where neither the IE's discard nor the charge nor the count does. -/
theorem Mach.corrCut_r (f : Flight) (c : Field) (k : Nat) (h : c.apart k CORR_IE_DISCARD_ALL 0 = true) :
    (m.corrCut f).r c k = m.r c k := m.when_keeps (fun x => x.r c k) _ _ fun x => x.r_w_apart _ _ _ 0 k h

theorem Mach.flightTripped_trip (x : Fin 8) (f : Flight) (us : Nat) :
    (m.flightTripped x f us).r AIR_LIMIT_TRIP_ALL = min (m.r AIR_LIMIT_TRIP_ALL + 1) 0xFFFFFFFF := by
  have hdrop : ((m.flightDropped x).corrCut f).r AIR_LIMIT_TRIP_ALL = m.r AIR_LIMIT_TRIP_ALL :=
    (Mach.corrCut_r _ _ _ 0 (by decide)).trans (Mach.r_of_regs (m.flightDropped_regs x) _ _ _)
  refine (Mach.r_inc_same _ _ 0 (by decide)).trans ?_
  rw [← hdrop]
  exact congrArg (fun n => min (n + 1) _) (Mach.r_w_apart _ _ _ _ _ 0 (laneTx_apart x).1)

theorem Mach.flightTripped_charged (x : Fin 8) (f : Flight) (us : Nat) :
    (m.flightTripped x f us).r AIR_LANE_TX_US_ALL x = min (m.r AIR_LANE_TX_US_ALL x + us) 0xFFFFFFFF := by
  have hdrop : ((m.flightDropped x).corrCut f).r AIR_LANE_TX_US_ALL x = m.r AIR_LANE_TX_US_ALL x :=
    (Mach.corrCut_r _ _ _ x (laneTx_apart x).2.2).trans (Mach.r_of_regs (m.flightDropped_regs x) _ _ _)
  refine (Mach.r_w_apart _ _ _ _ _ x (laneTx_apart x).2.1).trans ?_
  rw [← hdrop]
  exact Mach.r_incBy_same _ _ us x (by decide)

theorem Mach.corrCut_air (f : Flight) : (m.corrCut f).air = m.air := m.when_keeps Mach.air _ _ fun _ => rfl

theorem Mach.chargeTx_inFlight (x chan us : Nat) : (m.chargeTx x chan us).air.inFlight = m.air.inFlight := rfl

theorem Mach.flightTripped_inFlight (x : Nat) (f : Flight) (us : Nat) :
    (m.flightTripped x f us).air.inFlight = m.air.inFlight.filter (fun g => g.lane.val != x) :=
  (Mach.chargeTx_inFlight _ x f.chan us).trans ((congrArg AirSt.inFlight (Mach.corrCut_air _ f)).trans (m.flightDropped_inFlight x))

theorem Mach.flightTripped_kiln (x : Nat) (f : Flight) (us : Nat) : (m.flightTripped x f us).kiln = m.kiln :=
  (Mach.corrCut_state _ f).2.trans (m.flightDropped_kiln x)

end Sys2Proof.Machine
end

section
/-! PROOFS. O34 is settled. -/

namespace Sys2Proof.Machine

open Sys2Proof

/-- Settles O34: the slot's start is cut into the end of the last slot, what its ASN shows, and the service of the lanes, each a frame of
what the others write. -/
theorem slotsBeginAndBanksExchange : Obligations.SlotsBeginAndBanksExchange := by
  unfold Obligations.SlotsBeginAndBanksExchange
  refine ⟨fun s hno => s.on_same slotStart (if_pos (by simp [hno])), fun s hdue => ?start, fun s => ?sample, fun s => ?request,
    fun s => ?exchange, fun x s => ?close, fun x s => ?trip⟩
  case start =>
    obtain ⟨hslot, hb⟩ := Prod.ext_iff.mp (slotStart_begun s.m hdue)
    obtain ⟨hphase, hb⟩ := Prod.ext_iff.mp hb
    obtain ⟨hflights, hb⟩ := Prod.ext_iff.mp hb
    obtain ⟨hended, hacks⟩ := Prod.ext_iff.mp hb
    have hoff := slotStart_offAir s.m hdue
    exact ⟨slotStart s.m, rfl, hslot, hphase, slotStart_asn s.m hdue, slotStart_valid s.m hdue, slotStart_channel s.m hdue,
      slotStart_gate s.m hdue, hflights, hended, hacks, (congrArg Mach.dam hoff :), slotStart_bursts s.m hdue, (congrArg Mach.kiln hoff :),
      (congrArg Mach.mot hoff :), (congrArg Mach.hostMem hoff :), slotStart_out s.m hdue⟩
  case sample =>
    exact ⟨fun hin hms hph => s.on_eq stopContentSample _ (if_pos (by simp [hin, hms, hph])),
      fun hph => s.on_same stopContentSample (if_neg (by simp [hph]))⟩
  case request =>
    refine ⟨fun hready hsw => ⟨s.m.bankAsked, s.on_eq slotBankSwitchRequest _ (slotBankSwitchRequest_free s.m hready hsw),
      Mach.b_w_same _ _ 1 0 (by decide), Mach.r_w_apart _ _ _ _ _ 0 (by decide), rfl,
      Mach.w_regsKept (fun _ _ => rfl) AIR_SF_CTRL_SWITCH 1 0 (List.mem_singleton.mpr rfl)⟩,
      fun hsw => s.on_same slotBankSwitchRequest (if_pos (by simp [hsw]))⟩
  case exchange =>
    refine ⟨fun hin hph hdue => ⟨s.m.bankTurned, s.on_eq slotBankExchange _ (slotBankExchange_due s.m hin hph hdue),
      s.m.bankTurned_switch, s.m.bankTurned_bank, rfl, ?_⟩, fun hno => s.on_same slotBankExchange (if_neg (by simp [hno]))⟩
    exact Mach.w_regsKept (Mach.w_regsKept (fun _ _ => rfl) AIR_SF_CTRL_SWITCH 0 0 (List.mem_singleton.mpr rfl))
      AIR_SF_CTRL_BANK _ 0 (List.mem_singleton.mpr (by decide))
  case close =>
    intro due
    refine ⟨fun hdue => ⟨s.m.laneClosed x, s.on_eq (laneClose x) _ (laneClose_due s.m x hdue), ?_, fun y hy => ?_, ?_⟩,
      fun hno => s.on_same (laneClose x) (laneClose_idle s.m x hno)⟩
    · exact (s.m.laneClosed_open x hdue.2.2.2.1 x).trans (if_pos rfl)
    · exact (s.m.laneClosed_open x hdue.2.2.2.1 y).trans (if_neg fun h => hy (Fin.ext h))
    · exact Mach.r_w_same _ _ 0 x 0 (by decide)
  case trip =>
    refine ⟨fun hnone => s.on_same (txLimitTrip x) ?_, fun f hf => ?_⟩
    · have hfind : s.m.air.inFlight.find? (fun f => f.lane.val == x.val) = none :=
        List.find?_eq_none.mpr fun f hf => by simpa [Fin.ext_iff] using hnone f hf
      unfold txLimitTrip
      rw [hfind]
    · have htrip := txLimitTrip_some s.m x f hf
      intro used limit
      refine ⟨fun hus hlim => s.on_same (txLimitTrip x) (htrip.trans (if_neg ?_)), fun hover =>
        ⟨_, s.on_eq (txLimitTrip x) _ (htrip.trans (if_pos ?_)), ?_, ?_, ?_, ?_⟩⟩
      · simp only [gt_iff_lt, Bool.or_eq_true, decide_eq_true_eq, not_or, Nat.not_lt]
        exact ⟨hus, hlim⟩
      · simp only [gt_iff_lt, Bool.or_eq_true, decide_eq_true_eq]
        exact hover
      · rw [Mach.event_air, Mach.flightTripped_inFlight]
      · rw [Mach.r_event _ _ _ _ _ _ 0 0 (by unfold quietOff; decide), Mach.flightTripped_trip]
      · rw [Mach.r_event _ _ _ _ _ _ x 0 (laneTx_quiet x), Mach.flightTripped_charged]
        simp only [decide_eq_true_eq]
        rfl
      · rw [Mach.event_kiln, Mach.flightTripped_kiln]

end Sys2Proof.Machine
end

section
/-! PROOFS. Frames launched in a window, and the decisions about join requests (O35; 07, R232, R233, R249, R274, R275). -/

namespace Sys2Proof.Machine

open Sys2Proof

variable {α : Type} (m : Mach)

/-- A frame chosen for a lane: the lane, what it is, its MCS and its bytes. -/
abbrev Pick : Type := Nat × FlightKind × Nat × List Byte

/-! ### Launches (R233) -/

/-- A chosen frame ends within its window. -/
def Pick.fits (e : Pick) : Bool := decide (Config.airUs e.2.2.1 e.2.2.2.length ≤ e.2.1.room)

/-- A chosen frame in flight. -/
def Mach.flightOf (m : Mach) (e : Pick) : Flight :=
  ⟨Fin.ofNat 8 e.1, m.r AIR_LANE_STATUS_CHANNEL e.1, e.2.2.1, Config.airUs e.2.2.1 e.2.2.2.length, e.2.2.2, e.2.1⟩

/-- The region's state that a launch leaves: the tables, the phase, ended frames, what is owed, the joins. -/
def AirSt.ground (a : AirSt) : AirTab × Nat × List Flight × List AckDue × List JoinTaken := (a.tab, a.phase, a.ended, a.acks, a.joins)

theorem AirSt.of_ground {a : AirSt} {t : AirTab} {p : Nat} {e : List Flight} {k : List AckDue} {j : List JoinTaken}
    (h : a.ground = (t, p, e, k, j)) : a.tab = t ∧ a.phase = p ∧ a.ended = e ∧ a.acks = k ∧ a.joins = j := by
  simpa [AirSt.ground] using h

/-- An observation that launches leave. -/
structure LaunchFree (g : Mach → α) : Prop where
  w : ∀ (x : Mach) (v : Nat), g (x.w AIR_WINDOW_REFUSED_ALL v) = g x
  emit : ∀ (x : Mach) (e : Emission), g (x.emit e) = g x
  air : ∀ (x : Mach) (a : AirSt), a.ground = x.air.ground → g { x with air := a } = g x

theorem launchFree_ground : LaunchFree (fun x => x.air.ground) := ⟨fun _ _ => rfl, fun _ _ => rfl, fun _ _ h => h⟩

theorem launchFree_offAir : LaunchFree Mach.offAir := ⟨fun _ _ => rfl, fun _ _ => rfl, fun _ _ _ => rfl⟩

theorem laneChannel_apart : ∀ x : Fin 8, AIR_LANE_STATUS_CHANNEL.apart x AIR_WINDOW_REFUSED_ALL 0 = true := by decide

theorem launchFree_channel (x : Fin 8) : LaunchFree (fun y => y.r AIR_LANE_STATUS_CHANNEL x) :=
  ⟨fun y v => y.r_w_apart _ _ v 0 x (laneChannel_apart x), fun _ _ => rfl, fun _ _ _ => rfl⟩

section Frames

variable {g : Mach → α} (h : LaunchFree g)
include h

theorem LaunchFree.setPins (x : Mach) (p : PaPins) : g (x.setPins p) = g x := (h.emit _ _).trans (h.air x _ rfl)

theorem LaunchFree.paRise (x : Mach) : g x.paRise = g x := by
  unfold Mach.paRise
  split
  · rw [h.setPins, h.setPins, h.setPins]
  · rfl

theorem LaunchFree.launch (x : Mach) (n : Nat) (f : FlightKind × Nat × List Byte) : g (x.launch n f) = g x := by
  unfold Mach.launch
  extract_lets us ch fl
  split
  · exact h.w x _
  · exact (h.emit _ _).trans (h.air x _ rfl)

theorem LaunchFree.launchAll (x : Mach) (l : List Pick) : g (x.launchAll l) = g x :=
  (Mach.each_keeps _ g _ _ fun y e _ => h.launch y e.1 e.2).trans (Mach.when_keeps _ g _ _ h.paRise)

end Frames

theorem Mach.launchAll_nil : m.launchAll [] = m := rfl

theorem Mach.paRise_inFlight : m.paRise.air.inFlight = m.air.inFlight := by
  unfold Mach.paRise
  split <;> rfl

theorem Mach.launch_inFlight (e : Pick) :
    (m.launch e.1 e.2).air.inFlight = m.air.inFlight ++ (if e.fits then [m.flightOf e] else []) := by
  unfold Mach.launch Pick.fits
  dsimp only
  by_cases hus : Config.airUs e.2.2.1 e.2.2.2.length > e.2.1.room
  · rw [if_pos hus, if_neg (by simpa using hus)]
    exact (List.append_nil _).symm
  · rw [if_neg hus, if_pos (by simpa using hus)]
    rfl

theorem Mach.flightOf_congr {a b : Mach} (h : ∀ x : Fin 8, a.r AIR_LANE_STATUS_CHANNEL x = b.r AIR_LANE_STATUS_CHANNEL x) (e : Pick)
    (he : e.1 < 8) : a.flightOf e = b.flightOf e := by
  unfold Mach.flightOf
  rw [show a.r AIR_LANE_STATUS_CHANNEL e.1 = b.r AIR_LANE_STATUS_CHANNEL e.1 from h ⟨e.1, he⟩]

/-- The frames launched one after the other. -/
theorem Mach.eachLaunch_inFlight (l : List Pick) (hl : ∀ e ∈ l, e.1 < 8) :
    (m.each l (fun m e => m.launch e.1 e.2)).air.inFlight = m.air.inFlight ++ (l.filter Pick.fits).map m.flightOf := by
  induction l generalizing m with
  | nil => exact (List.append_nil _).symm
  | cons e l ih =>
    have hrest : (l.filter Pick.fits).map (m.launch e.1 e.2).flightOf = (l.filter Pick.fits).map m.flightOf :=
      List.map_congr_left fun k hk => Mach.flightOf_congr (fun x => (launchFree_channel x).launch m e.1 e.2) k
        (hl k (List.mem_cons_of_mem e (List.mem_of_mem_filter hk)))
    refine (ih (m.launch e.1 e.2) fun k hk => hl k (List.mem_cons_of_mem e hk)).trans ?_
    rw [hrest, Mach.launch_inFlight, List.append_assoc, List.filter_cons]
    split <;> rfl

theorem Mach.launchAll_inFlight (l : List Pick) (hl : ∀ e ∈ l, e.1 < 8) :
    (m.launchAll l).air.inFlight = m.air.inFlight ++ (l.filter Pick.fits).map m.flightOf := by
  refine (Mach.eachLaunch_inFlight _ l hl).trans ?_
  rw [Mach.when_keeps _ (fun x => x.air.inFlight) _ _ fun x => x.paRise_inFlight]
  refine congrArg (m.air.inFlight ++ ·) (List.map_congr_left fun k hk => Mach.flightOf_congr (fun x => ?_) k
    (hl k (List.mem_of_mem_filter hk)))
  exact Mach.when_keeps _ (fun y => y.r AIR_LANE_STATUS_CHANNEL x) _ _ (launchFree_channel x).paRise

/-! ### The decisions about join requests (R274, R275) -/

/-- The fields that the decisions about joins write. -/
def joinFields : List (Field × Nat) := (AIR_JOIN_REJECT_ALL, 0) :: tabFields

/-- An observation that the decisions about joins leave. -/
structure JoinFree (l : List (Field × Nat)) (g : Mach → α) : Prop extends AirFree l g where
  draw : ∀ (x : Mach) (n : Nat), g { x with freeCtr := n } = g x
  nv : ∀ (x : Mach) (v : NvSt), g { x with nv := v } = g x

/-- Kiln, Damper and host memory. -/
def Mach.homes (m : Mach) : KilnSt × DamSt × Tab Byte := (m.kiln, m.dam, m.hostMem)

theorem Mach.of_homes {a b : Mach} (h : a.homes = b.homes) : a.kiln = b.kiln ∧ a.dam = b.dam ∧ a.hostMem = b.hostMem := by
  simpa [Mach.homes] using h

theorem joinFree_homes (l : List (Field × Nat)) : JoinFree l Mach.homes where
  w := kept_of_eq _ fun _ _ _ _ => rfl
  word _ _ := rfl
  air _ _ _ := rfl
  draw _ _ := rfl
  nv _ _ := rfl

theorem joinFree_sky (l : List (Field × Nat)) : JoinFree l (fun x => x.air.sky) :=
  { airFree_sky l with draw := fun _ _ => rfl, nv := fun _ _ => rfl }

theorem joinFree_out (l : List (Field × Nat)) : JoinFree l Mach.out :=
  { airFree_out l with draw := fun _ _ => rfl, nv := fun _ _ => rfl }

section Frames

variable {g : Mach → α} {l : List (Field × Nat)} (h : JoinFree l g) (hl : joinFields ⊆ l)
include h

theorem JoinFree.oweAck (x : Mach) (k : AckDue) : g (x.oweAck k) = g x := by
  unfold Mach.oweAck
  split
  · rfl
  · exact h.air x _ rfl

include hl

theorem JoinFree.queueResp (x : Mach) (n : Nat) (c : Cred) (nonce mcsMax : Nat) : g (x.queueResp n c nonce mcsMax) = g x := by
  unfold Mach.queueResp
  split
  next b y hdraw =>
    have hy : g y = g x := (congrArg (fun p => g p.2) hdraw).symm.trans (h.draw x _)
    clear hdraw
    extract_lets base place tab
    clear_value place
    split
    extract_lets content r drop dropped queued joined
    have hqueued : g queued = g x := (h.setTab _ _).trans ((h.setTab y _).trans hy)
    clear_value queued
    refine (h.airShow (List.Subset.trans (List.subset_cons_self ..) hl) _).trans (Eq.trans ?_ hqueued)
    unfold joined
    split
    · exact h.setTab queued _
    · rfl

theorem JoinFree.joinDecide (x : Mach) (j : JoinTaken) : g (x.joinDecide j) = g x := by
  have hrej : ∀ y : Mach, g (y.inc AIR_JOIN_REJECT_ALL) = g y := fun y => h.w (AIR_JOIN_REJECT_ALL, 0) (hl List.mem_cons_self) y _
  unfold Mach.joinDecide
  split
  · exact hrej x
  · split
    · exact (h.queueResp hl _ _ _ _ _).trans ((h.oweAck _ _).trans (h.nv x _))
    · exact hrej x

/-- The decisions about the slot's join requests, once none is kept. -/
theorem JoinFree.joinsTake (x : Mach) : g x.joinsTake = g { x with air := { x.air with joins := [] } } :=
  Mach.each_keeps _ g _ _ fun y j _ => h.joinDecide hl y j

end Frames

theorem Mach.joinsTake_sky : m.joinsTake.air.sky = (m.air.inFlight, m.air.ended, []) :=
  (joinFree_sky _).joinsTake (fun _ he => he) m

theorem Mach.joinsTake_homes : m.joinsTake.homes = m.homes := (joinFree_homes _).joinsTake (fun _ he => he) m

theorem Mach.joinsTake_out : m.joinsTake.out = m.out := (joinFree_out _).joinsTake (fun _ he => he) m

/-- Without a request nothing is decided. -/
theorem Mach.joinsTake_none (h : m.air.joins = []) : m.joinsTake = m := by
  have hair : ({ m with air := { m.air with joins := [] } } : Mach) = m := by rw [← h]
  unfold Mach.joinsTake
  rw [h, hair]
  rfl

end Sys2Proof.Machine
end

section
/-! PROOFS. The frames of the transmit window and the acknowledgements of the ACK window (O35; 07,
R198, R232, R233, R235, R240, R299, R301). -/

namespace Sys2Proof.Machine

open Sys2Proof

variable (m : Mach)

/-! ### The frame chosen for a lane (R234, R299, R301) -/

theorem Mach.bcastFor_room (x : Nat) (g : FlightKind × Nat × List Byte) (h : m.bcastFor x = some g) : g.1.room = 2300 := by
  unfold Mach.bcastFor at h
  extract_lets l auth rtcm corr at h
  split at h
  · cases h
  · cases h
    rfl

/-- A new frame to a robot, where one is owed, is a unicast frame. -/
theorem Mach.newFlight_room (x : Nat) (e : Nat × Member) (g : FlightKind × Nat × List Byte)
    (h : (m.newFrame e.2 x).map (fun u => m.uniFlight x e.1 e.2 u false) = some g) : g.1.room = 2300 := by
  obtain ⟨u, -, rfl⟩ := Option.map_eq_some_iff.mp h
  rfl

theorem Mach.downFor_room (x : Nat) (g : FlightKind × Nat × List Byte) (h : m.downFor x = some g) : g.1.room = 2300 := by
  unfold Mach.downFor at h
  split at h
  · cases h
    rfl
  · extract_lets due at h
    split at h
    · cases h
      rfl
    · split at h
      · exact m.newFlight_room x _ g h
      · split at h
        · exact m.newFlight_room x _ g h
        · cases h

/-- No frame of the transmit window is an acknowledgement. -/
theorem Mach.laneFrame_room (x : Nat) (g : FlightKind × Nat × List Byte) (h : m.laneFrame x = some g) : g.1.room = 2300 := by
  unfold Mach.laneFrame at h
  extract_lets k plan b at h
  split at h
  · cases h
    rfl
  · split at h
    · cases h
      rfl
    · split at h
      · exact m.bcastFor_room x g h
      · split at h
        · exact m.downFor_room x g h
        · cases h

theorem Mach.laneFrame_permit (x : Nat) (hk : m.slotKind = kPERMIT) :
    m.laneFrame x = some (.permit (m.planOf x) m.dam.burst, if m.dam.burst then 3 else 2,
      m.permitFrame x m.dam.burst true (m.planOf x)) := by
  unfold Mach.laneFrame
  rw [hk]
  rfl

theorem Mach.laneFrame_burst (x : Nat) (hk : m.slotKind ≠ kPERMIT) (hb : m.dam.burst = true) :
    m.laneFrame x = some (.burst, 3, m.permitFrame x true false []) := by
  unfold Mach.laneFrame
  dsimp only
  rw [if_neg (by simpa using hk), if_pos hb]

/-- In a slot without a burst, other than a permit slot, the kind chooses. -/
theorem Mach.laneFrame_plain (x : Nat) (hk : m.slotKind ≠ kPERMIT) (hb : m.dam.burst = false) :
    m.laneFrame x = if m.slotKind == kBCAST then m.bcastFor x else if m.slotKind == kDOWN then m.downFor x else none := by
  unfold Mach.laneFrame
  dsimp only
  rw [if_neg (by simpa using hk), if_neg (by simp [hb])]

/-! ### The transmit window (R232, R240) -/

/-- The transmit window has begun, and the most authority records held back shows. -/
def Mach.windowBegun (m : Mach) : Mach :=
  ({ m with air := { m.air with phase := 3 } } : Mach).maxTo REDUN_HELD_MAX_ALL
    (m.air.tab.auth.filter (fun e => e.2.owed > 0 && m.authHeld e.2)).length

/-- The frames chosen for the served lanes. -/
def Mach.picks (m : Mach) : List Pick :=
  ((List.range 8).filter m.laneServed).filterMap (fun x => (m.laneFrame x).map (fun f => (x, f)))

theorem transmitWindow_mute (hin : m.inSlot = true) (hms : m.msInt % 4 = 0) (hph : m.air.phase = 2)
    (h : m.windowBegun.mayTransmit = false) : transmitWindow m = m.windowBegun :=
  (if_pos (by simp [hin, hms, hph])).trans (if_neg (Bool.eq_false_iff.mp h))

theorem transmitWindow_sends (hin : m.inSlot = true) (hms : m.msInt % 4 = 0) (hph : m.air.phase = 2)
    (h : m.windowBegun.mayTransmit = true) : transmitWindow m = m.windowBegun.launchAll m.windowBegun.picks :=
  (if_pos (by simp [hin, hms, hph])).trans (if_pos h)

theorem Mach.mem_picks (e : Pick) : e ∈ m.picks ↔ e.1 < 8 ∧ m.laneServed e.1 = true ∧ m.laneFrame e.1 = some e.2 := by
  obtain ⟨x, g⟩ := e
  simp only [Mach.picks, List.mem_filterMap, List.mem_filter, List.mem_range, Option.map_eq_some_iff, Prod.mk.injEq]
  constructor
  · rintro ⟨y, ⟨hlt, hserved⟩, f, hf, rfl, rfl⟩
    exact ⟨hlt, hserved, hf⟩
  · rintro ⟨hlt, hserved, hf⟩
    exact ⟨x, ⟨hlt, hserved⟩, g, hf, rfl, rfl⟩

/-- With nothing in flight before, the frames in flight are those chosen that fit the window. -/
theorem Mach.launched_iff (h : m.air.inFlight = []) (l : List Pick) (hl : ∀ e ∈ l, e.1 < 8) (f : Flight) :
    f ∈ (m.launchAll l).air.inFlight ↔ ∃ e ∈ l, e.fits = true ∧ m.flightOf e = f := by
  rw [m.launchAll_inFlight l hl, h, List.nil_append]
  simp only [List.mem_map, List.mem_filter, and_assoc]

theorem ofNat_val {x : Nat} (h : x < 8) : (Fin.ofNat 8 x).val = x := Nat.mod_eq_of_lt h

/-! ### The ACK window (R233) -/

/-- The acknowledgements sent in the ACK window. -/
def Mach.acksDue (m : Mach) : List AckDue :=
  if m.mayTransmit && !m.dam.burst then m.air.acks.filter (fun k => m.laneServed k.lane) else []

/-- The ACK window has begun: no acknowledgement is owed. -/
def Mach.ackBegun (m : Mach) : Mach := { m with air := { m.air with phase := 4, acks := [] } }

theorem ackWindow_due (hin : m.inSlot = true) (hms : m.msInt % 4 = 2) (hph : m.air.phase = 3) : ackWindow m =
    m.settleFlights.joinsTake.ackBegun.launchAll
      (m.settleFlights.joinsTake.acksDue.map m.settleFlights.joinsTake.ackBegun.ackLaunch) :=
  if_pos (by simp [hin, hms, hph])

theorem Mach.mem_acksDue (k : AckDue) : k ∈ m.acksDue ↔
    m.mayTransmit = true ∧ m.dam.burst = false ∧ k ∈ m.air.acks ∧ m.laneServed k.lane = true := by
  unfold Mach.acksDue
  split
  case isTrue h =>
    simp only [Bool.and_eq_true, Bool.not_eq_true'] at h
    simp [h, List.mem_filter]
  case isFalse h =>
    simp only [List.not_mem_nil, false_iff]
    rintro ⟨hmay, hburst, -⟩
    exact h (by simp [hmay, hburst])

theorem Mach.acksDue_mute (h : m.mayTransmit = false) : m.acksDue = [] := if_neg (by simp [h])

theorem Mach.ackBegun_frame (k : AckDue) : m.ackBegun.ackFrame k = m.ackFrame k := rfl

theorem Mach.ackBegun_ground (h : m.air.sky = ([], [], [])) : m.ackBegun.air.ground = (m.air.tab, 4, [], [], []) := by
  obtain ⟨-, hrest⟩ := Prod.ext_iff.mp h
  obtain ⟨hended, hjoins⟩ := Prod.ext_iff.mp hrest
  have hground : m.ackBegun.air.ground = (m.air.tab, 4, m.air.ended, [], m.air.joins) := rfl
  rw [hground, show m.air.ended = [] from hended, show m.air.joins = [] from hjoins]

theorem Mach.ackBegun_inFlight : m.ackBegun.air.inFlight = m.air.inFlight := rfl

theorem Mach.ackBegun_out : m.ackBegun.out = m.out := rfl

/-- While the region may not transmit no acknowledgement is sent. -/
theorem Mach.acksSent_mute (h : m.mayTransmit = false) :
    m.ackBegun.launchAll (m.acksDue.map m.ackBegun.ackLaunch) = m.ackBegun := by
  rw [m.acksDue_mute h, List.map_nil, Mach.launchAll_nil]

theorem Mach.ackBegun_offAir : m.ackBegun.offAir = m.offAir := rfl

/-- The frames of the slot have ended and its join requests are decided: none is in flight, ended or kept. -/
theorem Mach.joinsDecided_sky : m.settleFlights.joinsTake.air.sky = ([], [], []) := by
  rw [Mach.joinsTake_sky, show m.settleFlights.air.inFlight = [] from congrArg (fun s => s.1) m.settleFlights_sky,
    show m.settleFlights.air.ended = [] from congrArg (fun s => s.2.1) m.settleFlights_sky]

theorem Mach.homes_of_offAir {a b : Mach} (h : a.offAir = b.offAir) : a.homes = b.homes := (congrArg Mach.homes h :)

theorem Mach.joinsDecided_homes : m.settleFlights.joinsTake.homes = m.homes :=
  (Mach.joinsTake_homes _).trans (Mach.homes_of_offAir m.settleFlights_offAir)

theorem Mach.nv_of_offAir {a b : Mach} (h : a.offAir = b.offAir) : a.nv = b.nv := (congrArg Mach.nv h :)

theorem Mach.joinsDecided_nv (h : m.air.joins = []) : m.settleFlights.joinsTake.nv = m.nv := by
  have hjoins : m.settleFlights.air.joins = [] := (congrArg (fun s => s.2.2) m.settleFlights_sky :).trans h
  rw [Mach.joinsTake_none _ hjoins]
  exact Mach.nv_of_offAir m.settleFlights_offAir

/-- An acknowledgement in flight is one that is due. -/
theorem Mach.ackFlight (h : m.air.inFlight = []) (f : Flight)
    (hf : f ∈ (m.ackBegun.launchAll (m.acksDue.map m.ackBegun.ackLaunch)).air.inFlight) :
    ∃ k ∈ m.air.acks, f.lane = k.lane ∧ m.laneServed k.lane = true ∧ m.mayTransmit = true ∧ m.dam.burst = false ∧ f.mcs = 2 ∧
      f.us ≤ 700 ∧ f.bytes = m.ackFrame k ∧ f.what = .ack (!k.session) := by
  have hl : ∀ e ∈ m.acksDue.map m.ackBegun.ackLaunch, e.1 < 8 := by
    intro e he
    obtain ⟨k, -, rfl⟩ := List.mem_map.mp he
    exact k.lane.isLt
  obtain ⟨e, he, hfits, rfl⟩ := (m.ackBegun.launched_iff h _ hl f).mp hf
  obtain ⟨k, hk, rfl⟩ := List.mem_map.mp he
  obtain ⟨hmay, hburst, howed, hserved⟩ := (m.mem_acksDue k).mp hk
  exact ⟨k, howed, Fin.ext (ofNat_val k.lane.isLt), hserved, hmay, hburst, rfl, of_decide_eq_true hfits, m.ackBegun_frame k, rfl⟩

end Sys2Proof.Machine
end

section
/-! PROOFS. O35 is settled. -/

namespace Sys2Proof.Machine

open Sys2Proof

/-- Settles O35: the frames in flight after a window are the chosen ones that fit it; launches leave all but
what is in flight and put out. -/
theorem lanesTransmitInTheirWindows : Obligations.LanesTransmitInTheirWindows := by
  unfold Obligations.LanesTransmitInTheirWindows
  refine ⟨fun s hin hms hph => ?transmit, fun s hph => s.on_same transmitWindow (if_neg (by simp [hph])), fun m x => ?kinds,
    fun s hin hms hph => ?ack, fun s hph => s.on_same ackWindow (if_neg (by simp [hph]))⟩
  case transmit =>
    intro m
    refine ⟨fun hmute => s.on_eq transmitWindow _ (transmitWindow_mute s.m hin hms hph hmute), fun hmay hnone => ?_⟩
    obtain ⟨htab, hphase, -⟩ := AirSt.of_ground (launchFree_ground.launchAll m m.picks)
    obtain ⟨hkiln, hdam, hmem⟩ := Mach.of_homes (Mach.homes_of_offAir (launchFree_offAir.launchAll m m.picks))
    have hlt : ∀ e ∈ m.picks, e.1 < 8 := fun e he => ((m.mem_picks e).mp he).1
    refine ⟨m.launchAll m.picks, s.on_eq transmitWindow _ (transmitWindow_sends s.m hin hms hph hmay),
      hkiln, hdam, hmem, hphase, htab, fun f hf => ?_, fun x hx hserved g hg hus => ?_⟩
    · obtain ⟨e, he, hfits, rfl⟩ := (m.launched_iff hnone _ hlt f).mp hf
      obtain ⟨hx, hserved, hframe⟩ := (m.mem_picks e).mp he
      have hlane : (m.flightOf e).lane.val = e.1 := ofNat_val hx
      rw [hlane]
      exact ⟨hserved, m.laneFrame_room _ _ hframe ▸ of_decide_eq_true hfits, rfl, hframe⟩
    · have hpick : ((x, g) : Pick) ∈ m.picks := (m.mem_picks _).mpr ⟨hx, hserved, hg⟩
      have hfits : Pick.fits (x, g) = true := decide_eq_true (m.laneFrame_room _ _ hg ▸ hus)
      exact ⟨m.flightOf (x, g), (m.launched_iff hnone _ hlt _).mpr ⟨_, hpick, hfits, rfl⟩, ofNat_val hx, rfl⟩
  case kinds =>
    refine ⟨m.laneFrame_permit x, m.laneFrame_burst x, fun hk hb => ?_, fun hk hb => ?_, fun hk hb => ?_⟩
    · obtain hk | hk | hk := hk <;> rw [m.laneFrame_plain x (by rw [hk]; decide) hb, hk] <;> rfl
    · rw [m.laneFrame_plain x (by rw [hk]; decide) hb, hk]
      rfl
    · rw [m.laneFrame_plain x (by rw [hk]; decide) hb, hk]
      rfl
  case ack =>
    intro m
    have hrun : s.on ackWindow = .next (s.having (m.ackBegun.launchAll (m.acksDue.map m.ackBegun.ackLaunch))) :=
      s.on_eq ackWindow _ (ackWindow_due s.m hin hms hph)
    have hsky : m.air.sky = ([], [], []) := s.m.joinsDecided_sky
    have hhomes : m.homes = s.m.homes := s.m.joinsDecided_homes
    have hkeep : s.m.air.joins = [] → m.nv = s.m.nv := s.m.joinsDecided_nv
    have hquiet : s.m.air.pins.en = false → m.out = s.m.out := fun hpins =>
      (Mach.joinsTake_out _).trans (s.m.settleFlights_out hpins)
    clear_value m
    obtain ⟨-, hphase, hended, hacks, hjoins⟩ := AirSt.of_ground
      ((launchFree_ground.launchAll m.ackBegun (m.acksDue.map m.ackBegun.ackLaunch)).trans (m.ackBegun_ground hsky))
    have hoff := (launchFree_offAir.launchAll m.ackBegun (m.acksDue.map m.ackBegun.ackLaunch)).trans m.ackBegun_offAir
    obtain ⟨hkiln, hdam, hmem⟩ := Mach.of_homes ((Mach.homes_of_offAir hoff).trans hhomes)
    have hnv := Mach.nv_of_offAir hoff
    have hflights : m.air.inFlight = [] := (Prod.ext_iff.mp hsky).1
    refine ⟨_, hrun, hphase, hacks, hended, hjoins, m.ackFlight hflights, hkiln, hdam, hmem, hnv,
      fun hnone => hnv.trans (hkeep hnone), fun hmute => ?_⟩
    rw [m.acksSent_mute hmute]
    exact ⟨m.ackBegun_inFlight.trans hflights, fun hpins => m.ackBegun_out.trans (hquiet hpins)⟩

end Sys2Proof.Machine
end

section
/-! PROOFS. Frames of what follows from a mate frame (13, R407, R425, R427, R428): the evaluation of a standby's synchronisation, the
clock's evaluation, the send of an answer. -/

namespace Sys2Proof.Machine

open Sys2Proof

variable {α : Type} (m : Mach)

/-- The state of the mate link but what follows from the standby's synchronisation and its clock. -/
def RedSt.core (r : RedSt) : RedSt := { r with carried := false, warmEnd := none, permitMiss := 0, aliveAt := 0, tt := 0 }

/-! ### The evaluation of a standby's synchronisation (R425) -/

/-- The fields in which a meter element shows. -/
def meterFields : List (Field × Nat) := (List.range 16).flatMap fun d =>
  [MET_TOT_IMP_LO_ALL, MET_TOT_IMP_HI_ALL, MET_TOT_EXP_LO_ALL, MET_TOT_EXP_HI_ALL, MET_INT_IMP_LO_INTERVAL, MET_INT_IMP_HI_WRAP_CNT,
    MET_INT_EXP_LO_INTERVAL, MET_INT_EXP_HI_WRAP_CNT, MET_PULSE_OWED_ALL].map fun f => (f, d)

/-- The fields in which a standby's synchronisation shows. -/
def syncFields : List (Field × Nat) := [(REDUN_STATUS_WARM, 0), (REDUN_STATUS_ALIVE_CODE, 0)] ++ meterFields

/-- An observation that the evaluation of a standby's synchronisation leaves. -/
structure SyncFree (l : List (Field × Nat)) (g : Mach → α) : Prop where
  w : Kept g l
  met : ∀ (x : Mach) (t : MetSt), g { x with met := t } = g x
  red : ∀ (x : Mach) (r : RedSt), r.core = x.red.core → g { x with red := r } = g x

theorem syncFree_field (f : Field) (k : Nat) (l : List (Field × Nat)) (h : l.all (fun e => f.apart k e.1 e.2) = true) :
    SyncFree l (fun x => x.r f k) := ⟨kept_field f k l h, fun _ _ => rfl, fun _ _ _ => rfl⟩

theorem syncFree_core (l : List (Field × Nat)) : SyncFree l (fun x => x.red.core) :=
  ⟨kept_of_eq _ fun _ _ _ _ => rfl, fun _ _ => rfl, fun _ _ h => h⟩

theorem syncFree_kiln (l : List (Field × Nat)) : SyncFree l Mach.kiln :=
  ⟨kept_of_eq _ fun _ _ _ _ => rfl, fun _ _ => rfl, fun _ _ _ => rfl⟩

theorem syncFree_air (l : List (Field × Nat)) : SyncFree l Mach.air :=
  ⟨kept_of_eq _ fun _ _ _ _ => rfl, fun _ _ => rfl, fun _ _ _ => rfl⟩

section Frames

variable {g : Mach → α} {l : List (Field × Nat)} (h : SyncFree l g) (hl : syncFields ⊆ l)
include h hl

theorem SyncFree.setMetEl (x : Mach) (d : Nat) (hd : d < 16) (e : MetEl) : g (x.setMetEl d e) = g x := by
  have hw : ∀ f, (f, d) ∈ meterFields → ∀ (y : Mach) (v : Nat), g (y.w f v d) = g y := fun f hf =>
    h.w (f, d) (hl (List.mem_append_right _ hf))
  have hmem : ∀ f ∈ [MET_TOT_IMP_LO_ALL, MET_TOT_IMP_HI_ALL, MET_TOT_EXP_LO_ALL, MET_TOT_EXP_HI_ALL, MET_INT_IMP_LO_INTERVAL,
      MET_INT_IMP_HI_WRAP_CNT, MET_INT_EXP_LO_INTERVAL, MET_INT_EXP_HI_WRAP_CNT, MET_PULSE_OWED_ALL], (f, d) ∈ meterFields := fun f hf =>
    List.mem_flatMap.mpr ⟨d, List.mem_range.mpr hd, List.mem_map.mpr ⟨f, hf, rfl⟩⟩
  unfold Mach.setMetEl Mach.metShow
  dsimp only
  iterate 9 rw [hw _ (hmem _ (by simp))]
  exact h.met x _

theorem SyncFree.xchkStart (x : Mach) : g x.xchkStart = g x :=
  (Mach.each_keeps _ g _ _ fun y d hd => h.setMetEl hl y d (List.mem_range.mp hd) _).trans (h.met x _)

theorem SyncFree.setAlive (x : Mach) (c : Nat) : g (x.setAlive c) = g x := by
  unfold Mach.setAlive
  split
  · rfl
  · exact (h.w (REDUN_STATUS_ALIVE_CODE, 0) (hl (by decide)) _ _).trans (h.red x _ rfl)

theorem SyncFree.syncEval (x : Mach) : g x.syncEval = g x := by
  have hwarm : ∀ (y : Mach) (v : Nat), g (y.w REDUN_STATUS_WARM v) = g y := h.w (REDUN_STATUS_WARM, 0) (hl (by decide))
  unfold Mach.syncEval
  split
  · rfl
  · extract_lets carried red judged warm synced shown
    have hjudged : g judged = g x := h.red x _ rfl
    have hsynced : g synced = g judged := h.red judged _ rfl
    split
    · refine (hwarm _ 1).trans ((Mach.when_keeps _ g _ _ fun y => ?_).trans (hsynced.trans hjudged))
      exact (h.xchkStart hl _).trans (h.setAlive hl y 1)
    · have hshown : g shown = g judged := hwarm _ _
      split
      · exact (h.setAlive hl _ 2).trans ((h.red shown _ (by rfl)).trans (hshown.trans hjudged))
      · exact hshown.trans hjudged

end Frames

/-! ### The clock's evaluation (R381 to R387) -/

/-- The fields in which the clock shows, with what follows it in the Air region and in Kiln. -/
def clockFields : List (Field × Nat) :=
  [TIME_SRC_STATUS_QUALIFIED, TIME_UNCERT_ALL, TIME_UTC_OFFSET, TIME_UTC_LEAP61, TIME_UTC_LEAP59, TIME_STATUS_STATUS,
    TIME_SRC_STATUS_SOURCE, TIME_PTP_STATUS_CLASS, TIME_PTP_STATUS_ACCURACY, TIME_PTP_STATUS_SOURCE, TIME_PTP_STATUS_SENDING,
    TIME_SRC_STATUS_FAR, TIME_STATUS_STEP_LOCK, TIME_STEP_PT_ALL, KILN_AUTH_STATUS_SIGNING].map (fun f => (f, 0)) ++ refreshFields ++
  (List.range 16).flatMap fun k => [(TIME_CMP_STATUS_ARMED, k), (TIME_CMP_STATUS_RUNNING, k)]

/-- An observation that the clock's evaluation leaves. -/
structure ClockFree (l : List (Field × Nat)) (g : Mach → α) : Prop extends Calm g where
  w : Kept g l
  time : ∀ (x : Mach) (t : TimeSt), g { x with time := t } = g x
  air : ∀ (x : Mach) (a : AirSt), g { x with air := a } = g x
  red : ∀ (x : Mach) (r : RedSt), r.core = x.red.core → g { x with red := r } = g x
  free : ∀ (x : Mach) (n : Nat), g { x with freeCtr := n } = g x
  emit : ∀ (x : Mach) (e : Emission), g (x.emit e) = g x

theorem clockFree_field (f : Field) (k : Nat) (l : List (Field × Nat)) (h : l.all (fun e => f.apart k e.1 e.2) = true)
    (hq : quietOff (f.off k 0)) : ClockFree l (fun x => x.r f k) :=
  { calm_field f k hq with
    w := kept_field f k l h, time := fun _ _ => rfl, air := fun _ _ => rfl, red := fun _ _ _ => rfl, free := fun _ _ => rfl
    emit := fun _ _ => rfl }

theorem clockFree_kiln (l : List (Field × Nat)) : ClockFree l Mach.kiln :=
  { event := by simp, complete := by simp, w := kept_of_eq _ fun _ _ _ _ => rfl, time := fun _ _ => rfl, air := fun _ _ => rfl
    red := fun _ _ _ => rfl, free := fun _ _ => rfl, emit := fun _ _ => rfl }

theorem clockFree_core (l : List (Field × Nat)) : ClockFree l (fun x => x.red.core) :=
  { event := by simp, complete := by simp, w := kept_of_eq _ fun _ _ _ _ => rfl, time := fun _ _ => rfl, air := fun _ _ => rfl
    red := fun _ _ h => h, free := fun _ _ => rfl, emit := fun _ _ => rfl }

section Frames

variable {g : Mach → α} {l : List (Field × Nat)} (h : ClockFree l g) (hl : clockFields ⊆ l)
include h hl

theorem ClockFree.shown (f : Field) (hf : (f, 0) ∈ clockFields) (x : Mach) (v : Nat) : g (x.w f v) = g x := h.w (f, 0) (hl hf) x v

theorem ClockFree.timeShow (x : Mach) : g x.timeShow = g x := by
  have hw := h.shown hl
  have hleap : g x.leapShow = g x := by
    unfold Mach.leapShow Mach.wb
    dsimp only
    rw [hw _ (by decide), hw _ (by decide)]
    split
    · exact (hw TIME_UTC_OFFSET (by decide) _ _).trans (h.time x _)
    · rfl
  unfold Mach.timeShow Mach.wb
  dsimp only
  iterate 6 rw [hw _ (by decide)]
  exact hleap

theorem ClockFree.setTimeState (x : Mach) (st : Nat) : g (x.setTimeState st) = g x := by
  unfold Mach.setTimeState
  dsimp only
  split
  · exact h.timeShow hl x
  · exact (h.event _ _ _ _ _).trans ((h.timeShow hl _).trans (h.shown hl TIME_STATUS_STATUS (by decide) x _))

theorem ClockFree.useSource (x : Mach) (src st : Nat) : g (x.useSource src st) = g x := by
  unfold Mach.useSource Mach.setUncert
  dsimp only
  rw [h.setTimeState hl, h.shown hl _ (by decide), h.shown hl _ (by decide)]
  exact h.time x _

theorem ClockFree.notAccepted (x : Mach) (src : Nat) : g (x.notAccepted src) = g x := by
  unfold Mach.notAccepted
  split
  · exact h.shown hl TIME_SRC_STATUS_FAR (by decide) x 0
  · split
    · rfl
    · exact (h.event _ _ _ _ _).trans (h.shown hl TIME_SRC_STATUS_FAR (by decide) x 1)

theorem ClockFree.tryAccept (x : Mach) (src : Nat) : g (x.tryAccept src) = g x := by
  unfold Mach.tryAccept
  split
  · exact h.useSource hl x _ _
  · exact h.notAccepted hl x _

theorem ClockFree.changeSource (x : Mach) (src : Nat) : g (x.changeSource src) = g x :=
  (h.time _ _).trans (h.useSource hl x src x.timeState)

theorem ClockFree.timeLost (x : Mach) : g x.timeLost = g x := by
  unfold Mach.timeLost
  dsimp only
  rw [h.setTimeState hl]
  split
  · exact h.time x _
  · exact (h.time _ _).trans (h.time x _)

theorem ClockFree.setCmp (x : Mach) (k : Nat) (hk : k < 16) (c : CmpChan) : g (x.setCmp k c) = g x := by
  have hw : ∀ f ∈ [TIME_CMP_STATUS_ARMED, TIME_CMP_STATUS_RUNNING], ∀ (y : Mach) (v : Nat), g (y.w f v k) = g y := fun f hf =>
    h.w (f, k) (hl (List.mem_append_right _ (List.mem_flatMap.mpr ⟨k, List.mem_range.mpr hk, by simpa using hf⟩)))
  have hdrive : ∀ (y : Mach) (a : Bool), g (y.cmpDrive k a) = g y := fun y a => by
    unfold Mach.cmpDrive
    split
    · exact h.emit _ _
    · rfl
  unfold Mach.setCmp Mach.wb
  dsimp only
  rw [Mach.when_keeps _ g _ _ fun y => hdrive y _, hw _ (by simp), hw _ (by simp)]
  exact h.time x _

theorem ClockFree.cmpsAtStep (x : Mach) : g x.cmpsAtStep = g x := by
  refine Mach.each_keeps _ g _ _ fun y k hk => ?_
  have hset := fun (z : Mach) => h.setCmp hl z k (List.mem_range.mp hk)
  have hfire : ∀ d at_ st, g (y.cmpFire k d at_ st) = g y := fun d at_ st => (h.complete _ _ _ _).trans (hset y _)
  split
  · unfold Mach.cmpDecide
    split
    · exact hset y _
    · exact hfire _ _ _
    · exact (h.complete _ _ _ _).trans (hset y _)
  · rfl

theorem ClockFree.airRefresh (x : Mach) : g x.airRefresh = g x := by
  have hw : ∀ f, (f, 0) ∈ refreshFields → ∀ (y : Mach) (v : Nat), g (y.w f v) = g y := fun f hf =>
    h.w (f, 0) (hl (List.mem_append_left _ (List.mem_append_right _ hf)))
  unfold Mach.airRefresh Mach.wb
  dsimp only
  rw [h.air]
  iterate 5 rw [hw _ (by decide)]

theorem ClockFree.timeStep (x : Mach) (src at_ ns err : Nat) : g (x.timeStep src at_ ns err) = g x := by
  unfold Mach.timeStep Mach.signShow Mach.wb Mach.setUncert
  extract_lets delta t used red set_ stepped uncert state
  have hset : g set_ = g x := (h.red { x with time := set_.time } _ (by rfl)).trans (h.time x _)
  have hstepped : g stepped = g set_ :=
    (h.event _ _ _ _ _).trans ((h.shown hl TIME_STEP_PT_ALL (by decide) _ _).trans (h.shown hl TIME_STATUS_STEP_LOCK (by decide) _ _))
  have hstate : g state = g stepped :=
    (h.setTimeState hl _ _).trans (h.shown hl TIME_UNCERT_ALL (by decide) _ _)
  exact (h.shown hl KILN_AUTH_STATUS_SIGNING (by decide) _ _).trans
    ((h.cmpsAtStep hl _).trans ((h.airRefresh hl _).trans (hstate.trans (hstepped.trans hset))))

theorem ClockFree.timeEval (x : Mach) (edge : Bool) : g (x.timeEval edge) = g x := by
  unfold Mach.timeEval
  extract_lets used
  split
  · have hfar := h.shown hl TIME_SRC_STATUS_FAR (by decide) x 0
    split
    · exact (h.timeLost hl _).trans hfar
    · exact hfar
  · split
    · split
      · exact (h.timeStep hl _ _ _ _ _).trans (h.free x _)
      · rfl
    · split
      · exact h.tryAccept hl x _
      · split
        · rfl
        · split
          · exact (h.tryAccept hl _ _).trans (h.timeLost hl x)
          · split
            · exact h.changeSource hl x _
            · exact h.notAccepted hl x _

end Frames

/-! ### What a TICK_END frame tells (R422, R428) -/

/-- The fields that a TICK_END frame shows in beside the tick's PT. -/
def tickEndFields : List (Field × Nat) :=
  [(REDUN_TT_OFFSET_ALL, 0), (REDUN_TT_RTT_ALL, 0), (REDUN_CFG_MISMATCH_ITEMS, 0)] ++ clockFields

section Frames

variable {g : Mach → α} {l : List (Field × Nat)} (h : ClockFree l g) (hl : tickEndFields ⊆ l)
include h hl

theorem ClockFree.checkDigest (x : Mach) (digest : Nat) (items : List Nat) : g (x.checkDigest digest items) = g x := by
  unfold Mach.checkDigest
  extract_lets own bad
  split
  · rfl
  · exact (h.event _ _ _ _ _).trans (h.w (REDUN_CFG_MISMATCH_ITEMS, 0) (hl (by decide)) x _)

theorem ClockFree.mateCount (x : Mach) (good : Bool) : g (x.mateCount good) = g x := by
  have hqual : ∀ (y : Mach) (v : Bool), g (y.setQual 3 v) = g y := fun y v =>
    h.w (TIME_SRC_STATUS_QUALIFIED, 0) (hl (by decide)) y _
  unfold Mach.mateCount
  dsimp only
  split
  · exact (Mach.when_keeps _ g _ _ fun y => hqual y true).trans (h.time x _)
  · exact (Mach.when_keeps _ g _ _ fun y => hqual y false).trans (h.time x _)

theorem ClockFree.mateMeasure (x : Mach) (t4 : Option Nat) : g (x.mateMeasure t4) = g x := by
  have hclock : clockFields ⊆ l := List.Subset.trans (List.subset_append_right ..) hl
  unfold Mach.mateMeasure
  dsimp only
  rw [h.timeShow hclock, h.timeEval hclock]
  split
  · rw [h.mateCount hl]
    exact (h.w (REDUN_TT_RTT_ALL, 0) (hl (by decide)) _ _).trans
      ((h.w (REDUN_TT_OFFSET_ALL, 0) (hl (by decide)) _ _).trans (h.red x _ rfl))
  · exact h.mateCount hl x false

end Frames

end Sys2Proof.Machine
end

section
/-! PROOFS. Frames of the mate as a unit takes them (O49; 13, R216, R217, R416 to R419): reception, its answers, an acknowledgement. -/

namespace Sys2Proof.Machine

open Sys2Proof

variable {α : Type} (m : Mach)

/-! ### Sends -/

theorem Mach.mateSend_on (final : Bool) (b : MateBody) (h : m.mateOn = true) : ∃ kept, m.mateSend final b =
    ({ m with red := { m.red with seqOut := (m.red.seqOut + 1) % 2 ^ 32, kept := kept } }).mateOut (m.mateFrame final b) := by
  unfold Mach.mateSend
  rw [if_pos h]
  exact ⟨_, rfl⟩

/-- What an answer leaves. -/
theorem Mach.mateAck_keeps (g : Mach → α) (hfree : ∀ (x : Mach) (n : Nat), g { x with freeCtr := n } = g x)
    (hsend : ∀ (x : Mach) (b : MateBody), g (x.mateSend false b) = g x) (pt rx : Nat) : g (m.mateAck pt rx).2 = g m :=
  (hsend _ _).trans (hfree m _)

/-- An answer takes the next SEQ. -/
theorem Mach.mateAck_red (pt rx : Nat) (h : m.mateOn = true) : ∃ kept, (m.mateAck pt rx).2.red =
    { m.red with seqOut := (m.red.seqOut + 1) % 2 ^ 32, kept := kept } := by
  obtain ⟨kept, hk⟩ := Mach.mateSend_on { m with freeCtr := m.freeCtr + 1 } false (.ack ((m.red.seqIn + 2 ^ 32 - 1) % 2 ^ 32) pt rx
    (1 + 2 * b2n m.red.want) (m.totalNs + Config.freeValue m.freeCtr % 1000000)) h
  exact ⟨kept, (congrArg Mach.red hk :)⟩

theorem Mach.mateOn_congr {a b : Mach} (hen : a.r REDUN_CTRL_MATE_EN = b.r REDUN_CTRL_MATE_EN)
    (hf : a.r INTC_BLK_FAULT_STATE 24 = b.r INTC_BLK_FAULT_STATE 24) : a.mateOn = b.mateOn := by
  simp only [Mach.mateOn, Mach.b, hen, hf]

@[simp] theorem Mach.mateSend_hostMem (final : Bool) (b : MateBody) : (m.mateSend final b).hostMem = m.hostMem := by
  unfold Mach.mateSend; split <;> rfl

/-! ### Reception (R217, R416) -/

/-- A frame of the mate has been heard. -/
def Mach.heardNow (m : Mach) : Mach := { m with red := { m.red with lastRx := some m.now } }

theorem Mach.mateHeard_bad (x : MateRx) (f : Mach → Mach) (hon : m.mateOn = true) (hr : m.ready = true) (h : x.crcOk = false) :
    m.mateHeard x f = m.inc REDUN_CRC_ERR_ALL := by
  unfold Mach.mateHeard
  rw [if_neg (by simp [hon, hr]), if_pos (by simp [h])]

theorem Mach.mateHeard_good (x : MateRx) (f : Mach → Mach) (hon : m.mateOn = true) (hr : m.ready = true) (h : x.crcOk = true) :
    m.mateHeard x f = f (m.heardNow.takeForward x.f.forward) := by
  unfold Mach.mateHeard
  rw [if_neg (by simp [hon, hr]), if_neg (by simp [h])]
  rfl

theorem Mach.takeForward_idle (f : Bool) (h : m.isActive = false) : m.takeForward f = m := if_neg (by simp [h])

theorem Mach.takeForward_clear (h : m.isActive = true) : m.takeForward false = m.setSrc 9 false := if_pos h

/-- A field that the forward bit of a frame leaves. -/
theorem Mach.takeForward_r (b : Bool) (f : Field) (k : Nat) (h : levelFields.all (fun e => f.apart k e.1 e.2) = true)
    (hq : quietOff (f.off k 0)) : (m.takeForward b).r f k = m.r f k := by
  have hsrc : f.apart k DAMP_SRC_SRC 0 = true := List.all_eq_true.mp h _ List.mem_cons_self
  unfold Mach.takeForward
  split
  · split
    · exact m.levelAssert_r 9 0 Stops.ofSite f k h hq
    · exact m.wBit_apart DAMP_SRC_SRC f 9 k false hsrc
  · rfl

theorem Mach.isActive_congr {a b : Mach} (h : a.r REDUN_STATUS_ROLE_STATE = b.r REDUN_STATUS_ROLE_STATE) :
    a.isActive = b.isActive := congrArg (· == 1) h

theorem Mach.isStandby_congr {a b : Mach} (h : a.r REDUN_STATUS_ROLE_STATE = b.r REDUN_STATUS_ROLE_STATE) :
    a.isStandby = b.isStandby := congrArg (· == 2) h

theorem Mach.takeForward_role (b : Bool) : (m.takeForward b).r REDUN_STATUS_ROLE_STATE = m.r REDUN_STATUS_ROLE_STATE :=
  m.takeForward_r b _ 0 (by decide) (by unfold quietOff; decide)

/-- A stop that names no agent leaves Kiln. -/
theorem Mach.gainStops_kiln (what : Stops) (h : what.agents = 0) : (m.gainStops what).kiln = m.kiln := by
  have hno : ∀ i, what.agents.getLsbD i = false := fun i => by rw [h]; exact BitVec.getLsbD_zero
  have hnone : (List.range 512).filter (fun i => what.agents.getLsbD i && !m.latched.agents.getLsbD i) = [] :=
    List.filter_eq_nil_iff.mpr fun i _ => by rw [hno i, Bool.false_and]; exact Bool.false_ne_true
  unfold Mach.gainStops
  extract_lets old latched released parked stopped
  have hparked : parked = released := by
    unfold parked
    rw [show old = m.latched from rfl, hnone]
    rfl
  have hstop : stopped.kiln = m.kiln := by
    refine (Mach.quickStop_kiln _).trans ?_
    rw [hparked]
    exact (Mach.when_keeps _ Mach.kiln _ _ fun x => x.releaseOutputs_kiln).trans (m.setLatches_kiln _)
  clear_value stopped
  split
  · exact (Mach.when_keeps _ Mach.kiln _ _ fun x => x.mateSend_kiln _ _).trans hstop
  · exact hstop

theorem Mach.takeForward_kiln (b : Bool) : (m.takeForward b).kiln = m.kiln := by
  unfold Mach.takeForward Mach.levelAssert
  split
  · split
    · split
      · rfl
      · rw [Mach.assertSource_gained _ _ _ _ Mach.kiln (by simp), Mach.gainStops_kiln _ _ rfl, Mach.stopGated_kiln]
        rfl
    · rfl
  · rfl

theorem stopFree_lastRx (l : List (Field × Nat)) : StopFree l (fun x => x.red.lastRx) :=
  { event := by simp, complete := by simp, w := kept_of_eq _ fun _ _ _ _ => rfl, mot := fun _ _ => rfl, kiln := fun _ _ => rfl
    dam := fun _ _ => rfl, air := fun _ _ => rfl, free := fun _ _ => rfl, emit := fun _ _ => rfl
    send := fun x c b => by unfold Mach.mateSend; split <;> rfl }

theorem Mach.takeForward_lastRx (b : Bool) : (m.takeForward b).red.lastRx = m.red.lastRx := by
  unfold Mach.takeForward
  split
  · split
    · exact (stopFree_lastRx _).levelAssert m (fun _ he => he) 9 0 Stops.ofSite
    · rfl
  · rfl

/-! ### Frames only an active unit sends (R417, R419) -/

/-- An active unit hears a frame of another. -/
theorem Mach.fromActive_active (x : MateRx) (f : MateFrame → Mach → Mach) (hact : m.isActive = true) (hon : m.mateOn = true)
    (hr : m.ready = true) (hcrc : x.crcOk = true) : m.fromActive x f = m.heardNow.takeForward x.f.forward := by
  have hactive : (m.heardNow.takeForward x.f.forward).isActive = true := (Mach.isActive_congr (Mach.takeForward_role _ _)).trans hact
  unfold Mach.fromActive
  rw [m.mateHeard_good x _ hon hr hcrc, if_pos (by simp [hactive])]

/-- A standby in step with its mate: the frame expected has come. -/
def Mach.inStep (m : Mach) (seq : Nat) : Mach :=
  { m with red := { m.red with lastRx := some m.now, seqIn := (seq + 1) % 2 ^ 32, gapAt := none, mateActive := true } }

theorem Mach.mateIsActive_standby (h : m.isStandby = true) :
    m.mateIsActive = { m with red := { m.red with mateActive := true } } := by
  have hrole : m.r REDUN_STATUS_ROLE_STATE = 2 := by simpa [Mach.isStandby] using h
  exact if_neg (show ¬ (m.r REDUN_STATUS_ROLE_STATE == 0) = true by rw [hrole]; decide)

/-- A standby applies the frame it expects. -/
theorem Mach.fromActive_standby (x : MateRx) (f : MateFrame → Mach → Mach) (hact : m.isActive = false) (hst : m.isStandby = true)
    (hsafe : m.isSafe = false) (hon : m.mateOn = true) (hr : m.ready = true) (hcrc : x.crcOk = true)
    (hseq : diff32 x.f.seq m.red.seqIn = 0) (hmir : m.mirror = 2 ∨ m.mirror = 3) :
    m.fromActive x f = f x.f (m.inStep x.f.seq) := by
  have hidle : m.heardNow.takeForward x.f.forward = m.heardNow := Mach.takeForward_idle _ _ hact
  have hgo : ¬ (m.heardNow.isActive || m.heardNow.isSafe) = true := by
    rw [show m.heardNow.isActive = false from hact, show m.heardNow.isSafe = false from hsafe]
    decide
  have hheard : m.heardNow.mirror = m.mirror := rfl
  have hahead : diff32 x.f.seq m.heardNow.red.seqIn = 0 := hseq
  unfold Mach.fromActive
  rw [m.mateHeard_good x _ hon hr hcrc, hidle, if_neg hgo]
  unfold Mach.mateSeq
  dsimp only
  rw [hahead, hheard, if_neg (by obtain h | h := hmir <;> simp [h]), if_pos (by simp)]
  exact congrArg (f x.f) (Mach.mateIsActive_standby _ hst)

/-! ### A HELLO taken (R418) -/

/-- A HELLO accepted: the mate is known and the sequence begins again. -/
def Mach.helloTaken (m : Mach) (x : MateRx) (serial prof lo hi : Nat) : Mach :=
  let y := m.heardNow.takeForward x.f.forward
  ({ y with red := { y.red with
      mate := some (serial, prof, lo, hi), seqIn := 0, gapAt := none, mateActive := false, mateWarm := false,
      stamps := none, helloSent := m.red.helloSent } }.setMirror 1).syncEval

theorem mateHello_taken (x : MateRx) {serial prof lo hi nonce : Nat} {mic : Option Nat} (hon : m.mateOn = true) (hr : m.ready = true)
    (hrec : m.recovery = false) (hb : x.f.body = .hello serial prof lo hi nonce mic) (hcrc : x.crcOk = true) (hsome : mic.isSome = true)
    (hmic : mic = m.nv.set.pairKey.map (helloMic serial prof lo hi nonce)) (hmir : m.mirror ≤ 1) :
    mateHello x m = (m.helloTaken x serial prof lo hi).matePair := by
  have hsent : (m.red.helloSent && (decide (m.mirror ≤ 1) || m.red.lost)) = m.red.helloSent := by simp [hmir]
  unfold mateHello
  rw [if_neg (by simp [hon, hr, hrec]), if_neg (by simp [hcrc]), hb]
  dsimp only
  rw [if_neg (by rw [← hmic]; cases mic <;> simp_all), if_neg (by simp [hmir]), hsent]
  rfl

end Sys2Proof.Machine
end

section
/-! PROOFS. The mirrored state as a standby takes it (O49; 13, R216, R421, R426): a view of what the regions hold. -/

namespace Sys2Proof.Machine

open Sys2Proof

variable (m : Mach)

/-! ### The view -/

/-- What the mirrored regions are judged by, beside registers. -/
structure Gist where
  store : KilnStore
  map : Option SiteMap
  tab : AirTab
  dam : DamSt
  red : RedSt
  rings : Tab Ring
  time : TimeSt
  ticks : Nat
  creds : Tab Cred
  pair : Option Nat

def Mach.gist (m : Mach) : Gist where
  store := m.kiln.store
  map := m.kiln.map
  tab := m.air.tab
  dam := m.dam
  red := m.red
  rings := m.hif.rings
  time := m.time
  ticks := m.now
  creds := m.nv.set.creds
  pair := m.nv.set.pairKey

/-- The registers outside Kiln's and Air's windows. -/
def Mach.restRegs (m : Mach) (off : Nat) : Option (BitVec 32) := if mirrorRegion off = 2 then Tabs.look m.regs off else none

/-- The gist and the registers of the third region. -/
def Mach.mirrorView (m : Mach) : Gist × (Nat → Option (BitVec 32)) := (m.gist, m.restRegs)

theorem Mach.w_gist (f : Field) (v i j : Nat) : (m.w f v i j).gist = m.gist := rfl

theorem Mach.put_restRegs (off v : Nat) (h : mirrorRegion off ≠ 2) :
    ({ m with regs := Tabs.put m.regs off (BitVec.ofNat 32 v) } : Mach).restRegs = m.restRegs := by
  funext o
  unfold Mach.restRegs
  split
  · exact Tabs.look_put_ne _ _ fun he => h (he ▸ ‹_›)
  · rfl

/-- A register of Kiln's or Air's window shows in neither. -/
theorem Mach.w_mirrorView (f : Field) (v i j : Nat) (h : mirrorRegion (f.off i j) ≠ 2) :
    (m.w f v i j).mirrorView = m.mirrorView := Prod.ext rfl (m.put_restRegs _ _ h)

theorem Mach.r_of_restRegs {a b : Mach} (h : a.restRegs = b.restRegs) (f : Field) (k : Nat) (hf : mirrorRegion (f.off k 0) = 2) :
    a.r f k = b.r f k := by
  have ho := congrFun h (f.off k 0)
  unfold Mach.restRegs at ho
  rw [if_pos hf, if_pos hf] at ho
  exact Mach.r_congr f k 0 ho

theorem mirrorView_kept {l : List (Field × Nat)} (h : l.all (fun e => mirrorRegion (e.1.off e.2 0) != 2) = true) :
    Kept Mach.mirrorView l := fun e he x v => x.w_mirrorView e.1 v e.2 0 (by simpa using List.all_eq_true.mp h e he)

/-! ### Region 0: Kiln -/

theorem Mach.applyRegs_view (s : Mirror) (region : Nat) (h : region ≠ 2) : (m.applyRegs s region).mirrorView = m.mirrorView :=
  Mach.each_keeps _ Mach.mirrorView _ _ fun x e he => by
    have hreg : mirrorRegion e.1 = region := by simpa using (List.mem_filter.mp he).2
    exact Prod.ext rfl (x.put_restRegs _ _ (hreg ▸ h))

theorem Mach.applyRegs_gist (s : Mirror) (region : Nat) : (m.applyRegs s region).gist = m.gist :=
  Mach.each_keeps _ Mach.gist _ _ fun _ _ _ => rfl

theorem Mach.setStore_view (k : KilnStore) : (m.setStore k).mirrorView = ({ m.gist with store := k }, m.restRegs) := by
  unfold Mach.setStore
  dsimp only
  iterate 4 rw [Mach.w_mirrorView _ _ _ _ _ (by decide)]
  rfl

theorem Mach.setStage_view (st : Nat) (l : List Byte) (mp : Option SiteMap) : (m.setStage st l mp).mirrorView = m.mirrorView := by
  unfold Mach.setStage
  iterate 2 rw [Mach.w_mirrorView _ _ _ _ _ (by decide)]
  rfl

theorem Mach.showMap_view (mp : SiteMap) : (m.showMap mp).mirrorView = m.mirrorView := by
  unfold Mach.showMap
  iterate 7 rw [Mach.w_mirrorView _ _ _ _ _ (by decide)]

theorem Mach.hideMap_view : m.hideMap.mirrorView = m.mirrorView := by
  unfold Mach.hideMap
  iterate 7 rw [Mach.w_mirrorView _ _ _ _ _ (by decide)]

theorem Mach.setAuthKey_view (key id : Nat) : (m.setAuthKey key id).mirrorView = m.mirrorView := by
  unfold Mach.setAuthKey
  dsimp only
  iterate 2 rw [Mach.w_mirrorView _ _ _ _ _ (by decide)]
  rfl

/-- Kiln's store and map are the mate's, its ticks counted as this unit's. -/
theorem Mach.applyKiln_view (s : Mirror) (pt : Nat) : (m.applyKiln s pt).mirrorView =
    ({ m.gist with store := s.store.shift (m.tickShift s pt), map := s.map }, m.restRegs) := by
  unfold Mach.applyKiln
  extract_lets fresh stored kiln nv mapped staged shown
  have hstored : stored.mirrorView = ({ m.gist with store := s.store.shift (m.tickShift s pt) }, m.restRegs) := m.setStore_view _
  have hgist : stored.gist = { m.gist with store := s.store.shift (m.tickShift s pt) } := congrArg Prod.fst hstored
  have hrest : stored.restRegs = m.restRegs := congrArg Prod.snd hstored
  have hmapped : mapped.mirrorView = ({ stored.gist with map := s.map }, stored.restRegs) := rfl
  rw [hgist, hrest] at hmapped
  have hstaged : staged.mirrorView = mapped.mirrorView := (Mach.applyRegs_view _ s 0 (by decide)).trans (mapped.setStage_view _ _ _)
  have hshown : shown.mirrorView = staged.mirrorView := by
    unfold shown
    split
    · split
      · exact (Mach.showMap_view _ _).trans (Mach.w_mirrorView _ _ _ _ _ (by decide))
      · rfl
    · exact staged.hideMap_view
  refine Eq.trans ?_ (hshown.trans (hstaged.trans hmapped))
  split
  · exact shown.setAuthKey_view _ _
  · rfl

/-! ### Region 1: the Air region -/

theorem Mach.airShow_view : m.airShow.mirrorView = m.mirrorView :=
  Mach.airShow_keeps (mirrorView_kept (by decide)) (fun x v => Prod.ext rfl (x.put_restRegs _ _ (by decide))) m

theorem Mach.setBeaconKey_view (key id : Nat) : (m.setBeaconKey key id).mirrorView = m.mirrorView := by
  unfold Mach.setBeaconKey
  dsimp only
  iterate 2 rw [Mach.w_mirrorView _ _ _ _ _ (by decide)]
  rfl

/-- The tables and credentials are the mate's, keys unwrapped, ticks counted as this unit's. -/
theorem Mach.applyAir_view (s : Mirror) (pt : Nat) : (m.applyAir s pt).mirrorView =
    ({ m.gist with tab := (s.air.wrapped m.mateUnwrap).shift (m.tickShift s pt), creds := credsWrapped s.creds m.mateUnwrap },
      m.restRegs) := by
  unfold Mach.applyAir
  extract_lets tabbed air set_ nv keyed
  have htabbed : tabbed.mirrorView = ({ m.gist with tab := (s.air.wrapped m.mateUnwrap).shift (m.tickShift s pt) }, m.restRegs) :=
    (Mach.applyRegs_view _ s 1 (by decide)).trans rfl
  have hgist : tabbed.gist = { m.gist with tab := (s.air.wrapped m.mateUnwrap).shift (m.tickShift s pt) } := congrArg Prod.fst htabbed
  have hpair : tabbed.mateUnwrap = m.mateUnwrap := by
    have hkey : tabbed.nv.set.pairKey = m.nv.set.pairKey := congrArg Gist.pair hgist
    unfold Mach.mateUnwrap
    rw [hkey]
  have hkeyed : keyed.mirrorView = ({ tabbed.gist with creds := credsWrapped s.creds tabbed.mateUnwrap }, tabbed.restRegs) := rfl
  rw [hgist, hpair, show tabbed.restRegs = m.restRegs from congrArg Prod.snd htabbed] at hkeyed
  refine Eq.trans ?_ hkeyed
  split
  · exact (Mach.airShow_view _).trans (keyed.setBeaconKey_view _ _)
  · exact keyed.airShow_view

/-! ### Region 2: the rest -/

/-- Damper's state as mirrored. -/
def DamSt.mirrored (d : DamSt) (s : Mirror) (own : Stops) (k : Int) : DamSt :=
  { d with
    agents := (s.latches.join own).agents
    arm := s.arm.map (fun (a : DamArm) => { a with tick := a.tick + k })
    sample := s.sample
    ticket := match s.arm with
      | some a => a.ticket
      | none => d.ticket }

theorem Mach.setLatches_gist (s : Stops) : (m.setLatches s).gist = { m.gist with dam := { m.dam with agents := s.agents } } :=
  (Mach.each_keeps _ Mach.gist _ _ fun x _ _ => x.w_gist _ _ _ _).trans
    ((Mach.w_gist _ _ _ _ _).trans ((Mach.w_gist _ _ _ _ _).trans (Mach.w_gist _ _ _ _ _)))

theorem Mach.withDam_gist (d : DamSt) : ({ m with dam := d } : Mach).gist = { m.gist with dam := d } := rfl

theorem Mach.withRed_gist (r : RedSt) : ({ m with red := r } : Mach).gist = { m.gist with red := r } := rfl

theorem Mach.applyDamper_gist (s : Mirror) (pt : Nat) : (m.applyDamper s pt).gist =
    { m.gist with dam := m.dam.mirrored s m.ownStops (m.tickShift s pt) } := by
  unfold Mach.applyDamper
  extract_lets k latched ticket src dammed shown
  have hlatched : latched.gist = { m.gist with dam := { m.dam with agents := (s.latches.join m.ownStops).agents } } :=
    (Mach.w_gist _ _ _ _ _).trans (m.setLatches_gist _)
  clear_value latched
  have hdam : latched.dam = { m.dam with agents := (s.latches.join m.ownStops).agents } := congrArg Gist.dam hlatched
  have hdammed : dammed.gist = { latched.gist with dam := dammed.dam } := latched.withDam_gist _
  have hmirrored : dammed.dam = m.dam.mirrored s m.ownStops k := by
    unfold dammed src ticket
    rw [hdam]
    rfl
  rw [hlatched, hmirrored] at hdammed
  have hshown : shown.gist = dammed.gist := dammed.w_gist _ _ _ _
  refine Eq.trans ?_ (hshown.trans hdammed)
  clear_value shown
  split
  · exact (Mach.w_gist _ _ _ _ _).trans (Mach.w_gist _ _ _ _ _)
  · rfl

theorem Mach.setMetEl_gist (d : Nat) (x : MetEl) : (m.setMetEl d x).gist = m.gist := by
  unfold Mach.setMetEl Mach.metShow
  dsimp only
  iterate 9 rw [Mach.w_gist]
  rfl

theorem Mach.metWrapped_gist (d : Nat) (a b : MetEnergy) : (m.metWrapped d a b).gist = m.gist :=
  (Mach.when_keeps _ Mach.gist _ _ fun x => x.w_gist _ _ _ _).trans (Mach.when_keeps _ Mach.gist _ _ fun x => x.w_gist _ _ _ _)

theorem Mach.metMirror_gist (pt : Nat) (l : List MetEnergy) : (m.metMirror pt l).gist = m.gist :=
  Mach.each_keeps _ Mach.gist _ _ fun _ _ _ => (Mach.metWrapped_gist _ _ _ _).trans (Mach.setMetEl_gist _ _ _)

theorem Mach.setBase_gist (b : BasePos) : (m.setBase b).gist = m.gist := by
  unfold Mach.setBase Mach.posShow
  dsimp only
  iterate 8 rw [Mach.w_gist]
  rfl

theorem Mach.applyAxis_gist (s : Mirror) (k : Int) (a : Nat) : (m.applyAxis s k a).gist = m.gist := by
  unfold Mach.applyAxis
  extract_lets w x mot put
  refine Eq.trans (b := mot.gist) ?_ rfl
  clear_value mot
  simp only [List.foldl, put, Mach.w_gist]

theorem Mach.shardMate_gist (e : ShardEv) : (m.shardMate e).gist = m.gist := by
  unfold Mach.shardMate Mach.shardPush
  split <;> rfl

/-- What is known of the mate as mirrored. -/
def RedSt.mirrored (r : RedSt) (s : Mirror) : RedSt := { r with txOk := s.txOk, mateStepped := s.stepped, mateState := s.timeState }

/-- Of the third region, Damper's state and what is known of the mate show in the gist. -/
theorem Mach.applyRest_gist (s : Mirror) (pt : Nat) : (m.applyRest s pt).gist =
    { m.gist with dam := m.dam.mirrored s m.ownStops (m.tickShift s pt), red := m.red.mirrored s } := by
  unfold Mach.applyRest
  extract_lets k regs axes set_ nv put placed kept
  have hregs : regs.gist = { m.gist with dam := m.dam.mirrored s m.ownStops (m.tickShift s pt) } :=
    (Mach.applyRegs_gist _ s 2).trans (m.applyDamper_gist s pt)
  have haxes : axes.gist = regs.gist := Mach.each_keeps _ Mach.gist _ _ fun x a _ => x.applyAxis_gist s k a
  clear_value axes
  have hplaced : placed.gist = axes.gist := (Mach.metMirror_gist _ _ _).trans (Mach.setBase_gist _ _)
  clear_value placed
  have hkept : kept.gist = placed.gist := Mach.each_keeps _ Mach.gist _ _ fun x e _ => x.shardMate_gist e
  clear_value kept
  have hall : kept.gist = { m.gist with dam := m.dam.mirrored s m.ownStops (m.tickShift s pt) } :=
    hkept.trans (hplaced.trans (haxes.trans hregs))
  have hred : kept.red = m.red := congrArg Gist.red hall
  refine (kept.withRed_gist (kept.red.mirrored s)).trans ?_
  rw [hall, hred]

/-! ### What the application reads of this unit -/

theorem Mach.tickShift_congr {a b : Mach} (s : Mirror) (pt : Nat) (hn : a.now = b.now) (ht : a.time = b.time)
    (hr : a.r TIME_STATUS_STEP_LOCK = b.r TIME_STATUS_STEP_LOCK) : a.tickShift s pt = b.tickShift s pt := by
  have hstep : a.stepped = b.stepped := Mach.b_of_r hr
  have hpt : a.pt = b.pt := by simp only [Mach.pt, Mach.msInt, ht]
  unfold Mach.tickShift
  rw [hstep, hpt, hn]

theorem inputZone_region : ∀ n : Fin 4, mirrorRegion (DAMP_IN_ZONE_LO_ALL.off n 0) = 2 ∧
    mirrorRegion (DAMP_IN_ZONE_HI_ALL.off n 0) = 2 ∧ mirrorRegion (DAMP_IN_CFG_SCOPE.off n 0) = 2 := by decide

theorem Mach.ownStops_congr {a b : Mach} (h : a.restRegs = b.restRegs) (hd : a.dam = b.dam) : a.ownStops = b.ownStops := by
  have hsrc : a.r DAMP_SRC_SRC = b.r DAMP_SRC_SRC := Mach.r_of_restRegs h _ 0 (by decide)
  unfold Mach.ownStops
  rw [hsrc, hd]
  refine List.foldl_ext _ _ _ fun t n hn => ?_
  have hlt : n < 4 := List.mem_range.mp (List.mem_of_mem_filter hn)
  obtain ⟨hlo, hhi, hscope⟩ := inputZone_region ⟨n, hlt⟩
  rw [Mach.inputScope_congr (Mach.r_of_restRegs h _ n hlo) (Mach.r_of_restRegs h _ n hhi) (Mach.r_of_restRegs h _ n hscope)]

/-- The whole of the mirrored state, region by region. -/
theorem Mach.applyMirror_gist (s : Mirror) (pt : Nat) (h : m.mirror = 3) : (m.applyMirror s pt).gist =
      { m.gist with
        store := s.store.shift (m.tickShift s pt), map := s.map
        tab := (s.air.wrapped m.mateUnwrap).shift (m.tickShift s pt), creds := credsWrapped s.creds m.mateUnwrap
        dam := m.dam.mirrored s m.ownStops (m.tickShift s pt), red := m.red.mirrored s } := by
  let y := m.applyKiln s pt
  let z := y.applyAir s pt
  have hall : m.applyMirror s pt = z.applyRest s pt := by
    unfold Mach.applyMirror
    rw [h]
    rfl
  have hy : y.mirrorView = ({ m.gist with store := s.store.shift (m.tickShift s pt), map := s.map }, m.restRegs) := m.applyKiln_view s pt
  have hyg : y.gist = { m.gist with store := s.store.shift (m.tickShift s pt), map := s.map } := congrArg Prod.fst hy
  have hyr : y.restRegs = m.restRegs := congrArg Prod.snd hy
  have hyk : y.tickShift s pt = m.tickShift s pt := Mach.tickShift_congr s pt (congrArg Gist.ticks hyg) (congrArg Gist.time hyg)
    (Mach.r_of_restRegs hyr _ 0 (by decide))
  have hyu : y.mateUnwrap = m.mateUnwrap := by
    have hkey : y.nv.set.pairKey = m.nv.set.pairKey := congrArg Gist.pair hyg
    unfold Mach.mateUnwrap
    rw [hkey]
  have hz := y.applyAir_view s pt
  rw [hyk, hyu, hyg, hyr] at hz
  have hzg := congrArg Prod.fst hz
  have hzr : z.restRegs = m.restRegs := congrArg Prod.snd hz
  have hzk : z.tickShift s pt = m.tickShift s pt := Mach.tickShift_congr s pt (congrArg Gist.ticks hzg) (congrArg Gist.time hzg)
    (Mach.r_of_restRegs hzr _ 0 (by decide))
  have hzd : z.dam = m.dam := congrArg Gist.dam hzg
  have hzs : z.red = m.red := congrArg Gist.red hzg
  have hrest := z.applyRest_gist s pt
  rw [hzk, hzd, hzs, Mach.ownStops_congr hzr hzd, show z.gist = _ from hzg] at hrest
  exact hall ▸ hrest

end Sys2Proof.Machine
end

section
/-! PROOFS. What a unit makes of a frame of its mate (O49; 13, R216, R418, R421 to R424, R426, R433). -/

namespace Sys2Proof.Machine

open Sys2Proof

variable {α : Type} (m : Mach)

/-! ### The comparison of two HELLOs (R418) -/

/-- What is known of the mate: when it was last heard, its HELLO, and the SEQ expected of it. -/
def RedSt.known (r : RedSt) : Option Nat × Option (Nat × Nat × Nat × Nat) × Nat := (r.lastRx, r.mate, r.seqIn)

theorem RedSt.known_of_core {a b : RedSt} (h : a.core = b.core) : a.known = b.known := (congrArg RedSt.known h :)

/-- An observation that the comparison leaves: no register, nothing of the link but what is known of the mate. -/
structure PairFree (g : Mach → α) : Prop where
  w : ∀ (x : Mach) (f : Field) (v i : Nat), g (x.w f v i) = g x
  event : ∀ (x : Mach) (code sev src : Nat) (args : List Byte), g (x.event code sev src args) = g x
  met : ∀ (x : Mach) (t : MetSt), g { x with met := t } = g x
  red : ∀ (x : Mach) (r : RedSt), r.known = x.red.known → g { x with red := r } = g x

theorem pairFree_known : PairFree (fun x => x.red.known) := ⟨fun _ _ _ _ => rfl, by simp, fun _ _ => rfl, fun _ _ h => h⟩

theorem pairFree_kiln : PairFree Mach.kiln := ⟨fun _ _ _ _ => rfl, by simp, fun _ _ => rfl, fun _ _ _ => rfl⟩

section Frames

variable {g : Mach → α} (h : PairFree g)
include h

theorem PairFree.syncFree (l : List (Field × Nat)) : SyncFree l g :=
  ⟨kept_of_eq _ h.w, h.met, fun x r hr => h.red x r (RedSt.known_of_core hr)⟩

theorem PairFree.syncEval (x : Mach) : g x.syncEval = g x := (h.syncFree syncFields).syncEval (fun _ he => he) x

theorem PairFree.setMirror (x : Mach) (v : Nat) : g (x.setMirror v) = g x := (h.w _ _ _ _).trans (h.w _ _ _ _)

theorem PairFree.bulkStart (x : Mach) (want : Bool) : g (x.bulkStart want) = g x :=
  (h.w _ _ _ _).trans ((h.w _ _ _ _).trans ((h.setMirror _ 2).trans (h.red x _ rfl)))

theorem PairFree.matePair (x : Mach) : g x.matePair = g x := by
  unfold Mach.matePair
  split
  · rfl
  · split
    · rfl
    · split
      · exact (h.event _ _ _ _ _).trans (h.setMirror x 6)
      · exact (h.syncEval _).trans ((h.bulkStart _ _).trans ((h.w _ _ _ _).trans (h.red x _ rfl)))

end Frames

theorem Mach.setMirror_mirror (v : Nat) (h : v < 8) : (m.setMirror v).mirror = v :=
  (Mach.r_w_apart _ _ _ _ _ 0 (by decide)).trans ((Mach.r_w_same _ _ _ 0 0 (by decide)).trans (Nat.mod_eq_of_lt h))

/-- A field that the evaluation of the synchronisation leaves. -/
theorem Mach.syncEval_r (f : Field) (k : Nat) (h : syncFields.all (fun e => f.apart k e.1 e.2) = true) :
    m.syncEval.r f k = m.r f k := (syncFree_field f k _ h).syncEval (fun _ he => he) m

theorem Mach.syncEval_mirror : m.syncEval.mirror = m.mirror := m.syncEval_r REDUN_STATUS_MIRROR 0 (by decide)

theorem Mach.syncEval_core : m.syncEval.red.core = m.red.core := (syncFree_core _).syncEval (fun _ he => he) m

section Hello

variable (x : MateRx) (serial prof lo hi : Nat)

theorem Mach.helloTaken_core : (m.helloTaken x serial prof lo hi).red.core =
    ({ (m.heardNow.takeForward x.f.forward).red with
      mate := some (serial, prof, lo, hi), seqIn := 0, gapAt := none, mateActive := false, mateWarm := false,
      stamps := none, helloSent := m.red.helloSent } : RedSt).core := Mach.syncEval_core _

theorem Mach.helloTaken_mate : (m.helloTaken x serial prof lo hi).red.mate = some (serial, prof, lo, hi) :=
  (congrArg RedSt.mate (m.helloTaken_core x serial prof lo hi) :)

theorem Mach.helloTaken_sent : (m.helloTaken x serial prof lo hi).red.helloSent = m.red.helloSent :=
  (congrArg RedSt.helloSent (m.helloTaken_core x serial prof lo hi) :)

theorem Mach.helloTaken_known : (m.helloTaken x serial prof lo hi).red.known = (some m.now, some (serial, prof, lo, hi), 0) := by
  have h := RedSt.known_of_core (m.helloTaken_core x serial prof lo hi)
  refine h.trans (Prod.ext ?_ rfl)
  exact Mach.takeForward_lastRx _ _

theorem Mach.helloTaken_kiln : (m.helloTaken x serial prof lo hi).kiln = m.kiln :=
  (pairFree_kiln.syncEval _).trans ((pairFree_kiln.setMirror _ _).trans (m.heardNow.takeForward_kiln _))

theorem Mach.helloTaken_mirror : (m.helloTaken x serial prof lo hi).mirror = 1 :=
  (Mach.syncEval_mirror _).trans (Mach.setMirror_mirror _ 1 (by decide))

/-- A field that an accepted HELLO leaves. -/
theorem Mach.helloTaken_r (f : Field) (hf : ((REDUN_STATUS_MIRROR, 0) :: (REDUN_STATUS_MATE_OK, 0) :: syncFields).all
    (fun e => f.apart 0 e.1 e.2) = true) (hlevel : levelFields.all (fun e => f.apart 0 e.1 e.2) = true) (hq : quietOff (f.off 0 0)) :
    (m.helloTaken x serial prof lo hi).r f = m.r f := by
  rw [List.all_cons, List.all_cons] at hf
  simp only [Bool.and_eq_true] at hf
  obtain ⟨hmir, hok, hsync⟩ := hf
  exact (Mach.syncEval_r _ f 0 hsync).trans ((Mach.r_w_apart _ _ _ _ _ 0 hok).trans ((Mach.r_w_apart _ _ _ _ _ 0 hmir).trans
    (m.heardNow.takeForward_r x.f.forward f 0 hlevel hq)))

end Hello

theorem Mach.matePair_wait {e : Nat × Nat × Nat × Nat} (hm : m.red.mate = some e) (h : m.red.helloSent = false) : m.matePair = m := by
  unfold Mach.matePair
  rw [hm]
  exact if_pos (by simp [h])

/-- Two units of different profiles do not pair. -/
theorem Mach.matePair_apart {serial prof lo hi : Nat} (hm : m.red.mate = some (serial, prof, lo, hi)) (hs : m.red.helloSent = true)
    (hp : prof ≠ m.r ID_PROFILE_ALL) : m.matePair.mirror = 6 := by
  unfold Mach.matePair
  rw [hm]
  dsimp only
  rw [if_neg (by simp [hs]), if_pos (by simp [hp])]
  exact (Mach.r_event _ _ _ _ _ REDUN_STATUS_MIRROR 0 0 (by unfold quietOff; decide)).trans (m.setMirror_mirror 6 (by decide))

theorem Mach.bulkStart_mirror (want : Bool) : (m.bulkStart want).mirror = 2 :=
  (Mach.r_w_apart _ _ _ _ _ 0 (by decide)).trans ((Mach.r_w_apart _ _ _ _ _ 0 (by decide)).trans (Mach.setMirror_mirror _ 2 (by decide)))

theorem Mach.bulkStart_want (want : Bool) : (m.bulkStart want).red.want = want := rfl

/-- A field that the beginning of a bulk transfer leaves. -/
theorem Mach.bulkStart_r (want : Bool) (f : Field) (h : [REDUN_STATUS_MIRROR, REDUN_STATUS_MATE_OK, REDUN_STATUS_BULK_PCT,
    REDUN_RESYNCS_ALL].all (fun e => f.apart 0 e 0) = true) : (m.bulkStart want).r f = m.r f := by
  simp only [List.all_cons, List.all_nil, Bool.and_eq_true] at h
  obtain ⟨hmir, hok, hpct, hsyncs, -⟩ := h
  exact (Mach.r_w_apart _ _ _ _ _ 0 hsyncs).trans ((Mach.r_w_apart _ _ _ _ _ 0 hpct).trans
    ((Mach.r_w_apart _ _ _ _ _ 0 hok).trans (Mach.r_w_apart _ _ _ _ _ 0 hmir)))

/-- The common version of two units that agree. -/
def Mach.versionTaken (m : Mach) (hi : Nat) : Mach :=
  ({ m with red := { m.red with lost := false, ackAt := m.now, ackSeq := none } } : Mach).w REDUN_VER_IN_USE
    (min hi (m.r REDUN_VER_OWN_MAX))

theorem Mach.versionTaken_ver (hi : Nat) : (m.versionTaken hi).r REDUN_VER_IN_USE = min hi (m.r REDUN_VER_OWN_MAX) :=
  (Mach.r_w_same _ _ _ 0 0 (by decide)).trans
    (Nat.mod_eq_of_lt (Nat.lt_of_le_of_lt (Nat.min_le_right _ _) (m.r_lt REDUN_VER_OWN_MAX 0 0)))

/-- Two units that agree begin with a bulk transfer under the common version. -/
theorem Mach.matePair_agreed {serial prof lo hi : Nat} (hm : m.red.mate = some (serial, prof, lo, hi)) (hs : m.red.helloSent = true)
    (hp : prof = m.r ID_PROFILE_ALL) (hlo : m.r REDUN_VER_OWN_MIN ≤ hi) (hhi : lo ≤ m.r REDUN_VER_OWN_MAX) :
    m.matePair = ((m.versionTaken hi).bulkStart m.isStandby).syncEval := by
  unfold Mach.matePair
  rw [hm]
  dsimp only
  rw [if_neg (by simp [hs]), if_neg (by simp [hp, hlo, hhi])]
  rfl

theorem Mach.bulkBegun_shows (want : Bool) : (m.bulkStart want).syncEval.mirror = 2 ∧
    (m.bulkStart want).syncEval.r REDUN_VER_IN_USE = m.r REDUN_VER_IN_USE ∧ (m.bulkStart want).syncEval.red.want = want := by
  have hcore := Mach.syncEval_core (m.bulkStart want)
  refine ⟨(Mach.syncEval_mirror _).trans (m.bulkStart_mirror want), (Mach.syncEval_r _ _ 0 (by decide)).trans
    (m.bulkStart_r want _ (by decide)), ?_⟩
  exact (congrArg RedSt.want hcore :).trans (m.bulkStart_want want)

theorem Mach.matePair_agree {serial prof lo hi : Nat} (hm : m.red.mate = some (serial, prof, lo, hi)) (hs : m.red.helloSent = true)
    (hp : prof = m.r ID_PROFILE_ALL) (hlo : m.r REDUN_VER_OWN_MIN ≤ hi) (hhi : lo ≤ m.r REDUN_VER_OWN_MAX) :
    m.matePair.mirror = 2 ∧ m.matePair.r REDUN_VER_IN_USE = min hi (m.r REDUN_VER_OWN_MAX) ∧ m.matePair.red.want = m.isStandby := by
  obtain ⟨hmir, hver, hwant⟩ := (m.versionTaken hi).bulkBegun_shows m.isStandby
  rw [m.matePair_agreed hm hs hp hlo hhi]
  exact ⟨hmir, hver.trans (m.versionTaken_ver hi), hwant⟩

/-! ### TICK_END (R422, R428) -/

/-- FINAL and the PT of a TICK_END frame are kept. -/
def Mach.ptTaken (m : Mach) (f : MateFrame) : Mach :=
  ({ m with red := { m.red with finalIn := f.final } } : Mach).w REDUN_LAST_PT_ALL f.pt

theorem Mach.ptTaken_kiln (f : MateFrame) : (m.ptTaken f).kiln = m.kiln := rfl
theorem Mach.ptTaken_core (f : MateFrame) : (m.ptTaken f).red.core = { m.red.core with finalIn := f.final } := rfl
theorem Mach.ptTaken_pt (f : MateFrame) : (m.ptTaken f).r REDUN_LAST_PT_ALL = f.pt % 2 ^ 32 := Mach.r_w_same _ _ _ 0 0 (by decide)

theorem Mach.ptTaken_r (f : MateFrame) (c : Field) (k : Nat) (h : c.apart k REDUN_LAST_PT_ALL 0 = true) :
    (m.ptTaken f).r c k = m.r c k := Mach.r_w_apart _ _ _ _ _ k h

/-- A TICK_END frame taken, before its answer. -/
def Mach.tickEndTaken (m : Mach) (f : MateFrame) (digest : Nat) (items : List Nat) (t4 : Option Nat) : Mach :=
  (((m.checkDigest digest items).mateMeasure t4).ptTaken f).syncEval

section TickEnd

variable (f : MateFrame) (digest : Nat) (items : List Nat) (t4 : Option Nat)

theorem Mach.tickEndTaken_core : (m.tickEndTaken f digest items t4).red.core = { m.red.core with finalIn := f.final } := by
  rw [Mach.tickEndTaken, Mach.syncEval_core, Mach.ptTaken_core, (clockFree_core _).mateMeasure (fun _ he => he),
    (clockFree_core _).checkDigest (fun _ he => he)]

theorem Mach.tickEndTaken_kiln : (m.tickEndTaken f digest items t4).kiln = m.kiln := by
  rw [Mach.tickEndTaken, (syncFree_kiln _).syncEval (fun _ he => he), Mach.ptTaken_kiln,
    (clockFree_kiln _).mateMeasure (fun _ he => he), (clockFree_kiln _).checkDigest (fun _ he => he)]

theorem Mach.tickEndTaken_pt : (m.tickEndTaken f digest items t4).r REDUN_LAST_PT_ALL = f.pt % 2 ^ 32 :=
  (Mach.syncEval_r _ _ 0 (by decide)).trans (Mach.ptTaken_pt _ f)

/-- A field that a TICK_END frame leaves. -/
theorem Mach.tickEndTaken_r (c : Field) (k : Nat) (hc : ((REDUN_LAST_PT_ALL, 0) :: syncFields ++ tickEndFields).all
    (fun e => c.apart k e.1 e.2) = true) (hq : quietOff (c.off k 0)) : (m.tickEndTaken f digest items t4).r c k = m.r c k := by
  rw [List.cons_append, List.all_cons, List.all_append] at hc
  simp only [Bool.and_eq_true] at hc
  obtain ⟨hpt, hsync, htick⟩ := hc
  have hclock := clockFree_field c k _ htick hq
  rw [Mach.tickEndTaken, Mach.syncEval_r _ c k hsync, Mach.ptTaken_r _ _ _ _ hpt, hclock.mateMeasure (fun _ he => he),
    hclock.checkDigest (fun _ he => he)]

theorem Mach.tickEndTaken_mateOn : (m.tickEndTaken f digest items t4).mateOn = m.mateOn :=
  Mach.mateOn_congr (m.tickEndTaken_r f digest items t4 _ 0 (by decide) (by unfold quietOff; decide))
    (m.tickEndTaken_r f digest items t4 _ 24 (by decide) (by unfold quietOff; decide))

end TickEnd

theorem Mach.setLatches_latched (s : Stops) : (m.setLatches s).latched = s := by
  rw [Mach.latched_eq _ (clk := false) (tab := false), Mach.setLatches_roleView, RoleView.latch_latched]

/-! ### BULK (R426) -/

/-- A region of a bulk transfer applied. -/
def Mach.applyRegion (m : Mach) (region : Nat) (s : Mirror) (pt : Nat) : Mach :=
  match region with
  | 0 => m.applyKiln s pt
  | 1 => m.applyAir s pt
  | _ => m.applyRest s pt

/-- A region received is counted, and shown in percent. -/
def Mach.bulkCounted (m : Mach) (region : Nat) : Mach :=
  (({ m with red := { m.red with bulk := region + 1, want := false } } : Mach).w REDUN_STATUS_BULK_PCT (100 * (region + 1) / 3)).syncEval

theorem Mach.bulkCounted_core (k : Nat) : (m.bulkCounted k).red.core = { m.red.core with bulk := k + 1, want := false } :=
  Mach.syncEval_core _

theorem Mach.bulkCounted_pct (k : Nat) (h : k < 3) : (m.bulkCounted k).r REDUN_STATUS_BULK_PCT = 100 * (k + 1) / 3 :=
  (Mach.syncEval_r _ _ 0 (by decide)).trans ((Mach.r_w_same _ _ _ 0 0 (by decide)).trans
    (Nat.mod_eq_of_lt (Nat.lt_of_le_of_lt (show 100 * (k + 1) / 3 ≤ 100 by omega) (by decide))))

theorem Mach.bulkCounted_kiln (k : Nat) : (m.bulkCounted k).kiln = m.kiln := (syncFree_kiln _).syncEval (fun _ he => he) _

theorem Mach.bulkCounted_air (k : Nat) : (m.bulkCounted k).air = m.air := (syncFree_air _).syncEval (fun _ he => he) _

/-! ### ACK (R423, R424, R433) -/

/-- TICK_END frames that a SEQ acknowledges, and those it leaves. -/
def RedSt.endsDone (r : RedSt) (seq : Nat) : List (Nat × Nat) := r.ends.filter (fun e => diff32 seq e.1 ≥ 0)
def RedSt.endsLeft (r : RedSt) (seq : Nat) : List (Nat × Nat) := r.ends.filter (fun e => diff32 seq e.1 < 0)

theorem Mach.endsAcked_none (seq : Nat) (h : m.red.endsDone seq = []) : m.endsAcked seq = m := by
  unfold RedSt.endsDone at h
  unfold Mach.endsAcked
  dsimp only
  rw [h]
  rfl

theorem RedSt.endsLeft_all (r : RedSt) (seq : Nat) (h : r.endsDone seq = []) : r.endsLeft seq = r.ends := by
  refine List.filter_eq_self.mpr fun e he => ?_
  have hno := List.filter_eq_nil_iff.mp h e he
  simpa using hno

theorem Mach.endsAcked_some (seq : Nat) (e : Nat × Nat) (h : (m.red.endsDone seq).getLast? = some e) : m.endsAcked seq =
    ({ m with red := { m.red with ends := m.red.endsLeft seq, ackPt := some e.2 } } : Mach).w REDUN_LAST_PT_ALL e.2 := by
  unfold RedSt.endsDone at h
  unfold Mach.endsAcked
  dsimp only
  rw [h]
  rfl

/-- What a SEQ acknowledged leaves of TICK_END frames. -/
theorem Mach.endsAcked_ends (seq : Nat) : (m.endsAcked seq).red.ends = m.red.endsLeft seq := by
  cases h : (m.red.endsDone seq).getLast? with
  | none =>
    have hnil := List.getLast?_eq_none_iff.mp h
    rw [m.endsAcked_none seq hnil, RedSt.endsLeft_all _ _ hnil]
  | some e =>
    rw [m.endsAcked_some seq e h]
    rfl

theorem Mach.endsAcked_keeps (g : Mach → α) (hr : ∀ (x : Mach) (l : List (Nat × Nat)) (p : Option Nat),
    g { x with red := { x.red with ends := l, ackPt := p } } = g x) (hw : ∀ (x : Mach) (v : Nat), g (x.w REDUN_LAST_PT_ALL v) = g x)
    (seq : Nat) : g (m.endsAcked seq) = g m := by
  unfold Mach.endsAcked
  dsimp only
  split
  · exact (hw _ _).trans (hr m _ _)
  · rfl

/-- The STOPs that a SEQ acknowledges complete. -/
theorem Mach.stopsAcked_keeps (g : Mach → α) (hc : ∀ (x : Mach) (d : Desc) (st : Nat) (res : List Byte), g (x.complete d st res) = g x)
    (seq : Nat) : g (m.stopsAcked seq) =
      g { m with dam := { m.dam with stops := m.dam.stops.filter (fun e => diff32 seq e.2.1 < 0) } } :=
  Mach.each_keeps _ g _ _ fun x _ _ => hc x _ _ _

/-- What an acknowledgement itself says of the mate. -/
def RedSt.acked (r : RedSt) : Option Nat × Nat × List (Nat × Nat) × Option Nat := (r.ackSeq, r.ackAt, r.ends, r.ackPt)

/-- The fields in which planned swaps show. -/
def swapFields : List (Field × Nat) :=
  [REDUN_STATUS_ALIVE_CODE, REDUN_SWAP_STATUS_MIN_LEFT, REDUN_SWAP_STATUS_SUSPENDED].map fun f => (f, 0)

/-- The fields that follow an acknowledgement beside REDUN_LAST_PT. -/
def ackFields : List (Field × Nat) := (REDUN_STATUS_MIRROR, 0) :: (REDUN_STATUS_MATE_OK, 0) :: swapFields

/-- What planned swaps wait for follows. -/
def Mach.swapsFollow (m : Mach) (seq : Nat) (warm : Bool) : Mach :=
  let m := if warm then { m with red := { m.red with periodFrom := some m.now } } else m
  (m.relinquish seq).swapShow

theorem Mach.swapsFollow_keeps {g : Mach → α} (hw : Kept g swapFields)
    (hr : ∀ (x : Mach) (r : RedSt), r.acked = x.red.acked → g { x with red := r } = g x) (seq : Nat) (warm : Bool) :
    g (m.swapsFollow seq warm) = g m := by
  have hf : ∀ f, (f, 0) ∈ swapFields → ∀ (x : Mach) (v : Nat), g (x.w f v) = g x := fun f he => hw (f, 0) he
  have halive : ∀ (x : Mach) (c : Nat), g (x.setAlive c) = g x := fun x c => by
    unfold Mach.setAlive
    split
    · rfl
    · exact (hf REDUN_STATUS_ALIVE_CODE (by decide) _ _).trans (hr x _ rfl)
  unfold Mach.swapsFollow Mach.swapShow Mach.wb
  extract_lets red period off due left
  have hperiod : g period = g m := by
    unfold period
    split
    · exact hr m _ rfl
    · rfl
  have hlast : g (period.relinquish seq) = g period := by
    unfold Mach.relinquish
    split
    · split
      · exact (halive _ 3).trans (hr period _ rfl)
      · rfl
    · rfl
  exact (hf REDUN_SWAP_STATUS_SUSPENDED (by decide) _ _).trans ((hf REDUN_SWAP_STATUS_MIN_LEFT (by decide) _ _).trans
    (hlast.trans hperiod))

/-- The mirror is in step, and what swaps wait for follows. -/
def Mach.ackShown (m : Mach) (seq : Nat) (warm : Bool) : Mach := (m.setMirror 3).swapsFollow seq warm

theorem Mach.ackShown_keeps {g : Mach → α} (hw : Kept g ackFields)
    (hr : ∀ (x : Mach) (r : RedSt), r.acked = x.red.acked → g { x with red := r } = g x) (seq : Nat) (warm : Bool) :
    g (m.ackShown seq warm) = g m :=
  (Mach.swapsFollow_keeps _ (hw.mono (by decide)) hr seq warm).trans
    ((hw (REDUN_STATUS_MATE_OK, 0) (by decide) _ _).trans (hw (REDUN_STATUS_MIRROR, 0) (by decide) m _))

theorem Mach.ackShown_mirror (seq : Nat) (warm : Bool) : (m.ackShown seq warm).mirror = 3 :=
  (Mach.swapsFollow_keeps _ (g := fun x => x.r REDUN_STATUS_MIRROR) (kept_field _ 0 _ (by decide)) (fun _ _ _ => rfl) seq warm).trans
    (m.setMirror_mirror 3 (by decide))

/-- Latches under writes of fields apart from theirs. -/
theorem kept_latched (l : List (Field × Nat)) (hs : l.all (fun e => DAMP_STATUS_SITE_LATCHED.apart 0 e.1 e.2) = true)
    (hlo : l.all (fun e => DAMP_ZONE_LO_ALL.apart 0 e.1 e.2) = true) (hhi : l.all (fun e => DAMP_ZONE_HI_ALL.apart 0 e.1 e.2) = true) :
    Kept Mach.latched l := fun e he x v =>
  Mach.latched_congr (kept_field _ 0 l hs e he x v) (kept_field _ 0 l hlo e he x v) (kept_field _ 0 l hhi e he x v) rfl

end Sys2Proof.Machine
end

section
/-! PROOFS. What a unit does with each kind of mate frame (O49; 13, R216, R417 to R426). -/

namespace Sys2Proof.Machine

open Sys2Proof

variable (m : Mach)

/-! ### HELLO sent (R417, R418) -/

/-- The nonce of the next HELLO. -/
def Mach.helloNonce (m : Mach) : Nat := Config.freeValue m.freeCtr % 2 ^ 32

/-- The content of the next HELLO. -/
def Mach.helloBody (m : Mach) : MateBody :=
  let serial := m.r ID_SERIAL_LO_ALL + 2 ^ 32 * m.r ID_SERIAL_HI_ALL
  .hello serial (m.r ID_PROFILE_ALL) (m.r REDUN_VER_OWN_MIN) (m.r REDUN_VER_OWN_MAX) m.helloNonce
    (m.nv.set.pairKey.map (helloMic serial (m.r ID_PROFILE_ALL) (m.r REDUN_VER_OWN_MIN) (m.r REDUN_VER_OWN_MAX) m.helloNonce))

/-- The next HELLO. -/
def Mach.helloFrame (m : Mach) : MateFrame := { m.mateFrame false m.helloBody with version := m.r REDUN_VER_OWN_MAX }

/-- A HELLO put out; the sequence numbers begin again. -/
def Mach.helloPut (m : Mach) : Mach :=
  let y := ({ m with freeCtr := m.freeCtr + 1 } : Mach).mateOut m.helloFrame
  { y with red := { m.red with seqOut := 0, kept := [], ends := [], helloSent := true, helloAt := some m.now } }

theorem mateHelloSend_due (hon : m.mateOn = true) (hr : m.ready = true) (hrec : m.recovery = false) (hmir : m.mirror = 0)
    (hlost : m.red.lost = false) (h : m.red.helloAt = none) : mateHelloSend m = m.helloPut := by
  have hpair : ¬ (m.mirror == 1 || m.red.lost) = true := by simp [hmir, hlost]
  unfold mateHelloSend
  rw [if_pos (by simp [hon, hr, hrec, hmir, h])]
  exact if_neg hpair

theorem mateHelloSend_early (u : Nat) (h : m.red.helloAt = some u) (hu : m.now < u + 10) : mateHelloSend m = m :=
  if_neg (by simp [h, hu])

/-- The stamps of an exchange kept with its answer. -/
def stampKept (t1 t2 : Nat) (a : Nat × Mach) : Mach := { a.2 with red := { a.2.red with stamps := some (t1, t2, a.1) } }

theorem stampKept_eq (t1 t2 : Nat) (a : Nat × Mach) : (match a with
    | (t3, m) => { m with red := { m.red with stamps := some (t1, t2, t3) } }) = stampKept t1 t2 a := rfl

theorem stampKept_kiln (t1 t2 : Nat) (a : Nat × Mach) : (stampKept t1 t2 a).kiln = a.2.kiln := rfl
theorem stampKept_regs (t1 t2 : Nat) (a : Nat × Mach) : (stampKept t1 t2 a).regs = a.2.regs := rfl
theorem stampKept_red (t1 t2 : Nat) (a : Nat × Mach) :
    (stampKept t1 t2 a).red = { a.2.red with stamps := some (t1, t2, a.1) } := rfl

/-- A TICK_END frame taken and answered. -/
def Mach.tickEndAnswered (m : Mach) (x : MateRx) (digest : Nat) (items : List Nat) (t4 : Option Nat) (t1 : Nat) : Mach :=
  stampKept t1 x.sfd ((m.tickEndTaken x.f digest items t4).mateAck x.f.pt x.sfd)

/-! ### TICK, TICK_END, LATCH and BULK at a standby (R216, R421, R422, R426) -/

/-- A standby that takes the frame its mate sends next. -/
structure Mach.Follows (m : Mach) (x : MateRx) : Prop where
  notActive : m.isActive = false
  standby : m.isStandby = true
  notSafe : m.isSafe = false
  on : m.mateOn = true
  ready : m.ready = true
  crc : x.crcOk = true
  next : diff32 x.f.seq m.red.seqIn = 0

section Standby

variable {m} {x : MateRx} (h : m.Follows x)
include h

theorem Mach.Follows.taken (f : MateFrame → Mach → Mach) (hmir : m.mirror = 2 ∨ m.mirror = 3) :
    m.fromActive x f = f x.f (m.inStep x.f.seq) :=
  m.fromActive_standby x f h.notActive h.standby h.notSafe h.on h.ready h.crc h.next hmir

theorem Mach.Follows.tick {s : Mirror} (hb : x.f.body = .tick s) (hmir : m.mirror = 3) :
    mateTickReceived x m = (m.inStep x.f.seq).applyMirror s x.f.pt := by
  unfold mateTickReceived
  rw [hb]
  exact h.taken _ (.inr hmir)


theorem Mach.Follows.tickEnd {n digest : Nat} {items : List Nat} {t4 : Option Nat} {t1 : Nat}
    (hb : x.f.body = .tickEnd n digest items t4 t1) (hmir : m.mirror = 3) :
    mateTickEndReceived x m = (m.inStep x.f.seq).tickEndAnswered x digest items t4 t1 := by
  unfold mateTickEndReceived
  rw [hb]
  refine (h.taken _ (.inr hmir)).trans ?_
  unfold Mach.tickEndAnswered Mach.tickEndTaken Mach.ptTaken
  rw [← stampKept_eq]

/-- The latches of a LATCH frame added, and the frame answered. -/
def Mach.latchAnswered (m : Mach) (x : MateRx) (l : Stops) : Mach :=
  let y := m.setLatches (m.latched.join l)
  (y.mateAck x.f.pt ((y.red.stamps.map (fun t => t.2.1)).getD 0)).2

theorem Mach.Follows.latch {l : Stops} (hb : x.f.body = .latch l) (hmir : m.mirror = 3) :
    mateLatchReceived x m = (m.inStep x.f.seq).latchAnswered x l := by
  unfold mateLatchReceived
  rw [hb]
  exact h.taken _ (.inr hmir)

theorem Mach.Follows.bulk {k : Nat} {last : Bool} {s : Mirror} (hb : x.f.body = .bulk k last s) (hmir : m.mirror = 2)
    (hk : k = m.red.bulk) : mateBulkReceived x m = ((m.inStep x.f.seq).applyRegion k s x.f.pt).bulkCounted k := by
  have hstep : (m.inStep x.f.seq).mirror = 2 := hmir
  have hbulk : (m.inStep x.f.seq).red.bulk = k := hk.symm
  unfold mateBulkReceived
  rw [hb]
  refine (h.taken _ (.inl hmir)).trans ?_
  have hgo : ¬ (k == 0 && (m.inStep x.f.seq).mirror != 2) = true := by simp [hstep]
  have hcome : ¬ (k != 0 && k != (m.inStep x.f.seq).red.bulk) = true := by simp [hbulk]
  dsimp only
  rw [if_neg hgo, if_neg hcome]
  rfl

end Standby

section Answers

variable (x : MateRx) (digest : Nat) (items : List Nat) (t4 : Option Nat) (t1 : Nat) (l : Stops)

/-- What a standby's answer to a TICK_END leaves of it. -/
theorem Mach.tickEndAnswered_red (h : m.mateOn = true) : let r := (m.tickEndAnswered x digest items t4 t1).red
    r.finalIn = x.f.final ∧ r.seqIn = m.red.seqIn ∧ r.seqOut = (m.red.seqOut + 1) % 2 ^ 32 := by
  have hcore := m.tickEndTaken_core x.f digest items t4
  have hon := (m.tickEndTaken_mateOn x.f digest items t4).trans h
  unfold Mach.tickEndAnswered
  generalize m.tickEndTaken x.f digest items t4 = y at hcore hon
  obtain ⟨kept, hred⟩ := y.mateAck_red x.f.pt x.sfd hon
  rw [stampKept_red]
  have hfinal : y.red.finalIn = x.f.final := (congrArg RedSt.finalIn hcore :)
  have hin : y.red.seqIn = m.red.seqIn := (congrArg RedSt.seqIn hcore :)
  have hout : y.red.seqOut = m.red.seqOut := (congrArg RedSt.seqOut hcore :)
  dsimp only
  rw [hred]
  exact ⟨hfinal, hin, by rw [← hout]⟩

theorem Mach.tickEndAnswered_kiln : (m.tickEndAnswered x digest items t4 t1).kiln = m.kiln := by
  rw [Mach.tickEndAnswered, stampKept_kiln,
    Mach.mateAck_keeps _ Mach.kiln (fun _ _ => rfl) (fun y b => y.mateSend_kiln false b), Mach.tickEndTaken_kiln]

theorem Mach.tickEndAnswered_pt : (m.tickEndAnswered x digest items t4 t1).r REDUN_LAST_PT_ALL = x.f.pt % 2 ^ 32 := by
  rw [Mach.tickEndAnswered, Mach.r_of_regs (stampKept_regs _ _ _),
    Mach.mateAck_keeps _ (fun y => y.r REDUN_LAST_PT_ALL) (fun _ _ => rfl) (fun y b => Mach.r_of_regs (y.mateSend_regs false b) _ _ _),
    Mach.tickEndTaken_pt]

theorem Mach.latchAnswered_keeps {α : Type} (g : Mach → α) (hfree : ∀ (x : Mach) (n : Nat), g { x with freeCtr := n } = g x)
    (hsend : ∀ (x : Mach) (b : MateBody), g (x.mateSend false b) = g x) :
    g (m.latchAnswered x l) = g (m.setLatches (m.latched.join l)) := Mach.mateAck_keeps _ g hfree hsend _ _

theorem Mach.latchAnswered_latched : (m.latchAnswered x l).latched = m.latched.join l :=
  (m.latchAnswered_keeps x l Mach.latched (fun _ _ => rfl) fun y b => Mach.latched_of_view (y.mateSend_roleView false b)).trans
    (m.setLatches_latched _)

theorem Mach.setLatches_red (s : Stops) : (m.setLatches s).red = m.red := Mach.each_keeps _ Mach.red _ _ fun _ _ _ => rfl

theorem Mach.setLatches_hostMem (s : Stops) : (m.setLatches s).hostMem = m.hostMem :=
  Mach.each_keeps _ Mach.hostMem _ _ fun _ _ _ => rfl

theorem latchFields_r (f : Field) (k : Nat) (h : latchFields.all (fun e => f.apart k e.1 e.2) = true) (hq : quietOff (f.off k 0))
    (y : Mach) (s : Stops) : (y.setLatches s).r f k = y.r f k := (stopFree_field f k _ h hq).setLatches (fun _ he => he) y s

theorem Mach.setLatches_mateOn (s : Stops) : (m.setLatches s).mateOn = m.mateOn :=
  Mach.mateOn_congr (latchFields_r _ 0 (by decide) (by unfold quietOff; decide) m s)
    (latchFields_r _ 24 (by decide) (by unfold quietOff; decide) m s)

theorem Mach.latchAnswered_red (h : m.mateOn = true) : let r := (m.latchAnswered x l).red
    r.seqIn = m.red.seqIn ∧ r.seqOut = (m.red.seqOut + 1) % 2 ^ 32 := by
  have hon := (m.setLatches_mateOn (m.latched.join l)).trans h
  have hred := m.setLatches_red (m.latched.join l)
  unfold Mach.latchAnswered
  generalize m.setLatches (m.latched.join l) = y at hon hred
  obtain ⟨kept, hack⟩ := y.mateAck_red x.f.pt ((y.red.stamps.map (fun t => t.2.1)).getD 0) hon
  dsimp only
  rw [hack, hred]
  exact ⟨rfl, rfl⟩

end Answers

/-! ### ACK at an active unit (R423, R424) -/

/-- An acknowledgement heard, its SEQ and the state of the standby noted. -/
def Mach.ackNoted (m : Mach) (x : MateRx) (seq : Nat) : Mach :=
  let y := m.setSrc 9 false
  { y with red := { m.red with
      lastRx := some m.now, seqIn := (x.f.seq + 1) % 2 ^ 32, gapAt := none, ackSeq := some seq, ackAt := m.now, ackRx := some x.sfd,
      mateWarm := x.f.warm } }

/-- What an acknowledgement covers is done. -/
def Mach.ackDone (m : Mach) (x : MateRx) (seq : Nat) : Mach := ((m.ackNoted x seq).endsAcked seq).stopsAcked seq

section Ack

variable {x : MateRx} (seq : Nat)

theorem Mach.setSrc_role (src : Nat) (on : Bool) : (m.setSrc src on).r REDUN_STATUS_ROLE_STATE = m.r REDUN_STATUS_ROLE_STATE :=
  m.wBit_apart DAMP_SRC_SRC _ src 0 on (by decide)

theorem Mach.setSrc_mirror (src : Nat) (on : Bool) : (m.setSrc src on).mirror = m.mirror :=
  m.wBit_apart DAMP_SRC_SRC REDUN_STATUS_MIRROR src 0 on (by decide)

theorem Mach.ackDone_keeps {α : Type} (g : Mach → α) (hr : ∀ (x : Mach) (r : RedSt), g { x with red := r } = g x)
    (hw : ∀ (x : Mach) (v : Nat), g (x.w REDUN_LAST_PT_ALL v) = g x)
    (hc : ∀ (x : Mach) (d : Desc) (st : Nat) (res : List Byte), g (x.complete d st res) = g x)
    (hd : ∀ (x : Mach) (l : List (Desc × Nat × Bool)), g { x with dam := { x.dam with stops := l } } = g x)
    (hsrc : g (m.setSrc 9 false) = g m) : g (m.ackDone x seq) = g m := by
  refine (Mach.stopsAcked_keeps _ g hc seq).trans ((hd _ _).trans ?_)
  exact (Mach.endsAcked_keeps _ g (fun _ _ _ => hr _ _) hw seq).trans ((hr _ _).trans hsrc)

theorem Mach.ackDone_mirror : (m.ackDone x seq).mirror = m.mirror :=
  m.ackDone_keeps seq Mach.mirror (fun _ _ => rfl) (fun y v => y.r_w_apart _ _ v 0 0 (by decide))
    (fun y d st res => y.r_complete d st res _ 0 0 (by unfold quietOff; decide)) (fun _ _ => rfl) (m.setSrc_mirror 9 false)

theorem Mach.ackDone_kiln : (m.ackDone x seq).kiln = m.kiln :=
  m.ackDone_keeps seq Mach.kiln (fun _ _ => rfl) (fun _ _ => rfl) (fun y d st res => y.complete_kiln d st res) (fun _ _ => rfl) rfl

theorem Mach.ackDone_latched : (m.ackDone x seq).latched = m.latched :=
  m.ackDone_keeps seq Mach.latched (fun _ _ => rfl) (fun y v => Mach.latched_of_view (y.w_outside _ v 0 0 (by decide)))
    (fun y d st res => y.complete_latched d st res) (fun _ _ => rfl) (m.setSrc_latched 9 false)

theorem Mach.ackDone_red : (m.ackDone x seq).red = ((m.ackNoted x seq).endsAcked seq).red :=
  Mach.stopsAcked_keeps _ Mach.red (by simp) seq

theorem Mach.ackDone_stops : (m.ackDone x seq).dam.stops = m.dam.stops.filter (fun e => diff32 seq e.2.1 < 0) := by
  have hends : ((m.ackNoted x seq).endsAcked seq).dam = m.dam :=
    (Mach.endsAcked_keeps _ Mach.dam (fun _ _ _ => rfl) (fun _ _ => rfl) seq).trans rfl
  rw [Mach.ackDone, Mach.stopsAcked_keeps _ Mach.dam (by simp) seq, hends]

theorem Mach.ackDone_pt : (m.ackDone x seq).r REDUN_LAST_PT_ALL = ((m.ackNoted x seq).endsAcked seq).r REDUN_LAST_PT_ALL :=
  Mach.stopsAcked_keeps _ (fun y => y.r REDUN_LAST_PT_ALL) (fun y d st res => y.r_complete d st res _ 0 0 (by unfold quietOff; decide)) seq

theorem Mach.ackNoted_pt : (m.ackNoted x seq).r REDUN_LAST_PT_ALL = m.r REDUN_LAST_PT_ALL :=
  m.wBit_apart DAMP_SRC_SRC REDUN_LAST_PT_ALL 9 0 false (by decide)

/-- Without a transfer asked for or under way the mirror is in step. -/
theorem Mach.ackStage (health : Nat) (warm : Bool) (hh : health / 2 % 2 = 0) (h : m.mirror ≠ 2) :
    (let n := if health / 2 % 2 == 1 then m.bulkStart false
        else if m.mirror == 2 then
          (if m.red.bulkSeq.any (fun b => diff32 seq b ≥ 0) then (m.setMirror 3).w REDUN_STATUS_BULK_PCT 100 else m)
        else m.setMirror 3
      let n := if warm then { n with red := { n.red with periodFrom := some n.now } } else n
      (n.relinquish seq).swapShow) = m.ackShown seq warm := by
  have hstage : (if health / 2 % 2 == 1 then m.bulkStart false
      else if m.mirror == 2 then
        (if m.red.bulkSeq.any (fun b => diff32 seq b ≥ 0) then (m.setMirror 3).w REDUN_STATUS_BULK_PCT 100 else m)
      else m.setMirror 3) = m.setMirror 3 := (if_neg (by simp [hh])).trans (if_neg (by simpa using h))
  rw [hstage]
  rfl

/-- An acknowledgement as an active unit in step, holding or stale takes it. -/
theorem mateAckReceived_taken {pt rx health st : Nat} (hb : x.f.body = .ack seq pt rx health st) (hact : m.isActive = true)
    (hon : m.mateOn = true) (hr : m.ready = true) (hcrc : x.crcOk = true) (hfwd : x.f.forward = false)
    (hahead : 0 ≤ diff32 x.f.seq m.red.seqIn) (hhealth : health / 2 % 2 = 0) (hmir : m.mirror = 3 ∨ m.mirror = 4 ∨ m.mirror = 5) :
    mateAckReceived x m = (m.ackDone x seq).ackShown seq (x.f.warm && !m.red.mateWarm) := by
  have hheard : m.heardNow.takeForward x.f.forward = m.heardNow.setSrc 9 false := by
    rw [hfwd]
    exact Mach.takeForward_clear _ hact
  have hactive : (m.heardNow.setSrc 9 false).isActive = true := (Mach.isActive_congr (Mach.setSrc_role _ 9 false)).trans hact
  have hmirror : (m.heardNow.setSrc 9 false).mirror = m.mirror := Mach.setSrc_mirror _ 9 false
  have hdone : (m.ackDone x seq).mirror = m.mirror := m.ackDone_mirror seq
  have hgo : ¬ (decide ((m.heardNow.setSrc 9 false).mirror < 2) || (m.heardNow.setSrc 9 false).mirror == 6 ||
      decide (diff32 x.f.seq (m.heardNow.setSrc 9 false).red.seqIn < 0)) = true := by
    rw [hmirror, show (m.heardNow.setSrc 9 false).red.seqIn = m.red.seqIn from rfl]
    obtain h | h | h := hmir <;> simp [h, hahead]
  unfold mateAckReceived
  rw [hb]
  refine (m.mateHeard_good x _ hon hr hcrc).trans ?_
  rw [hheard, if_neg (by simp [hactive])]
  refine (if_neg hgo).trans ((if_pos (by simp [hactive])).trans ?_)
  exact (m.ackDone x seq).ackStage seq health _ hhealth (by rw [hdone]; omega)

/-- What an acknowledgement says of its mate. -/
theorem Mach.ackShown_acked (warm : Bool) : ((m.ackDone x seq).ackShown seq warm).red.acked =
    ((m.ackNoted x seq).endsAcked seq).red.acked := by
  rw [← Mach.ackDone_red]
  exact Mach.ackShown_keeps _ (g := fun y => y.red.acked) (kept_of_eq _ fun _ _ _ _ => rfl) (fun _ _ h => h) seq warm

theorem Mach.endsAcked_seq (y : Mach) : (y.endsAcked seq).red.ackSeq = y.red.ackSeq :=
  Mach.endsAcked_keeps _ (fun z => z.red.ackSeq) (fun _ _ _ => rfl) (fun _ _ => rfl) seq

theorem Mach.endsAcked_at (y : Mach) : (y.endsAcked seq).red.ackAt = y.red.ackAt :=
  Mach.endsAcked_keeps _ (fun z => z.red.ackAt) (fun _ _ _ => rfl) (fun _ _ => rfl) seq

/-- The acknowledgement kept: its SEQ and tick, and the TICK_END frames still to be acknowledged. -/
theorem Mach.ackShown_red (warm : Bool) : let t := (m.ackDone x seq).ackShown seq warm
    t.red.ackSeq = some seq ∧ t.red.ackAt = m.now ∧ t.red.ends = m.red.endsLeft seq ∧
      (∀ e, (m.red.endsDone seq).getLast? = some e → t.red.ackPt = some e.2) := by
  have hacked := m.ackShown_acked (x := x) seq warm
  have hends := (m.ackNoted x seq).endsAcked_ends seq
  have hseq := Mach.endsAcked_seq seq (m.ackNoted x seq)
  have hat := Mach.endsAcked_at seq (m.ackNoted x seq)
  simp only [RedSt.acked, Prod.mk.injEq] at hacked
  obtain ⟨h1, h2, h3, h4⟩ := hacked
  refine ⟨h1.trans hseq, h2.trans hat, h3.trans hends, fun e he => h4.trans ?_⟩
  rw [(m.ackNoted x seq).endsAcked_some seq e he]
  rfl

theorem Mach.ackShown_pt (warm : Bool) : let t := (m.ackDone x seq).ackShown seq warm
    (m.red.endsDone seq = [] → t.r REDUN_LAST_PT_ALL = m.r REDUN_LAST_PT_ALL) ∧
      (∀ e, (m.red.endsDone seq).getLast? = some e → t.r REDUN_LAST_PT_ALL = e.2 % 2 ^ 32) := by
  have hshown : ((m.ackDone x seq).ackShown seq warm).r REDUN_LAST_PT_ALL = ((m.ackNoted x seq).endsAcked seq).r REDUN_LAST_PT_ALL :=
    (Mach.ackShown_keeps _ (g := fun y => y.r REDUN_LAST_PT_ALL) (kept_field _ 0 _ (by decide)) (fun _ _ _ => rfl) seq warm).trans
      (m.ackDone_pt seq)
  refine ⟨fun h => hshown.trans ?_, fun e he => hshown.trans ?_⟩
  · rw [(m.ackNoted x seq).endsAcked_none seq h, Mach.ackNoted_pt]
  · rw [(m.ackNoted x seq).endsAcked_some seq e he]
    exact Mach.r_w_same _ _ _ 0 0 (by decide)

/-- STOPs, latches and Kiln after an acknowledgement. -/
theorem Mach.ackShown_rest (warm : Bool) : let t := (m.ackDone x seq).ackShown seq warm
    t.dam.stops = m.dam.stops.filter (fun e => diff32 seq e.2.1 < 0) ∧ t.latched = m.latched ∧ t.kiln = m.kiln :=
  ⟨(congrArg DamSt.stops (Mach.ackShown_keeps _ (g := Mach.dam) (kept_of_eq _ fun _ _ _ _ => rfl) (fun _ _ _ => rfl) seq warm)).trans
      (m.ackDone_stops seq),
    (Mach.ackShown_keeps _ (kept_latched _ (by decide) (by decide) (by decide)) (fun _ _ _ => rfl) seq warm).trans (m.ackDone_latched seq),
    (Mach.ackShown_keeps _ (g := Mach.kiln) (kept_of_eq _ fun _ _ _ _ => rfl) (fun _ _ _ => rfl) seq warm).trans (m.ackDone_kiln seq)⟩

end Ack

/-! ### Frames sent again (R419) -/

theorem Mach.eachOut_out (l : List MateFrame) : (m.each l Mach.mateOut).out = m.out ++ l.map (fun f => Emission.mate f f.ethernet) := by
  induction l generalizing m with
  | nil => exact (List.append_nil _).symm
  | cons f l ih =>
    refine (ih (m.mateOut f)).trans ?_
    rw [show (m.mateOut f).out = m.out ++ [Emission.mate f f.ethernet] from rfl, List.append_assoc]
    rfl

/-- The kept frames from a SEQ on. -/
def RedSt.keptFrom (r : RedSt) (seq : Nat) : List MateFrame := r.kept.filter (fun f => diff32 f.seq seq ≥ 0)

/-- The kept frames from a SEQ on put out again. -/
def Mach.resent (m : Mach) (seq : Nat) : Mach :=
  ((m.heardNow.setSrc 9 false).each (m.red.keptFrom seq) Mach.mateOut).incBy REDUN_RETX_ALL (m.red.keptFrom seq).length

theorem mateRetxReqReceived_taken {x : MateRx} {seq : Nat} (hb : x.f.body = .retx seq) (hon : m.mateOn = true) (hr : m.ready = true)
    (hcrc : x.crcOk = true) (hfwd : x.f.forward = false) (hact : m.isActive = true)
    (hkept : m.red.kept.any (fun f => f.seq == seq) = true) : mateRetxReqReceived x m = m.resent seq := by
  have hheard : m.heardNow.takeForward x.f.forward = m.heardNow.setSrc 9 false := by
    rw [hfwd]
    exact Mach.takeForward_clear _ hact
  have hactive : (m.heardNow.setSrc 9 false).isActive = true := (Mach.isActive_congr (Mach.setSrc_role _ 9 false)).trans hact
  have hall : (m.heardNow.setSrc 9 false).red.kept.all (fun f => f.seq != seq) = false := by
    obtain ⟨f, hf, he⟩ := List.any_eq_true.mp hkept
    exact List.all_eq_false.mpr ⟨f, hf, by simpa using he⟩
  unfold mateRetxReqReceived
  refine (m.mateHeard_good x _ hon hr hcrc).trans ?_
  rw [hheard, hb]
  exact if_neg (by rw [hactive, hall]; decide)

theorem Mach.resent_keeps {α : Type} (g : Mach → α) (hw : ∀ (x : Mach) (f : Field) (v : Nat), g (x.w f v) = g x)
    (ho : ∀ (x : Mach) (f : MateFrame), g (x.mateOut f) = g x) (seq : Nat) : g (m.resent seq) = g m.heardNow :=
  (hw _ _ _).trans ((Mach.each_keeps _ g _ _ fun x f _ => ho x f).trans (hw _ _ _))

/-! ### What a frame in step leaves, and what an accepted HELLO begins -/

theorem Mach.inStep_tickShift (seq : Nat) (s : Mirror) (pt : Nat) : (m.inStep seq).tickShift s pt = m.tickShift s pt :=
  Mach.tickShift_congr s pt rfl rfl rfl

theorem Mach.inStep_ownStops (seq : Nat) : (m.inStep seq).ownStops = m.ownStops := Mach.ownStops_congr rfl rfl

/-- The exchange of HELLOs as an accepted one leaves it (R418). -/
theorem Mach.helloTaken_shows (x : MateRx) (serial prof lo hi : Nat) : let t := (m.helloTaken x serial prof lo hi).matePair
    t.red.lastRx = some m.now ∧ t.kiln = m.kiln ∧ t.red.mate = some (serial, prof, lo, hi) ∧ t.red.seqIn = 0 ∧
      (m.red.helloSent = false → t.mirror = 1) ∧
      (m.red.helloSent = true → prof ≠ m.r ID_PROFILE_ALL → t.mirror = 6) ∧
      (m.red.helloSent = true → prof = m.r ID_PROFILE_ALL → m.r REDUN_VER_OWN_MIN ≤ hi → lo ≤ m.r REDUN_VER_OWN_MAX →
        t.mirror = 2 ∧ t.r REDUN_VER_IN_USE = min hi (m.r REDUN_VER_OWN_MAX) ∧ t.red.want = m.isStandby) := by
  have hmate := m.helloTaken_mate x serial prof lo hi
  have hsent := m.helloTaken_sent x serial prof lo hi
  have hmirror := m.helloTaken_mirror x serial prof lo hi
  have hprof := m.helloTaken_r x serial prof lo hi ID_PROFILE_ALL (by decide) (by decide) (by unfold quietOff; decide)
  have hmin := m.helloTaken_r x serial prof lo hi REDUN_VER_OWN_MIN (by decide) (by decide) (by unfold quietOff; decide)
  have hmax := m.helloTaken_r x serial prof lo hi REDUN_VER_OWN_MAX (by decide) (by decide) (by unfold quietOff; decide)
  have hrole := Mach.isStandby_congr
    (m.helloTaken_r x serial prof lo hi REDUN_STATUS_ROLE_STATE (by decide) (by decide) (by unfold quietOff; decide))
  have hknown := (pairFree_known.matePair (m.helloTaken x serial prof lo hi)).trans (m.helloTaken_known x serial prof lo hi)
  have hkiln := (pairFree_kiln.matePair (m.helloTaken x serial prof lo hi)).trans (m.helloTaken_kiln x serial prof lo hi)
  generalize m.helloTaken x serial prof lo hi = y at *
  simp only [RedSt.known, Prod.mk.injEq] at hknown
  obtain ⟨hlast, hheard, hin⟩ := hknown
  refine ⟨hlast, hkiln, hheard, hin, fun h => ?_, fun h hp => ?_, fun h hp hlo hhi => ?_⟩
  · rw [y.matePair_wait hmate (hsent.trans h)]
    exact hmirror
  · exact y.matePair_apart hmate (hsent.trans h) (by rwa [hprof])
  · have hagree := y.matePair_agree hmate (hsent.trans h) (by rwa [hprof]) (by rwa [hmin]) (by rwa [hmax])
    rwa [hmax, hrole] at hagree

end Sys2Proof.Machine
end

section
/-! PROOFS. O49 is settled. -/

namespace Sys2Proof.Machine

open Sys2Proof

/-- Settles O49: a standby in step applies one frame; the mirrored regions are equations of a view of what they hold, and answers and
evaluations leave that view. -/
theorem mateFramesAreAppliedAndAnswered : Obligations.MateFramesAreAppliedAndAnswered := by
  unfold Obligations.MateFramesAreAppliedAndAnswered
  refine ⟨fun s hon hr hrec hmir hlost => ?send, fun x s serial prof lo hi nonce mic hon hr hrec hb => ?hello,
    fun x s hact hst hsafe hon hr hcrc hseq hwant => ?standby, fun x s seq pt rx health st hb hact hon hr => ?ack,
    fun x s seq hb hon hr hcrc hfwd hact hkept => ?retx, fun x s hact hon hr => ?heard⟩
  case send =>
    refine ⟨fun h => ⟨s.m.helloPut, s.m.helloFrame, _, _, _, s.m.helloNonce,
      s.on_eq mateHelloSend _ (mateHelloSend_due s.m hon hr hrec hmir hlost h), rfl, rfl, rfl, rfl, rfl, rfl, rfl, rfl, rfl, rfl⟩,
      fun u h hu => s.on_same mateHelloSend (mateHelloSend_early s.m u h hu)⟩
  case hello =>
    intro own
    refine ⟨fun hcrc => s.on_eq (mateHello x) _ ?_, fun hcrc hbad => s.on_eq (mateHello x) _ ?_, fun hcrc hsome hmic hmir hlost => ?_⟩
    · exact (if_neg (by simp [hon, hr, hrec])).trans (if_pos (by simp [hcrc]))
    · unfold mateHello
      rw [if_neg (by simp [hon, hr, hrec]), if_neg (by simp [hcrc]), hb]
      refine if_pos ?_
      obtain h | h := hbad
      · simp [h]
      · simp [show mic ≠ s.m.nv.set.pairKey.map (helloMic serial prof lo hi nonce) from h]
    · exact ⟨_, s.on_eq (mateHello x) _ (mateHello_taken s.m x hon hr hrec hb hcrc hsome hmic hmir),
        s.m.helloTaken_shows x serial prof lo hi⟩
  case standby =>
    have hf : s.m.Follows x := ⟨hact, hst, hsafe, hon, hr, hcrc, hseq⟩
    refine ⟨fun mr hb hmir => ?tick, fun n dig items rx st hb hmir => ?tickEnd, fun l hb hmir => ?latch,
      fun k last mr hb hmir hk hlt => ?bulk⟩
    case tick =>
      have hg := (s.m.inStep x.f.seq).applyMirror_gist mr x.f.pt hmir
      refine ⟨(s.m.inStep x.f.seq).applyMirror mr x.f.pt, s.on_eq (mateTickReceived x) _ (hf.tick hb hmir), ?_⟩
      rw [s.m.inStep_tickShift, s.m.inStep_ownStops] at hg
      exact ⟨congrArg Gist.store hg, congrArg Gist.map hg, congrArg Gist.tab hg, congrArg Gist.creds hg,
        congrArg (fun g => g.dam.arm) hg, congrArg (fun g => g.dam.agents) hg, congrArg (fun g => g.red.seqIn) hg,
        congrArg Gist.rings hg⟩
    case tickEnd =>
      obtain ⟨hfinal, hin, hout⟩ := (s.m.inStep x.f.seq).tickEndAnswered_red x dig items rx st hon
      exact ⟨_, s.on_eq (mateTickEndReceived x) _ (hf.tickEnd hb hmir), Mach.tickEndAnswered_pt _ x dig items rx st, hfinal, hin, hout,
        Mach.tickEndAnswered_kiln _ x dig items rx st⟩
    case latch =>
      obtain ⟨hin, hout⟩ := (s.m.inStep x.f.seq).latchAnswered_red x l hon
      exact ⟨_, s.on_eq (mateLatchReceived x) _ (hf.latch hb hmir), Mach.latchAnswered_latched _ x l, hin, hout,
        (Mach.latchAnswered_keeps _ x l Mach.kiln (fun _ _ => rfl) fun y b => y.mateSend_kiln false b).trans (Mach.setLatches_kiln _ _),
        (Mach.latchAnswered_keeps _ x l Mach.hostMem (fun _ _ => rfl) fun y b => y.mateSend_hostMem false b).trans
          (Mach.setLatches_hostMem _ _)⟩
    case bulk =>
      have hcore := ((s.m.inStep x.f.seq).applyRegion k mr x.f.pt).bulkCounted_core k
      refine ⟨_, s.on_eq (mateBulkReceived x) _ (hf.bulk hb hmir hk), (congrArg RedSt.bulk hcore :), (congrArg RedSt.want hcore :),
        Mach.bulkCounted_pct _ k hlt, fun h0 => ?_, fun h1 => ?_⟩
      · subst h0
        have hview := congrArg Prod.fst ((s.m.inStep x.f.seq).applyKiln_view mr x.f.pt)
        rw [s.m.inStep_tickShift] at hview
        exact (congrArg KilnSt.store (Mach.bulkCounted_kiln _ 0)).trans (congrArg Gist.store hview)
      · subst h1
        have hview := congrArg Prod.fst ((s.m.inStep x.f.seq).applyAir_view mr x.f.pt)
        rw [s.m.inStep_tickShift] at hview
        exact (congrArg AirSt.tab (Mach.bulkCounted_air _ 1)).trans (congrArg Gist.tab hview)
  case ack =>
    refine ⟨fun hcrc => s.on_eq (mateAckReceived x) _ ?_, fun hcrc hfwd hahead hhealth hmir =>
      ⟨_, s.on_eq (mateAckReceived x) _ (mateAckReceived_taken s.m seq hb hact hon hr hcrc hfwd hahead hhealth hmir), ?_⟩⟩
    · unfold mateAckReceived
      rw [hb]
      exact s.m.mateHeard_bad x _ hon hr hcrc
    · obtain ⟨hseq, hat, hends, hlast⟩ := s.m.ackShown_red (x := x) seq (x.f.warm && !s.m.red.mateWarm)
      obtain ⟨hsame, hpt⟩ := s.m.ackShown_pt (x := x) seq (x.f.warm && !s.m.red.mateWarm)
      obtain ⟨hstops, hlatched, hkiln⟩ := s.m.ackShown_rest (x := x) seq (x.f.warm && !s.m.red.mateWarm)
      exact ⟨Mach.ackShown_mirror _ seq _, hseq, hat, hends, hsame, fun e he => ⟨hpt e he, hlast e he⟩, hstops, hlatched, hkiln⟩
  case retx =>
    refine ⟨s.m.resent seq, s.on_eq (mateRetxReqReceived x) _ (mateRetxReqReceived_taken s.m hb hon hr hcrc hfwd hact hkept),
      Mach.eachOut_out _ _, s.m.resent_keeps Mach.red (fun _ _ _ => rfl) (fun _ _ => rfl) seq,
      s.m.resent_keeps Mach.kiln (fun _ _ _ => rfl) (fun _ _ => rfl) seq⟩
  case heard =>
    intro heard
    refine ⟨fun mr hb => ⟨fun hcrc => s.on_eq (mateTickReceived x) _ ?_, fun hcrc => s.on_eq (mateTickReceived x) _ ?_⟩,
      fun l hb => ⟨fun hcrc => s.on_eq (mateLatchReceived x) _ ?_, fun hcrc => s.on_eq (mateLatchReceived x) _ ?_⟩⟩
    · unfold mateTickReceived
      rw [hb]
      exact s.m.fromActive_active x _ hact hon hr hcrc
    · unfold mateTickReceived
      rw [hb]
      exact s.m.mateHeard_bad x _ hon hr hcrc
    · unfold mateLatchReceived
      rw [hb]
      exact s.m.fromActive_active x _ hact hon hr hcrc
    · unfold mateLatchReceived
      rw [hb]
      exact s.m.mateHeard_bad x _ hon hr hcrc

end Sys2Proof.Machine
end

section
/-! PROOFS. Frames received, and uplink frames taken or dropped (O39; 07, R238, R242, R248; 09, R302). -/

namespace Sys2Proof.Machine

open Sys2Proof

variable (m : Mach)

/-! ### Reception (R238, R248) -/

/-- Both copies arrive while no lane transmits: the better one is kept. -/
theorem Mach.keptCopy_listening {rx : AirRx} {a b : RxCopy} (ha : rx.a = some a) (hb : rx.b = some b) (h : m.air.inFlight = []) :
    m.keptCopy rx = some (if a.quality < b.quality then b else a) := by
  simp [Mach.keptCopy, ha, hb, h]

/-- While a lane transmits RF_B is blanked. -/
theorem Mach.keptCopy_sending {rx : AirRx} {a : RxCopy} (ha : rx.a = some a) (h : m.air.inFlight ≠ []) :
    m.keptCopy rx = some a := by
  simp [Mach.keptCopy, ha, h]

/-- The RSSI of the copies of a frame: while a lane transmits RF_B is blanked. -/
def Mach.rssiSeen (m : Mach) (rx : AirRx) : Option Int × Option Int :=
  (rx.a.map (fun c => c.rssi), if m.air.inFlight.isEmpty then rx.b.map (fun c => c.rssi) else none)

/-- The RSSI of the last frame of a lane is kept. -/
def Mach.rssiKept (m : Mach) (rx : AirRx) : Mach :=
  { m with air := { m.air with rssi := Tabs.put m.air.rssi rx.lane (m.rssiSeen rx) } }

section Reception

variable {rx : AirRx} {c : RxCopy} (hc : m.keptCopy rx = some c)
include hc

theorem Mach.receive_outside (hw : c.inWindow = false) : m.receive rx true = (m.inc AIR_RX_WINDOW_MISS_ALL, none) := by
  simp [Mach.receive, hc, hw]

theorem Mach.receive_badFcs (hw : c.inWindow = true) (hf : c.fcsOk = false) :
    m.receive rx true = ((m.rssiKept rx).inc AIR_LANE_RX_FCS_ALL rx.lane, none) := by
  simp [Mach.receive, Mach.rssiKept, Mach.rssiSeen, hc, hw, hf]

theorem Mach.receive_good (hw : c.inWindow = true) (hf : c.fcsOk = true) :
    m.receive rx true = ((m.rssiKept rx).inc AIR_LANE_RX_OK_ALL rx.lane, some c) := by
  simp [Mach.receive, Mach.rssiKept, Mach.rssiSeen, hc, hw, hf]

end Reception

/-! ### An uplink frame at its reception (R302) -/

/-- The key under which a received frame is accepted, and whether it is that of a join not yet complete: it has the form of an uplink
frame and verifies in the UP slot planned for its sender. -/
def Mach.upVerdict (m : Mach) (rx : AirRx) : Option (Nat × Bool) :=
  if m.upForm rx && m.ownSlot rx.lane (leAt rx.bytes 7 2) then m.upKey (refIdx (leAt rx.bytes 7 2)) rx else none

/-- The lane of a frame counts as heard in its slot. -/
def Mach.laneHeard (m : Mach) (x : Nat) : Mach := { m with air := { m.air with heard := x :: m.air.heard } }

/-- A frame received by a unit that serves the slot, from a reference of the current generation; `n` is the part once its
reception is counted. -/
structure Mach.Received (m n : Mach) (rx : AirRx) (k : RxCopy) : Prop where
  receive : m.receive rx (m.listenTx rx.lane) = (n, some k)
  base : n.asBase = true
  current : n.stale (leAt rx.bytes 7 2) = false

/-- An ACK is owed unless the gate is closed or the role lost (R242). -/
theorem Mach.oweAck_eq (k : AckDue) : m.oweAck k = { m with air := { m.air with
    acks := m.air.acks ++ (if m.b DAMP_STATUS_GATE || !m.isActive then [] else [k]) } } := by
  unfold Mach.oweAck
  split
  · rw [List.append_nil]
  · rfl

/-- On a lane where the unit does not listen a frame has no effect. -/
theorem uplinkDataFrame_deaf (rx : AirRx) (h : m.listenTx rx.lane = false) : uplinkDataFrame rx m = m := by
  simp [uplinkDataFrame, Mach.receive, h]

section Uplink

variable {m} {n : Mach} {rx : AirRx} {k : RxCopy} (h : m.Received n rx k)
include h

theorem Mach.Received.dropped (hv : n.upVerdict rx = none) : uplinkDataFrame rx m = n.inc AIR_RX_DROPPED_ALL := by
  unfold Mach.upVerdict at hv
  simp only [uplinkDataFrame, h.receive, h.base, h.current, Mach.when, hv, Bool.and_false, Bool.false_eq_true, if_true, if_false]

theorem Mach.Received.taken {key : Nat} {new : Bool} (hv : n.upVerdict rx = some (key, new)) (hp : firstIsProgress rx.ies = true) :
    uplinkDataFrame rx m = { n with air := { n.air with
      heard := rx.lane.val :: n.air.heard,
      taken := n.air.taken ++ [⟨rx.lane, leAt rx.bytes 7 2, leAt rx.bytes 2 1, new, rx.ies⟩],
      acks := n.air.acks ++ (if n.b DAMP_STATUS_GATE || !n.isActive then [] else [⟨rx.lane, key, k.tc, true⟩]) } } := by
  unfold Mach.upVerdict at hv
  simp only [uplinkDataFrame, h.receive, h.base, h.current, Mach.when, hv, hp, Bool.and_false, Bool.false_eq_true, if_true, if_false]
  exact Mach.oweAck_eq _ _

theorem Mach.Received.noReport {key : Nat} {new : Bool} (hv : n.upVerdict rx = some (key, new)) (hp : firstIsProgress rx.ies = false) :
    uplinkDataFrame rx m = (n.laneHeard rx.lane).inc AIR_RX_DROPPED_ALL := by
  unfold Mach.upVerdict at hv
  simp only [uplinkDataFrame, h.receive, h.base, h.current, Mach.when, hv, hp, Bool.and_false, Bool.false_eq_true, if_true, if_false]
  rfl

end Uplink

/-- A frame in the UP slot planned for its sender that verifies under the sender's session key is accepted under it. -/
theorem Mach.upVerdict_own {rx : AirRx} {seat : Nat} {y : Member} (hf : m.upForm rx = true) (hk : m.slotKind = kUP)
    (href : refOk (leAt rx.bytes 7 2) = true) (hs : m.stale (leAt rx.bytes 7 2) = false)
    (hplan : m.planned rx.lane = some (seat, refIdx (leAt rx.bytes 7 2))) (hy : m.member (refIdx (leAt rx.bytes 7 2)) = some y)
    (hp : y.pending = false) (hmic : rx.mic = some (y.key, airNonce m.asn (leAt rx.bytes 7 2) rx.lane 0)) :
    m.upVerdict rx = some (y.key, false) := by
  have hown : m.ownSlot rx.lane (leAt rx.bytes 7 2) = true := by simp [Mach.ownSlot, hk, href, hs, hplan]
  have hkey : m.upKey (refIdx (leAt rx.bytes 7 2)) rx = some (y.key, false) := by simp [Mach.upKey, hy, hp, Mach.micOk, hmic]
  unfold Mach.upVerdict
  rw [hf, hown, hkey]
  rfl

/-- A frame of another form, in a slot of another kind or planned for none, or under no key held is not accepted. -/
theorem Mach.upVerdict_none {rx : AirRx} (h : m.upForm rx = false ∨ m.slotKind ≠ kUP ∨ m.planned rx.lane = none ∨
    m.upKey (refIdx (leAt rx.bytes 7 2)) rx = none) : m.upVerdict rx = none := by
  unfold Mach.upVerdict Mach.ownSlot
  obtain h | h | h | h := h <;> simp [h]

end Sys2Proof.Machine
end

section
/-! PROOFS. An accepted uplink frame as it is processed (O39; 09, R302, R308, R309, R311): what its IEs leave of Kiln and of the
sender's entry. -/

namespace Sys2Proof.Machine

open Sys2Proof

variable (m : Mach)

/-! ### Members -/

@[simp] theorem Mach.setMember_same (i : Nat) (y : Member) : (m.setMember i y).member i = some y := Tabs.look_put_same ..

theorem Mach.setMember_other {i j : Nat} (y : Member) (h : j ≠ i) : (m.setMember i y).member j = m.member j := Tabs.look_put_ne _ _ h

@[simp] theorem Mach.airShow_air : m.airShow.air = m.air :=
  Mach.airShow_keeps (kept_of_eq _ fun _ _ _ _ => rfl) (fun _ _ => rfl) m

theorem Mach.airShow_member (i : Nat) : m.airShow.member i = m.member i := by
  unfold Mach.member
  rw [Mach.airShow_air]

@[simp] theorem Mach.airShow_hostMem : m.airShow.hostMem = m.hostMem :=
  Mach.airShow_keeps (kept_of_eq _ fun _ _ _ _ => rfl) (fun _ _ => rfl) m

/-! ### What the IEs of a frame leave -/

/-- What an accepted frame shows of its sender before its IEs: the misses in sequence, the lane, the DSN. -/
def Member.hearing (x : Member) : Nat × Nat × Option Nat := (x.missed, x.heard, x.upDsn)

theorem Member.of_hearing {x : Member} {n l : Nat} {d : Option Nat} (h : x.hearing = (n, l, d)) :
    x.missed = n ∧ x.heard = l ∧ x.upDsn = d := by
  simpa [Member.hearing] using h

/-- Kiln, and of each member what its last accepted frame has shown. -/
def Mach.upView (m : Mach) : KilnSt × (Nat → Option (Nat × Nat × Option Nat)) :=
  (m.kiln, fun j => (m.member j).map Member.hearing)

theorem Mach.upView_congr {a b : Mach} (hk : a.kiln = b.kiln) (ht : a.air.tab.members = b.air.tab.members) : a.upView = b.upView := by
  unfold Mach.upView Mach.member
  rw [hk, ht]

/-- Parts with the same view have the same members, each with the same hearing. -/
theorem Mach.hearing_of_upView {a b : Mach} {i : Nat} {y : Member} (h : a.upView = b.upView) (hy : b.member i = some y) :
    ∃ z, a.member i = some z ∧ z.hearing = y.hearing := by
  have hi : (a.member i).map Member.hearing = (b.member i).map Member.hearing := congrFun (congrArg Prod.snd h) i
  rw [hy] at hi
  exact Option.map_eq_some_iff.mp hi

theorem Mach.setMember_upView {i : Nat} {x y : Member} (hx : m.member i = some x) (hy : y.hearing = x.hearing) :
    (m.setMember i y).upView = m.upView := by
  refine Prod.ext rfl (funext fun j => ?_)
  change ((m.setMember i y).member j).map Member.hearing = (m.member j).map Member.hearing
  obtain rfl | hj := eq_or_ne j i
  · rw [Mach.setMember_same, hx, Option.map_some, Option.map_some, hy]
  · rw [m.setMember_other y hj]

@[simp] theorem Mach.inc_upView (f : Field) : (m.inc f).upView = m.upView := rfl
@[simp] theorem Mach.setTask_upView (e : Nat) (t : Task) : (m.setTask e t).upView = m.upView := rfl
@[simp] theorem Mach.event_upView (code sev src : Nat) (args : List Byte) : (m.event code sev src args).upView = m.upView :=
  Mach.upView_congr (by simp) (by simp)
@[simp] theorem Mach.complete_upView (d : Desc) (st : Nat) (res : List Byte) : (m.complete d st res).upView = m.upView :=
  Mach.upView_congr (by simp) (by simp)
@[simp] theorem Mach.airShow_upView : m.airShow.upView = m.upView := Mach.upView_congr (by simp) (by simp)

/-- A report delivered (R309): its TXN noted, the report for Kiln, its event. -/
theorem Mach.progressIe_delivered {x i flags txn rear word : Nat} {y : Member} (hy : m.member i = some y)
    (hl : txnLater y.txn txn = true) (hh : m.red.hold = false) (ha : m.isActive = true) :
    (m.progressIe x i flags txn rear word).air.reports = m.air.reports ++ [(x, m.refOf i, rear)] ∧
      (m.progressIe x i flags txn rear word).member i = some { y with txn := some txn } := by
  have hair : (m.progressIe x i flags txn rear word).air = { (m.setMember i { y with txn := some txn }).air with
      reports := m.air.reports ++ [(x, m.refOf i, rear)] } := by
    unfold Mach.progressIe
    rw [hy]
    dsimp only
    rw [if_neg (by simp [hl, hh, ha])]
    exact Mach.when_keeps _ Mach.air _ _ fun z => z.event_air ..
  unfold Mach.member
  rw [hair]
  exact ⟨rfl, m.setMember_same i _⟩

theorem Mach.progressIe_upView (x i flags txn rear word : Nat) : (m.progressIe x i flags txn rear word).upView = m.upView := by
  unfold Mach.progressIe
  split
  · rfl
  · next y hy =>
    split
    · rfl
    · dsimp only
      refine (Mach.when_keeps _ Mach.upView _ _ fun z => z.event_upView ..).trans ?_
      exact m.setMember_upView hy rfl

/-- A ledger entry's move takes fragments from a robot's queue, and leaves its hearing. -/
theorem Mach.taskMove_upView (e : Nat) (t : Task) (st : TaskState) (reason : Nat) : (m.taskMove e t st reason).upView = m.upView := by
  unfold Mach.taskMove
  extract_lets was t' set posted dropped
  have hposted : posted.upView = m.upView := (Mach.event_upView ..).trans (Mach.setTask_upView ..)
  have hdropped : dropped.upView = posted.upView := by
    unfold dropped
    split
    next x hx =>
      split
      · exact posted.setMember_upView hx rfl
      · rfl
    · rfl
  split
  · exact (Mach.complete_upView ..).trans (hdropped.trans hposted)
  · exact hdropped.trans hposted

theorem Mach.taskTo_upView (e : Nat) (st : TaskState) (reason : Nat) (late : Bool) : (m.taskTo e st reason late).upView = m.upView := by
  unfold Mach.taskTo
  split
  · exact m.taskMove_upView ..
  · rfl

theorem Mach.taskStatus_upView (e : Nat) (t : Task) (code reason : Nat) : (m.taskStatus e t code reason).upView = m.upView := by
  unfold Mach.taskStatus
  split
  · rfl
  · dsimp only
    split
    · split
      · exact m.taskTo_upView ..
      · exact (Mach.taskTo_upView ..).trans (m.taskTo_upView ..)
    · exact (Mach.inc_upView ..).trans (m.taskTo_upView ..)
    · split
      · rfl
      · split
        · exact m.inc_upView _
        · exact m.taskTo_upView ..

theorem Mach.statusIe_upView (ref code id reason : Nat) : (m.statusIe ref code id reason).upView = m.upView := by
  have hunknown : ((m.inc AIR_TASK_UNKNOWN_ALL).event 0x0307 2 12 (le 4 id ++ le 2 ref)).upView = m.upView :=
    (Mach.event_upView ..).trans (m.inc_upView _)
  unfold Mach.statusIe
  split
  · split
    · exact m.taskStatus_upView ..
    · exact hunknown
  · exact hunknown

theorem Mach.upIes_upView (x i ref : Nat) (l : List UpIe) : (m.upIes x i ref l).upView = m.upView := by
  induction l generalizing m with
  | nil => rfl
  | cons e l ih =>
    cases e with
    | runsPast => rfl
    | other => exact (ih _).trans (m.inc_upView _)
    | progress flags txn rear seq speed word => exact (ih _).trans (m.progressIe_upView ..)
    | status code id reason => exact (ih _).trans (m.statusIe_upView ..)

/-! ### An accepted frame (R302, R307) -/

/-- The sender is heard: no uplink is missed in sequence any more. -/
def Member.heardOn (x : Member) (lane : Nat) : Member := { x with missed := 0, heard := lane }

/-- The sender of a frame that is no duplicate is heard, and its DSN kept. -/
def Mach.upFresh (m : Mach) (f : UpTaken) (y : Member) : Mach :=
  (m.setMember (refIdx f.ref) (y.heardOn f.lane)).setMember (refIdx f.ref) { y.heardOn f.lane with upDsn := some f.dsn }

theorem Mach.upFresh_member (f : UpTaken) (y : Member) :
    (m.upFresh f y).member (refIdx f.ref) = some { y.heardOn f.lane with upDsn := some f.dsn } := Mach.setMember_same ..

/-- A robot without a move is heard. -/
theorem Mach.hearRobot_still {i : Nat} {y : Member} (hy : m.member i = some y) (hm : y.move = none) (x : Nat) :
    m.hearRobot i x = m.setMember i (y.heardOn x) := by
  simp [Mach.hearRobot, hy, hm, Member.heardOn]

section Process

variable {f : UpTaken} {y : Member} (hs : m.stale f.ref = false) (hy : m.member (refIdx f.ref) = some y) (hm : y.move = none)
  (hn : f.newKey = false)
include hs hy hm hn

/-- A repeated DSN delivers nothing. -/
theorem Mach.upProcess_repeated (hd : y.upDsn = some f.dsn) :
    m.upProcess f = ((m.setMember (refIdx f.ref) (y.heardOn f.lane)).inc AIR_RX_DUP_ALL).airShow := by
  have hcur : (m.setMember (refIdx f.ref) (y.heardOn f.lane)).stale f.ref = false := hs
  have hdsn : (y.heardOn f.lane).upDsn = some f.dsn := hd
  simp [Mach.upProcess, hn, m.hearRobot_still hy hm, hcur, hdsn]

/-- A new DSN is kept and the IEs delivered. -/
theorem Mach.upProcess_fresh (hd : y.upDsn ≠ some f.dsn) :
    m.upProcess f = ((m.upFresh f y).upIes f.lane (refIdx f.ref) f.ref f.ies).airShow := by
  have hcur : (m.setMember (refIdx f.ref) (y.heardOn f.lane)).stale f.ref = false := hs
  have hdsn : (y.heardOn f.lane).upDsn ≠ some f.dsn := hd
  simp [Mach.upProcess, Mach.upFresh, hn, m.hearRobot_still hy hm, hcur, hdsn]

/-- A repeated DSN shows the sender heard and is counted. -/
theorem Mach.upProcess_duplicate (hd : y.upDsn = some f.dsn) : (m.upProcess f).member (refIdx f.ref) = some (y.heardOn f.lane) ∧
    (m.upProcess f).air.reports = m.air.reports ∧
    (m.upProcess f).r AIR_RX_DUP_ALL = min (m.r AIR_RX_DUP_ALL + 1) 0xFFFFFFFF ∧ (m.upProcess f).hostMem = m.hostMem := by
  have hshow := (airFree_field AIR_RX_DUP_ALL 0 tabFields (by decide) (by decide)).airShow (fun _ he => he)
  rw [m.upProcess_repeated hs hy hm hn hd, Mach.airShow_member, Mach.airShow_air, Mach.airShow_hostMem]
  exact ⟨m.setMember_same _ _, rfl, (hshow _).trans (Mach.r_inc_same _ AIR_RX_DUP_ALL 0 (by decide)), rfl⟩

/-- A new DSN shows the sender heard and is kept, whatever the IEs. -/
theorem Mach.upProcess_heard (hd : y.upDsn ≠ some f.dsn) :
    ∃ z, (m.upProcess f).member (refIdx f.ref) = some z ∧ z.hearing = (0, f.lane, some f.dsn) := by
  rw [m.upProcess_fresh hs hy hm hn hd]
  exact Mach.hearing_of_upView ((Mach.airShow_upView _).trans (Mach.upIes_upView ..)) (m.upFresh_member f y)

/-- A single later PROGRESS IE passes one report. -/
theorem Mach.upProcess_report (hd : y.upDsn ≠ some f.dsn) {flags txn rear seq speed word : Nat}
    (hies : f.ies = [.progress flags txn rear seq speed word]) (hl : txnLater y.txn txn = true) (hh : m.red.hold = false)
    (ha : m.isActive = true) :
    (m.upProcess f).air.reports = m.air.reports ++ [(f.lane, m.refOf (refIdx f.ref), rear)] ∧
      (m.upProcess f).member (refIdx f.ref) = some { y.heardOn f.lane with upDsn := some f.dsn, txn := some txn } := by
  rw [m.upProcess_fresh hs hy hm hn hd, hies, Mach.airShow_air, Mach.airShow_member]
  exact (m.upFresh f y).progressIe_delivered (m.upFresh_member f y) hl hh ha

theorem Mach.upProcess_kiln : (m.upProcess f).kiln = m.kiln := by
  by_cases hd : y.upDsn = some f.dsn
  · rw [m.upProcess_repeated hs hy hm hn hd, Mach.airShow_kiln]
    rfl
  · rw [m.upProcess_fresh hs hy hm hn hd, Mach.airShow_kiln]
    exact congrArg Prod.fst (Mach.upIes_upView ..)

end Process

end Sys2Proof.Machine
end

section
/-! PROOFS. A unicast frame without an ACK (O39; 08, R282; 09, R298, R303). -/

namespace Sys2Proof.Machine

open Sys2Proof

variable (m : Mach)

/-- The link of a robot after a transmission without an ACK (R298): the downlink MCS steps down after two, not below the least. -/
def Member.unacked (x : Member) (least : Nat) : Member :=
  { x with failRun := if x.failRun + 1 ≥ 2 then 0 else x.failRun + 1, okRun := 0,
           mcs := if x.failRun + 1 ≥ 2 then max (x.mcs - 1) least else x.mcs }

/-- The link state of a member: failures and successes in sequence, MCS. -/
def Member.link (x : Member) : Nat × Nat × Nat := (x.failRun, x.okRun, x.mcs)

theorem Member.of_link {x : Member} {f o c : Nat} (h : x.link = (f, o, c)) : x.failRun = f ∧ x.okRun = o ∧ x.mcs = c := by
  simpa [Member.link] using h

theorem Member.unacked_first (x : Member) (least : Nat) (h : x.failRun = 0) : (x.unacked least).link = (1, 0, x.mcs) := by
  simp [Member.unacked, Member.link, h]

theorem Member.unacked_second (x : Member) (least : Nat) (h : 1 ≤ x.failRun) :
    (x.unacked least).link = (0, 0, max (x.mcs - 1) least) := by
  simp [Member.unacked, Member.link, h]

theorem Member.moveExpired_link (x : Member) (a : Nat) : (x.moveExpired a).link = x.link := by
  unfold Member.moveExpired
  split
  · split <;> rfl
  · rfl

/-- The member whose frame is owed a retry. -/
def Member.retried (x : Member) (u : Unicast) (least a : Nat) : Member :=
  ({ x.unacked least with sent := some { u with waits := none } } : Member).moveExpired a

section Retry

variable (x : Member) (u : Unicast) (least a : Nat)

/-- A frame owed a retry is kept unless the EFFECTIVE_ASN of the move it carries has come (R282). -/
theorem Member.retried_sent :
    (x.retried u least a).sent = if u.move.any (fun e => decide (e ≤ a)) then none else some { u with waits := none } := by
  unfold Member.retried Member.moveExpired
  simp only [Option.isNone_none, Bool.and_true]
  split <;> rfl

theorem Member.retried_link : (x.retried u least a).link = (x.unacked least).link := Member.moveExpired_link _ a

theorem Member.retried_okRun : (x.retried u least a).okRun = 0 := congrArg (fun l => l.2.1) (x.retried_link u least a)

theorem Member.retried_first (h : x.failRun = 0) : (x.retried u least a).failRun = 1 ∧ (x.retried u least a).mcs = x.mcs := by
  obtain ⟨hfail, -, hmcs⟩ := Member.of_link ((x.retried_link u least a).trans (x.unacked_first least h))
  exact ⟨hfail, hmcs⟩

theorem Member.retried_second (h : 1 ≤ x.failRun) :
    (x.retried u least a).failRun = 0 ∧ (x.retried u least a).mcs = max (x.mcs - 1) least := by
  obtain ⟨hfail, -, hmcs⟩ := Member.of_link ((x.retried_link u least a).trans (x.unacked_second least h))
  exact ⟨hfail, hmcs⟩

end Retry

theorem Mach.uniMissed_retried {i : Nat} {x : Member} {u : Unicast} (h : u.retries < m.r AIR_TX_CFG_RETRY_MAX) :
    m.uniMissed i x u = m.setMember i (x.retried u (m.r AIR_TX_CFG_DOWN_MCS_MIN) m.asn) :=
  if_neg (Nat.not_le.mpr h)

theorem Mach.uniMissed_givenUp {i : Nat} {x : Member} {u : Unicast} (h : m.r AIR_TX_CFG_RETRY_MAX ≤ u.retries) :
    m.uniMissed i x u = (m.setMember i ((x.unacked (m.r AIR_TX_CFG_DOWN_MCS_MIN)).takeBack u)).inc AIR_TX_GIVEUP_ALL :=
  if_pos h

section Missing

variable {x : Nat} (hr : m.resps x = [])
include hr

theorem ackMissing_unanswered {i w : Nat} {y : Member} {u : Unicast} (hu : (m.setResps x []).unanswered x = some (i, y, u))
    (hw : u.waits = some w) (hp : w ≠ m.asn ∨ m.air.phase = 4) :
    ackMissing x m = ((m.setResps x []).uniMissed i y u).airShow := by
  have hpast : (some w != some m.asn || m.air.phase == 4) = true := by simpa using hp
  simp only [ackMissing, hr, List.map_nil, hu, hw, Option.isSome_some, Bool.true_and]
  exact if_pos hpast

theorem ackMissing_none (hu : (m.setResps x []).unanswered x = none) : ackMissing x m = m.setResps x [] := by
  simp [ackMissing, hr, hu]

end Missing

end Sys2Proof.Machine
end

section
/-! PROOFS. O39 is settled. -/

namespace Sys2Proof.Machine

open Sys2Proof

/-- Settles O39: an uplink frame is judged by the key it verifies under in its slot; its IEs leave Kiln and what it has shown of its
sender; a frame without an ACK is owed a retry or given up by its count of retries. -/
theorem uplinksAreTakenOrDropped : Obligations.UplinksAreTakenOrDropped := by
  unfold Obligations.UplinksAreTakenOrDropped
  refine ⟨fun m rx a b ha hb => ⟨m.keptCopy_listening ha hb, m.keptCopy_sending ha⟩, fun m rx c hc => ?receive,
    fun rx s h => s.on_same (uplinkDataFrame rx) (uplinkDataFrame_deaf s.m rx h), fun rx s k hk => ?uplink,
    fun f m y hs hy hm hn => ?process, fun x s i w y u hr => ?missing,
    fun x s hr hu => s.on_eq (ackMissing x) _ (ackMissing_none s.m hr hu)⟩
  case receive =>
    refine ⟨m.receive_outside hc, fun hw hf => ?_, fun hw hf => ?_⟩
    · rw [m.receive_badFcs hc hw hf]
      exact ⟨rfl, (m.rssiKept rx).r_inc_same AIR_LANE_RX_FCS_ALL rx.lane (by decide)⟩
    · rw [m.receive_good hc hw hf]
      exact ⟨rfl, (m.rssiKept rx).r_inc_same AIR_LANE_RX_OK_ALL rx.lane (by decide)⟩
  case uplink =>
    intro m src x hbase href hcur
    have h : s.m.Received m rx k := ⟨Prod.ext rfl hk, hbase, hcur⟩
    clear_value m
    refine ⟨fun seat y hf hup hplan hy hp hmic => ?_, fun hdrop => s.on_eq (uplinkDataFrame rx) _ (h.dropped (m.upVerdict_none hdrop))⟩
    have hv := m.upVerdict_own hf hup href hcur hplan hy hp hmic
    exact ⟨fun hfirst => s.on_eq (uplinkDataFrame rx) _ (h.taken hv hfirst),
      fun hfirst => s.on_eq (uplinkDataFrame rx) _ (h.noReport hv hfirst)⟩
  case process =>
    intro i t
    have hkiln : t.kiln = m.kiln := m.upProcess_kiln hs hy hm hn
    by_cases hd : y.upDsn = some f.dsn
    · obtain ⟨hmem, hrep, hdup, hhost⟩ := m.upProcess_duplicate hs hy hm hn hd
      exact ⟨y.heardOn f.lane, hmem, rfl, rfl, hd, fun _ => ⟨rfl, hrep, hdup, hhost⟩, fun _ _ _ _ _ _ hne => absurd hd hne,
        Mach.agent_congr (congrArg KilnSt.store hkiln)⟩
    · obtain ⟨z, hz, hhear⟩ := m.upProcess_heard hs hy hm hn hd
      obtain ⟨hmiss, hlane, hdsn⟩ := Member.of_hearing hhear
      refine ⟨z, hz, hmiss, hlane, hdsn, fun h => absurd h hd, fun flags txn rear seq speed word _ hies hl hh ha => ?_,
        Mach.agent_congr (congrArg KilnSt.store hkiln)⟩
      obtain ⟨hrep, hmem⟩ := m.upProcess_report hs hy hm hn hd hies hl hh ha
      cases hz.symm.trans hmem
      exact ⟨hrep, rfl⟩
  case missing =>
    intro m hu hw hp
    refine ⟨s.on_eq (ackMissing x) _ (ackMissing_unanswered s.m hr hu hw hp), fun hret => ?_, fun hmax => ?_⟩
    · rw [m.uniMissed_retried hret]
      exact ⟨_, m.setMember_same i _, y.retried_sent u _ _, y.retried_okRun u _ _, y.retried_first u _ _, y.retried_second u _ _⟩
    · rw [m.uniMissed_givenUp hmax]
      exact ⟨_, m.setMember_same i _, rfl, Mach.r_inc_same _ AIR_TX_GIVEUP_ALL 0 (by decide)⟩

end Sys2Proof.Machine
end

section
/-! PROOFS. The credential table and its descriptors, and QUERY_MEMBER (O38; 08, R259, R286). -/

namespace Sys2Proof.Machine

open Sys2Proof

variable (m : Mach)

/-- A descriptor of the Air region passes its first checks, and those of its own decide (R43). -/
theorem Mach.airPre_passed {bad query : Bool} (hb : bad = false) (ht : m.takes .air = true) (ha : query = true ∨ m.isActive = true)
    (l : List (Bool × Nat)) : firstOf (m.airPre bad query ++ l) = firstOf l := by
  have hrole : (!query && !m.isActive) = false := by obtain ha | ha := ha <;> simp [ha]
  simp [Mach.airPre, firstOf, hb, ht, hrole]

/-- The entry that a CRED_WRITE describes, with a join counter. -/
def credOf (d : Desc) (ctr : Nat) : Cred :=
  ⟨Descs.fld d 16 8, Descs.fld d 24 16, Descs.fld d 40 1, (Descs.fld d 41 1).testBit 0, ctr⟩

section Write

variable {m} {d : Desc} (hs : m.starts 0x0300 d) (ht : m.takes .air = true) (ha : m.isActive = true)
  (hh : Descs.fld d 40 1 < 8 ∨ Descs.fld d 40 1 = 0xFF)
include ht ha hh

/-- A CRED_WRITE is refused only where a new EUI-64 finds the table full. -/
theorem credWrite_checks : firstOf (m.airPre (Descs.fld d 40 1 > 7 && Descs.fld d 40 1 != 0xFF) false ++
    [((m.cred (Descs.fld d 16 8)).isNone && m.nv.set.creds.length ≥ 1024, 0x12)]) =
    if (m.cred (Descs.fld d 16 8)).isNone && m.nv.set.creds.length ≥ 1024 then some 0x12 else none := by
  have hhome : (decide (Descs.fld d 40 1 > 7) && Descs.fld d 40 1 != 0xFF) = false := by
    obtain h | h := hh
    · simp [show Descs.fld d 40 1 ≤ 7 by omega]
    · simp [h]
  rw [m.airPre_passed hhome ht (.inr ha)]
  rfl

include hs

/-- A new EUI-64 takes the lowest free entry. -/
theorem credWrite_new (hc : m.cred (Descs.fld d 16 8) = none) (hn : m.nv.set.creds.length < 1024) : credWrite d m =
    (m.setCred m.freeCred (credOf d 0)).complete (d.as 0x0300) stOK (le 2 m.freeCred ++ le 1 0) := by
  have hpass := credWrite_checks (d := d.as 0x0300) ht ha hh
  rw [if_neg (by simpa using fun _ => hn)] at hpass
  rw [credWrite, m.desc_starts _ d _ hs]
  dsimp only
  rw [hpass]
  simp only [Desc.as_fld, hc]
  simp [b2n, credOf]

/-- A known EUI-64 keeps its entry, and its counter where that is asked for. -/
theorem credWrite_known {n : Nat} {c : Cred} (hc : m.cred (Descs.fld d 16 8) = some (n, c)) : credWrite d m =
    (m.setCred n (credOf d (if (Descs.fld d 41 1).testBit 1 then c.ctr else 0))).complete (d.as 0x0300) stOK (le 2 n ++ le 1 1) := by
  have hpass := credWrite_checks (d := d.as 0x0300) ht ha hh
  rw [if_neg (by simp [hc])] at hpass
  rw [credWrite, m.desc_starts _ d _ hs]
  dsimp only
  rw [hpass]
  simp only [Desc.as_fld, hc]
  rfl

theorem credWrite_full (hc : m.cred (Descs.fld d 16 8) = none) (hn : 1024 ≤ m.nv.set.creds.length) :
    credWrite d m = m.complete (d.as 0x0300) 0x12 := by
  have hfail := credWrite_checks (d := d.as 0x0300) ht ha hh
  rw [if_pos (by simp [hc, hn])] at hfail
  rw [credWrite, m.desc_starts _ d _ hs]
  dsimp only
  rw [hfail]

end Write

/-- The table without an entry. -/
def Mach.dropCred (m : Mach) (n : Nat) : Mach :=
  { m with nv := { m.nv with set := { m.nv.set with creds := Tabs.del m.nv.set.creds n } } }

section Remove

variable {m} {d : Desc} (hs : m.starts 0x0301 d) (ht : m.takes .air = true) (ha : m.isActive = true)
include hs ht ha

theorem credRemove_unknown (hc : m.cred (Descs.fld d 16 8) = none) : credRemove d m = m.complete (d.as 0x0301) 0x10 := by
  rw [credRemove, m.desc_starts _ d _ hs]
  simp [m.airPre_passed rfl ht (.inr ha), firstOf, hc]

theorem credRemove_held {e h : Nat × _} (hc : m.cred (Descs.fld d 16 8) = some e) (hh : m.holderOf (Descs.fld d 16 8) = some h) :
    credRemove d m = m.complete (d.as 0x0301) 0x11 := by
  rw [credRemove, m.desc_starts _ d _ hs]
  simp [m.airPre_passed rfl ht (.inr ha), firstOf, hc, hh]

theorem credRemove_free {n : Nat} {c : Cred} (hc : m.cred (Descs.fld d 16 8) = some (n, c))
    (hh : m.holderOf (Descs.fld d 16 8) = none) :
    credRemove d m = (m.dropCred n).complete (d.as 0x0301) stOK (le 1 0) := by
  rw [credRemove, m.desc_starts _ d _ hs]
  simp [m.airPre_passed rfl ht (.inr ha), firstOf, hc, hh]
  rfl

end Remove

section Query

variable {m} {d : Desc} (hs : m.starts 0x0302 d) (ht : m.takes .air = true)
include hs ht

theorem credQuery_unknown (hc : m.cred (Descs.fld d 16 8) = none) : credQuery d m = m.complete (d.as 0x0302) 0x10 := by
  have hpre := m.airPre_passed rfl ht (.inl rfl) []
  rw [List.append_nil] at hpre
  rw [credQuery, m.desc_starts _ d _ hs]
  simp [hpre, firstOf, hc]

theorem credQuery_known {n : Nat} {c : Cred} (hc : m.cred (Descs.fld d 16 8) = some (n, c)) :
    credQuery d m = m.complete (d.as 0x0302) stOK (le 1 c.home ++ le 1 (b2n c.blocked) ++ le 2 0 ++ le 4 c.ctr ++
      le 2 (((m.holderOf (Descs.fld d 16 8)).map (fun e => m.refOf e.1)).getD 0)) := by
  have hpre := m.airPre_passed rfl ht (.inl rfl) []
  rw [List.append_nil] at hpre
  rw [credQuery, m.desc_starts _ d _ hs]
  cases hh : m.holderOf (Descs.fld d 16 8) <;> simp [hpre, firstOf, hc, hh]

end Query

section Member

variable {m} {d : Desc} (hs : m.starts 0x0305 d) (ht : m.takes .air = true) (hr : refOk (Descs.fld d 16 2) = true)
  (hg : (Descs.fld d 18 1).testBit 0 = true ∨ m.stale (Descs.fld d 16 2) = false)
include ht hr hg

/-- QUERY_MEMBER names an index of the current generation, or takes any (R286). -/
theorem queryMember_checks : firstOf (m.airPre (!refOk (Descs.fld d 16 2)) true ++
    [(!(Descs.fld d 18 1).testBit 0 && m.stale (Descs.fld d 16 2), stSTALE_GENERATION)]) = none := by
  have hstale : (!(Descs.fld d 18 1).testBit 0 && m.stale (Descs.fld d 16 2)) = false := by obtain h | h := hg <;> simp [h]
  rw [m.airPre_passed (by simp [hr]) ht (.inl rfl)]
  simp only [firstOf, hstale, Bool.false_eq_true, if_false]

include hs

theorem queryMember_absent (hm : m.member (refIdx (Descs.fld d 16 2)) = none) :
    queryMember d m = m.complete (d.as 0x0305) 0x15 := by
  rw [queryMember, m.desc_starts _ d _ hs]
  simp only [Desc.as_fld, queryMember_checks ht hr hg, hm]

theorem queryMember_present {x : Member} (hm : m.member (refIdx (Descs.fld d 16 2)) = some x) :
    queryMember d m = m.complete (d.as 0x0305) stOK (le 8 x.eui ++ le 1 x.lane ++ le 1 x.seat ++ le 1 x.missed ++
      le 1 (b2n (x.pending || m.rejoining (refIdx (Descs.fld d 16 2))) + 2 * b2n (x.move.any (fun v => v.open_))) ++
      le 2 (m.refOf (refIdx (Descs.fld d 16 2)))) := by
  rw [queryMember, m.desc_starts _ d _ hs]
  simp only [Desc.as_fld, queryMember_checks ht hr hg, hm]

end Member

/-- Settles O38, descriptor by descriptor. -/
theorem credentialsAreKept : Obligations.CredentialsAreKept := by
  unfold Obligations.CredentialsAreKept
  refine ⟨fun d s hs ht ha => ?write, fun d s hs ht ha => ?remove, fun d s hs ht => ?query, fun d s hs ht hr => ?member⟩
  case write =>
    intro eui home fl e hh
    exact ⟨fun hc hn => s.on_eq (credWrite d) _ (credWrite_new hs ht ha hh hc hn),
      fun n c hc => s.on_eq (credWrite d) _ (credWrite_known hs ht ha hh hc),
      fun hc hn => s.on_eq (credWrite d) _ (credWrite_full hs ht ha hh hc hn)⟩
  case remove =>
    refine ⟨fun hc => s.on_eq (credRemove d) _ (credRemove_unknown hs ht ha hc),
      fun n c h hc hh => s.on_eq (credRemove d) _ (credRemove_held hs ht ha hc hh), fun n c hc hh hrise => ?_⟩
    have hlook : ∀ k, Tabs.look (s.m.dropCred n).nv.set.creds k = if k = n then none else Tabs.look s.m.nv.set.creds k :=
      fun k => Tabs.look_del _ n k hrise
    exact ⟨s.m.dropCred n, s.on_eq (credRemove d) _ (credRemove_free hs ht ha hc hh), rfl, rfl, rfl, (hlook n).trans (if_pos rfl),
      fun k hk => (hlook k).trans (if_neg hk)⟩
  case query =>
    refine ⟨fun hc => s.on_eq (credQuery d) _ (credQuery_unknown hs ht hc), fun n c hc => ⟨fun hh => ?_, fun i x hh => ?_⟩⟩
    all_goals
      refine s.on_eq (credQuery d) _ ((credQuery_known hs ht hc).trans ?_)
      rw [hh]
      rfl
  case member =>
    intro i hg
    exact ⟨fun hm => s.on_eq (queryMember d) _ (queryMember_absent hs ht hr hg hm),
      fun x hm => s.on_eq (queryMember d) _ (queryMember_present hs ht hr hg hm)⟩

end Sys2Proof.Machine
end

section
/-! PROOFS. The end of a membership (08, R122, R281): an index in quarantine is no member, and every other member stays. -/

namespace Sys2Proof.Machine

open Sys2Proof

variable (m : Mach) (i ref item : Nat)

theorem Mach.refIdx_refOf {i : Nat} (hi : i < 512) : refIdx (m.refOf i) = i := by
  unfold refIdx Mach.refOf KilnStore.ref mkRef
  omega

theorem Mach.member_congr {a b : Mach} (h : a.air.tab.members = b.air.tab.members) (j : Nat) : a.member j = b.member j :=
  congrArg (fun t => Tabs.look t j) h

/-- A task of an index that is no member ends without a change of any member. -/
theorem Mach.taskMove_members (e : Nat) (t : Task) (st : TaskState) (reason : Nat) (h : m.member (refIdx t.ref) = none) :
    (m.taskMove e t st reason).air.tab.members = m.air.tab.members := by
  unfold Mach.taskMove
  extract_lets was t' set posted dropped
  have hposted : posted.air.tab.members = m.air.tab.members := congrArg (fun a => a.tab.members) (Mach.event_air ..)
  have hdropped : dropped = posted := by
    have hnone : posted.member (refIdx t.ref) = none := (Mach.member_congr hposted _).trans h
    unfold dropped
    rw [hnone]
  rw [hdropped]
  split
  · rw [Mach.complete_air, hposted]
  · exact hposted

/-- So do all tasks of such an index. -/
theorem Mach.tasksFail_members (l : List (Nat × Task)) (st : TaskState) (reason : Nat) (hl : ∀ e ∈ l, m.member (refIdx e.2.ref) = none) :
    (m.each l (fun m e => m.taskMove e.1 e.2 st reason)).air.tab.members = m.air.tab.members := by
  induction l generalizing m with
  | nil => rfl
  | cons e l ih =>
    have hstep := m.taskMove_members e.1 e.2 st reason (hl e List.mem_cons_self)
    exact (ih _ fun k hk => (Mach.member_congr hstep _).trans (hl k (List.mem_cons_of_mem e hk))).trans hstep

/-- The entry of an index is gone, and every other stays. -/
theorem Mach.memberGone_member (hr : refIdx ref = i) (h : Tabs.rising none m.air.tab.members = true) (j : Nat) :
    (m.memberGone i ref item).member j = if j = i then none else m.member j := by
  unfold Mach.memberGone
  split
  next hi =>
    split
    next hj => rw [hj, hi]
    next => rfl
  next x hx =>
    extract_lets told resps tab gone failed
    have htold : told.air = m.air := by
      unfold told
      split
      · exact Mach.complete_air ..
      · rfl
    have hgone : ∀ k, gone.member k = if k = i then none else m.member k := by
      intro k
      refine (Tabs.look_del told.air.tab.members i k (by rw [htold]; exact h)).trans ?_
      rw [htold]
      rfl
    have hfailed : failed.air.tab.members = gone.air.tab.members := by
      refine gone.tasksFail_members _ _ _ fun e he => ?_
      have href : e.2.ref = ref := by
        have := (List.mem_filter.mp he).2
        simp only [Bool.and_eq_true, beq_iff_eq] at this
        exact this.1
      rw [href, hr, hgone, if_pos rfl]
    rw [← hgone j]
    exact Mach.member_congr ((congrArg (fun a => a.tab.members) (Mach.event_air ..)).trans hfailed) j

@[simp] theorem Mach.clearAgentLatch_air : (m.clearAgentLatch i).air = m.air := by
  unfold Mach.clearAgentLatch
  split
  · rw [Mach.event_air, Mach.quickStop_air, Mach.setLatches_air]
  · rfl

/-- The time of quarantine is all that it notes in the Air region before the membership ends. -/
theorem Mach.quarantined_members : (m.quarantined i).air.tab.members = m.air.tab.members := by
  have hcut : (m.cutChain i [] (m.agent i).chain).air = m.air :=
    (congrArg Mach.air (show _ = _ from m.cutChain_kilnOnly i [] (m.agent i).chain)).trans rfl
  exact congrArg (fun a => a.tab.members) hcut

theorem Mach.quarantine_member {i : Nat} (hi : i < 512) (h : Tabs.rising none m.air.tab.members = true) (j : Nat) :
    (m.quarantine i item).member j = if j = i then none else m.member j := by
  have hmem := m.quarantined_members i
  rw [Mach.quarantine_eq, Mach.airShow_member, Mach.member_congr (congrArg (fun a => a.tab.members) (Mach.clearAgentLatch_air ..)),
    Mach.memberGone_member _ i _ item (m.refIdx_refOf hi) (hmem ▸ h), Mach.member_congr hmem]

end Sys2Proof.Machine
end

section
/-! PROOFS. Missed uplinks, lane moves and evictions (O37; 08, R279 to R282, R284). -/

namespace Sys2Proof.Machine

open Sys2Proof

variable (m : Mach)

/-! ### Missed uplinks (R279, R280) -/

/-- The miss of an index is counted: on the lane for its slot, in its run and in AIR_MISSED_UL. -/
def Mach.missCounted (m : Mach) (x i : Nat) (y : Member) : Mach :=
  ({ m with air := { m.air with counted := x :: m.air.counted } }.setMember i { y with missed := y.missed + 1 }).inc AIR_MISSED_UL_ALL

/-- The ACTIVE base is at the end of an UP slot on a lane on which it has heard nothing. -/
structure Mach.UpUnheard (m : Mach) (x : Nat) : Prop where
  slot : m.inSlot = true
  on : m.air.on = true
  phase : m.air.phase = 4
  active : m.isActive = true
  calm : m.dam.burst = false
  served : m.laneServed x = true
  kind : m.slotKind = kUP
  unheard : m.air.heard.contains x = false

/-- A slot counts once on a lane. -/
theorem Mach.uplinkMissed_again {x : Nat} (hc : m.air.counted.contains x = true) : uplinkMissed x m = m := by
  simp only [uplinkMissed, hc, Bool.or_true, if_true]

theorem uplinkMissed_first {m : Mach} {x seat i : Nat} {y : Member} (h : m.UpUnheard x) (hc : m.air.counted.contains x = false)
    (hplan : m.planned x = some (seat, i)) (hy : m.member i = some y) (hp : y.pending = false) (hm : y.move = none) :
    uplinkMissed x m = if y.missed + 1 == 3 then (m.missCounted x i y).thirdMiss i else m.missCounted x i y := by
  have hslot : (!(m.inSlot && m.air.on && m.air.phase == 4 && m.isActive && !m.dam.burst && m.laneServed x && m.slotKind == kUP) ||
      m.air.heard.contains x || m.air.counted.contains x) = false := by
    simp only [h.slot, h.on, h.phase, h.active, h.calm, h.served, h.kind, h.unheard, hc]
    rfl
  unfold uplinkMissed Mach.missCounted
  simp only [hslot, hplan, hy, hp, hm, Option.any_none, Bool.false_and, Bool.or_self, Bool.false_eq_true, if_false]

/-! ### Three uplinks missed in sequence (R149, R280) -/

section Silent

variable (i : Nat)

theorem Mach.agentSilent_keeps {α : Type} {g : Mach → α} (h : KilnFree g) (ht : ∀ (x : Mach) (t : AirTab), g (x.setTab t) = g x) :
    g (m.agentSilent i) = g m :=
  (KilnFree.setStore _ h _).trans ((ht _ _).trans (KilnFree.withdrawPark _ h i 2 noRes))

theorem Mach.agentSilent_agent : (m.agentSilent i).agent i = { m.agent i with state := 3, silentAt := m.now } := by
  have hnow : (m.withdrawPark i 2).now = m.now :=
    m.withdrawPark_keeps i 2 noRes Mach.now (fun _ => rfl) (fun _ => rfl) fun x _ => congrArg IntcSt.ticks (x.event_intc _ _ _ _)
  refine (KilnStore.withAgent_agent _ _ _).trans ?_
  change { (m.withdrawPark i 2).agent i with state := 3, silentAt := (m.withdrawPark i 2).now } = _
  rw [Mach.withdrawPark_agent, hnow]

theorem Mach.agentSilent_agent_ne {j : Nat} (h : j ≠ i) : (m.agentSilent i).agent j = m.agent j :=
  (KilnStore.withAgent_agent_ne _ _ _ h).trans (m.withdrawPark_agent i 2 noRes j)

theorem kilnFree_silentCount : KilnFree (fun x => x.r AIR_SILENT_CNT_ALL) :=
  { calm_field AIR_SILENT_CNT_ALL 0 (by unfold quietOff; decide) with
    w := kept_field AIR_SILENT_CNT_ALL 0 parkFields (by decide), kiln := fun _ _ => rfl }

/-- An ADMITTED agent becomes SILENT. -/
theorem Mach.thirdMiss_admitted (h : (m.agent i).state = 2) : m.thirdMiss i =
    ((m.agentSilent i).inc AIR_SILENT_CNT_ALL).event 0x0303 2 12 (le 2 (m.refOf i)) := by
  simp [Mach.thirdMiss, h]

theorem Mach.thirdMiss_joined (h : (m.agent i).state = 1) : m.thirdMiss i = m.quarantine i 2 := by
  simp [Mach.thirdMiss, h]

variable {i} (h : (m.agent i).state = 2)
include h

theorem Mach.thirdMiss_agent (j : Nat) : (m.thirdMiss i).agent j = (m.agentSilent i).agent j := by
  rw [m.thirdMiss_admitted i h]
  exact Mach.agent_congr (congrArg KilnSt.store (Mach.event_kiln ..)) j

theorem Mach.thirdMiss_silentCount :
    (m.thirdMiss i).r AIR_SILENT_CNT_ALL = min (m.r AIR_SILENT_CNT_ALL + 1) 0xFFFFFFFF := by
  rw [m.thirdMiss_admitted i h, Mach.r_event _ _ _ _ _ _ _ _ (by unfold quietOff; decide),
    Mach.r_inc_same _ AIR_SILENT_CNT_ALL 0 (by decide), m.agentSilent_keeps i kilnFree_silentCount fun _ _ => rfl]
  rfl

end Silent

/-! ### Lane moves (R282, R284) -/

/-- Parts that agree beside their registers. -/
theorem Mach.eq_of_regs {a b : Mach} (h : ({ a with regs := [] } : Mach) = { b with regs := [] }) : a = { b with regs := a.regs } := by
  cases a
  cases b
  simpa using h

/-- The show of the tables writes registers only. -/
theorem Mach.airShow_eq : m.airShow = { m with regs := m.airShow.regs } :=
  Mach.eq_of_regs (Mach.airShow_keeps (g := fun x => ({ x with regs := [] } : Mach)) (kept_of_eq _ fun _ _ _ _ => rfl)
    (fun _ _ => rfl) m)

/-- A member's entry written and shown. -/
def Mach.withMember (m : Mach) (i : Nat) (y : Member) : Mach := (m.setMember i y).airShow

section Shown

variable (i : Nat) (y : Member)

theorem Mach.withMember_eq : m.withMember i y = { m with air := (m.withMember i y).air, regs := (m.withMember i y).regs } := by
  have hair : (m.withMember i y).air = (m.setMember i y).air := Mach.airShow_air _
  rw [hair]
  exact Mach.airShow_eq _

theorem Mach.withMember_same : (m.withMember i y).member i = some y := (Mach.airShow_member _ i).trans (m.setMember_same i y)

theorem Mach.withMember_other {j : Nat} (h : j ≠ i) : (m.withMember i y).member j = m.member j :=
  (Mach.airShow_member _ j).trans (m.setMember_other y h)

end Shown

section Move

variable {m} {d : Desc} {x : Member} {seat : Nat} (hs : m.starts 0x0303 d) (ht : m.takes .air = true) (ha : m.isActive = true)
  (hr : refOk (Descs.fld d 16 2) = true) (hlane : Descs.fld d 18 1 < 8) (hopen : m.laneOpen (Descs.fld d 18 1) = true)
  (hg : m.stale (Descs.fld d 16 2) = false) (hx : m.memberOf (Descs.fld d 16 2) = some x) (hne : x.lane ≠ Descs.fld d 18 1)
  (hseat : m.freeSeat (Descs.fld d 18 1) = some seat)
include ht ha hr hlane hopen hg hx hne hseat

/-- A move to another open lane with a free seat is refused only while one is under way. -/
theorem moveLane_checks : firstOf (m.airPre (!refOk (Descs.fld d 16 2) || Descs.fld d 18 1 > 7 || !m.laneOpen (Descs.fld d 18 1) ||
      (m.memberOf (Descs.fld d 16 2)).any (fun x => x.lane == Descs.fld d 18 1)) false ++
    [(m.stale (Descs.fld d 16 2), stSTALE_GENERATION), ((m.freeSeat (Descs.fld d 18 1)).isNone, 0x13),
      ((m.memberOf (Descs.fld d 16 2)).any (fun x => x.move.isSome), 0x14)]) = if x.move.isSome then some 0x14 else none := by
  have hfar : ¬ Descs.fld d 18 1 > 7 := by omega
  rw [m.airPre_passed (by simp [hr, hfar, hopen, hx, hne]) ht (.inr ha)]
  simp [firstOf, hg, hseat, hx]

include hs

theorem moveLane_begins (hm : x.move = none) : moveLane d m = m.withMember (refIdx (Descs.fld d 16 2))
    { x with move := some { d := d.as 0x0303, lane := Descs.fld d 18 1, seat := seat, asn := m.effectiveAsn } } := by
  have hpass := moveLane_checks (d := d.as 0x0303) ht ha hr hlane hopen hg hx hne hseat
  rw [hm] at hpass
  rw [moveLane, m.desc_starts _ d _ hs]
  dsimp only
  rw [hpass]
  simp only [Desc.as_fld, hx, hseat]
  rfl

theorem moveLane_underWay (hm : x.move.isSome = true) : moveLane d m = m.complete (d.as 0x0303) 0x14 := by
  have hfail := moveLane_checks (d := d.as 0x0303) ht ha hr hlane hopen hg hx hne hseat
  rw [if_pos hm] at hfail
  rw [moveLane, m.desc_starts _ d _ hs]
  dsimp only
  rw [hfail]

end Move

/-- An index with a membership that is no pending join is a member. -/
theorem Mach.memberOf_some {ref : Nat} {x : Member} (hx : m.member (refIdx ref) = some x) (hp : x.pending = false) :
    m.memberOf ref = some x := by
  simp [Mach.memberOf, hx, hp]

section Effective

variable {m} {i : Nat} {x : Member} {v : LaneMove} (hx : m.member i = some x) (hv : x.move = some v) (ho : v.open_ = false)
  (hs : m.inSlot = true)
include hx hv

theorem laneMoveEffective_early (h : m.asn < v.asn) : laneMoveEffective i m = m := by
  simp [laneMoveEffective, hx, hv, h]

include ho hs

theorem laneMoveEffective_acked (h : v.asn ≤ m.asn) (ha : v.acked = true) : laneMoveEffective i m = m.moveDone i x v := by
  simp [laneMoveEffective, hx, hv, ho, hs, ha, Nat.not_lt.mpr h]

theorem laneMoveEffective_unresolved (h : v.asn ≤ m.asn) (ha : v.acked = false) :
    laneMoveEffective i m = m.withMember i { x.moveExpired m.asn with move := some { v with open_ := true } } := by
  simp [laneMoveEffective, Mach.withMember, hx, hv, ho, hs, ha, Nat.not_lt.mpr h]

end Effective

theorem Mach.moveDone_member (i : Nat) (x : Member) (v : LaneMove) :
    (m.moveDone i x v).member i = some { x with lane := v.lane, seat := v.seat, move := none, heard := v.lane } := by
  unfold Mach.moveDone
  extract_lets seated told
  rw [Mach.airShow_member]
  refine (Mach.member_congr (congrArg (fun a => a.tab.members) ((Mach.complete_air ..).trans (Mach.event_air ..))) i).trans ?_
  exact m.setMember_same i _

/-! ### EVICT (R281, R286) -/

section Evict

variable {m} {d : Desc} {x : Member} (hs : m.starts 0x0304 d) (ht : m.takes .air = true) (ha : m.isActive = true)
  (hr : refOk (Descs.fld d 16 2) = true) (hg : m.stale (Descs.fld d 16 2) = false)
  (hx : m.memberOf (Descs.fld d 16 2) = some x)
include hs ht ha hr hg

theorem evict_refused (h : (m.agent (refIdx (Descs.fld d 16 2))).state ≠ 1) : evict d m = m.complete (d.as 0x0304) 0x15 := by
  rw [evict, m.desc_starts _ d _ hs]
  simp [m.airPre_passed (show (!refOk (Descs.fld d 16 2)) = false by simp [hr]) ht (.inr ha), firstOf, hg, h]

include hx

theorem evict_joined (h : (m.agent (refIdx (Descs.fld d 16 2))).state = 1) :
    evict d m = (m.quarantine (refIdx (Descs.fld d 16 2)) 4).complete (d.as 0x0304) stOK (le 1 0) := by
  rw [evict, m.desc_starts _ d _ hs]
  simp [m.airPre_passed (show (!refOk (Descs.fld d 16 2)) = false by simp [hr]) ht (.inr ha), firstOf, hg, hx, h]

end Evict

/-- Settles O37, clause by clause: a miss and the third in sequence, a move begun and come into effect, an eviction, quarantine. -/
theorem membersAreMissedMovedAndEvicted : Obligations.MembersAreMissedMovedAndEvicted := by
  unfold Obligations.MembersAreMissedMovedAndEvicted
  refine ⟨fun x s seat i y hslot hon hphase hact hcalm hserved hkind hheard hplan hy hp hm => ?missed,
    fun d s x seat hs ht ha => ?move, fun a s x v hx hv ho hslot => ?effective, fun d s x hs ht ha => ?evict,
    fun m i item hi hrise => ?quarantine⟩
  case missed =>
    intro c
    have h : s.m.UpUnheard x := ⟨hslot, hon, hphase, hact, hcalm, hserved, hkind, hheard⟩
    have hfirst := fun hc => uplinkMissed_first h hc hplan hy hp hm
    refine ⟨fun hc => s.on_same (uplinkMissed x) (s.m.uplinkMissed_again hc), fun hc hn => ?_, fun hc hn => ⟨?_, ?_, fun h2 => ?_,
      fun h1 => c.thirdMiss_joined i h1⟩⟩
    · exact s.on_eq (uplinkMissed x) _ ((hfirst hc).trans (if_neg (by simpa using hn)))
    · exact s.on_eq (uplinkMissed x) _ ((hfirst hc).trans (if_pos (by simp [hn])))
    · exact Mach.r_inc_same _ AIR_MISSED_UL_ALL 0 (by decide)
    · refine ⟨(c.thirdMiss_agent h2 i).trans (c.agentSilent_agent i), (c.thirdMiss_silentCount h2).trans ?_,
        fun j hj => (c.thirdMiss_agent h2 j).trans (c.agentSilent_agent_ne i hj)⟩
      rw [show c.r AIR_SILENT_CNT_ALL = s.m.r AIR_SILENT_CNT_ALL from Mach.r_w_apart _ _ _ _ _ 0 (by decide)]
  case move =>
    intro i lane hr hlane hopen hg hx hp hne hseat
    have hmem := s.m.memberOf_some hx hp
    refine ⟨fun hm => ⟨s.m.withMember i _, ?_, s.m.withMember_same i _, fun j hj => s.m.withMember_other i _ hj⟩, fun hm => ?_⟩
    · exact s.on_eq (moveLane d) _ ((moveLane_begins hs ht ha hr hlane hopen hg hmem hne hseat hm).trans (s.m.withMember_eq i _))
    · exact s.on_eq (moveLane d) _ (moveLane_underWay hs ht ha hr hlane hopen hg hmem hne hseat hm)
  case effective =>
    refine ⟨fun h => s.on_same (laneMoveEffective a) (laneMoveEffective_early hx hv h), fun h hk => ?_, fun h hk => ?_⟩
    · exact ⟨s.on_eq (laneMoveEffective a) _ (laneMoveEffective_acked hx hv ho hslot h hk), s.m.moveDone_member a x v⟩
    · refine ⟨s.m.withMember a _, ?_, s.m.withMember_same a _, fun j hj => s.m.withMember_other a _ hj⟩
      exact s.on_eq (laneMoveEffective a) _ ((laneMoveEffective_unresolved hx hv ho hslot h hk).trans (s.m.withMember_eq a _))
  case evict =>
    intro i hr hg hx hp
    have hmem := s.m.memberOf_some hx hp
    exact ⟨fun h => s.on_eq (evict d) _ (evict_joined hs ht ha hr hg hmem h),
      fun h => s.on_eq (evict d) _ (evict_refused hs ht ha hr hg h)⟩
  case quarantine =>
    exact ⟨(m.quarantine_member item hi hrise i).trans (if_pos rfl),
      fun j hj => (m.quarantine_member item hi hrise j).trans (if_neg hj)⟩

end Sys2Proof.Machine
end

section
/-! PROOFS. Join requests kept and decided (O36; 07, R238, R242; 08, R274, R275). -/

namespace Sys2Proof.Machine

open Sys2Proof

variable (m : Mach)

/-! ### Reception (R238, R248) -/

/-- A frame at its reception leaves the tables, Kiln and host memory. -/
theorem Mach.receive_keeps (rx : AirRx) (b : Bool) : (m.receive rx b).1.air.tab = m.air.tab ∧ (m.receive rx b).1.kiln = m.kiln ∧
    (m.receive rx b).1.hostMem = m.hostMem := by
  unfold Mach.receive
  split
  · exact ⟨rfl, rfl, rfl⟩
  · split
    · exact ⟨rfl, rfl, rfl⟩
    · dsimp only
      split <;> exact ⟨rfl, rfl, rfl⟩

theorem Mach.receive_deaf (rx : AirRx) : m.receive rx false = (m, none) := rfl

/-- On a lane where the unit does not listen a join request has no effect. -/
theorem Mach.joinRequest_deaf (rx : AirRx) (h : m.listenTx rx.lane = false) : joinRequest rx m = m := by
  unfold joinRequest
  rw [h, m.receive_deaf]
  dsimp only
  rw [ite_self]

/-- A request received by a unit that serves the slot is kept, and by another not. -/
theorem joinRequest_received {n : Mach} {rx : AirRx} {k : RxCopy} (h : m.receive rx (m.listenTx rx.lane) = (n, some k)) :
    joinRequest rx m = if n.asBase then
      { n with air := { n.air with joins := n.air.joins ++ [⟨rx.lane, k.tc, rx.bytes, rx.mic⟩] } } else n := by
  unfold joinRequest
  rw [h]
  dsimp only
  cases n.asBase <;> rfl

/-! ### The order of the decisions (R274) -/

section Two

variable {m} {a b : JoinTaken} (h : m.air.joins = [a, b])
include h

/-- Of two requests that of the lower lane is decided first, of one lane that received first. -/
theorem Mach.joinsTake_inOrder (hl : a.lane.val ≤ b.lane.val) :
    m.joinsTake = (({ m with air := { m.air with joins := [] } } : Mach).joinDecide a).joinDecide b := by
  have hsort : sortBy (fun a b => decide (a.lane.val < b.lane.val)) m.air.joins = [a, b] := by
    have hlt : ¬ b.lane < a.lane := Fin.not_lt.mpr hl
    simp [h, sortBy, insertBy, hlt]
  rw [Mach.joinsTake, hsort]
  rfl

theorem Mach.joinsTake_swapped (hl : b.lane.val < a.lane.val) :
    m.joinsTake = (({ m with air := { m.air with joins := [] } } : Mach).joinDecide b).joinDecide a := by
  have hsort : sortBy (fun a b => decide (a.lane.val < b.lane.val)) m.air.joins = [b, a] := by
    have hlt : b.lane < a.lane := hl
    simp [h, sortBy, insertBy, hlt]
  rw [Mach.joinsTake, hsort]
  rfl

end Two

/-! ### The response queued (R275) -/

@[simp] theorem Mach.airShow_nv : m.airShow.nv = m.nv :=
  Mach.airShow_keeps (kept_of_eq _ fun _ _ _ _ => rfl) (fun _ _ => rfl) m

/-- A response of the entry stands in the lane's queue; MRAM and the acknowledgements owed stay. -/
theorem Mach.queueResp_queues (x : Nat) (c : Cred) (nonce mcsMax : Nat) :
    (∃ r ∈ (m.queueResp x c nonce mcsMax).resps x,
      r.eui = c.eui ∧ r.jkey = c.key ∧ r.sends = 0 ∧ (c.blocked = true → r.result = 2)) ∧
    (m.queueResp x c nonce mcsMax).nv = m.nv ∧ (m.queueResp x c nonce mcsMax).air.acks = m.air.acks := by
  unfold Mach.queueResp
  split
  next b y hdraw =>
    have hy : { m with freeCtr := m.freeCtr + 1 } = y := congrArg Prod.snd hdraw
    clear hdraw
    extract_lets base place tab
    have hblocked : c.blocked = true → place.1 = 2 := fun h => by
      unfold place
      rw [if_pos h]
    clear_value place
    split
    extract_lets content r drop dropped queued joined
    have hjoined : joined.air.tab.resps = queued.air.tab.resps ∧ joined.nv = queued.nv ∧ joined.air.acks = queued.air.acks := by
      unfold joined
      split <;> exact ⟨rfl, rfl, rfl⟩
    obtain ⟨hresps, hnv, hacks⟩ := hjoined
    have hlist : joined.airShow.resps x = dropped.resps x ++ [r] := by
      unfold Mach.resps
      rw [Mach.airShow_air, hresps]
      exact Tabs.val_put_same ..
    rw [hlist, Mach.airShow_nv, Mach.airShow_air, hnv, hacks]
    subst hy
    exact ⟨⟨r, List.mem_append_right _ List.mem_cons_self, rfl, rfl, rfl, hblocked⟩, rfl, rfl⟩

/-! ### A request decided (R274) -/

theorem Mach.joinDecide_unknown {j : JoinTaken} (h : m.cred (leAt j.bytes 6 8) = none) :
    m.joinDecide j = m.inc AIR_JOIN_REJECT_ALL := by
  simp [Mach.joinDecide, h]

section Known

variable {m} {j : JoinTaken} {n : Nat} {c : Cred} (h : m.cred (leAt j.bytes 6 8) = some (n, c))
include h

theorem Mach.joinDecide_rejected (hok : m.joinOk j c = false) : m.joinDecide j = m.inc AIR_JOIN_REJECT_ALL := by
  simp [Mach.joinDecide, h, hok]

theorem Mach.joinDecide_taken (hok : m.joinOk j c = true) : m.joinDecide j =
    ((m.setCred n { c with ctr := leAt j.bytes 22 4 }).oweAck ⟨j.lane, c.key, j.tc, false⟩).queueResp j.lane c
      (leAt j.bytes 26 8) (leAt j.bytes 34 1) := by
  simp [Mach.joinDecide, h, hok]

/-- What a request taken leaves: its response queued, its counter stored, its acknowledgement owed. -/
theorem Mach.joinDecide_queues (hok : m.joinOk j c = true) :
    (∃ r ∈ (m.joinDecide j).resps j.lane, r.eui = c.eui ∧ r.jkey = c.key ∧ r.sends = 0 ∧ (c.blocked = true → r.result = 2)) ∧
    (m.joinDecide j).nv = (m.setCred n { c with ctr := leAt j.bytes 22 4 }).nv ∧
    (m.joinDecide j).air.acks = m.air.acks ++
      (if m.b DAMP_STATUS_GATE || !m.isActive then [] else [⟨j.lane, c.key, j.tc, false⟩]) := by
  have hqueues := Mach.queueResp_queues ((m.setCred n { c with ctr := leAt j.bytes 22 4 }).oweAck ⟨j.lane, c.key, j.tc, false⟩) j.lane c
    (leAt j.bytes 26 8) (leAt j.bytes 34 1)
  rw [← Mach.joinDecide_taken h hok, Mach.oweAck_eq] at hqueues
  exact hqueues

end Known

theorem Mach.joinOk_iff (j : JoinTaken) (c : Cred) : m.joinOk j c = true ↔ m.slotKind = kJOIN ∧ m.b AIR_JOIN_CTRL_JOIN_OPEN = true ∧
    m.joinForm j = true ∧ j.mic = some (c.key, airNonce m.asn euiSrc j.lane 0) ∧ c.ctr < leAt j.bytes 22 4 ∧
    (m.resps j.lane).length < 16 := by
  simp [Mach.joinOk, and_assoc]

end Sys2Proof.Machine
end

section
/-! PROOFS. Joins completed, session ACKs, and the time limits of joins (O36; 08, R278, R281, R282; 09, R298, R303). -/

namespace Sys2Proof.Machine

open Sys2Proof

variable (m : Mach)

/-! ### The ACK of a robot (R278, R298) -/

/-- On a lane where the unit does not listen an ACK has no effect. -/
theorem Mach.robotAck_deaf (rx : AirRx) (h : m.listenAck rx.lane = false) : robotAck rx m = m := by
  simp [robotAck, h, m.receive_deaf]

/-- A member whose join a response completes. -/
def Member.joinedBy (y : Member) (r : JoinResp) (now : Int) (mcs : Nat) : Member :=
  { y with key := r.skey, pending := false, joined := now, missed := 0, mcsMax := r.mcsMax, mcs := mcs, failRun := 0, okRun := 0,
           downDsn := 0, nextDsn := 0, upDsn := none, txn := none }

/-- An index that was FREE becomes JOINED at the ACTIVE unit. -/
def Mach.freeJoined (m : Mach) (i : Nat) : Mach :=
  if (m.agent i).state == 0 && m.isActive then m.setStore (m.kiln.store.withAgent i { m.agent i with state := 1 }) else m

section Index

variable (i : Nat)

theorem Mach.freeJoined_air : (m.freeJoined i).air = m.air := by
  unfold Mach.freeJoined
  split <;> rfl

theorem Mach.freeJoined_state (ha : m.isActive = true) :
    ((m.freeJoined i).agent i).state = if (m.agent i).state = 0 then 1 else (m.agent i).state := by
  unfold Mach.freeJoined
  rw [ha, Bool.and_true]
  by_cases h : (m.agent i).state = 0
  · rw [if_pos (by simpa using h), if_pos h, Mach.setStore_agent, KilnStore.withAgent_agent]
  · rw [if_neg (by simpa using h), if_neg h]

theorem Mach.freeJoined_agent_ne {j : Nat} (h : j ≠ i) : (m.freeJoined i).agent j = m.agent j := by
  unfold Mach.freeJoined
  split
  · exact KilnStore.withAgent_agent_ne _ _ _ h
  · rfl

end Index

/-- The part with a join complete: the member's entry, then its index. -/
def Mach.joinWritten (m : Mach) (x : Nat) (r : JoinResp) (y : Member) : Mach :=
  ((m.dropResp x r).setMember r.idx (y.joinedBy r m.now (m.mcsStart r.mcsMax))).freeJoined r.idx

section Complete

variable {m} {x : Nat} {r : JoinResp} {y : Member} (h0 : r.result = 0) (hy : m.member r.idx = some y)
include h0 hy

/-- A join complete is counted, posted and shown. -/
theorem Mach.joinComplete_eq : m.joinComplete x r = (((m.joinWritten x r y).inc AIR_JOIN_DONE_ALL).event 0x0301 1 12
    (le 2 (((m.joinWritten x r y).inc AIR_JOIN_DONE_ALL).refOf r.idx) ++ le 1 y.lane ++ le 1 y.seat ++ le 8 y.eui)).airShow := by
  have hmem : (m.dropResp x r).member r.idx = some y := hy
  simp only [Mach.joinComplete, h0, hmem, bne_self_eq_false, Bool.false_eq_true, if_false]
  rfl

theorem Mach.joinComplete_air :
    (m.joinComplete x r).air = ((m.dropResp x r).setMember r.idx (y.joinedBy r m.now (m.mcsStart r.mcsMax))).air := by
  rw [Mach.joinComplete_eq h0 hy, Mach.airShow_air, Mach.event_air, Mach.inc_air]
  exact Mach.freeJoined_air _ r.idx

theorem Mach.joinComplete_agent (j : Nat) : (m.joinComplete x r).agent j = (m.joinWritten x r y).agent j := by
  rw [Mach.joinComplete_eq h0 hy]
  refine Mach.agent_congr (congrArg KilnSt.store ?_) j
  rw [Mach.airShow_kiln, Mach.event_kiln, Mach.inc_kiln]

/-- The member whose join is complete, and every other. -/
theorem Mach.joinComplete_same : (m.joinComplete x r).member r.idx = some (y.joinedBy r m.now (m.mcsStart r.mcsMax)) :=
  (Mach.member_congr (congrArg (fun a => a.tab.members) (Mach.joinComplete_air h0 hy)) _).trans (Mach.setMember_same ..)

theorem Mach.joinComplete_other {j : Nat} (h : j ≠ r.idx) : (m.joinComplete x r).member j = m.member j :=
  (Mach.member_congr (congrArg (fun a => a.tab.members) (Mach.joinComplete_air h0 hy)) _).trans (Mach.setMember_other _ _ h)

end Complete

/-- An acknowledged unicast frame leaves nothing outstanding. -/
theorem Mach.uniAcked_member (i : Nat) (x : Member) (u : Unicast) : ∃ z, m.uniAcked i x u = m.setMember i z ∧
    z.sent = none ∧ z.failRun = 0 ∧ z.lane = x.lane ∧ z.seat = x.seat ∧ (x.move = none → z.move = none) := by
  unfold Mach.uniAcked
  extract_lets ok up mcs mv y z
  have hmv : x.move = none → mv = none := fun h => by
    unfold mv
    rw [h]
    rfl
  refine ⟨z, rfl, ?_⟩
  unfold z
  split <;> exact ⟨rfl, rfl, rfl, rfl, hmv⟩

section Answer

variable {m} {n : Mach} {rx : AirRx} {k : RxCopy} (h : m.receive rx (m.listenAck rx.lane) = (n, some k)) (ha : n.isActive = true)
include h ha

/-- The ACK of an accepted join completes it, and the robot is heard. -/
theorem robotAck_joins {r : JoinResp} (hw : n.respWaits rx.lane = some r) (h0 : r.result = 0) (hf : joinAckForm rx.bytes = true)
    (hmic : rx.mic = some (r.jkey, airNonce n.asn euiSrc rx.lane 1)) : robotAck rx m = (n.joinComplete rx.lane r).hearRobot r.idx
      ((((n.joinComplete rx.lane r).member r.idx).map (fun y => y.lane)).getD rx.lane) := by
  have hbase : n.asBase = true := by simp [Mach.asBase, ha]
  have hok : n.micOk rx r.jkey euiSrc 1 = true := by simp [Mach.micOk, hmic]
  simp only [robotAck, h, hbase, hw, hf, hok, h0, Option.isNone_some, Bool.not_true, Bool.or_self, Bool.and_self, Bool.false_eq_true,
    if_false, if_true, beq_self_eq_true]

theorem robotAck_session {i : Nat} {x : Member} {u : Unicast} (hw : n.respWaits rx.lane = none)
    (hu : n.uniWaits rx.lane = some (i, x, u)) (hf : sessionAckForm rx.bytes = true)
    (hmic : rx.mic = some (x.key, airNonce n.asn (n.refOf i) rx.lane 1)) :
    robotAck rx m = ((n.uniAcked i x u).hearRobot i rx.lane).airShow := by
  have hbase : n.asBase = true := by simp [Mach.asBase, ha]
  have hok : n.micOk rx x.key (n.refOf i) 1 = true := by simp [Mach.micOk, hmic]
  simp only [robotAck, h, hbase, hw, hu, hf, hok, Option.isNone_some, Bool.not_true, Bool.or_self, Bool.and_self, Bool.false_eq_true,
    if_false, if_true]

end Answer

/-! ### Time limits (R278, R281) -/

/-- The response of an EUI-64 on a lane whose first send is 2 s old. -/
def Mach.respLate (m : Mach) (x eui : Nat) : Option JoinResp :=
  (m.resps x).find? (fun r => r.eui == eui && r.firstAt.any (fun t => t + 2000 ≤ (m.now : Int)))

theorem Mach.joinTimeout_early {x eui : Nat} (h : m.respLate x eui = none) : joinTimeout x eui m = m := by
  unfold Mach.respLate at h
  simp [joinTimeout, h]

/-- A new join that its robot has not acknowledged fails. -/
theorem Mach.joinTimeout_pending {x eui : Nat} {r : JoinResp} {y : Member} (h : m.respLate x eui = some r) (h0 : r.result = 0)
    (hy : m.member r.idx = some y) (hp : y.pending = true) :
    joinTimeout x eui m = ((m.dropResp x r).inc AIR_JOIN_FAIL_ALL).quarantine r.idx 3 := by
  have hmem : ((m.dropResp x r).inc AIR_JOIN_FAIL_ALL).member r.idx = some y := hy
  unfold Mach.respLate at h
  simp only [joinTimeout, h, h0, hmem, hp, bne_self_eq_false, Bool.false_eq_true, if_false, if_true]

section Admission

variable {m} {i : Nat} {x : Member} (hx : m.member i = some x) (hp : x.pending = false)
include hx

theorem admissionTimeout_early (h : (m.agent i).state ≠ 1 ∨ (m.now : Int) < x.joined + 1000 * m.r AIR_JOIN_CFG_ADMIT_S) :
    admissionTimeout i m = m := by
  unfold admissionTimeout
  rw [hx]
  obtain h | h := h <;> simp [h]

include hp

theorem admissionTimeout_due (h1 : (m.agent i).state = 1) (h : x.joined + 1000 * m.r AIR_JOIN_CFG_ADMIT_S ≤ (m.now : Int)) :
    admissionTimeout i m = m.quarantine i 1 := by
  simp [admissionTimeout, hx, hp, h1, h]

end Admission

end Sys2Proof.Machine
end


section
/-! PROOFS. O36 is settled. -/

namespace Sys2Proof.Machine

open Sys2Proof

/-- Settles O36: a request is kept, then taken under its conditions or rejected; an ACK completes the join or ends what is outstanding;
a time limit past ends in quarantine. -/
theorem joinsAreAnsweredAndCompleted : Obligations.JoinsAreAnsweredAndCompleted := by
  unfold Obligations.JoinsAreAnsweredAndCompleted
  refine ⟨fun rx s => ⟨fun h => s.on_same (joinRequest rx) (s.m.joinRequest_deaf rx h), fun k hk => ?request⟩,
    fun m a b h => ⟨fun hl => Mach.joinsTake_inOrder h hl, fun hl => Mach.joinsTake_swapped h hl⟩,
    fun m j => ⟨fun h => m.joinDecide_unknown h, fun n c h => ⟨fun hkind hopen hform hmic hctr hroom => ?taken, fun hbad => ?rejected⟩⟩,
    fun rx s => ⟨fun h => s.on_same (robotAck rx) (s.m.robotAck_deaf rx h), fun hk => ?ack⟩, fun x eui s => ?late,
    fun a s x hx hp => ⟨fun h1 h => s.on_eq (admissionTimeout a) _ (admissionTimeout_due hx hp h1 h),
      fun h => s.on_same (admissionTimeout a) (admissionTimeout_early hx h)⟩⟩
  case request =>
    intro m
    have h : s.m.receive rx (s.m.listenTx rx.lane) = (m, some k) := Prod.ext rfl hk
    clear_value m
    have hreq := joinRequest_received s.m h
    exact ⟨fun hb => s.on_eq (joinRequest rx) _ (hreq.trans (if_neg (by simp [hb]))),
      fun hb => s.on_eq (joinRequest rx) _ (hreq.trans (if_pos hb))⟩
  case taken =>
    intro t
    obtain ⟨hresp, hnv, hacks⟩ := Mach.joinDecide_queues h ((m.joinOk_iff j c).mpr ⟨hkind, hopen, hform, hmic, hctr, hroom⟩)
    obtain ⟨hkiln, hdam, hhost⟩ := Mach.of_homes ((joinFree_homes _).joinDecide (fun _ he => he) m j)
    have hlook : ∀ k, Tabs.look t.nv.set.creds k =
        Tabs.look (Tabs.put m.nv.set.creds n { c with ctr := leAt j.bytes 22 4 }) k :=
      fun k => congrArg (fun v : NvSt => Tabs.look v.set.creds k) hnv
    exact ⟨(hlook n).trans (Tabs.look_put_same ..), fun k hk => (hlook k).trans (Tabs.look_put_ne _ _ hk), hacks, hresp, hkiln, hhost,
      hdam⟩
  case rejected =>
    refine Mach.joinDecide_rejected h (Bool.eq_false_iff.mpr fun hok => ?_)
    obtain ⟨hkind, hopen, hform, hmic, hctr, hroom⟩ := (m.joinOk_iff j c).mp hok
    obtain hbad | hbad | hbad | hbad | hbad | hbad := hbad
    · exact hbad hkind
    · exact absurd hopen (by simp [hbad])
    · exact absurd hform (by simp [hbad])
    · exact hbad hmic
    · exact absurd hctr (Nat.not_lt.mpr hbad)
    · exact absurd hroom (Nat.not_lt.mpr hbad)
  case ack =>
    intro m hact
    obtain ⟨k, hk⟩ := Option.isSome_iff_exists.mp hk
    have h : s.m.receive rx (s.m.listenAck rx.lane) = (m, some k) := Prod.ext rfl hk
    obtain ⟨htab, hkiln, hhost⟩ : m.air.tab = s.m.air.tab ∧ m.kiln = s.m.kiln ∧ m.hostMem = s.m.hostMem := s.m.receive_keeps rx _
    clear_value m
    have hmem : ∀ j, m.member j = s.m.member j := Mach.member_congr (congrArg AirTab.members htab)
    have hagent : ∀ j, m.agent j = s.m.agent j := Mach.agent_congr (congrArg KilnSt.store hkiln)
    refine ⟨fun r y hw h0 hf hmic hy hm => ?_, fun i x u hw hu hf hmic hm => ?_⟩
    · have hy' : m.member r.idx = some y := (hmem _).trans hy
      have hstate := fun j => Mach.joinComplete_agent (x := rx.lane) h0 hy' j
      have hstill := Mach.hearRobot_still _ (Mach.joinComplete_same (x := rx.lane) h0 hy') hm
      refine ⟨_, _, s.on_eq (robotAck rx) _ ((robotAck_joins h hact hw h0 hf hmic).trans (hstill _)), Mach.setMember_same .., rfl, rfl,
        rfl, rfl, rfl, ?_, fun j hj => ⟨?_, ?_⟩⟩
      · rw [← hagent]
        exact (congrArg Agent.state (hstate _)).trans (Mach.freeJoined_state _ _ hact)
      · exact (Mach.setMember_other _ _ hj).trans ((Mach.joinComplete_other h0 hy' hj).trans (hmem j))
      · exact (hstate j).trans ((Mach.freeJoined_agent_ne _ _ hj).trans (hagent j))
    · obtain ⟨z, hz, hsent, hfail, hlane, hseat, hstay⟩ := m.uniAcked_member i x u
      have hstill := (m.setMember i z).hearRobot_still (m.setMember_same i z) (hstay hm) rx.lane
      have hexec := robotAck_session h hact hw hu hf hmic
      rw [hz, hstill] at hexec
      refine ⟨_, z.heardOn rx.lane, s.on_eq (robotAck rx) _ hexec, ?_, hsent, hfail, rfl, hlane, hseat, fun j hj => ?_, ?_, ?_⟩
      · rw [Mach.airShow_member, Mach.setMember_same]
      · rw [Mach.airShow_member, Mach.setMember_other _ _ hj, Mach.setMember_other _ _ hj, hmem]
      · rw [Mach.airShow_kiln]
        exact hkiln
      · rw [Mach.airShow_hostMem]
        exact hhost
  case late =>
    exact ⟨fun h => s.on_same (joinTimeout x eui.toNat) (s.m.joinTimeout_early h),
      fun r y h h0 hy hp => s.on_eq (joinTimeout x eui.toNat) _ (s.m.joinTimeout_pending h h0 hy hp)⟩

end Sys2Proof.Machine
end

section
/-! PROOFS. The task ledger (09, R310 to R318): what a change of state and an offer write in it, and what statuses do to an entry. -/

namespace Sys2Proof.Machine

open Sys2Proof

variable (m : Mach)

/-! ### Ledger entries -/

@[simp] theorem Mach.setTask_ledger (e : Nat) (t : Task) : (m.setTask e t).air.tab.ledger = Tabs.put m.air.tab.ledger e t := rfl
@[simp] theorem Mach.setMember_ledger (i : Nat) (x : Member) : (m.setMember i x).air.tab.ledger = m.air.tab.ledger := rfl

/-- An entry after a change of state (R311, R312, R318). -/
def Task.moved (t : Task) (m : Mach) (st : TaskState) (reason : Nat) : Task :=
  let was := t.state == .offered
  { t with state := st, reason := reason, pt := m.pt, payload := if was then [] else t.payload, d := none,
           doneDue := if st == .accepted && t.doneS != 0 then some (m.now + 1000 * t.doneS)
                      else if st == .started then t.doneDue else none,
           fromOffer := st == .timedOut && was, since := m.now, leftOffer := if was then m.now else t.leftOffer }

/-- A change of state writes the moved entry, and no other. -/
theorem Mach.taskMove_ledger (e : Nat) (t : Task) (st : TaskState) (reason : Nat) :
    (m.taskMove e t st reason).air.tab.ledger = Tabs.put m.air.tab.ledger e (t.moved m st reason) := by
  unfold Mach.taskMove
  extract_lets was t' set posted dropped
  have hposted : posted.air.tab.ledger = Tabs.put m.air.tab.ledger e t' := by simp [posted, set]
  have hdropped : dropped.air.tab.ledger = posted.air.tab.ledger := by
    unfold dropped
    split
    · split <;> rfl
    · rfl
  split
  · rw [Mach.complete_air, hdropped, hposted]
    rfl
  · exact hdropped.trans hposted

/-- A TIMED_OUT entry keeps whether it ran out of its offer's time, unanswered (R312). -/
theorem Task.moved_fromOffer (t : Task) (reason : Nat) : (t.moved m .timedOut reason).fromOffer = true ↔ t.state = .offered := by
  simp [Task.moved]

/-- The entry of an offer (R310, R312). -/
def Mach.offerTask (d : Desc) (late : Bool) : Task :=
  { id := Descs.fld d 20 4, ref := Descs.fld d 16 2, state := .offered, reason := 0, pt := m.pt, late := late,
    payload := (m.bufRd d).take (Descs.fld d 24 2), d := some d, offerDue := m.now + 1000 * m.offerS d, doneS := Descs.fld d 28 2,
    doneDue := none, fromOffer := false, since := m.now, leftOffer := 0 }

/-- An offer writes its entry, and no other. -/
theorem Mach.offerInto_ledger (e : Nat) (d : Desc) (late : Bool) :
    (m.offerInto e d late).air.tab.ledger = Tabs.put m.air.tab.ledger e (m.offerTask d late) := by
  unfold Mach.offerInto
  extract_lets ref id payload t set queued
  have hqueued : queued.air.tab.ledger = set.air.tab.ledger := by
    unfold queued
    split <;> rfl
  rw [Mach.airShow_air, Mach.event_air, hqueued]
  rfl

@[simp] theorem Mach.offerInto_kiln (e : Nat) (d : Desc) (late : Bool) : (m.offerInto e d late).kiln = m.kiln := by
  unfold Mach.offerInto
  dsimp only
  rw [Mach.airShow_kiln, Mach.event_kiln]
  split <;> rfl

/-! ### Time limits (R312) -/

section Limits

variable {m} {e : Nat} {t : Task} (ht : Tabs.look m.air.tab.ledger e = some t)
include ht

theorem taskOfferTimeout_due (ho : t.state = .offered) (h : t.offerDue ≤ m.now) :
    taskOfferTimeout e m = (m.taskMove e t .timedOut t.reason).airShow := by
  simp [taskOfferTimeout, ht, ho, h]

theorem taskOfferTimeout_idle (h : t.state ≠ .offered ∨ m.now < t.offerDue) : taskOfferTimeout e m = m := by
  have hno : ¬ (t.state = .offered ∧ t.offerDue ≤ m.now) := by
    rintro ⟨ho, hdue⟩
    obtain h | h := h
    · exact h ho
    · omega
  simp [taskOfferTimeout, ht, hno]

theorem taskDoneTimeout_due {u : Int} (ha : t.state = .accepted ∨ t.state = .started) (hd : t.doneDue = some u) (h : u ≤ m.now) :
    taskDoneTimeout e m = (m.taskMove e t .timedOut t.reason).airShow := by
  simp [taskDoneTimeout, ht, ha, hd, h]

/-- A limit still to come has no effect, nor has none at all. -/
theorem taskDoneTimeout_idle (h : ∀ u, t.doneDue = some u → m.now < u) : taskDoneTimeout e m = m := by
  have hno : t.doneDue.any (fun u => decide (u ≤ (m.now : Int))) = false := by
    cases hd : t.doneDue with
    | none => rfl
    | some u => simpa using h u hd
  simp [taskDoneTimeout, ht, hno]

end Limits

/-! ### Statuses of a robot (R311, R315) -/

section Status

variable {m} {ref id reason e : Nat} {t : Task}

/-- A status of an entry's own robot goes to the entry. -/
theorem Mach.statusIe_own (ht : m.taskOf id = some (e, t)) (hr : t.ref = ref) (code : Nat) :
    m.statusIe ref code id reason = m.taskStatus e t code reason := by
  simp [Mach.statusIe, ht, hr]

theorem Mach.taskStatus_accepts (ho : t.state = .offered) : m.taskStatus e t 1 reason = m.taskTo e .accepted 0 false := by
  simp [Mach.taskStatus, statusState, ho]

theorem Mach.taskStatus_refuses (ho : t.state = .offered) : m.taskStatus e t 5 reason = m.taskTo e .failed reason false := by
  simp [Mach.taskStatus, statusState, ho]

theorem Mach.taskStatus_starts (ha : t.state = .accepted) : m.taskStatus e t 2 reason = m.taskTo e .started 0 false := by
  simp [Mach.taskStatus, statusState, taskRank, ha]

theorem Mach.taskStatus_ends (ha : t.state = .accepted) : m.taskStatus e t 3 reason = m.taskTo e .done 0 false := by
  simp [Mach.taskStatus, statusState, taskRank, ha]

/-- ACCEPTED once more changes nothing. -/
theorem Mach.taskStatus_again (ha : t.state = .accepted) : m.taskStatus e t 1 reason = m := by
  simp [Mach.taskStatus, statusState, ha]

end Status

end Sys2Proof.Machine
end

section
/-! PROOFS. The task descriptors (09, R310, R313, R317), and the statement of O40. -/

namespace Sys2Proof.Machine

open Sys2Proof

variable {m : Mach} {d : Desc}

/-! ### TASK_OFFER -/

/-- An offer of a payload within its buffer, to a member (R310). -/
structure Mach.Offers (m : Mach) (d : Desc) : Prop where
  takes : m.takes .air = true
  active : m.isActive = true
  ref : refOk (Descs.fld d 16 2) = true
  id : Descs.fld d 20 4 ≠ 0
  someBytes : 0 < Descs.fld d 24 2
  atMost : Descs.fld d 24 2 ≤ 1024
  buf : Descs.buf d = true
  within : Descs.fld d 24 2 ≤ Descs.len d
  limit : Descs.fld d 26 2 ≤ 600
  fresh : m.stale (Descs.fld d 16 2) = false
  member : (m.memberOf (Descs.fld d 16 2)).isSome = true

section Offer

variable (h : m.Offers d)
include h

/-- An offer stays one with its opcode written. -/
theorem Mach.Offers.as (op : Nat) : m.Offers (d.as op) :=
  ⟨h.takes, h.active, h.ref, h.id, h.someBytes, h.atMost, h.buf, h.within, h.limit, h.fresh, h.member⟩

/-- Such an offer is refused only for a TASK_ID of another agent, or a new one without a place. -/
theorem Mach.Offers.checks : firstOf (m.airPre (!refOk (Descs.fld d 16 2) || Descs.fld d 20 4 == 0 || Descs.fld d 24 2 == 0 ||
      Descs.fld d 24 2 > 1024 || !Descs.buf d || Descs.len d < Descs.fld d 24 2 || Descs.fld d 26 2 > 600) false ++
    [(m.stale (Descs.fld d 16 2), stSTALE_GENERATION), ((m.memberOf (Descs.fld d 16 2)).isNone, 0x15),
      ((m.taskOf (Descs.fld d 20 4)).any (fun e => e.2.ref != Descs.fld d 16 2), 0x18),
      ((m.taskOf (Descs.fld d 20 4)).isNone && m.ledgerPlace.isNone, stQUEUE_FULL)]) =
    firstOf [((m.taskOf (Descs.fld d 20 4)).any (fun e => e.2.ref != Descs.fld d 16 2), 0x18),
      ((m.taskOf (Descs.fld d 20 4)).isNone && m.ledgerPlace.isNone, stQUEUE_FULL)] := by
  have hmember : (m.memberOf (Descs.fld d 16 2)).isNone = false := Option.isNone_eq_false_iff.mpr h.member
  rw [m.airPre_passed (by simp [h.ref, h.id, Nat.ne_of_gt h.someBytes, h.atMost, h.buf, h.within, h.limit]) h.takes (.inr h.active),
    firstOf, h.fresh, hmember]
  rfl

variable (hs : m.starts 0x0310 d)
include hs

theorem taskOffer_new {p : Nat} (ht : m.taskOf (Descs.fld d 20 4) = none) (hp : m.ledgerPlace = some p) :
    taskOffer d m = m.offerInto p (d.as 0x0310) false := by
  rw [taskOffer, m.desc_starts _ d _ hs]
  dsimp only
  rw [(h.as _).checks]
  simp only [Desc.as_fld, ht, hp]
  rfl

/-- A TASK_ID of the same agent is offered again only where its entry ran out of the offer's time. -/
theorem taskOffer_known {p : Nat} {t : Task} (ht : m.taskOf (Descs.fld d 20 4) = some (p, t)) (hr : t.ref = Descs.fld d 16 2) :
    taskOffer d m = if t.state == .timedOut && t.fromOffer then m.offerInto p (d.as 0x0310) t.late
      else m.complete (d.as 0x0310) stOK (taskRes t true) := by
  rw [taskOffer, m.desc_starts _ d _ hs]
  dsimp only
  rw [(h.as _).checks]
  simp [firstOf, ht, hr]

theorem taskOffer_full (ht : m.taskOf (Descs.fld d 20 4) = none) (hp : m.ledgerPlace = none) :
    taskOffer d m = m.complete (d.as 0x0310) stQUEUE_FULL := by
  rw [taskOffer, m.desc_starts _ d _ hs]
  dsimp only
  rw [(h.as _).checks]
  simp only [Desc.as_fld, ht, hp]
  rfl

end Offer

/-! ### TASK_QUERY and TASK_FORGET -/

/-- A descriptor of the ledger without checks of its own passes in an ACTIVE unit. -/
theorem Mach.airPre_none (ht : m.takes .air = true) (ha : m.isActive = true) : firstOf (m.airPre false false) = none := by
  simpa [firstOf] using m.airPre_passed rfl ht (.inr ha) []

/-- The ledger without an entry, and the registers that show it. -/
def Mach.forgetTask (m : Mach) (e : Nat) : Mach :=
  (m.setTab { m.air.tab with ledger := Tabs.del m.air.tab.ledger e }).airShow

theorem Mach.forgetTask_ledger (m : Mach) (e : Nat) : (m.forgetTask e).air.tab.ledger = Tabs.del m.air.tab.ledger e :=
  congrArg (fun a => a.tab.ledger) (Mach.airShow_air _)

theorem Mach.forgetTask_kiln (m : Mach) (e : Nat) : (m.forgetTask e).kiln = m.kiln := Mach.airShow_kiln _

variable {p : Nat} {t : Task} (hpass : m.takes .air = true) (ha : m.isActive = true)
include hpass ha

section Query

variable (hs : m.starts 0x0311 d)
include hs

theorem taskQuery_known (ht : m.taskOf (Descs.fld d 20 4) = some (p, t)) :
    taskQuery d m = m.complete (d.as 0x0311) stOK (taskRes t false ++ le 2 t.ref) := by
  rw [taskQuery, m.desc_starts _ d _ hs]
  simp only [Desc.as_fld, Mach.airPre_none hpass ha, ht]

theorem taskQuery_unknown (ht : m.taskOf (Descs.fld d 20 4) = none) : taskQuery d m = m.complete (d.as 0x0311) 0x1B := by
  rw [taskQuery, m.desc_starts _ d _ hs]
  simp only [Desc.as_fld, Mach.airPre_none hpass ha, ht]

end Query

section Forget

variable (hs : m.starts 0x0312 d) (ht : m.taskOf (Descs.fld d 20 4) = some (p, t))
include hs ht

theorem taskForget_final (hf : t.state = .done ∨ t.state = .failed ∨ t.state = .timedOut) :
    taskForget d m = (m.forgetTask p).complete (d.as 0x0312) stOK (le 1 0) := by
  rw [taskForget, m.desc_starts _ d _ hs]
  simp only [Desc.as_fld, Mach.airPre_none hpass ha, ht]
  exact if_pos (by simpa [or_assoc] using hf)

theorem taskForget_open (ho : t.state = .offered ∨ t.state = .accepted ∨ t.state = .started) :
    taskForget d m = m.complete (d.as 0x0312) 0x1C := by
  rw [taskForget, m.desc_starts _ d _ hs]
  simp only [Desc.as_fld, Mach.airPre_none hpass ha, ht]
  exact if_neg (by obtain ho | ho | ho := ho <;> simp [ho])

end Forget

end Sys2Proof.Machine
end

section
/-! PROOFS. O40 is settled. -/

namespace Sys2Proof.Machine

open Sys2Proof

/-- Settles O40: an offer and a change of state each write one entry, TASK_FORGET deletes one; queries, limits and statuses go by the
state of the entry found. -/
theorem tasksMoveThroughTheLedger : Obligations.TasksMoveThroughTheLedger := by
  unfold Obligations.TasksMoveThroughTheLedger
  refine ⟨fun d s hs ht ha => ?offer, fun d s hs ht ha => ⟨fun p t hk => ?known, fun hk => ?unknown⟩,
    fun d s p t hs ht ha hk => ⟨fun hf hrise => ?final, fun ho => ?open_⟩, fun e s t hk => ?limits, fun m e t st reason => ?move,
    fun m ref id reason e t hk hr => ?status⟩
  case offer =>
    intro ref id len e href hid hpos hmax hbuf hlen hlim hfresh hmem
    have h : s.m.Offers d := ⟨ht, ha, href, hid, hpos, hmax, hbuf, hlen, hlim, hfresh, hmem⟩
    refine ⟨fun p hn hp => ⟨s.on_eq (taskOffer d) _ (taskOffer_new h hs hn hp), s.m.offerTask e false, ?_, rfl, rfl, rfl, rfl, rfl, rfl,
      fun q hq => ?_, s.m.offerInto_kiln ..⟩, fun p t hk hr hlate => ?_, fun hn hp => ?_⟩
    · rw [Mach.offerInto_ledger, Tabs.look_put_same]
    · rw [Mach.offerInto_ledger, Tabs.look_put_ne _ _ hq]
    · exact s.on_eq (taskOffer d) _ ((taskOffer_known h hs hk hr).trans (if_neg (by simpa using hlate)))
    · exact s.on_eq (taskOffer d) _ (taskOffer_full h hs hn hp)
  case known => exact s.on_eq (taskQuery d) _ (taskQuery_known ht ha hs hk)
  case unknown => exact s.on_eq (taskQuery d) _ (taskQuery_unknown ht ha hs hk)
  case final =>
    have hlook : ∀ q, Tabs.look (s.m.forgetTask p).air.tab.ledger q = if q = p then none else Tabs.look s.m.air.tab.ledger q := by
      intro q
      rw [Mach.forgetTask_ledger, Tabs.look_del _ p q hrise]
    exact ⟨s.m.forgetTask p, s.on_eq (taskForget d) _ (taskForget_final ht ha hs hk hf), (hlook p).trans (if_pos rfl),
      fun q hq => (hlook q).trans (if_neg hq), s.m.forgetTask_kiln p⟩
  case open_ => exact s.on_eq (taskForget d) _ (taskForget_open ht ha hs hk ho)
  case limits =>
    exact ⟨fun ho hdue => s.on_eq (taskOfferTimeout e) _ (taskOfferTimeout_due hk ho hdue),
      fun h => s.on_same (taskOfferTimeout e) (taskOfferTimeout_idle hk h),
      fun u ha hd hdue => s.on_eq (taskDoneTimeout e) _ (taskDoneTimeout_due hk ha hd hdue),
      fun hd => s.on_same (taskDoneTimeout e) (taskDoneTimeout_idle hk (by simp [hd]))⟩
  case move =>
    refine ⟨t.moved m st reason, ?_, rfl, rfl, rfl, rfl, rfl, rfl, ?_, fun q hq => ?_, m.taskMove_kiln ..⟩
    · rw [Mach.taskMove_ledger, Tabs.look_put_same]
    · rintro rfl
      exact t.moved_fromOffer m reason
    · rw [Mach.taskMove_ledger, Tabs.look_put_ne _ _ hq]
  case status =>
    have hown := fun code => Mach.statusIe_own (reason := reason) hk hr code
    exact ⟨fun ho => ⟨(hown 1).trans (Mach.taskStatus_accepts ho), (hown 5).trans (Mach.taskStatus_refuses ho)⟩,
      fun ha => ⟨(hown 2).trans (Mach.taskStatus_starts ha), (hown 3).trans (Mach.taskStatus_ends ha),
        (hown 1).trans (Mach.taskStatus_again ha)⟩⟩

end Sys2Proof.Machine
end

section
/-! PROOFS. Antennas (10, R323): the condition an antenna shows, and the current read at a retry of its bias. -/

namespace Sys2Proof.Machine

open Sys2Proof

section Antenna

variable (m : Mach) (a : Fin 2) (ma : Nat)

/-- An antenna's two condition bits and its current share no bit, and stand outside what events write. -/
theorem antFields_apart : (antOpen a).apart 0 (antShort a) 0 = true ∧ (antOpen a).apart 0 (antMa a) 0 = true ∧
    (antShort a).apart 0 (antMa a) 0 = true := by decide +revert

theorem antFields_quiet : ∀ f ∈ [antOpen a, antShort a, antMa a], quietOff (f.off 0 0) := by
  unfold quietOff
  decide +revert

theorem antFields_width : (antOpen a).width = 1 ∧ (antOpen a).lo + (antOpen a).width ≤ 32 ∧ (antShort a).width = 1 ∧
    (antShort a).lo + (antShort a).width ≤ 32 ∧ (antMa a).width = 8 ∧ (antMa a).lo + (antMa a).width ≤ 32 := by decide +revert

/-- The current written reads as it was written. -/
theorem Mach.antMa_w (v : BitVec 8) : (m.w (antMa a) v.toNat).r (antMa a) = v.toNat := by
  obtain ⟨-, -, -, -, hw, h32⟩ := antFields_width a
  rw [m.r_w_same _ _ 0 0 h32, hw]
  exact Nat.mod_eq_of_lt v.isLt

theorem Mach.antShort_w_antMa : (m.w (antMa a) ma).b (antShort a) = m.b (antShort a) :=
  Mach.b_of_r (m.r_w_apart _ _ _ 0 0 (antFields_apart a).2.2)

theorem Mach.antCond_open (k : Nat) : (m.antCond a k ma).b (antOpen a) = (k == 1) := by
  obtain ⟨hs, hm, -⟩ := antFields_apart a
  obtain ⟨h1, h32, -⟩ := antFields_width a
  rw [Mach.antCond, Mach.b_event _ _ _ _ _ _ 0 0 (antFields_quiet a _ (by simp)), Mach.b_of_r (Mach.r_w_apart _ _ _ _ 0 0 hm)]
  exact (Mach.b_of_r (Mach.r_w_apart _ _ _ _ 0 0 hs)).trans (m.b_wb_same _ _ h32 h1)

theorem Mach.antCond_short (k : Nat) : (m.antCond a k ma).b (antShort a) = (k == 2) := by
  obtain ⟨-, -, h1, h32, -⟩ := antFields_width a
  rw [Mach.antCond, Mach.b_event _ _ _ _ _ _ 0 0 (antFields_quiet a _ (by simp)), Mach.antShort_w_antMa]
  exact Mach.b_wb_same _ _ _ h32 h1

theorem Mach.antCond_ma (k : Nat) (v : BitVec 8) : (m.antCond a k v.toNat).r (antMa a) = v.toNat := by
  rw [Mach.antCond, Mach.r_event _ _ _ _ _ _ 0 0 (antFields_quiet a _ (by simp)), Mach.antMa_w]

@[simp] theorem Mach.antCond_gnss (k : Nat) : (m.antCond a k ma).gnss = m.gnss := by simp [Mach.antCond]

@[simp] theorem Mach.antCond_kiln (k : Nat) : (m.antCond a k ma).kiln = m.kiln := by simp [Mach.antCond]

variable {m a ma}

theorem Mach.biasOn_off (h : m.b (antBias a) = false) : m.biasOn a = false := by simp [Mach.biasOn, h]

/-! ### The commands of an antenna -/

theorem antennaOpen_early (h : m.lowMa a < 100) : antennaOpen a ma m = m :=
  if_neg (by simp [Nat.not_le.mpr h])

theorem antennaOpen_opens (hb : m.biasOn a = true) (hm : ma < 2) (hl : 100 ≤ m.lowMa a) (ho : m.b (antOpen a) = false) :
    antennaOpen a ma m = m.antCond a 1 ma := if_pos (by simp [hb, hm, hl, ho])

/-- A load above 80 mA switches the bias off; only one that was not SHORT changes the condition. -/
theorem antennaShort_shorts (hb : m.biasOn a = true) (hm : 80 < ma) : antennaShort a ma m =
    if m.b (antShort a) then (m.setShortAt (Tabs.put m.gnss.shortAt a m.now)).w (antMa a) ma
      else (m.setShortAt (Tabs.put m.gnss.shortAt a m.now)).antCond a 2 ma := if_pos (by simp [hb, hm])

theorem antennaNormal_ends (hb : m.b (antBias a) = true) (h2 : 2 ≤ ma) (h80 : ma ≤ 80)
    (hc : m.b (antOpen a) = true ∨ m.b (antShort a) = true) (hn : Tabs.look m.gnss.shortAt a = none) :
    antennaNormal a ma m = m.antCond a 0 ma := if_pos (by simpa [hb, h2, h80, hn] using hc)

/-- A retry that is due: a current still above 80 mA switches the bias off again. -/
theorem antennaBiasRetry_due {u : Nat} (hu : Tabs.look m.gnss.shortAt a = some u) (hb : m.b (antBias a) = true)
    (hd : u + 1000 ≤ m.now) : antennaBiasRetry a ma m =
      (m.setShortAt (if 80 < ma then Tabs.put m.gnss.shortAt a m.now else Tabs.del m.gnss.shortAt a)).w (antMa a) ma := by
  simp only [antennaBiasRetry, hu, hb, hd, decide_true, Bool.and_self, if_true]
  split <;> rfl

/-- With the bias off no current flows. -/
theorem antenna_unbiased (h : m.b (antBias a) = false) : antennaOpen a ma m = m ∧ antennaShort a ma m = m ∧
    antennaNormal a ma m = m ∧ antennaBiasRetry a ma m = m := by
  refine ⟨if_neg (by simp [Mach.biasOn_off h]), if_neg (by simp [Mach.biasOn_off h]), if_neg (by simp [h]), ?_⟩
  unfold antennaBiasRetry
  split
  · exact if_neg (by simp [h])
  · rfl

end Antenna

end Sys2Proof.Machine
end

section
/-! PROOFS. Channels of the GNSS baseband (10, R325 to R330): what a change of a channel's state, a signal taken up and a channel
freed write, and what they leave of the other channels. -/

namespace Sys2Proof.Machine

open Sys2Proof

variable (m : Mach)

/-- A command that changes the GNSS baseband and registers only. -/
theorem State.on_gnss (s : State) (f : Mach → Mach) {t : Mach} (h : f s.m = t) (ht : t = { s.m with gnss := t.gnss, regs := t.regs }) :
    s.on f = .next (s.having { s.m with gnss := t.gnss, regs := t.regs }) := s.on_eq f _ (h.trans ht)

/-! ### The fields of GNSS_CH_STATUS -/

def chFields : List Field :=
  [GNSS_CH_STATUS_STATE, GNSS_CH_STATUS_PATH, GNSS_CH_STATUS_SIG, GNSS_CH_STATUS_SVID, GNSS_CH_STATUS_CN0]

theorem chField_off {g : Field} (hg : g ∈ chFields) (k : Nat) : g.off k 0 = 0x201008 + 0x10 * k := by
  simp only [chFields, List.mem_cons, List.not_mem_nil, or_false] at hg
  obtain rfl | rfl | rfl | rfl | rfl := hg <;> rfl

/-- A write of one of them leaves the others, of every channel. -/
theorem chField_w {f g : Field} (hf : f ∈ chFields) (hg : g ∈ chFields) (hne : g ≠ f) (v i k : Nat) :
    (m.w f v i).r g k = m.r g k := by
  have hbits : ∀ f ∈ chFields, ∀ g ∈ chFields, g ≠ f → g.reset = f.reset ∧ f.lo + f.width ≤ 32 ∧
      (g.lo + g.width ≤ f.lo ∨ f.lo + f.width ≤ g.lo) := by decide
  obtain ⟨hr, hw, hd⟩ := hbits f hf g hg hne
  exact m.r_w_bits f g v i 0 k 0 hr hw hd

/-- A write of a register that no channel shows its status in leaves them. -/
theorem chField_w_ne {f g : Field} (hg : g ∈ chFields) (v i k : Nat) (h : f.off i 0 % 0x10 ≠ 8 ∨ f.off i 0 < 0x201008) :
    (m.w f v i).r g k = m.r g k :=
  m.r_w_ne f g v i 0 k 0 (by rw [chField_off hg]; omega)

theorem chInfo_off (f : Field) (hf : f ∈ [GNSS_CH_INFO_MP_INDEX, GNSS_CH_INFO_SLIPS, GNSS_CH_INFO_LOCK_S]) (c : Nat) :
    f.off c 0 = 0x20100C + 0x10 * c := by
  simp only [List.mem_cons, List.not_mem_nil, or_false] at hf
  obtain rfl | rfl | rfl := hf <;> rfl

/-- A write of GNSS_CH_INFO leaves them. -/
theorem chField_w_info {f g : Field} (hf : f ∈ [GNSS_CH_INFO_MP_INDEX, GNSS_CH_INFO_SLIPS, GNSS_CH_INFO_LOCK_S])
    (hg : g ∈ chFields) (v i k : Nat) : (m.w f v i).r g k = m.r g k :=
  chField_w_ne m hg v i k (.inl (by rw [chInfo_off f hf]; omega))

/-! ### The registers of a channel -/

/-- The registers that a channel's state and its signal show themselves in. -/
def chanOffs (c : Nat) : List Nat := [0x201008 + 0x10 * c, 0x20100C + 0x10 * c, 0x200004]

theorem regsKept_refl (l : List Nat) (a : Mach) : regsKept l a a := fun _ _ => rfl

/-- A change of one channel leaves the status of the others. -/
theorem Mach.chField_of_kept {a b : Mach} {c : Nat} (h : regsKept (chanOffs c) a b) {g : Field} (hg : g ∈ chFields) {k : Nat}
    (hk : k ≠ c) : b.r g k = a.r g k :=
  Mach.r_congr g k 0 (h _ (by rw [chField_off hg]; simp only [chanOffs, List.mem_cons, List.not_mem_nil, or_false]; omega))

/-- What lies below the GNSS window stays. -/
theorem Mach.r_of_chanKept {a b : Mach} {c : Nat} (h : regsKept (chanOffs c) a b) (g : Field) (hg : g.off 0 0 < 0x200000) :
    b.r g = a.r g :=
  Mach.r_congr g 0 0 (h _ (by simp only [chanOffs, List.mem_cons, List.not_mem_nil, or_false]; omega))

theorem Mach.chField_regsKept {c : Nat} {a b : Mach} (h : regsKept (chanOffs c) a b) {f : Field} (hf : f ∈ chFields) (v : Nat) :
    regsKept (chanOffs c) a (b.w f v c) := Mach.w_regsKept h f v c (by simp [chField_off hf, chanOffs])

theorem Mach.chInfo_regsKept {c : Nat} {a b : Mach} (h : regsKept (chanOffs c) a b) {f : Field}
    (hf : f ∈ [GNSS_CH_INFO_MP_INDEX, GNSS_CH_INFO_SLIPS, GNSS_CH_INFO_LOCK_S]) (v : Nat) :
    regsKept (chanOffs c) a (b.w f v c) := Mach.w_regsKept h f v c (by simp [chInfo_off f hf, chanOffs])

/-! ### The state of a channel -/

@[simp] theorem Mach.setGchan_gchan (c : Nat) (x : GChan) : (m.setGchan c x).gchan c = x := Tabs.val_put_same ..

theorem Mach.setGchan_gchan_ne {c k : Nat} (x : GChan) (hk : k ≠ c) : (m.setGchan c x).gchan k = m.gchan k :=
  Tabs.val_put_ne _ _ _ hk

theorem Mach.setChState_kept (c st : Nat) {a : Mach} (h : regsKept (chanOffs c) a m) :
    regsKept (chanOffs c) a (m.setChState c st) := by
  have hcount : ∀ f ∈ [GNSS_STATUS_ACTIVE, GNSS_STATUS_SPARES], f.off 0 0 ∈ chanOffs c := by
    simp [chanOffs, Field.off, GNSS_STATUS_ACTIVE, GNSS_STATUS_SPARES]
  exact Mach.w_regsKept (Mach.w_regsKept (Mach.chField_regsKept h (by simp [chFields]) st) _ _ 0 (hcount _ (by simp))) _ _ 0
    (hcount _ (by simp))

/-- The counts of GNSS_STATUS aside, a channel's state is one field written. -/
theorem Mach.setChState_r (c st k : Nat) {g : Field} (hg : g ∈ chFields) :
    (m.setChState c st).r g k = (m.w GNSS_CH_STATUS_STATE st c).r g k :=
  (chField_w_ne _ hg _ 0 k (.inr (by decide))).trans (chField_w_ne _ hg _ 0 k (.inr (by decide)))

@[simp] theorem Mach.setChState_chState (c st : Nat) : (m.setChState c st).chState c = st % 8 :=
  (m.setChState_r c st c (by simp [chFields])).trans (m.r_w_same _ st c 0 (by decide))

theorem Mach.setChState_field (c st k : Nat) {g : Field} (hg : g ∈ chFields) (hne : g ≠ GNSS_CH_STATUS_STATE) :
    (m.setChState c st).r g k = m.r g k :=
  (m.setChState_r c st k hg).trans (chField_w m (by simp [chFields]) hg hne st c k)

/-! ### A signal taken up, a channel freed -/

section Take

variable (c sig svid path st : Nat) (x : GChan)

theorem Mach.chTake_kept : regsKept (chanOffs c) m (m.chTake c sig svid path st x) := by
  refine Mach.setChState_kept _ c st (a := m) ?_
  refine Mach.chInfo_regsKept (f := GNSS_CH_INFO_SLIPS) ?_ (by simp) 0
  refine Mach.chField_regsKept (f := GNSS_CH_STATUS_PATH) ?_ (by simp [chFields]) path
  refine Mach.chField_regsKept (f := GNSS_CH_STATUS_SVID) ?_ (by simp [chFields]) svid
  exact Mach.chField_regsKept (f := GNSS_CH_STATUS_SIG) (regsKept_refl _ m) (by simp [chFields]) sig

@[simp] theorem Mach.chTake_chState : (m.chTake c sig svid path st x).chState c = st % 8 := Mach.setChState_chState _ c st

theorem Mach.chTake_field {g : Field} (hg : g ∈ chFields) (hne : g ≠ GNSS_CH_STATUS_STATE) :
    (m.chTake c sig svid path st x).r g c =
      (((m.w GNSS_CH_STATUS_SIG sig c).w GNSS_CH_STATUS_SVID svid c).w GNSS_CH_STATUS_PATH path c).r g c :=
  (Mach.setChState_field _ c st c hg hne).trans (chField_w_info _ (f := GNSS_CH_INFO_SLIPS) (by simp) hg 0 c c)

@[simp] theorem Mach.chTake_chSig : (m.chTake c sig svid path st x).chSig c = sig % 16 := by
  rw [Mach.chSig, m.chTake_field c sig svid path st x (by simp [chFields]) (by decide),
    chField_w _ (by simp [chFields]) (by simp [chFields]) (by decide), chField_w _ (by simp [chFields]) (by simp [chFields]) (by decide)]
  exact m.r_w_same _ sig c 0 (by decide)

@[simp] theorem Mach.chTake_chSvid : (m.chTake c sig svid path st x).chSvid c = svid % 256 := by
  rw [Mach.chSvid, m.chTake_field c sig svid path st x (by simp [chFields]) (by decide),
    chField_w _ (by simp [chFields]) (by simp [chFields]) (by decide)]
  exact Mach.r_w_same _ _ svid c 0 (by decide)

@[simp] theorem Mach.chTake_chPath : (m.chTake c sig svid path st x).chPath c = path % 8 := by
  rw [Mach.chPath, m.chTake_field c sig svid path st x (by simp [chFields]) (by decide)]
  exact Mach.r_w_same _ _ path c 0 (by decide)

@[simp] theorem Mach.chTake_gchan : (m.chTake c sig svid path st x).gchan c = x := m.setGchan_gchan c x

end Take

theorem Mach.chFree_kept (c st : Nat) : regsKept (chanOffs c) m (m.chFree c st) := by
  refine Mach.chInfo_regsKept (f := GNSS_CH_INFO_LOCK_S) ?_ (by simp) 0
  refine Mach.chInfo_regsKept (f := GNSS_CH_INFO_MP_INDEX) ?_ (by simp) 0
  exact Mach.chField_regsKept (f := GNSS_CH_STATUS_CN0) (m.chTake_kept c 0 0 0 st {}) (by simp [chFields]) 0

theorem Mach.chFree_chState (c st : Nat) : (m.chFree c st).chState c = st % 8 := by
  rw [Mach.chState, Mach.chFree, chField_w_info _ (by simp) (by simp [chFields]), chField_w_info _ (by simp) (by simp [chFields]),
    chField_w _ (by simp [chFields]) (by simp [chFields]) (by decide)]
  exact m.chTake_chState c 0 0 0 st {}

theorem Mach.chFree_gchan (c st : Nat) : (m.chFree c st).gchan c = {} := m.chTake_gchan c 0 0 0 st {}

/-! ### The search for a signal -/

/-- A channel is found by the status fields of all alone. -/
theorem Mach.chOf_congr {a b : Mach} (h : ∀ g ∈ chFields, ∀ k, b.r g k = a.r g k) (sig svid path : Nat) :
    b.chOf sig svid path = a.chOf sig svid path := by
  simp only [Mach.chOf, Mach.chActive, Mach.chState, Mach.chSig, Mach.chSvid, Mach.chPath,
    h GNSS_CH_STATUS_STATE (by simp [chFields]), h GNSS_CH_STATUS_SIG (by simp [chFields]),
    h GNSS_CH_STATUS_SVID (by simp [chFields]), h GNSS_CH_STATUS_PATH (by simp [chFields])]

theorem Mach.chIdle_congr {a b : Mach} (h : ∀ k, b.chState k = a.chState k) (ha : b.r GNSS_STATUS_ACTIVE = a.r GNSS_STATUS_ACTIVE)
    (hl : b.gnss.lost = a.gnss.lost) : b.chIdle = a.chIdle := by
  simp only [Mach.chIdle, h, ha, hl]

end Sys2Proof.Machine
end

section
/-! PROOFS. Requests of device firmware, and the free channels given to candidates (10, R327, R334, R335). -/

namespace Sys2Proof.Machine

open Sys2Proof

variable (m : Mach)

/-! ### Device firmware's queue (R334) -/

theorem Mach.fwPut_room (q : AcqReq) (hl : m.gnss.fwLate = []) (hn : m.gnss.fwQ.length < 64) :
    (m.fwPut q).gnss.fwQ = m.gnss.fwQ ++ [q] := by
  have h : (64 - m.gnss.fwQ.length) ≠ 0 := by omega
  obtain ⟨n, hn⟩ := Nat.exists_eq_succ_of_ne_zero h
  simp [Mach.fwPut, Mach.fwFill, hl, hn]

theorem Mach.fwPut_full (q : AcqReq) (hn : 64 ≤ m.gnss.fwQ.length) :
    (m.fwPut q).gnss.fwQ = m.gnss.fwQ ∧ (m.fwPut q).gnss.fwLate = m.gnss.fwLate ++ [q] := by
  simp [Mach.fwPut, Mach.fwFill, Nat.sub_eq_zero_of_le hn]

/-- A request is made from the other channels' states and signals, the channel's own signal, and the clock. -/
theorem Mach.fwRequest_congr {a b : Mach} {c : Nat} (alm : Nat) (hst : ∀ k, k ≠ c → b.chState k = a.chState k)
    (hsig : ∀ k, b.chSig k = a.chSig k) (hsvid : ∀ k, b.chSvid k = a.chSvid k) (hpath : b.chPath c = a.chPath c)
    (hg : ∀ k, k ≠ c → b.gchan k = a.gchan k) (hglo : (b.gchan c).gloK = (a.gchan c).gloK) (hunc : b.timeUnc = a.timeUnc)
    (hnv : b.nv = a.nv) (hi : b.intc = a.intc) : b.fwRequest c alm = a.fwRequest c alm := by
  have hsat : b.satTracked c = a.satTracked c := by
    unfold Mach.satTracked
    congr 1
    funext k
    by_cases hk : k = c
    · simp [hk]
    · simp only [hst k hk, hsig, hsvid]
  have htx : (b.satTracked c).bind (fun k => (b.gchan k).txAt) = (a.satTracked c).bind (fun k => (a.gchan k).txAt) := by
    rw [hsat]
    cases hf : a.satTracked c with
    | none => rfl
    | some k =>
      have hk : k ≠ c := by
        have := List.find?_some hf
        simp only [Bool.and_eq_true, bne_iff_ne] at this
        exact this.1.1.1
      simp only [Option.bind_some, hg k hk]
  have hrow : b.acqRow c alm = a.acqRow c alm := by simp only [Mach.acqRow, hsat, hunc, hnv]
  simp only [Mach.fwRequest, hrow, htx, hsig, hsvid, hpath, hglo, Mach.now, hi, Mach.acqWindows, hunc]

/-! ### Candidates (R327) -/

theorem Mach.giveAll_none (h : m.gnss.waiting = []) : m.giveAll = m := if_pos (by simp [h])

/-- A part whose waiting candidates are the ones it has. -/
theorem Mach.waiting_self {l : List GCand} (h : m.gnss.waiting = l) : { m with gnss := { m.gnss with waiting := l } } = m := by
  rw [← h]

theorem Mach.giveChannels_none (n : Nat) (h : m.gnss.waiting = []) : Mach.giveChannels n m = m := by
  cases n with
  | zero => rfl
  | succ n =>
    unfold Mach.giveChannels
    rw [h]
    exact m.waiting_self h

/-- The part with the channel taken, before its search is asked for. -/
def Mach.channelTaken (m : Mach) (x : GCand) (c : Nat) : Mach :=
  ({ m with gnss := { m.gnss with waiting := [] } }).chTake c x.sig x.svid x.path 1
    { gloK := if sigSystem x.sig == 3 then x.gloK else 0, outAt := some m.now }

/-- The part with the channel given, with a search for its signal. -/
def Mach.channelGiven (m : Mach) (x : GCand) (c : Nat) : Mach :=
  (m.channelTaken x c).fwPut ((m.channelTaken x c).fwRequest c x.alm)

/-- A single candidate takes the lowest free channel, or waits. -/
theorem Mach.giveAll_one (x : GCand) (hx : m.candOk x = true) :
    ({ m with gnss := { m.gnss with waiting := [x] } } : Mach).giveAll =
      m.chIdle.elim { m with gnss := { m.gnss with waiting := [x] } } (m.channelGiven x) := by
  have hf : [x].filter ({ m with gnss := { m.gnss with waiting := [x] } } : Mach).candOk = [x] := List.filter_cons_of_pos hx
  have hi : ({ m with gnss := { m.gnss with waiting := [x] } } : Mach).chIdle = m.chIdle := rfl
  rw [Mach.giveAll, if_neg (by simp)]
  unfold Mach.giveChannels
  dsimp only
  rw [hf, hi]
  cases m.chIdle with
  | none => rfl
  | some c => exact Mach.giveChannels_none (m.channelGiven x c) 1 rfl

theorem channelAssign_alone (x : GCand) (ht : m.takes .gnss = true) (hw : m.gnss.waiting = []) : channelAssign x m =
    ({ m with gnss := { m.gnss with waiting := if m.candOk x then [x] else [] } } : Mach).giveAll := by
  rw [channelAssign, if_pos ht, hw]
  rfl

/-- The only candidate takes the lowest free channel, or waits. -/
theorem channelAssign_one {x : GCand} (ht : m.takes .gnss = true) (hw : m.gnss.waiting = []) (hx : m.candOk x = true) :
    channelAssign x m = m.chIdle.elim { m with gnss := { m.gnss with waiting := [x] } } (m.channelGiven x) := by
  rw [channelAssign_alone m x ht hw, if_pos hx]
  exact m.giveAll_one x hx

theorem channelAssign_none {x : GCand} (ht : m.takes .gnss = true) (hw : m.gnss.waiting = []) (hx : m.candOk x = false) :
    channelAssign x m = m := by
  rw [channelAssign_alone m x ht hw, if_neg (by simp [hx]), m.waiting_self hw]
  exact m.giveAll_none hw

end Sys2Proof.Machine
end

section
/-! PROOFS. What a channel does as it is given, locks, loses its lock and takes its taps (10, R327, R329, R330). -/

namespace Sys2Proof.Machine

open Sys2Proof

variable (m : Mach)

/-! ### A channel given to a candidate (R327) -/

section Given

variable (x : GCand) (c : Nat)

theorem Mach.channelGiven_gnss :
    m.channelGiven x c = { m with gnss := (m.channelGiven x c).gnss, regs := (m.channelGiven x c).regs } := rfl

theorem Mach.channelGiven_regs : (m.channelGiven x c).regs = (m.channelTaken x c).regs := rfl

theorem Mach.channelGiven_chState : (m.channelGiven x c).chState c = 1 :=
  (Mach.r_of_regs (m.channelGiven_regs x c) _ c 0).trans (Mach.chTake_chState _ c x.sig x.svid x.path 1 _)

theorem Mach.channelGiven_gchan :
    (m.channelGiven x c).gchan c = { gloK := if sigSystem x.sig == 3 then x.gloK else 0, outAt := some m.now } :=
  Mach.chTake_gchan _ c x.sig x.svid x.path 1 _

theorem Mach.channelTaken_kept : regsKept (chanOffs c) m (m.channelTaken x c) :=
  Mach.chTake_kept { m with gnss := { m.gnss with waiting := [] } } c x.sig x.svid x.path 1 _

theorem Mach.channelGiven_kept : regsKept (chanOffs c) m (m.channelGiven x c) := m.channelTaken_kept x c

theorem Mach.channelTaken_signal (hsig : x.sig < 16) (hsvid : x.svid < 256) (hpath : x.path < 8) :
    (m.channelTaken x c).chSig c = x.sig ∧ (m.channelTaken x c).chSvid c = x.svid ∧ (m.channelTaken x c).chPath c = x.path :=
  ⟨(Mach.chTake_chSig _ c x.sig x.svid x.path 1 _).trans (Nat.mod_eq_of_lt hsig),
    (Mach.chTake_chSvid _ c x.sig x.svid x.path 1 _).trans (Nat.mod_eq_of_lt hsvid),
    (Mach.chTake_chPath _ c x.sig x.svid x.path 1 _).trans (Nat.mod_eq_of_lt hpath)⟩

theorem Mach.channelGiven_signal (hsig : x.sig < 16) (hsvid : x.svid < 256) (hpath : x.path < 8) :
    (m.channelGiven x c).chSig c = x.sig ∧ (m.channelGiven x c).chSvid c = x.svid ∧ (m.channelGiven x c).chPath c = x.path :=
  m.channelTaken_signal x c hsig hsvid hpath

/-- Device firmware asks for the signal the channel took, to be handed over to it (R334). -/
theorem Mach.channelGiven_fwQ (hl : m.gnss.fwLate = []) (hn : m.gnss.fwQ.length < 64) :
    (m.channelGiven x c).gnss.fwQ = m.gnss.fwQ ++ [(m.channelTaken x c).fwRequest c x.alm] :=
  Mach.fwPut_room (m.channelTaken x c) _ hl hn

end Given

/-- The checks of R327 on a signal that may be tracked leave one: that no channel holds it. -/
theorem Mach.candOk_iff (x : GCand) (hs : signalOk x.sig x.svid = true) (hb : sigBand x.sig = x.path % 3)
    (he : (m.r GNSS_SIG_EN_EN).testBit x.sig = true) (ha : m.b (antShort (x.path / 3)) = false)
    (hp : m.pinned x.sig x.svid x.path = true ∨ m.b GNSS_CTRL_AUTO = true ∧
      ∃ e, x.elev = some e ∧ ((1000 * m.r GNSS_ELEV_CFG_MASK_DEG : Nat) : Int) < e) :
    m.candOk x = (m.chOf x.sig x.svid x.path).isNone := by
  have hwhy : (m.pinned x.sig x.svid x.path || (m.b GNSS_CTRL_AUTO &&
      x.elev.any (fun e => decide (((1000 * m.r GNSS_ELEV_CFG_MASK_DEG : Nat) : Int) < e)))) = true := by
    obtain hp | ⟨hauto, e, hel, hlt⟩ := hp
    · rw [hp, Bool.true_or]
    · rw [hauto, hel, Option.any_some, decide_eq_true hlt, Bool.true_and, Bool.or_true]
  rw [Mach.candOk, hwhy, hs, hb, he, ha, beq_self_eq_true]
  simp only [Bool.not_false, Bool.true_and, Bool.and_true]

/-! ### Release (R327) -/

/-- A channel is released when no pin keeps it and its satellite is too low or its lock gone for 10 s. -/
theorem channelRelease_eq {c : Nat} (elev : Option Int) (hc : m.chActive c = true) : channelRelease c elev m =
    if m.pinned (m.chSig c) (m.chSvid c) (m.chPath c) = false ∧
      (m.belowMask elev = true ∨ ∃ u, (m.gchan c).outAt = some u ∧ u + 10000 ≤ m.now) then (m.chFree c 0).giveAll else m := by
  unfold channelRelease
  simp [hc, Option.any_eq_true]

/-! ### Lock and its loss (R329) -/

section Lock

variable (c cn0 : Nat)

/-- The part with the channel locked, its state still as it was. -/
def Mach.lockShown (m : Mach) (c cn0 : Nat) : Mach :=
  (m.setGchan c { m.gchan c with lockAt := some m.now, outAt := none, lowAt := none }).w GNSS_CH_STATUS_CN0 cn0 c

theorem pullInLock_eq : pullInLock c cn0 m = if m.chState c = 1 then (m.lockShown c cn0).setChState c 2 else m := by
  simp only [pullInLock, beq_iff_eq]
  rfl

theorem Mach.lockShown_kept : regsKept (chanOffs c) m (m.lockShown c cn0) :=
  Mach.chField_regsKept (regsKept_refl _ m) (by simp [chFields]) cn0

theorem Mach.lockShown_cn0 (v : BitVec 8) (st : Nat) :
    ((m.lockShown c v.toNat).setChState c st).r GNSS_CH_STATUS_CN0 c = v.toNat := by
  rw [Mach.setChState_field _ c st c (by simp [chFields]) (by decide), Mach.lockShown, Mach.r_w_same _ _ _ c 0 (by decide)]
  exact Nat.mod_eq_of_lt v.isLt

/-- The part with the channel out of lock and back in PULL_IN, before its search is asked for. -/
def Mach.lockLost (m : Mach) (c cn0 : Nat) : Mach :=
  (((m.setGchan c { m.gchan c with lockAt := none, outAt := some m.now, lowAt := none, slip := true }).w GNSS_CH_STATUS_CN0 cn0 c).w
    GNSS_CH_INFO_LOCK_S 0 c).setChState c 1

theorem Mach.lockLost_kept : regsKept (chanOffs c) m (m.lockLost c cn0) :=
  Mach.setChState_kept _ c 1 (Mach.chInfo_regsKept (Mach.chField_regsKept (regsKept_refl _ m) (by simp [chFields]) cn0) (by simp) 0)

theorem Mach.lockLost_field (k : Nat) {g : Field} (hg : g ∈ chFields) (hst : g ≠ GNSS_CH_STATUS_STATE)
    (hcn : g ≠ GNSS_CH_STATUS_CN0) : (m.lockLost c cn0).r g k = m.r g k := by
  rw [Mach.lockLost, Mach.setChState_field _ c 1 k hg hst, chField_w_info _ (by simp) hg, chField_w _ (by simp [chFields]) hg hcn]
  rfl

theorem Mach.lockLost_gchan : (m.lockLost c cn0).gchan c =
    { m.gchan c with lockAt := none, outAt := some m.now, lowAt := none, slip := true } := m.setGchan_gchan c _

/-- The search for a signal lost asks for what it would have asked for before. -/
theorem Mach.fwRequest_lockLost (alm : Nat) : (m.lockLost c cn0).fwRequest c alm = m.fwRequest c alm := by
  have hk := m.lockLost_kept c cn0
  refine Mach.fwRequest_congr alm (fun k hne => Mach.chField_of_kept hk (by simp [chFields]) hne)
    (fun k => m.lockLost_field c cn0 k (by simp [chFields]) (by decide) (by decide))
    (fun k => m.lockLost_field c cn0 k (by simp [chFields]) (by decide) (by decide))
    (m.lockLost_field c cn0 c (by simp [chFields]) (by decide) (by decide))
    (fun k hne => m.setGchan_gchan_ne _ hne) (by rw [m.lockLost_gchan]) ?_ rfl rfl
  have hstep : (m.lockLost c cn0).stepped = m.stepped := Mach.b_of_r (Mach.r_of_chanKept hk TIME_STATUS_STEP_LOCK (by decide))
  unfold Mach.timeUnc
  rw [hstep, Mach.r_of_chanKept hk TIME_UNCERT_ALL (by decide)]
  rfl

/-- LOSS_OF_LOCK after a second below the threshold. -/
theorem lossOfLock_due (alm : Nat) {u : Nat} (hst : m.chState c = 2) (hcn : cn0 < m.r GNSS_TRK_CFG_DROP_CN0)
    (hlow : (m.gchan c).lowAt = some u) (hu : u + 1000 ≤ m.now) :
    lossOfLock c cn0 alm m = (m.lockLost c cn0).fwPut (m.fwRequest c alm) := by
  rw [lossOfLock, if_pos (by simp [hst, hcn, hlow, hu]), ← m.fwRequest_lockLost c cn0 alm]
  rfl

/-- Without a second below the threshold a channel keeps its lock. -/
theorem lossOfLock_idle (alm : Nat) (h : m.chState c ≠ 2 ∨ m.r GNSS_TRK_CFG_DROP_CN0 ≤ cn0 ∨ (m.gchan c).lowAt = none) :
    lossOfLock c cn0 alm m = m := by
  refine if_neg ?_
  obtain h | h | h := h
  · simp [h]
  · simp [Nat.not_lt.mpr h]
  · simp [h]

end Lock

/-! ### Taps (R330) -/

theorem spacingOf_le (v : Nat) : spacingOf v ≤ 64 := by
  unfold spacingOf
  omega

theorem spacingOf_lt (v : Nat) : spacingOf v < 2 ^ 7 := Nat.lt_of_le_of_lt (spacingOf_le v) (by decide)

theorem vspacingOf_lt (v sp : Nat) (h : sp ≤ 64) : vspacingOf v sp < 2 ^ 8 := by
  unfold vspacingOf
  split <;> omega

theorem monOf_lt (v : Nat) : monOf v < 2 ^ 9 := by
  unfold monOf unsgn
  omega

theorem channelTapWrite_spacing {a : Nat} (c v : Nat) (ha : m.hears a = true) : channelTapWrite a c false v m =
    (m.w GNSS_CH_CFG_SPACING (spacingOf (bits v 0 7)) c).w GNSS_CH_CFG_VSPACING
      (vspacingOf (bits v 8 8) (spacingOf (bits v 0 7))) c := if_neg (by simp [ha])

theorem channelTapWrite_monitor {a : Nat} (c v : Nat) (ha : m.hears a = true) : channelTapWrite a c true v m =
    (m.w GNSS_CH_MP_M0 (monOf (bits v 0 9)) c).w GNSS_CH_MP_M1 (monOf (bits v 16 9)) c := if_neg (by simp [ha])

/-- Two fields of one register written: both read as written, and no other register changes. -/
theorem Mach.two_fields_w {f g : Field} {u v : Nat} (i : Nat) (ho : g.off i 0 = f.off i 0) (hr : f.reset = g.reset)
    (hf : f.lo + f.width ≤ 32) (hg : g.lo + g.width ≤ 32) (hd : f.lo + f.width ≤ g.lo) (hu : u < 2 ^ f.width) (hv : v < 2 ^ g.width) :
    ((m.w f u i).w g v i).r f i = u ∧ ((m.w f u i).w g v i).r g i = v ∧ regsKept [f.off i 0] m ((m.w f u i).w g v i) := by
  refine ⟨?_, ?_, Mach.w_regsKept (Mach.w_regsKept (regsKept_refl _ m) f u i (by simp)) g v i (by simp [ho])⟩
  · rw [Mach.r_w_bits _ g f v i 0 i 0 hr hg (.inl hd), m.r_w_same f u i 0 hf, Nat.mod_eq_of_lt hu]
  · rw [Mach.r_w_same _ g v i 0 hg, Nat.mod_eq_of_lt hv]

end Sys2Proof.Machine
end

section
/-! PROOFS. O41 is settled. -/

namespace Sys2Proof.Machine

open Sys2Proof

/-- Settles O41: each command's condition leads to one update of the part, whose fields are then read. -/
theorem antennasAndChannelsFollowTheirSignals : Obligations.AntennasAndChannelsFollowTheirSignals := by
  unfold Obligations.AntennasAndChannelsFollowTheirSignals
  refine ⟨fun a ma s => ⟨fun _ _ hl => ?early, fun hb hm hl ho => ?opens, fun hb hm => ?shorts, fun hb h2 h80 hc hn => ?normal,
      fun u hu hb hd => ?retry, fun hb => ?unbiased⟩,
    fun sig svid path k elev alm s => ?assign, fun c elev s hact => ?release, fun m c => ?free,
    fun a c v s => ?taps, fun c cn0 s => ?lock, fun c cn0 alm s => ?loss⟩
  case early => exact s.on_same (antennaOpen a ma.toNat) (antennaOpen_early hl)
  case opens =>
    exact ⟨_, s.on_eq (antennaOpen a ma.toNat) _ (antennaOpen_opens hb hm hl ho), s.m.antCond_open a _ 1, s.m.antCond_short a _ 1,
      s.m.antCond_ma a 1 ma, s.m.antCond_kiln a _ 1⟩
  case shorts =>
    refine ⟨_, s.on_eq (antennaShort a ma.toNat) _ (antennaShort_shorts hb hm), ?_⟩
    cases hsh : s.m.b (antShort a) with
    | true =>
      exact ⟨(Mach.antShort_w_antMa _ a _).trans hsh, fun h => absurd h (by simp), Mach.antMa_w _ a ma, Tabs.look_put_same ..⟩
    | false =>
      refine ⟨Mach.antCond_short _ a _ 2, fun _ => Mach.antCond_open _ a _ 2, Mach.antCond_ma _ a 2 ma, ?_⟩
      rw [if_neg (by simp), Mach.antCond_gnss]
      exact Tabs.look_put_same ..
  case normal =>
    exact ⟨_, s.on_eq (antennaNormal a ma.toNat) _ (antennaNormal_ends hb h2 h80 hc hn), s.m.antCond_open a _ 0,
      s.m.antCond_short a _ 0, s.m.antCond_ma a 0 ma, s.m.antCond_gnss a _ 0⟩
  case retry =>
    refine ⟨_, s.on_gnss (antennaBiasRetry a ma.toNat) (antennaBiasRetry_due hu hb hd) rfl, Mach.antMa_w _ a ma,
      Mach.antShort_w_antMa _ a _, fun h => ?_, fun h hr => ?_⟩
    · rw [if_pos h]
      exact Tabs.look_put_same ..
    · rw [if_neg (Nat.not_lt.mpr h)]
      exact (Tabs.look_del _ _ _ hr).trans (if_pos rfl)
  case unbiased =>
    obtain ⟨h1, h2, h3, h4⟩ := antenna_unbiased (a := a) (ma := ma.toNat) hb
    exact ⟨s.on_same (antennaOpen a ma.toNat) h1, s.on_same (antennaShort a ma.toNat) h2, s.on_same (antennaNormal a ma.toNat) h3,
      s.on_same (antennaBiasRetry a ma.toNat) h4⟩
  case assign =>
    intro x ht hs hband hen hant hwhy
    have hp8 : x.path < 8 := Nat.lt_trans path.isLt (by decide)
    have hcand : s.m.candOk x = (s.m.chOf x.sig x.svid x.path).isNone := s.m.candOk_iff x hs hband hen hant hwhy
    refine ⟨fun hno hw => ?_, fun hheld hw => ?_⟩
    · have hassign := channelAssign_one s.m ht hw (hcand.trans (congrArg Option.isNone hno))
      refine ⟨fun c hc => ?given, fun hc => s.on_eq (channelAssign x) _ (by rw [hassign, hc, Option.elim_none])⟩
      obtain ⟨hsig, hsvid, hpath⟩ := s.m.channelGiven_signal x c sig.isLt svid.isLt hp8
      refine ⟨s.m.channelGiven x c, s.on_gnss (channelAssign x) (by rw [hassign, hc, Option.elim_some]) (s.m.channelGiven_gnss x c),
        s.m.channelGiven_chState x c, hsig, hsvid, hpath, rfl, by rw [s.m.channelGiven_gchan], by rw [s.m.channelGiven_gchan],
        fun hl hn => ⟨_, s.m.channelGiven_fwQ x c hl hn, rfl, hsig, hsvid, hpath, rfl⟩, fun j _ hj => ⟨?_, ?_⟩⟩
      all_goals exact Mach.chField_of_kept (s.m.channelGiven_kept x c) (by simp [chFields]) hj
    · exact s.on_same (channelAssign x) (channelAssign_none s.m ht hw (hcand.trans (by simpa using hheld)))
  case release =>
    have hrel := channelRelease_eq s.m elev hact
    exact ⟨fun hf hd => s.on_eq (channelRelease c elev) _ (hrel.trans (if_pos ⟨hf, hd⟩)),
      fun hn => s.on_same (channelRelease c elev) (hrel.trans (if_neg hn))⟩
  case free =>
    exact ⟨fun hw => Mach.giveAll_none _ hw, m.chFree_chState c 0, m.chFree_gchan c 0,
      fun j _ hj => Mach.chField_of_kept (m.chFree_kept c 0) (by simp [chFields]) hj⟩
  case taps =>
    refine ⟨fun ha => ⟨?spacing, ?monitor⟩, fun ha mp => s.on_same (channelTapWrite a c mp v.toNat) (if_pos (by simp [ha]))⟩
    case spacing =>
      obtain ⟨h1, h2, hk⟩ := s.m.two_fields_w (f := GNSS_CH_CFG_SPACING) (g := GNSS_CH_CFG_VSPACING) c rfl rfl (by decide) (by decide)
        (by decide) (spacingOf_lt (bits v.toNat 0 7)) (vspacingOf_lt (bits v.toNat 8 8) _ (spacingOf_le (bits v.toNat 0 7)))
      exact ⟨_, s.on_eq (channelTapWrite a c false v.toNat) _ (channelTapWrite_spacing s.m c v.toNat ha), h1, h2, hk⟩
    case monitor =>
      obtain ⟨h1, h2, hk⟩ := s.m.two_fields_w (f := GNSS_CH_MP_M0) (g := GNSS_CH_MP_M1) c rfl rfl (by decide) (by decide)
        (by decide) (monOf_lt (bits v.toNat 0 9)) (monOf_lt (bits v.toNat 16 9))
      exact ⟨_, s.on_eq (channelTapWrite a c true v.toNat) _ (channelTapWrite_monitor s.m c v.toNat ha), h1, h2, hk⟩
  case lock =>
    have hlock := pullInLock_eq s.m c cn0.toNat
    refine ⟨fun hst => ⟨_, s.on_gnss (pullInLock c cn0.toNat) (hlock.trans (if_pos hst)) rfl, Mach.setChState_chState _ c 2, ?_,
      s.m.setGchan_gchan c _, fun j _ hj => ?_⟩, fun hst => s.on_same (pullInLock c cn0.toNat) (hlock.trans (if_neg hst))⟩
    · exact (s.m.lockShown_cn0 c cn0 2)
    · exact Mach.chField_of_kept (Mach.setChState_kept _ c 2 (s.m.lockShown_kept c cn0.toNat)) (by simp [chFields]) hj
  case loss =>
    refine ⟨fun u hst hcn hlow hu => ?_, fun h => s.on_same (lossOfLock c cn0.toNat alm) (lossOfLock_idle s.m c cn0.toNat alm h)⟩
    exact ⟨_, s.on_gnss (lossOfLock c cn0.toNat alm) (lossOfLock_due s.m c cn0.toNat alm hst hcn hlow hu) rfl,
      Mach.setChState_chState _ c 1, s.m.lockLost_gchan c cn0.toNat, fun hn hl => Mach.fwPut_room _ _ hl hn,
      fun hn => Mach.fwPut_full _ _ hn⟩

end Sys2Proof.Machine
end

section
/-! PROOFS. Acquisition (10, R332 to R334, R349): how a search is queued, started and counted, and how it ends. -/

namespace Sys2Proof.Machine

open Sys2Proof

variable {m : Mach}

/-! ### ACQ_SEARCH (R334, R349) -/

section Search

variable {d : Desc} (hs : m.starts 0x0402 d)
include hs

theorem acqSearch_bad (hb : (m.acqOf (d.as 0x0402)).bad = true) : acqSearch d m = m.complete (d.as 0x0402) stRANGE := by
  rw [acqSearch, m.desc_starts _ d _ hs]
  simp only [firstOf, hb, if_true]

variable (hb : (m.acqOf (d.as 0x0402)).bad = false) (ht : m.takes .gnss = true)
include hb ht

theorem acqSearch_full (hl : 64 ≤ m.gnss.hostQ.length) : acqSearch d m = m.complete (d.as 0x0402) stQUEUE_FULL := by
  rw [acqSearch, m.desc_starts _ d _ hs]
  simp [firstOf, hb, ht, hl]

variable (hl : m.gnss.hostQ.length < 64)
include hl

theorem acqSearch_disabled (he : (m.r GNSS_SIG_EN_EN).testBit (m.acqOf (d.as 0x0402)).sig = false) :
    acqSearch d m = m.complete (d.as 0x0402) 0x10 := by
  rw [acqSearch, m.desc_starts _ d _ hs]
  simp [firstOf, hb, ht, Nat.not_le.mpr hl, he]

theorem acqSearch_queued (he : (m.r GNSS_SIG_EN_EN).testBit (m.acqOf (d.as 0x0402)).sig = true) :
    acqSearch d m = { m with gnss := { m.gnss with hostQ := m.gnss.hostQ ++ [m.acqOf (d.as 0x0402)] } } := by
  rw [acqSearch, m.desc_starts _ d _ hs]
  simp [firstOf, hb, ht, Nat.not_le.mpr hl, he]

end Search

/-! ### ACQ_SEARCH_START (R334) -/

/-- The run of a request that an engine begins. -/
def Mach.runOf (m : Mach) (q : AcqReq) : AcqRun := { req := q, start := m.now, left := q.dwells }

/-- An engine that can begin a search. -/
structure Mach.EngineFree (m : Mach) (e : Nat) : Prop where
  free : Tabs.look m.gnss.engines e = none
  takes : m.takes .gnss = true
  works : m.gnss.engLost.contains e = false
  block : m.r INTC_BLK_FAULT_STATE 1 ≠ 3

section Start

variable {e : Nat}

theorem acqSearchStart_busy (h : (Tabs.look m.gnss.engines e).isSome = true) : acqSearchStart e m = m :=
  if_pos (by simp [h])

variable (h : m.EngineFree e)
include h

theorem Mach.EngineFree.check : (!m.takes .gnss || (Tabs.look m.gnss.engines e).isSome || m.gnss.engLost.contains e ||
    m.r INTC_BLK_FAULT_STATE 1 == 3) = false := by
  rw [h.takes, h.free, h.works, beq_false_of_ne h.block]
  rfl

theorem acqSearchStart_host {q : AcqReq} {rest : List AcqReq} (hq : m.gnss.hostQ = q :: rest) :
    acqSearchStart e m = ({ m with gnss := { m.gnss with hostQ := rest } } : Mach).setEngine e (m.runOf q) := by
  simp only [acqSearchStart, h.check, hq, Bool.false_eq_true, if_false]
  rfl

theorem acqSearchStart_firmware {q : AcqReq} {rest : List AcqReq} (hn : m.gnss.hostQ = []) (hq : m.gnss.fwQ = q :: rest) :
    acqSearchStart e m = (({ m with gnss := { m.gnss with fwQ := rest } } : Mach).setEngine e (m.runOf q)).fwFill := by
  simp only [acqSearchStart, h.check, hn, hq, Bool.false_eq_true, if_false]
  rfl

theorem acqSearchStart_empty (hn : m.gnss.hostQ = []) (hq : m.gnss.fwQ = []) : acqSearchStart e m = m := by
  simp only [acqSearchStart, h.check, hn, hq, Bool.false_eq_true, if_false]

end Start

/-! ### ACQ_DWELL_COMPLETE (R332, R333, R352) -/

section Dwell

/-- The cell a dwell's largest metric stands in, and its code phase and Doppler. -/
def AcqRun.cellNo (r : AcqRun) (cell : Nat) : Nat :=
  min (64 * (r.req.dwells - r.left) + cell) (r.req.cells * r.req.bins - 1)
def AcqRun.codeAt (r : AcqRun) (cell : Nat) (dc : Int) : Nat :=
  ((((r.req.cellAt (r.confirm.getD (r.cellNo cell))).1 : Int) + dc) % (max 1 (sigLen r.req.sig * 1024) : Nat)).toNat
def AcqRun.dopAt (r : AcqRun) (cell : Nat) (dd : Int) : Nat :=
  unsgn 32 ((r.req.cellAt (r.confirm.getD (r.cellNo cell))).2 + 10 * dd)

/-- The run with one more dwell counted. -/
def AcqRun.counted (r : AcqRun) (metric code dop : Nat) : AcqRun :=
  { r with used := r.used + 1, best := if r.best.1 ≤ metric then (metric, code, dop) else r.best, start := r.start + r.req.dwell }

variable {e metric cell : Nat} {dc dd : Int} {r : AcqRun}

theorem acqDwellComplete_early (h : ∀ r, Tabs.look m.gnss.engines e = some r → m.now < r.start + r.req.dwell) :
    acqDwellComplete e metric cell dc dd m = m := by
  unfold acqDwellComplete
  cases hr : Tabs.look m.gnss.engines e with
  | none => rfl
  | some r => rw [Option.filter_some_neg (by simpa using h r hr)]

variable (hr : Tabs.look m.gnss.engines e = some r) (hd : r.start + r.req.dwell ≤ m.now)
include hr hd

theorem acqDwellComplete_drained {d : Desc} (ht : m.takes .gnss = false) (hq : r.req.d = some d) :
    acqDwellComplete e metric cell dc dd m = (m.freeEngine e).complete d stFLUSHED := by
  unfold acqDwellComplete
  rw [hr, Option.filter_some_pos (by simpa using hd)]
  simp only [ht, hq, Bool.not_false, if_true]

/-- A dwell of a block in service: a confirming dwell decides, any other goes on, asks for one, or was the last. -/
theorem acqDwellComplete_counts (ht : m.takes .gnss = true) : acqDwellComplete e metric cell dc dd m =
    let code := r.codeAt cell dc
    let dop := r.dopAt cell dd
    let q := r.counted metric code dop
    if r.confirm.isSome then
      if m.r GNSS_ACQ_CFG_THRESH ≤ metric then m.acqFound e q metric code dop
      else if r.left = 0 then m.acqNotFound e q else m.setEngine e { q with confirm := none }
    else if m.r GNSS_ACQ_CFG_THRESH ≤ metric then m.setEngine e { q with left := r.left - 1, confirm := some (r.cellNo cell) }
    else if r.left - 1 = 0 then m.acqNotFound e { q with left := r.left - 1 } else m.setEngine e { q with left := r.left - 1 } := by
  unfold acqDwellComplete
  rw [hr, Option.filter_some_pos (by simpa using hd)]
  simp only [ht, Bool.not_true, Bool.false_eq_true, if_false, beq_iff_eq]
  rfl

end Dwell

/-! ### The end of a search (R333, R334) -/

section Ends

variable {e metric code dop : Nat} {r : AcqRun} {d : Desc} (hd : r.req.d = some d)

/-- The engine of a search found is free again. -/
def Mach.searchFound (m : Mach) (e : Nat) : Mach := (m.freeEngine e).inc GNSS_ACQ_FOUND_ALL

theorem Mach.searchFound_field {g : Field} (hg : g ∈ chFields) (k : Nat) : (m.searchFound e).r g k = m.r g k :=
  chField_w_ne (m.freeEngine e) hg _ 0 k (.inr (by decide))

theorem Mach.searchFound_chOf (sig svid path : Nat) : (m.searchFound e).chOf sig svid path = m.chOf sig svid path :=
  Mach.chOf_congr (fun _ hg k => Mach.searchFound_field hg k) sig svid path

theorem Mach.searchFound_chIdle : (m.searchFound e).chIdle = m.chIdle :=
  Mach.chIdle_congr (fun k => Mach.searchFound_field (by simp [chFields]) k) (Mach.r_w_ne (m.freeEngine e) _ _ _ 0 0 0 0 (by decide)) rfl

theorem Mach.searchFound_antShort (a : Nat) : (m.searchFound e).b (antShort a) = m.b (antShort a) := by
  refine Mach.b_of_r (Mach.r_w_ne (m.freeEngine e) _ _ _ 0 0 0 0 ?_)
  unfold antShort
  split <;> decide

include hd

theorem Mach.acqNotFound_eq : m.acqNotFound e r =
    ((m.freeEngine e).inc GNSS_ACQ_NOT_FOUND_ALL).complete d 0x12 (acqRes 0xFFFF r.best.2.1 r.best.2.2 r.best.1 r.used) := by
  simp only [Mach.acqNotFound, hd]

theorem Mach.acqFound_kept (hh : r.req.handover = false) : m.acqFound e r metric code dop =
    (m.searchFound e).complete d stOK (acqRes 0xFFFF code dop metric r.used) := by
  simp only [Mach.acqFound, hh, hd, Bool.not_false, if_true]
  rfl

variable (hh : r.req.handover = true)
include hh

/-- The host's signal goes to the channel that holds it. -/
theorem Mach.acqFound_held {c : Nat} (hc : m.chOf r.req.sig r.req.svid r.req.path = some c) : m.acqFound e r metric code dop =
    ((m.searchFound e).setGchan c { m.gchan c with code := code, dopp := 1000 * sgn 32 dop, hand := true }).complete d stOK
      (acqRes c code dop metric r.used) := by
  have hf : ((m.freeEngine e).inc GNSS_ACQ_FOUND_ALL).chOf r.req.sig r.req.svid r.req.path = some c :=
    (Mach.searchFound_chOf _ _ _).trans hc
  simp only [Mach.acqFound, hh, hd, hf, Bool.not_true, Bool.false_eq_true, if_false, Option.isSome_some, Bool.or_true, if_true]
  rfl

variable (hc : m.chOf r.req.sig r.req.svid r.req.path = none)
include hc

/-- The host's signal that no channel holds goes to an IDLE one of its antenna. -/
theorem Mach.acqFound_idle {c : Nat} (ha : m.b (antShort (r.req.path / 3)) = false) (hi : m.chIdle = some c) :
    m.acqFound e r metric code dop =
      ((m.searchFound e).chTake c r.req.sig r.req.svid r.req.path 1
        { gloK := r.req.gloK, outAt := some m.now, code := code, dopp := 1000 * sgn 32 dop, hand := true }).complete d stOK
          (acqRes c code dop metric r.used) := by
  have hf : ((m.freeEngine e).inc GNSS_ACQ_FOUND_ALL).chOf r.req.sig r.req.svid r.req.path = none :=
    (Mach.searchFound_chOf _ _ _).trans hc
  have hant : ((m.freeEngine e).inc GNSS_ACQ_FOUND_ALL).b (antShort (r.req.path / 3)) = false :=
    (Mach.searchFound_antShort _).trans ha
  have hidle : ((m.freeEngine e).inc GNSS_ACQ_FOUND_ALL).chIdle = some c := Mach.searchFound_chIdle.trans hi
  simp only [Mach.acqFound, hh, hd, hf, hant, hidle, Bool.not_true, Bool.false_eq_true, if_false, Option.isSome_some,
    Option.isSome_none, Option.isNone_some, Bool.false_and, Bool.or_true]
  rfl

/-- A SHORT antenna or no IDLE channel leaves the host's signal without one. -/
theorem Mach.acqFound_nowhere (hno : m.b (antShort (r.req.path / 3)) = true ∨ m.chIdle = none) :
    m.acqFound e r metric code dop = (m.searchFound e).complete d 0x13 (acqRes 0xFFFF code dop metric r.used) := by
  have hf : ((m.freeEngine e).inc GNSS_ACQ_FOUND_ALL).chOf r.req.sig r.req.svid r.req.path = none :=
    (Mach.searchFound_chOf _ _ _).trans hc
  have hchan : (if ((m.freeEngine e).inc GNSS_ACQ_FOUND_ALL).b (antShort (r.req.path / 3)) then none
      else ((m.freeEngine e).inc GNSS_ACQ_FOUND_ALL).chIdle) = none := by
    obtain ha | hi := hno
    · exact if_pos ((Mach.searchFound_antShort _).trans ha)
    · rw [show ((m.freeEngine e).inc GNSS_ACQ_FOUND_ALL).chIdle = none from Mach.searchFound_chIdle.trans hi, ite_self]
  simp only [Mach.acqFound, hh, hd, hf, hchan, Bool.not_true, Bool.false_eq_true, if_false]
  rfl

end Ends

end Sys2Proof.Machine
end

section
/-! PROOFS. Pins (10, R327, R350, R351). -/

namespace Sys2Proof.Machine

open Sys2Proof

variable {m : Mach} {d : Desc}

/-- The pins of other signals than the one a TRACK_PIN or TRACK_UNPIN names. -/
def Mach.otherPins (m : Mach) (d : Desc) : List GPin :=
  m.gnss.pins.filter (fun p => !(p.sig == Descs.fld d 16 1 && p.svid == Descs.fld d 17 1))

/-- The part with other pins, and while AUTO is 0 without the channels that none of them keeps. -/
def Mach.repinned (m : Mach) (l : List GPin) : Mach :=
  ({ m with gnss := { m.gnss with pins := l } } : Mach).when (!m.b GNSS_CTRL_AUTO) Mach.autoOff

theorem Mach.repinned_auto (l : List GPin) (h : m.b GNSS_CTRL_AUTO = true) :
    m.repinned l = { m with gnss := { m.gnss with pins := l } } := if_neg (by simp [h])

theorem Mach.repinned_manual (l : List GPin) (h : m.b GNSS_CTRL_AUTO = false) :
    m.repinned l = ({ m with gnss := { m.gnss with pins := l } } : Mach).autoOff := if_pos (by simp [h])

variable (ht : m.takes .gnss = true) (hs : signalOk (Descs.fld d 16 1) (Descs.fld d 17 1) = true)
  (he : (m.r GNSS_SIG_EN_EN).testBit (Descs.fld d 16 1) = true)
include ht hs he

theorem trackPin_pins (hd : m.starts 0x0403 d) (hm : Descs.fld d 18 1 < 64) (hl : m.gnss.pins.length < 64) : trackPin d m =
    (m.repinned (m.otherPins d ++ [⟨Descs.fld d 16 1, Descs.fld d 17 1, Descs.fld d 18 1⟩])).complete (d.as 0x0403) stOK
      (le 1 ((m.otherPins d).length + 1)) := by
  have hmask : ¬ 63 < Descs.fld d 18 1 := by omega
  rw [trackPin, m.desc_starts _ d _ hd]
  simp only [Desc.as_fld, firstOf, hs, ht, he, gt_iff_lt, ge_iff_le, hmask, Nat.not_le.mpr hl, decide_false, Bool.not_true,
    Bool.or_false, Bool.false_eq_true, if_false, List.length_append, List.length_singleton]
  rfl

theorem trackPin_full (hd : m.starts 0x0403 d) (hm : Descs.fld d 18 1 < 64) (hl : 64 ≤ m.gnss.pins.length) :
    trackPin d m = m.complete (d.as 0x0403) 0x11 := by
  have hmask : ¬ 63 < Descs.fld d 18 1 := by omega
  rw [trackPin, m.desc_starts _ d _ hd]
  simp only [Desc.as_fld, firstOf, hs, ht, he, gt_iff_lt, ge_iff_le, hmask, hl, decide_false, decide_true, Bool.not_true,
    Bool.or_false, Bool.false_eq_true, if_false, if_true]

theorem trackUnpin_unpins (hd : m.starts 0x0404 d) : trackUnpin d m =
    (m.repinned (m.otherPins d)).complete (d.as 0x0404) stOK (le 1 (m.otherPins d).length) := by
  rw [trackUnpin, m.desc_starts _ d _ hd]
  simp only [Desc.as_fld, firstOf, hs, ht, he, Bool.not_true, Bool.false_eq_true, if_false]
  rfl

end Sys2Proof.Machine
end

section
/-! PROOFS. O42 is settled. -/

namespace Sys2Proof.Machine

open Sys2Proof

/-- Settles O42: a request is queued or refused by its checks, an engine takes the oldest, each dwell goes on or ends its search, and
a pin's list is written with the channels it no longer keeps. -/
theorem searchesRunOnEngines : Obligations.SearchesRunOnEngines := by
  unfold Obligations.SearchesRunOnEngines
  refine ⟨fun d s hs => ⟨fun hb => ?bad, fun hb ht => ⟨fun hl => ?full, fun hl he => ?disabled, fun hl he => ?queued⟩⟩,
    fun e s => ⟨fun hn ht hw hf => ?start, fun h => s.on_same (acqSearchStart e) (acqSearchStart_busy h)⟩,
    fun e metric cell dc dd s => ⟨fun h => ?early, fun r hr hd => ?dwell⟩, fun m e metric code dop r d hd => ?found,
    fun d s ht => ?pins⟩
  case bad => exact s.on_eq (acqSearch d) _ (acqSearch_bad hs hb)
  case full => exact s.on_eq (acqSearch d) _ (acqSearch_full hs hb ht hl)
  case disabled => exact s.on_eq (acqSearch d) _ (acqSearch_disabled hs hb ht hl he)
  case queued => exact s.on_eq (acqSearch d) _ (acqSearch_queued hs hb ht hl he)
  case start =>
    have hfree : s.m.EngineFree e := ⟨hn, ht, hw, hf⟩
    refine ⟨fun q rest hq => ⟨({ s.m with gnss := { s.m.gnss with hostQ := rest } } : Mach).setEngine e (s.m.runOf q), ?_, rfl, rfl,
        Tabs.look_put_same .., fun k hk => Tabs.look_put_ne _ _ hk⟩,
      fun q rest hn hq => ⟨(({ s.m with gnss := { s.m.gnss with fwQ := rest } } : Mach).setEngine e (s.m.runOf q)).fwFill, ?_, rfl,
        Tabs.look_put_same ..⟩,
      fun hn hq => s.on_same (acqSearchStart e) (acqSearchStart_empty hfree hn hq)⟩
    · exact s.on_eq (acqSearchStart e) _ (acqSearchStart_host hfree hq)
    · exact s.on_eq (acqSearchStart e) _ (acqSearchStart_firmware hfree hn hq)
  case early => exact s.on_same (acqDwellComplete e metric.toNat cell dc.toInt dd.toInt) (acqDwellComplete_early h)
  case dwell =>
    have hon := s.on_eq (acqDwellComplete e metric.toNat cell dc.toInt dd.toInt)
    refine ⟨fun d ht hq => hon _ (acqDwellComplete_drained hr hd ht hq), fun ht => ?_⟩
    have hcounts := acqDwellComplete_counts (metric := metric.toNat) (cell := cell) (dc := dc.toInt) (dd := dd.toInt) hr hd ht
    refine ⟨fun hc hm => hon _ ?hit, fun hc hm => hon _ ?confirmed, fun hc hm hl => hon _ ?next, fun d hm hc hq => hon _ ?last,
      fun hc hm hl => hon _ ?refuted⟩
    case hit => exact hcounts.trans ((if_neg (by simp [hc])).trans (if_pos hm))
    case confirmed => exact hcounts.trans ((if_pos hc).trans (if_pos hm))
    case next =>
      exact hcounts.trans ((if_neg (by simp [hc])).trans ((if_neg (Nat.not_le.mpr hm)).trans (if_neg (Nat.sub_ne_zero_of_lt hl))))
    case last =>
      obtain ⟨hc, hl⟩ | ⟨hc, hl⟩ := hc
      · exact hcounts.trans ((if_neg (by simp [hc])).trans ((if_neg (Nat.not_le.mpr hm)).trans
          ((if_pos (Nat.sub_eq_zero_of_le hl)).trans (Mach.acqNotFound_eq hq))))
      · exact hcounts.trans ((if_pos hc).trans ((if_neg (Nat.not_le.mpr hm)).trans ((if_pos hl).trans (Mach.acqNotFound_eq hq))))
    case refuted =>
      exact hcounts.trans ((if_pos hc).trans ((if_neg (Nat.not_le.mpr hm)).trans (if_neg (Nat.ne_of_gt hl))))
  case found =>
    exact ⟨fun hh => Mach.acqFound_kept hd hh, fun hh => ⟨fun c hc => Mach.acqFound_held hd hh hc,
      fun hc => ⟨fun c ha hi => Mach.acqFound_idle hd hh hc ha hi, fun hno => Mach.acqFound_nowhere hd hh hc hno⟩⟩⟩
  case pins =>
    intro sig svid mask kept hs he
    refine ⟨fun hd hm hl => ?pin, fun hd hm hl => s.on_eq (trackPin d) _ (trackPin_full ht hs he hd hm hl), fun hd => ?unpin⟩
    case pin =>
      have hpin := trackPin_pins ht hs he hd hm hl
      exact ⟨fun ha => s.on_eq (trackPin d) _ (by rw [hpin, Mach.repinned_auto _ ha]; rfl),
        fun ha => s.on_eq (trackPin d) _ (by rw [hpin, Mach.repinned_manual _ ha]; rfl)⟩
    case unpin =>
      have hunpin := trackUnpin_unpins ht hs he hd
      exact ⟨fun ha => s.on_eq (trackUnpin d) _ (by rw [hunpin, Mach.repinned_auto _ ha]; rfl),
        fun ha => s.on_eq (trackUnpin d) _ (by rw [hunpin, Mach.repinned_manual _ ha]; rfl)⟩

end Sys2Proof.Machine
end

section
/-! PROOFS. O43 is refuted: a navigation unit reaches a NAV_READ that waits for it (10, R339, R348). -/

namespace Sys2Proof.Machine

open Sys2Proof

/-- A NAV_READ from ring 0, of a buffer of 64 bytes at 0x8000. -/
def waitingRead : Desc :=
  { ring := 0, op := 0x0401, target := 4, flags := 2, tag := 0, rsv6 := 0, req := 0, rsv12 := 0,
    body := BitVec.ofNat 384 (0x8000 <<< 256 + 64 <<< 320), bufErr := false }

/-- A part with the link up and GNSS enabled, channel 0 TRACKING, the NAV_READ waiting and no record queued. -/
def readWaits : State :=
  { State.reset with m := { resetMach with
      regs := [(HIF_STATUS_LINK_UP.base, 3#32), (HIF_RP_STATUS_STATE.base, 1#32), (GNSS_CTRL_ENABLE.base, 1#32), (GNSS_CH_STATUS_STATE.base, 2#32)],
      hif := { rings := [(0, { delivered := [waitingRead] })] },
      gnss := { navReads := [waitingRead] } } }

/-- A subframe of GPS L1 C/A on channel 0, that no other antenna received. -/
def loneUnit : NavUnit :=
  { chan := 0, part := 0, d2 := false, raw := ⟨List.replicate 300 true, false⟩, age := 0, other := none }

theorem readWaits_decodes : readWaits.m.takes .gnss = true ∧ readWaits.m.chState loneUnit.chan = 2 ∧
    0 < navNbits (navType (readWaits.m.chSig loneUnit.chan) loneUnit.d2) loneUnit.raw.syms.length := by decide +kernel

/-- The record's first byte, VERSION, stands in the buffer of the NAV_READ that waited. -/
theorem readWaits_served :
    readWaits.m.hostByte 0x8000 = 0 ∧ (navUnitDecoded loneUnit readWaits.m).hostByte 0x8000 = 1 := by decide +kernel

/-- What NAV_UNIT_DECODED makes of the part, where its answer is known. -/
theorem navUnitDecoded_of_exec {u : NavUnit} {s : State} {t : Mach} (h : exec (.navUnitDecoded u) s = .next (s.having t)) :
    navUnitDecoded u s.m = t := congrArg State.m (Host.Outcome.next.inj h)

/-- Refutes O43: it lets NAV_UNIT_DECODED change the GNSS state and registers only, whether or not a NAV_READ waits. While one
waits, the unit's record is written to its buffer in host memory, as R348 demands. -/
theorem not_epochsAndRecordsReachTheHost : ¬ Obligations.EpochsAndRecordsReachTheHost := by
  unfold Obligations.EpochsAndRecordsReachTheHost
  rintro ⟨-, -, -, hnav, -⟩
  obtain ⟨htakes, htrack, hbits⟩ := readWaits_decodes
  obtain ⟨hbefore, hafter⟩ := readWaits_served
  obtain ⟨t, hexec, -⟩ := ((hnav loneUnit readWaits).1 htakes htrack hbits).1 rfl
  have hm : navUnitDecoded loneUnit readWaits.m = { readWaits.m with gnss := t.gnss, regs := t.regs } :=
    navUnitDecoded_of_exec hexec
  have hsame : (navUnitDecoded loneUnit readWaits.m).hostByte 0x8000 = readWaits.m.hostByte 0x8000 := by rw [hm]; rfl
  rw [hafter, hbefore] at hsame
  exact absurd hsame (by decide)

end Sys2Proof.Machine
end

section
/-! PROOFS. What the shared operations of corrections show and keep (11): checks, position, validity, the RTCM stream. -/

namespace Sys2Proof.Machine

open Sys2Proof

variable (m : Mach)

/-! ### Checks (R43, R371) -/

/-- Checks in front decide before those behind them. -/
theorem firstOf_append (l l' : List (Bool × Nat)) : firstOf (l ++ l') = (firstOf l).or (firstOf l') := by
  induction l with
  | nil => rfl
  | cons e l ih =>
    obtain ⟨c, v⟩ := e
    cases c
    · exact ih
    · rfl

theorem Mach.corrShared_none {bad both : Bool} (hb : bad = false) (ht : m.takes .corr = true) (ha : both = true ∨ m.isActive = true) :
    firstOf (m.corrShared bad both) = none := by
  have hrole : (!both && !m.isActive) = false := by obtain ha | ha := ha <;> simp [ha]
  simp [Mach.corrShared, firstOf, hb, ht, hrole]

theorem Mach.corrShared_range {bad : Bool} (hb : bad = true) (both : Bool) : firstOf (m.corrShared bad both) = some stRANGE := by
  rw [hb]
  rfl

/-! ### The position and CORR_STATUS (R355, R359) -/

@[simp] theorem Mach.setBase_corr (b : BasePos) : (m.setBase b).corr = m.corr := rfl
@[simp] theorem Mach.setBase_base (b : BasePos) : (m.setBase b).nv.set.base = b := rfl

theorem Mach.setBase_posState (b : BasePos) : (m.setBase b).r CORR_STATUS_POS_STATE = b.state % 4 :=
  Mach.r_w_same _ CORR_STATUS_POS_STATE b.state 0 0 (by decide)

@[simp] theorem Mach.posEvent_corr (b : BasePos) : (m.posEvent b).corr = m.corr := m.event_corr _ _ _ _
@[simp] theorem Mach.posEvent_kiln (b : BasePos) : (m.posEvent b).kiln = m.kiln := m.event_kiln _ _ _ _
@[simp] theorem Mach.posEvent_nv (b : BasePos) : (m.posEvent b).nv = m.nv := m.event_nv _ _ _ _

theorem Mach.posEvent_posState (b : BasePos) : (m.posEvent b).r CORR_STATUS_POS_STATE = m.r CORR_STATUS_POS_STATE :=
  m.r_event _ _ _ _ _ 0 0 (by unfold quietOff; decide)

@[simp] theorem Mach.corrRefresh_corr : m.corrRefresh.corr = m.corr := rfl
@[simp] theorem Mach.corrRefresh_nv : m.corrRefresh.nv = m.nv := rfl

/-- Only VALID and SPOOF_HOLD are refreshed. -/
theorem Mach.corrRefresh_apart (f : Field) (h : f.apart 0 CORR_STATUS_VALID 0 = true) (hs : f.apart 0 CORR_STATUS_SPOOF_HOLD 0 = true) :
    m.corrRefresh.r f = m.r f :=
  (Mach.r_w_apart _ CORR_STATUS_SPOOF_HOLD f _ 0 0 hs).trans (m.r_w_apart CORR_STATUS_VALID f _ 0 0 h)

theorem Mach.corrRefresh_posState : m.corrRefresh.r CORR_STATUS_POS_STATE = m.r CORR_STATUS_POS_STATE :=
  m.corrRefresh_apart _ (by decide) (by decide)

theorem Mach.corrRefresh_invalid (h : m.posOk = false ∨ m.corr.lastIe = false) : m.corrRefresh.b CORR_STATUS_VALID = false := by
  have hbit : ∀ ok : Bool, (m.wb CORR_STATUS_VALID ok).b CORR_STATUS_VALID = ok := fun ok => m.b_wb_same _ ok (by decide) rfl
  refine (Mach.b_w_bits _ CORR_STATUS_SPOOF_HOLD CORR_STATUS_VALID _ 0 rfl (by decide) (by decide)).trans ((hbit _).trans ?_)
  obtain h | h := h <;> simp [h]

/-! ### The RTCM stream (R364, R372) -/

/-- Frames that join the stream move CHUNK, the lanes' queues and a counter. -/
theorem Mach.rtcmQueue_eq (frames : List (List Byte)) (fresh : Bool) : ∃ air regs, (m.rtcmQueue frames fresh).1 =
    { m with corr := { m.corr with chunk := (m.corr.chunk + (cutFrames m.corr.chunk frames).length) % 128 },
             air := air, regs := regs } := by
  unfold Mach.rtcmQueue
  cases fresh <;> dsimp only <;> split <;> exact ⟨_, _, rfl⟩

theorem Mach.rtcmQueue_corr (frames : List (List Byte)) (fresh : Bool) : (m.rtcmQueue frames fresh).1.corr =
    { m.corr with chunk := (m.corr.chunk + (cutFrames m.corr.chunk frames).length) % 128 } := by
  obtain ⟨air, regs, h⟩ := m.rtcmQueue_eq frames fresh
  rw [h]

@[simp] theorem Mach.rtcmQueue_kiln (frames : List (List Byte)) (fresh : Bool) : (m.rtcmQueue frames fresh).1.kiln = m.kiln := by
  obtain ⟨air, regs, h⟩ := m.rtcmQueue_eq frames fresh
  rw [h]

@[simp] theorem Mach.rtcmGive_corr (d : Desc) (pt : Nat) (l : List (List Byte)) : (m.rtcmGive d pt l).corr = m.corr := by
  simp [Mach.rtcmGive]

@[simp] theorem Mach.rtcmGive_kiln (d : Desc) (pt : Nat) (l : List (List Byte)) : (m.rtcmGive d pt l).kiln = m.kiln := by
  simp [Mach.rtcmGive]

@[simp] theorem Mach.rtcmRelease_corr (l : List (List Byte)) : (m.rtcmRelease l).corr = { m.corr with held := none } := by
  cases h : m.corr.held with
  | none =>
    have hsame : ({ m.corr with held := none } : CorrSt) = m.corr := by rw [← h]
    rw [Mach.rtcmRelease, h, hsame]
  | some e => rw [Mach.rtcmRelease, h, Mach.rtcmGive_corr]

@[simp] theorem Mach.rtcmRelease_kiln (l : List (List Byte)) : (m.rtcmRelease l).kiln = m.kiln := by
  cases h : m.corr.held with
  | none => rw [Mach.rtcmRelease, h]
  | some e => rw [Mach.rtcmRelease, h, Mach.rtcmGive_kiln]

/-- An epoch's frames go to a read at once or with the station messages, or to none. -/
theorem Mach.rtcmEpoch_keeps (pt : Nat) (l : List (List Byte)) :
    (∃ reads held, (m.rtcmEpoch pt l).corr = { m.corr with reads := reads, held := held }) ∧ (m.rtcmEpoch pt l).kiln = m.kiln := by
  unfold Mach.rtcmEpoch
  dsimp only
  split
  next => exact ⟨⟨_, _, m.rtcmRelease_corr []⟩, m.rtcmRelease_kiln []⟩
  next =>
    split
    · exact ⟨⟨_, _, by rw [Mach.rtcmRelease_corr]⟩, m.rtcmRelease_kiln []⟩
    · exact ⟨⟨_, _, by rw [Mach.rtcmGive_corr, Mach.rtcmRelease_corr]⟩, by rw [Mach.rtcmGive_kiln, Mach.rtcmRelease_kiln]⟩

theorem Mach.compactGive_corr (pt : Nat) (l : List Byte) : ∃ reads, (m.compactGive pt l).corr = { m.corr with reads := reads } := by
  unfold Mach.compactGive
  split
  · exact ⟨_, Mach.rtcmGive_corr _ _ _ _⟩
  · exact ⟨_, rfl⟩

/-! ### The reference epoch (R365) -/

/-- The part with a new reference epoch, before its event. -/
def Mach.withRef (m : Mach) (e : MsmEpoch) : Mach :=
  (({ m with corr := { m.corr with cand := none, ref := some (e, m.now), nextCell := 0 } } : Mach).w CORR_STATUS_REF_IODS e.iods).w
    CORR_STATUS_TOTAL_CELLS e.cells.length

/-- The candidate becomes the reference epoch, or nothing happens. -/
theorem Mach.corrQualify_cases : m.corrQualify = m ∨ ∃ e,
    m.corrQualify = (m.withRef e).event 0x0412 0 3 (le 4 e.pt ++ le 1 e.iods ++ le 2 e.cells.length) := by
  unfold Mach.corrQualify
  split
  next => exact .inl rfl
  next e _ _ =>
    split
    · exact .inr ⟨e, rfl⟩
    · exact .inl rfl

theorem Mach.corrQualify_none (h : m.corr.cand = none) : m.corrQualify = m := by rw [Mach.corrQualify, h]

theorem Mach.corrQualify_corr :
    ∃ cand ref next, m.corrQualify.corr = { m.corr with cand := cand, ref := ref, nextCell := next } := by
  obtain h | ⟨e, h⟩ := m.corrQualify_cases
  · exact ⟨_, _, _, congrArg Mach.corr h⟩
  · exact ⟨_, _, _, (congrArg Mach.corr h).trans (Mach.event_corr _ _ _ _ _)⟩

@[simp] theorem Mach.corrQualify_kiln : m.corrQualify.kiln = m.kiln := by
  obtain h | ⟨e, h⟩ := m.corrQualify_cases
  · rw [h]
  · exact (congrArg Mach.kiln h).trans (Mach.event_kiln _ _ _ _ _)

@[simp] theorem Mach.corrQualify_nv : m.corrQualify.nv = m.nv := by
  obtain h | ⟨e, h⟩ := m.corrQualify_cases
  · rw [h]
  · exact (congrArg Mach.nv h).trans (Mach.event_nv _ _ _ _ _)

theorem Mach.corrQualify_apart (f : Field) (k : Nat) (hq : quietOff (f.off k 0)) (hi : f.apart k CORR_STATUS_REF_IODS 0 = true)
    (hc : f.apart k CORR_STATUS_TOTAL_CELLS 0 = true) : m.corrQualify.r f k = m.r f k := by
  obtain h | ⟨e, h⟩ := m.corrQualify_cases
  · rw [h]
  · rw [h, Mach.r_event _ _ _ _ _ f k 0 hq, Mach.withRef, Mach.r_w_apart _ _ f _ 0 k hc, Mach.r_w_apart _ _ f _ 0 k hi]
    rfl

/-- Whether the encoder may build does not depend on the reference epoch. -/
theorem Mach.corrQualify_corrMay : m.corrQualify.corrMay = m.corrMay := by
  have hen : m.corrQualify.r CORR_CTRL_ENABLE = m.r CORR_CTRL_ENABLE :=
    m.corrQualify_apart _ 0 (by unfold quietOff; decide) (by decide) (by decide)
  have hdraining : m.corrQualify.r CORR_STATUS_DRAINING = m.r CORR_STATUS_DRAINING :=
    m.corrQualify_apart _ 0 (by unfold quietOff; decide) (by decide) (by decide)
  have hgnss : m.corrQualify.r GNSS_CTRL_ENABLE = m.r GNSS_CTRL_ENABLE :=
    m.corrQualify_apart _ 0 (by unfold quietOff; decide) (by decide) (by decide)
  have hstep : m.corrQualify.r TIME_STATUS_STEP_LOCK = m.r TIME_STATUS_STEP_LOCK :=
    m.corrQualify_apart _ 0 (by unfold quietOff; decide) (by decide) (by decide)
  have hfault : m.corrQualify.r INTC_BLK_FAULT_STATE 3 = m.r INTC_BLK_FAULT_STATE 3 :=
    m.corrQualify_apart _ 3 (by unfold quietOff; decide) (by decide) (by decide)
  simp only [Mach.corrMay, Mach.takes, blkEnable, blkDraining, Mach.posOk, Mach.stepped, Mach.b, hen, hdraining, hgnss, hstep, hfault,
    Mach.corrQualify_nv]

end Sys2Proof.Machine
end

section
/-! PROOFS. The base position, its survey and the descriptors of corrections (11, R355 to R357, R371 to R373). -/

namespace Sys2Proof.Machine

open Sys2Proof

variable {m : Mach} {d : Desc}

/-! ### SET_BASE_POS (R356) -/

/-- The position that a SET_BASE_POS describes. -/
abbrev basePosOf (d : Desc) : BasePos :=
  ⟨sgn 64 (Descs.fld d 16 8), sgn 64 (Descs.fld d 24 8), sgn 64 (Descs.fld d 32 8), Descs.fld d 40 2, 1⟩

/-- The part with a position set at once. -/
def Mach.posGiven (m : Mach) (b : BasePos) : Mach := ((m.setBase b).posEvent b).corrRefresh

theorem Mach.posGiven_posState (b : BasePos) : (m.posGiven b).r CORR_STATUS_POS_STATE = b.state % 4 :=
  (Mach.corrRefresh_posState _).trans ((Mach.posEvent_posState _ b).trans (m.setBase_posState b))

theorem Mach.posGiven_base (b : BasePos) : (m.posGiven b).nv.set.base = b :=
  congrArg (fun v => v.set.base) ((m.setBase b).posEvent_nv b)

theorem Mach.surveyCancel_none (h : m.corr.survey = none) : m.surveyCancel = m := by rw [Mach.surveyCancel, h]

section SetBase

variable (hs : m.starts 0x0410 d)
include hs

theorem setBasePos_range (hb : posBad (basePosOf d) = true) : setBasePos d m = m.complete (d.as 0x0410) stRANGE := by
  rw [setBasePos, m.desc_starts _ d _ hs]
  simp only [Desc.as_fld, m.corrShared_range hb false]

variable (hb : posBad (basePosOf d) = false) (ht : m.takes .corr = true) (ha : m.isActive = true) (hn : m.corr.survey = none)
include hb ht ha hn

theorem setBasePos_waits (hp : m.posOk = true) : setBasePos d m =
    ({ m with corr := { m.corr with newPos := some (basePosOf d) } } : Mach).complete (d.as 0x0410) stOK
      (le 4 ((m.msInt / m.msmPeriod + 1) * m.msmPeriod % (2 ^ 32 : Nat)).toNat) := by
  rw [setBasePos, m.desc_starts _ d _ hs]
  simp only [Desc.as_fld, m.corrShared_none hb ht (.inr ha), Mach.surveyCancel_none hn, hp, if_true]

theorem setBasePos_atOnce (hp : m.posOk = false) :
    setBasePos d m = (m.posGiven (basePosOf d)).complete (d.as 0x0410) stOK (le 4 0) := by
  rw [setBasePos, m.desc_starts _ d _ hs]
  simp only [Desc.as_fld, m.corrShared_none hb ht (.inr ha), Mach.surveyCancel_none hn, hp, Bool.false_eq_true, if_false]
  rfl

end SetBase

/-! ### SURVEY (R357) -/

/-- The part with a survey begun, its position withdrawn. -/
def Mach.surveyBegun (m : Mach) (d : Desc) (dur : Nat) : Mach :=
  ((({ m with corr := { m.corr with survey := some { d := d, start := m.now, dur := dur }, newPos := none } } : Mach).wWord
    CORR_SURVEY_ELAPSED_S 0).setBase { m.nv.set.base with state := 2 }).corrRefresh

theorem Mach.surveyBegun_posState (dur : Nat) : (m.surveyBegun d dur).r CORR_STATUS_POS_STATE = 2 :=
  (Mach.corrRefresh_posState _).trans (Mach.setBase_posState _ _)

theorem Mach.surveyBegun_invalid (dur : Nat) : (m.surveyBegun d dur).b CORR_STATUS_VALID = false :=
  Mach.corrRefresh_invalid _ (.inl rfl)

section Survey

variable (hs : m.starts 0x0411 d)
include hs

theorem survey_range (hd : Descs.fld d 16 4 < 600 ∨ 86400 < Descs.fld d 16 4) : survey d m = m.complete (d.as 0x0411) stRANGE := by
  have hbad : (decide (Descs.fld (d.as 0x0411) 16 4 < 600) || decide (86400 < Descs.fld (d.as 0x0411) 16 4)) = true := by
    rw [Bool.or_eq_true, decide_eq_true_iff, decide_eq_true_iff]
    exact hd
  rw [survey, m.desc_starts _ d _ hs]
  simp only [firstOf_append, m.corrShared_range hbad false, Option.some_or]

variable (hlo : 600 ≤ Descs.fld d 16 4) (hhi : Descs.fld d 16 4 ≤ 86400) (ht : m.takes .corr = true) (ha : m.isActive = true)
include hlo hhi ht ha

/-- With its duration allowed, whether a survey runs decides. -/
theorem survey_checked : survey d m =
    if m.corr.survey.isSome then m.complete (d.as 0x0411) 0x14 else m.surveyBegun (d.as 0x0411) (Descs.fld d 16 4) := by
  have hbad : (decide (Descs.fld (d.as 0x0411) 16 4 < 600) || decide (86400 < Descs.fld (d.as 0x0411) 16 4)) = false := by
    rw [Bool.or_eq_false_iff, decide_eq_false_iff_not, decide_eq_false_iff_not]
    exact ⟨Nat.not_lt.mpr hlo, Nat.not_lt.mpr hhi⟩
  rw [survey, m.desc_starts _ d _ hs]
  simp only [firstOf_append, m.corrShared_none hbad ht (.inr ha), Option.none_or]
  cases m.corr.survey <;> rfl

theorem survey_running (hr : m.corr.survey.isSome = true) : survey d m = m.complete (d.as 0x0411) 0x14 :=
  (survey_checked hs hlo hhi ht ha).trans (if_pos hr)

theorem survey_begins (hn : m.corr.survey = none) : survey d m = m.surveyBegun (d.as 0x0411) (Descs.fld d 16 4) :=
  (survey_checked hs hlo hhi ht ha).trans (if_neg (by simp [hn]))

end Survey

/-! ### SURVEY_FIX and SURVEY_END (R357) -/

/-- A survey with one more epoch, usable if it gives a position. -/
def SurveyRun.counted (r : SurveyRun) (now : Nat) : Option (Int × Int × Int) → SurveyRun
  | some (x, y, z) => { r with seen := r.seen + 1, lastAt := some now, used := r.used + 1, fixes := (x, y, z) :: r.fixes,
                               sx := r.sx + x, sy := r.sy + y, sz := r.sz + z }
  | none => { r with seen := r.seen + 1, lastAt := some now }

theorem SurveyRun.counted_usable (r : SurveyRun) (now : Nat) {fix : Option (Int × Int × Int)} {x y z : Int} {ok : Bool}
    (hf : fix = some (x, y, z)) (ho : ok = true) : r.counted now (fix.filter fun _ => ok) =
      { r with seen := r.seen + 1, lastAt := some now, used := r.used + 1, fixes := (x, y, z) :: r.fixes,
               sx := r.sx + x, sy := r.sy + y, sz := r.sz + z } := by
  rw [hf, ho]
  rfl

theorem SurveyRun.counted_unusable (r : SurveyRun) (now : Nat) {fix : Option (Int × Int × Int)} {ok : Bool}
    (h : fix = none ∨ ok = false) :
    r.counted now (fix.filter fun _ => ok) = { r with seen := r.seen + 1, lastAt := some now } := by
  obtain rfl | rfl := h
  · rfl
  · cases fix <;> rfl

/-- The part with its survey at another count. -/
def Mach.surveyAt (m : Mach) (r : SurveyRun) : Mach :=
  (({ m with corr := { m.corr with survey := some r } } : Mach).w CORR_SURVEY_ELAPSED_S ((m.now - r.start) / 1000)).w
    CORR_SURVEY_USED_PCT (100 * r.used / r.seen)

section Run

variable {r : SurveyRun}

theorem surveyFix_none {fix : Option (Int × Int × Int)} {sats : Nat} (h : m.corr.survey = none) : surveyFix fix sats m = m := by
  rw [surveyFix, h]

variable (hr : m.corr.survey = some r)
include hr

theorem surveyFix_counts (fix : Option (Int × Int × Int)) (sats : Nat) (hl : ∀ u, r.lastAt = some u → u + 1000 ≤ m.now) :
    surveyFix fix sats m =
      m.surveyAt (r.counted m.now (fix.filter fun _ => decide (6 ≤ sats) && !m.b GNSS_DA_STATUS_SPOOF)) := by
  have hearly : r.lastAt.any (fun t => decide (m.now < t + 1000)) = false := by
    cases hat : r.lastAt with
    | none => rfl
    | some u => simpa using hl u hat
  simp only [surveyFix, hr, hearly, Bool.false_eq_true, if_false]
  cases fix with
  | none => rfl
  | some p => cases (decide (6 ≤ sats) && !m.b GNSS_DA_STATUS_SPOOF) <;> rfl

theorem surveyEnd_early (h : m.now < r.start + 1000 * r.dur) : surveyEnd m = m := by
  simp only [surveyEnd, hr, h, if_true]

variable (h : r.start + 1000 * r.dur ≤ m.now)
include h

theorem surveyEnd_fails (hu : 2 * r.used < r.dur) : surveyEnd m = m.surveyDone r 0x15 { m.nv.set.base with state := 0 } := by
  simp only [surveyEnd, hr, Nat.not_lt.mpr h, if_false, hu, if_true]

theorem surveyEnd_finds (hu : r.dur ≤ 2 * r.used) : surveyEnd m =
    let b := { m.nv.set.base with x := meanMm r.sx r.used, y := meanMm r.sy r.used, z := meanMm r.sz r.used, state := 3 }
    (m.surveyDone r stOK b).posEvent b := by
  simp only [surveyEnd, hr, Nat.not_lt.mpr h, Nat.not_lt.mpr hu, if_false]

end Run

section Done

variable (r : SurveyRun) (st : Nat) (b : BasePos)

theorem Mach.surveyDone_corr : (m.surveyDone r st b).corr = { m.corr with survey := none } := by
  simp [Mach.surveyDone]

theorem Mach.surveyDone_base : (m.surveyDone r st b).nv.set.base = b := by
  simp [Mach.surveyDone]

theorem Mach.surveyDone_posState : (m.surveyDone r st b).r CORR_STATUS_POS_STATE = b.state % 4 := by
  have hq : quietOff (CORR_STATUS_POS_STATE.off 0 0) := by unfold quietOff; decide
  rw [Mach.surveyDone, Mach.corrRefresh_posState, Mach.r_complete _ _ _ _ _ 0 0 hq, Mach.r_event _ _ _ _ _ _ 0 0 hq,
    Mach.setBase_posState]

end Done

/-! ### RTCM_READ and SET_DESCRIPTORS (R371, R372) -/

theorem rtcmRead_range (hs : m.starts 0x0412 d) (h : Descs.buf d = false ∨ Descs.len d < 64) :
    rtcmRead d m = m.complete (d.as 0x0412) stRANGE := by
  have hbad : (!Descs.buf (d.as 0x0412) || decide (Descs.len (d.as 0x0412) < 64)) = true := by
    rw [Bool.or_eq_true, Bool.not_eq_true', decide_eq_true_iff]
    exact h
  rw [rtcmRead, m.desc_starts _ d _ hs]
  simp only [m.corrShared_range hbad true]

theorem rtcmRead_waits (hs : m.starts 0x0412 d) (hb : Descs.buf d = true) (hl : 64 ≤ Descs.len d) (ht : m.takes .corr = true) :
    rtcmRead d m = { m with corr := { m.corr with reads := m.corr.reads ++ [d.as 0x0412] } } := by
  have hbad : (!Descs.buf (d.as 0x0412) || decide (Descs.len (d.as 0x0412) < 64)) = false := by
    rw [Bool.or_eq_false_iff, Bool.not_eq_false', decide_eq_false_iff_not]
    exact ⟨hb, Nat.not_lt.mpr hl⟩
  rw [rtcmRead, m.desc_starts _ d _ hs]
  simp only [m.corrShared_none hbad ht (.inl rfl)]

theorem setDescriptors_stores {l : List (List Byte)} {rest : List Byte} (hs : m.starts 0x0413 d) (ht : m.takes .corr = true)
    (ha : m.isActive = true) (hb : Descs.buf d = true) (hp : parseStrings 5 (m.bufRd (d.as 0x0413)) = some (l, rest)) (hne : rest ≠ []) :
    setDescriptors d m = ({ m with nv := { m.nv with set := { m.nv.set with descs := l, setup := leAt rest 0 1 } } } : Mach).complete
      (d.as 0x0413) stOK (le 1 0) := by
  have hparsed : (parseStrings 5 (m.bufRd (d.as 0x0413))).filter (fun r => !r.2.isEmpty) = some (l, rest) := by
    rw [hp, Option.filter_some_pos (by simpa using hne)]
  have hbad : (!Descs.buf d || (some (l, rest)).isNone) = false := by simp [hb]
  rw [setDescriptors, m.desc_starts _ d _ hs]
  simp only [Desc.as_buf, hparsed, m.corrShared_none hbad ht (.inr ha)]

end Sys2Proof.Machine
end

section
/-! PROOFS. The messages built at epochs and the compact IE (11, R356, R359, R361 to R369). -/

namespace Sys2Proof.Machine

open Sys2Proof

variable {m : Mach} {r : EpochRec}

/-! ### When the encoder builds (R359, R363) -/

theorem Mach.corrBuilds_iff : m.corrBuilds = some r ↔ m.lastRecord = some r ∧ m.corrMay = true := by
  rw [Mach.corrBuilds, Option.filter_eq_some_iff]

theorem msmBuild_none (h : m.corrBuilds = none) : msmBuild m = m := by rw [msmBuild, h]

theorem stationMessageBuild_none (h : m.corrBuilds = none) : stationMessageBuild m = m := by rw [stationMessageBuild, h]

/-! ### A position that waited for the epoch (R356, R358) -/

/-- The part with the position that waited in effect. -/
def Mach.posTaken (m : Mach) (b : BasePos) : Mach :=
  (({ m with corr := { m.corr with newPos := none, force1005 := true } } : Mach).setBase b).posEvent b

theorem Mach.posTaken_base (b : BasePos) : (m.posTaken b).nv.set.base = b :=
  congrArg (fun v => v.set.base) (Mach.posEvent_nv _ b)

theorem Mach.posTaken_corr (b : BasePos) : (m.posTaken b).corr = { m.corr with newPos := none, force1005 := true } :=
  Mach.posEvent_corr _ b

theorem Mach.corrEpoch_takes {b : BasePos} (h : m.corr.newPos = some b) :
    m.corrEpoch.nv.set.base = b ∧ m.corrEpoch.corr.newPos = none ∧ m.corrEpoch.corr.force1005 = true := by
  have hbase := m.posTaken_base b
  have hcorr := m.posTaken_corr b
  have heq : m.corrEpoch = if (m.posTaken b).r CORR_CTRL_REF_ANT == (m.posTaken b).corr.refAnt then m.posTaken b else
      { m.posTaken b with corr := { (m.posTaken b).corr with refAnt := (m.posTaken b).r CORR_CTRL_REF_ANT, force1005 := true } } := by
    rw [Mach.corrEpoch, h]
    rfl
  rw [heq]
  split
  · exact ⟨hbase, by rw [hcorr], by rw [hcorr]⟩
  · exact ⟨hbase, by rw [hcorr], rfl⟩

/-! ### MSM_BUILD (R362 to R365) -/

/-- The cells of the MSM epoch that a record makes, and its frames, with a 1005 or 1006 that goes with them. -/
def Mach.msmCells (m : Mach) (r : EpochRec) : List MsmCell :=
  ((m.msmGroups r).flatMap (fun g => g.2)).map (fun e => ⟨e.sig, e.svid, e.gloK, e.cp, e.dop, e.flags.testBit 4⟩)
def Mach.msmStream (m : Mach) (r : EpochRec) : List (List Byte) :=
  (if m.corr.force1005 then [m.arpFrame] else []) ++ m.msmFrames r ((m.corr.msmCount + 1) % 8) (m.msmGroups r)

/-- The part with an MSM epoch counted, its frames in the stream and with a read, and the epoch a candidate. -/
def Mach.msmSent (m : Mach) (r : EpochRec) : Mach :=
  let (x, ies) := m.rtcmQueue (m.msmStream r) true
  ({ x with corr := { x.corr with
      msmCount := m.corr.msmCount + 1, force1005 := false
      cand := some (⟨r.pt, x.corr.refAnt, (m.corr.msmCount + 1) % 8, m.msmCells r⟩, ies) } } : Mach).rtcmEpoch r.pt (m.msmStream r)

theorem Mach.msmSent_fields (m : Mach) (r : EpochRec) :
    (m.msmSent r).corr.msmCount = m.corr.msmCount + 1 ∧ (m.msmSent r).corr.msmAt = m.corr.msmAt ∧ (m.msmSent r).kiln = m.kiln ∧
    ∃ ies, (m.msmSent r).corr.cand = some (⟨r.pt, m.corr.refAnt, (m.corr.msmCount + 1) % 8, m.msmCells r⟩, ies) := by
  have hkiln := m.rtcmQueue_kiln (m.msmStream r) true
  have hcorr := m.rtcmQueue_corr (m.msmStream r) true
  unfold Mach.msmSent
  generalize m.rtcmQueue (m.msmStream r) true = q at hkiln hcorr ⊢
  obtain ⟨x, ies⟩ := q
  dsimp only at hkiln hcorr ⊢
  rw [hcorr]
  obtain ⟨⟨reads, held, h⟩, hk⟩ := Mach.rtcmEpoch_keeps { x with corr := { x.corr with
    msmCount := m.corr.msmCount + 1, force1005 := false
    cand := some (⟨r.pt, x.corr.refAnt, (m.corr.msmCount + 1) % 8, m.msmCells r⟩, ies) } } r.pt (m.msmStream r)
  rw [hcorr] at h hk
  rw [h]
  exact ⟨rfl, rfl, hk.trans hkiln, ies, rfl⟩

/-- The part whose last record taken by MSM_BUILD is that of this tick. -/
def Mach.msmTaken (m : Mach) : Mach := { m with corr := { m.corr with msmAt := some m.now } }

theorem msmBuild_check (hm : m.isMsm r = true) (hn : m.corr.msmAt ≠ some m.now) : (!m.isMsm r || m.corr.msmAt == some m.now) = false := by
  rw [hm, beq_false_of_ne hn]
  rfl

section Msm

variable (hb : m.corrBuilds = some r)
include hb

theorem msmBuild_other (h : m.isMsm r = false) : msmBuild m = m := by
  simp only [msmBuild, hb, h, Bool.not_false, Bool.true_or, if_true]

variable (hm : m.isMsm r = true) (hn : m.corr.msmAt ≠ some m.now)
include hm hn

theorem msmBuild_builds (hs : m.b GNSS_DA_STATUS_SPOOF = false) :
    msmBuild m = m.msmTaken.corrQualify.msmSent r := by
  rw [msmBuild, hb]
  exact (if_neg (Bool.eq_false_iff.mp (msmBuild_check hm hn))).trans (if_neg (Bool.eq_false_iff.mp hs))

theorem msmBuild_spoofed (hs : m.b GNSS_DA_STATUS_SPOOF = true) (hf : m.corr.force1005 = false) : msmBuild m = m.msmTaken := by
  rw [msmBuild, hb]
  exact (if_neg (Bool.eq_false_iff.mp (msmBuild_check hm hn))).trans ((if_pos hs).trans (if_neg (Bool.eq_false_iff.mp hf)))

end Msm

/-- The fields of the part after MSM_BUILD. -/
theorem Mach.msmBuilt_fields (m : Mach) (r : EpochRec) :
    (m.msmTaken.corrQualify.msmSent r).corr.msmCount = m.corr.msmCount + 1 ∧
    (m.msmTaken.corrQualify.msmSent r).corr.msmAt = some m.now ∧ (m.msmTaken.corrQualify.msmSent r).kiln = m.kiln ∧
    ∃ cells ies, (m.msmTaken.corrQualify.msmSent r).corr.cand =
      some (⟨r.pt, m.corr.refAnt, (m.corr.msmCount + 1) % 8, cells⟩, ies) := by
  obtain ⟨cand, ref, next, hcorr⟩ := m.msmTaken.corrQualify_corr
  obtain ⟨hcount, hat, hkiln, ies, hcand⟩ := m.msmTaken.corrQualify.msmSent_fields r
  rw [hcorr] at hcount hat hcand
  exact ⟨hcount, hat, hkiln.trans m.msmTaken.corrQualify_kiln, _, ies, hcand⟩

/-! ### STATION_MESSAGE_BUILD (R361, R363) -/

/-- The part with its station messages in the stream, dated, and with the read that waited for them. -/
def Mach.stationSent (m : Mach) : Mach :=
  ((({ m with corr := { m.corr with stationAt := some m.now } } : Mach).rtcmQueue m.stationFrames false).1).rtcmRelease m.stationFrames

theorem Mach.stationSent_corr (m : Mach) : ∃ chunk, m.stationSent.corr = { m.corr with
    stationAt := some m.now, chunk := chunk, held := none } :=
  ⟨_, (Mach.rtcmRelease_corr _ _).trans (congrArg (fun c : CorrSt => { c with held := none }) (Mach.rtcmQueue_corr _ _ _))⟩

theorem Mach.stationSent_kiln (m : Mach) : m.stationSent.kiln = m.kiln :=
  (Mach.rtcmRelease_kiln _ _).trans (Mach.rtcmQueue_kiln _ _ _)

theorem stationMessageBuild_builds (hb : m.corrBuilds = some r) (hm : m.isMsm r = false) (hd : m.stationDue = true) :
    stationMessageBuild m = m.stationSent := by
  rw [stationMessageBuild, hb]
  exact if_neg (by simp [hm, hd])

theorem stationMessageBuild_idle (hb : m.corrBuilds = some r) (h : m.isMsm r = true ∨ m.stationDue = false) :
    stationMessageBuild m = m := by
  rw [stationMessageBuild, hb]
  exact if_pos (by simpa using h)

/-! ### COMPACT_IE_BUILD (R365 to R368) -/

/-- The part whose last record taken by COMPACT_IE_BUILD is that of this tick. -/
def Mach.ieTaken (m : Mach) : Mach := { m with corr := { m.corr with ieAt := some m.now } }

/-- The part whose epoch has no compact IE, and the same counted. -/
def Mach.ieNone (m : Mach) : Mach := ({ m with corr := { m.corr with lastIe := false } } : Mach).corrRefresh
def Mach.ieSkipped (m : Mach) : Mach :=
  (({ m with corr := { m.corr with lastIe := false } } : Mach).inc CORR_SKIPPED_ALL).corrRefresh

/-- The part with the compact IE of an epoch's cells, all of them, built. -/
def Mach.ieBuilt (m : Mach) (r : EpochRec) (e : MsmEpoch) : Mach :=
  let content := m.compactContent r e 0 e.cells.length
  (({ m with corr := { m.corr with nextCell := 0, lastIe := true, ie := some ⟨content, r.pt, m.now + 1⟩ } } : Mach).compactGive r.pt
    content).corrRefresh

theorem Mach.ieNone_invalid (m : Mach) : m.ieNone.b CORR_STATUS_VALID = false := Mach.corrRefresh_invalid _ (.inr rfl)

theorem Mach.ieSkipped_counter (m : Mach) : m.ieSkipped.r CORR_SKIPPED_ALL = min (m.r CORR_SKIPPED_ALL + 1) 0xFFFFFFFF :=
  (Mach.corrRefresh_apart _ _ (by decide) (by decide)).trans (Mach.r_inc_same _ CORR_SKIPPED_ALL 0 (by decide))

theorem Mach.ieBuilt_corr (m : Mach) (r : EpochRec) (e : MsmEpoch) : (m.ieBuilt r e).corr.lastIe = true ∧
    (m.ieBuilt r e).corr.ie = some ⟨m.compactContent r e 0 e.cells.length, r.pt, m.now + 1⟩ := by
  unfold Mach.ieBuilt
  extract_lets content
  obtain ⟨reads, h⟩ := Mach.compactGive_corr { m with corr := { m.corr with
    nextCell := 0, lastIe := true, ie := some ⟨content, r.pt, m.now + 1⟩ } } r.pt content
  rw [Mach.corrRefresh_corr, h]
  exact ⟨rfl, rfl⟩

theorem compactIeBuild_none (h : m.lastRecord = none) : compactIeBuild m = m := by rw [compactIeBuild, h]

/-- With no candidate the reference epoch stays. -/
theorem Mach.ieTaken_qualify (hc : m.corr.cand = none) :
    ({ m with corr := { m.corr with ieAt := some m.now } } : Mach).corrQualify = m.ieTaken :=
  Mach.corrQualify_none _ hc

theorem Mach.ieTaken_check (hm : m.corrMay = true) (hs : m.b GNSS_DA_STATUS_SPOOF = false) :
    ¬ (m.ieTaken.b GNSS_DA_STATUS_SPOOF || !m.ieTaken.corrMay) = true := by
  rw [show m.ieTaken.b GNSS_DA_STATUS_SPOOF = false from hs, show m.ieTaken.corrMay = true from hm]
  decide

section Ie

variable (hr : m.lastRecord = some r) (hn : m.corr.ieAt ≠ some m.now)
include hr hn

theorem compactIeBuild_withheld (hm : m.corrMay = false) : compactIeBuild m = m.ieTaken.corrQualify.ieNone := by
  have hmay : m.ieTaken.corrQualify.corrMay = false := m.ieTaken.corrQualify_corrMay.trans hm
  have hhold : (m.ieTaken.corrQualify.b GNSS_DA_STATUS_SPOOF || !m.ieTaken.corrQualify.corrMay) = true := by simp [hmay]
  rw [compactIeBuild, hr]
  exact (if_neg (by simpa using hn)).trans (if_pos hhold)

variable (hm : m.corrMay = true) (hs : m.b GNSS_DA_STATUS_SPOOF = false) (hc : m.corr.cand = none)
include hm hs hc

theorem compactIeBuild_skips (h : m.corr.ref = none) : compactIeBuild m = m.ieTaken.ieSkipped := by
  rw [compactIeBuild, hr]
  refine (if_neg (by simpa using hn)).trans ?_
  rw [Mach.ieTaken_qualify hc]
  refine (if_neg (Mach.ieTaken_check hm hs)).trans ?_
  rw [show m.ieTaken.corr.ref = none from h]
  rfl

/-- A reference epoch of at most 131 cells is sent whole. -/
theorem compactIeBuild_builds {e : MsmEpoch} {u : Nat} (h : m.corr.ref = some (e, u)) (hu : m.now ≤ u + 2500)
    (hl : e.cells.length ≤ 131) : compactIeBuild m = m.ieTaken.ieBuilt r e := by
  have hage : ¬ u + 2500 < m.ieTaken.now := Nat.not_lt.mpr hu
  rw [compactIeBuild, hr]
  refine (if_neg (by simpa using hn)).trans ?_
  rw [Mach.ieTaken_qualify hc]
  refine (if_neg (Mach.ieTaken_check hm hs)).trans ?_
  rw [show m.ieTaken.corr.ref = some (e, u) from h]
  refine (if_neg hage).trans ?_
  simp only [Nat.min_eq_left hl, hl, if_true]
  rfl

end Ie

/-! ### The queue of the compact IE (R369) -/

section Queue

variable {c : CorrIe}

theorem compactIeEnqueue_none (h : m.corr.ie = none) : compactIeEnqueue m = m := by rw [compactIeEnqueue, h]

theorem compactIeEnqueue_early (h : m.corr.ie = some c) (ht : m.now < c.tick) : compactIeEnqueue m = m := by
  rw [compactIeEnqueue, h]
  exact if_pos ht

theorem compactIeEnqueue_enters (h : m.corr.ie = some c) (ht : c.tick ≤ m.now) (ha : m.isActive = true) (hn : m.air.corr = none) :
    compactIeEnqueue m = { m with corr := { m.corr with ie := none },
                                  air := { m.air with corr := some { c with tick := m.now }, corrSent := [] } } := by
  have hactive : ¬ (!m.isActive) = true := by simp [ha]
  have hdrop : ({ m with corr := { m.corr with ie := none } } : Mach).dropIe = { m with corr := { m.corr with ie := none } } := by
    simp only [Mach.dropIe, hn]
  rw [compactIeEnqueue, h]
  refine (if_neg (Nat.not_lt.mpr ht)).trans ((if_neg hactive).trans ?_)
  rw [hdrop]
  rfl

theorem compactIeDeadline_none (h : m.air.corr = none) : compactIeDeadline m = m := by rw [compactIeDeadline, h]

theorem compactIeDeadline_early (h : m.air.corr = some c) (hd : diff32 m.pt c.epoch < 18) : compactIeDeadline m = m := by
  rw [compactIeDeadline, h]
  exact if_neg (Int.not_le.mpr hd)

theorem compactIeDeadline_drops (h : m.air.corr = some c) (hd : 18 ≤ diff32 m.pt c.epoch) : compactIeDeadline m = m.dropIe := by
  rw [compactIeDeadline, h]
  exact if_pos hd

/-- An IE that leaves the queue is counted on each open lane that neither sent it nor has it in flight. -/
theorem Mach.dropIe_counts (h : m.air.corr = some c) : m.dropIe.air = { m.air with corr := none, corrSent := [] } ∧
    m.dropIe.r CORR_IE_DISCARD_ALL = min (m.r CORR_IE_DISCARD_ALL +
      (m.openLanes.filter (fun x => !m.air.corrSent.contains x && !m.corrFlying x c.epoch)).length) 0xFFFFFFFF := by
  rw [Mach.dropIe, h]
  exact ⟨rfl, Mach.r_incBy_same _ CORR_IE_DISCARD_ALL _ 0 (by decide)⟩

end Queue

end Sys2Proof.Machine
end

section
/-! PROOFS. O44 is settled. -/

namespace Sys2Proof.Machine

open Sys2Proof

/-- Settles O44: a descriptor's checks or a survey's bounds lead to one update of the part, an epoch's record to what the encoder
builds of it, and what was built to the queue; the fields are then read. -/
theorem correctionsAreBuiltAndRead : Obligations.CorrectionsAreBuiltAndRead := by
  unfold Obligations.CorrectionsAreBuiltAndRead
  refine ⟨?position, ?survey, ?fix, ?surveyEnd, ?read, ?descriptors, fun s h => ⟨s.on_same msmBuild (msmBuild_none h),
    s.on_same stationMessageBuild (stationMessageBuild_none h)⟩, ?withheld, fun m b h => Mach.corrEpoch_takes h, ?builds, ?enqueue,
    ?deadline⟩
  case position =>
    intro d s hs ht ha e b
    refine ⟨fun hb => s.on_eq (setBasePos d) _ (setBasePos_range hs hb), fun hb hn => ⟨fun hp => ?_, fun hp => ?_⟩⟩
    · exact s.on_eq (setBasePos d) _ (setBasePos_waits hs hb ht ha hn hp)
    · exact ⟨s.m.posGiven b, s.on_eq (setBasePos d) _ (setBasePos_atOnce hs hb ht ha hn hp), s.m.posGiven_base b,
        s.m.posGiven_posState b, Mach.posEvent_corr _ b, Mach.posEvent_kiln _ b⟩
  case survey =>
    intro d s hs ht ha dur
    refine ⟨fun hd => s.on_eq (survey d) _ (survey_range hs hd),
      fun hlo hhi hr => s.on_eq (survey d) _ (survey_running hs hlo hhi ht ha hr), fun hlo hhi hn => ?_⟩
    exact ⟨s.m.surveyBegun (d.as 0x0411) dur, s.on_eq (survey d) _ (survey_begins hs hlo hhi ht ha hn), rfl, rfl,
      s.m.surveyBegun_posState dur, s.m.surveyBegun_invalid dur, rfl⟩
  case fix =>
    intro fix sats s
    refine ⟨fun h => s.on_same (surveyFix fix sats) (surveyFix_none h), fun r hr hl => ⟨s.m.surveyAt (r.counted s.m.now
        (fix.filter fun _ => decide (6 ≤ sats) && !s.m.b GNSS_DA_STATUS_SPOOF)),
      s.on_eq (surveyFix fix sats) _ (surveyFix_counts hr fix sats hl), fun x y z hf hsat hsp => ?_, fun hno => ?_⟩⟩
    · exact congrArg some (r.counted_usable _ hf (by simp [hsat, hsp]))
    · refine congrArg some (r.counted_unusable _ (hno.imp_right fun h => ?_))
      rw [Bool.and_eq_false_iff, decide_eq_false_iff_not, Bool.not_eq_false', Nat.not_le]
      exact h
  case surveyEnd =>
    intro s r hr
    refine ⟨fun h => s.on_same surveyEnd (surveyEnd_early hr h), fun h hu => s.on_eq surveyEnd _ (surveyEnd_fails hr h hu),
      fun h hu => ⟨_, s.on_eq surveyEnd _ (surveyEnd_finds hr h hu), ?_, ?_, ?_⟩⟩
    · rw [Mach.posEvent_nv, Mach.surveyDone_base]
    · rw [Mach.posEvent_corr, Mach.surveyDone_corr]
    · exact (Mach.posEvent_posState _ _).trans (s.m.surveyDone_posState r stOK _)
  case read =>
    exact fun d s hs => ⟨fun h => s.on_eq (rtcmRead d) _ (rtcmRead_range hs h),
      fun hb hl ht => s.on_eq (rtcmRead d) _ (rtcmRead_waits hs hb hl ht)⟩
  case descriptors =>
    exact fun d s l rest hs ht ha hb hp hne => s.on_eq (setDescriptors d) _ (setDescriptors_stores hs ht ha hb hp hne)
  case withheld =>
    refine fun s => ⟨fun h => s.on_same compactIeBuild (compactIeBuild_none h), fun r hr hm hn => ?_⟩
    obtain ⟨cand, ref, next, hcorr⟩ := s.m.ieTaken.corrQualify_corr
    exact ⟨_, s.on_eq compactIeBuild _ (compactIeBuild_withheld hr hn hm), rfl, (congrArg CorrSt.ie hcorr :), Mach.ieNone_invalid _⟩
  case builds =>
    intro s r hb
    obtain ⟨hr, hm⟩ := Mach.corrBuilds_iff.mp hb
    refine ⟨fun h => s.on_same msmBuild (msmBuild_other hb h), fun h hn hsp => ?msm,
      fun h hn hsp hf => s.on_eq msmBuild _ (msmBuild_spoofed hb h hn hsp hf), fun h hd => ?station,
      fun h => s.on_same stationMessageBuild (stationMessageBuild_idle hb h),
      fun hn hsp hc => ⟨fun e u h hu hl => ?ie, fun h => ?skip⟩⟩
    case msm =>
      obtain ⟨hcount, hat, hkiln, cells, ies, hcand⟩ := s.m.msmBuilt_fields r
      exact ⟨_, _, ies, s.on_eq msmBuild _ (msmBuild_builds hb h hn hsp), hcount, hcand, rfl, rfl, rfl, hat, hkiln⟩
    case station =>
      obtain ⟨chunk, hcorr⟩ := s.m.stationSent_corr
      refine ⟨_, s.on_eq stationMessageBuild _ (stationMessageBuild_builds hb h hd), ?_, ?_, ?_, s.m.stationSent_kiln⟩ <;> rw [hcorr]
    case ie =>
      obtain ⟨hlast, hie⟩ := s.m.ieTaken.ieBuilt_corr r e
      exact ⟨_, s.on_eq compactIeBuild _ (compactIeBuild_builds hr hn hm hsp hc h hu hl), hlast, hie⟩
    case skip =>
      exact ⟨_, s.on_eq compactIeBuild _ (compactIeBuild_skips hr hn hm hsp hc h), rfl, s.m.ieTaken.ieSkipped_counter, rfl⟩
  case enqueue =>
    exact fun s => ⟨fun h => s.on_same compactIeEnqueue (compactIeEnqueue_none h),
      fun c h ht => s.on_same compactIeEnqueue (compactIeEnqueue_early h ht),
      fun c h ht ha hn => s.on_eq compactIeEnqueue _ (compactIeEnqueue_enters h ht ha hn)⟩
  case deadline =>
    refine fun s => ⟨fun h => s.on_same compactIeDeadline (compactIeDeadline_none h),
      fun c h hd => s.on_same compactIeDeadline (compactIeDeadline_early h hd), fun c h hd => ?_⟩
    obtain ⟨hair, hcount⟩ := Mach.dropIe_counts h
    exact ⟨_, s.on_eq compactIeDeadline _ (compactIeDeadline_drops h hd), hair, hcount⟩

end Sys2Proof.Machine
end
